-- ==== Sys2Proof/Word.lean ====
section
/-!
DEFINITION. The word types of the EVH and their plainest arithmetic: the 24-bit engine word (R10, R68), the 56-bit
accumulator (R69) and the 32-bit angle (R45). Everything here is Lean core arithmetic under a name of the manual.
-/
namespace Sys2Proof

/-- The native engine word: 24 bits (R10, R68). -/
abbrev Word := BitVec 24

/-- An accumulator: 56 bits, two's complement (R69). -/
abbrev Acc := BitVec 56

/-- A register specifier of a Uselo instruction: 5 bits (R76). -/
abbrev Spec := BitVec 5

/-- The shared 4-bit status codes (R14). Codes 0xB to 0xF are reserved and never returned, so they have no constructor. -/
inductive Status where
  | ok | full | empty | refused | aborted | timeout | linkLost | stale | duplicate | badCrc | notReady
deriving DecidableEq, Repr

/-- The code of a status (R14). -/
def Status.code : Status → Nat
  | .ok => 0 | .full => 1 | .empty => 2 | .refused => 3 | .aborted => 4 | .timeout => 5
  | .linkLost => 6 | .stale => 7 | .duplicate => 8 | .badCrc => 9 | .notReady => 10

/-- Who makes a register, point or queue access (R138, R568, R570): the SPI host, the debug port, a package engine,
a chain unit (by its source address), or a hardware unit. -/
inductive Requester where
  | host | debug | engine (pe : Nat) | chain (src : Nat) | unit
deriving DecidableEq, Repr

/-- The index under which a requester's own cursors and latches are kept (R40, R103, R157, R469): debug and chain act as
the host requester (R526, R570). -/
def Requester.index : Requester → Nat
  | .engine pe => pe + 1
  | .host | .debug | .chain _ | .unit => 0

end Sys2Proof
end

