-- ==== Sys2Proof/Syntax.lean ====
section
/-!
DEFINITION. The commands of the EVH as data: ONE constructor of `Instr` per row of spec/opcode_table.json, in its order,
each with the units it names and the data that reach the part with it (a written value, a converter code, a pin event, a
frame). A die is named by its number, an engine, a leg of a herd and a herd by their package numbers (R8); units of a die
are named by die and local number. Uselo instructions carry the engine that issues them and the fields of their word (R104).
-/
namespace Sys2Proof

/-- The shift amount of opcode 0x11: fn[4:0], or rb[4:0] when fn[5] = 1 (R113). -/
inductive ShiftAmount where
  | imm (n : BitVec 5)
  | reg (rb : Spec)
deriving DecidableEq, Repr

/-- The four 24-bit payload words of a queue entry (R147). -/
structure Payload where
  w0 : Word
  w1 : Word
  w2 : Word
  w3 : Word
deriving DecidableEq, Repr

/-- What a mains tracker measures over one mains cycle (R54, R56): the frequency in unsigned 8.16 Hz, the frequency error of
its loop in signed 8.16 Hz, the positive-sequence amplitude in Q1.23 of full scale, the phase error of its loop in signed
2⁻³² turn, and its angle. The analog loop that forms them is outside the digital state: they arrive with the command. -/
structure MainsMeasure where
  freq : Nat
  freqErr : Int
  amp : Nat
  phaseErr : Int
  angle : BitVec 32
deriving DecidableEq, Repr

/-- What a grid monitor measures at an evaluation (R357): the herd, the fundamental magnitudes of the three channels over the
last full cycle in 2⁻²³ of full scale, and the phase of the measured fundamental from the base angle in signed 2⁻³² turn (R371).
The extraction of the fundamentals is outside the digital state: they arrive with the tick. -/
structure GridMeasure where
  herd : Nat
  a : BitVec 23
  b : BitVec 23
  c : BitVec 23
  phase : Int
deriving DecidableEq, Repr

/-- An edge of a position port (R57): a quadrature edge in the forward or backward direction, an invalid quadrature step, a rising
edge of A, or a Z edge. -/
inductive PulseEdge where
  | fwd | back | bad | count | z
deriving DecidableEq, Repr

/-- An edge of a position port and how long the new state has stood, in ns (R242). -/
structure PortEdge where
  edge : PulseEdge
  stoodNs : Nat
deriving DecidableEq, Repr

/-- A state {C, B, A} of a position port and how long it has stood, in ns (R242). -/
structure PortState where
  state : BitVec 3
  stoodNs : Nat
deriving DecidableEq, Repr

/-- The four owner tables (R292). -/
inductive OwnKind where
  | leg | adc | mod | ab
deriving DecidableEq, Repr

/-- The 64-bit counters of the metrology block that are read and written as a low and a high word (R401, R402): pail `q`
of unit `u`, the output pail of pulse output `k`, and, read-only, the snapshot of pail `q` and of the tick. -/
inductive WideCounter where
  | pail (u q : Nat)
  | output (k : Nat)
  | snap (u q : Nat)
  | snapTick (u : Nat)
deriving DecidableEq, Repr

/-- The correction registers of a metrology channel (R393). -/
inductive Correction where
  | ofs | gain | dly
deriving DecidableEq, Repr

/-- A CAN frame as received (R510, R511): remote frame, extended identifier, identifier, FD format, bit rate switch, error
state indicator, data length code and data bytes. -/
structure CanFrame where
  rtr : Bool
  ide : Bool
  id : BitVec 29
  fdf : Bool
  brs : Bool
  esi : Bool
  dlc : BitVec 4
  data : List (BitVec 8)
deriving DecidableEq, Repr

/-- What the ISO 11898-1 error rules do at one error, success or arbitration event (R509): the amounts added to or taken
from the two counters. -/
inductive CanError where
  | tx | rx | rxDominant | arbitrationLost
deriving DecidableEq, Repr

/-- One entry of the chain roster (R521, R523). -/
structure RosterEntry where
  addr : BitVec 6
  gen : BitVec 8
  proto : BitVec 8
  excl : Bool
deriving DecidableEq, Repr

/-- The header of a chain frame (R525), with the port at which the frame arrives: the upstream port, or the downstream. -/
structure ChainHeader where
  up : Bool
  dst : BitVec 6
  src : BitVec 6
  gen : BitVec 8
  tag : BitVec 6
  rid : BitVec 16
deriving DecidableEq, Repr

/-- A word written to a register (R13), with the bits that the hardware sets there in the same cycle. -/
structure WrittenWord where
  v : BitVec 32
  hw : BitVec 32
deriving DecidableEq, Repr

/-- A clear of FROZEN of capture ring `n` (R186), and whether a freeze falls in the same cycle (R13). -/
structure RingClear where
  n : BitVec 3
  again : Bool
deriving DecidableEq, Repr

/-- Which words of a register burst one command serves (R564): all but the last `left`; `cont` goes on with a burst that an earlier
command began, behind what other ports were served in between. -/
structure BurstPart where
  left : Nat
  cont : Bool
deriving DecidableEq, Repr

/-- The words of a write transfer (R505, R525), and which of them this command serves. -/
structure PartWords where
  ws : List WrittenWord
  part : BurstPart
deriving DecidableEq, Repr

/-- The length of a register read (R525), and which of its words this command serves. -/
structure PartLen where
  n : Nat
  part : BurstPart
deriving DecidableEq, Repr

/-- The parts CMD and ADDR of a transfer (R505). CMD holds OP in [7:6], QUAD in [5] and N − 1 in [4:0]. -/
structure SpiHead where
  cmd : BitVec 8
  addr : BitVec 32
deriving DecidableEq, Repr

/-- A status transfer (R505): CMD and the host's CRC. -/
structure SpiStatus where
  cmd : BitVec 8
  crc : BitVec 16
deriving DecidableEq, Repr

/-- Why a chain frame is bad (R519). -/
inductive BadFrame where
  | badCrc | badType | badLen | badDst
deriving DecidableEq, Repr

/-- The pins that are sampled as the package leaves RESET (R541): COMPAT, CHAIN_HEAD and the seal switches. -/
structure PinStraps where
  compat : Bool
  head : Bool
  sealPins : BitVec 12
deriving DecidableEq, Repr

/-- The input of a comparator (R200, R204): the comparator of its die, the converter input on which it stands, its level in µV and
its place in the tick in 64ths. -/
structure CmpInput where
  n : Nat
  inp : BitVec 6
  level : Int
  pos : BitVec 6
deriving DecidableEq, Repr

/-- The input of an always-on comparator (R210): its level in µV at a tick of the slow clocks, counted. -/
structure AonInput where
  level : Int
  clk : Nat
deriving DecidableEq, Repr

/-- The pin of an S0 input (R408): its level, and for how many ticks it has stood. -/
structure S0Input where
  high : Bool
  stable : Nat
deriving DecidableEq, Repr

/-- Which safety channels find the other's exchange outside its interval (R430). -/
structure OscCheck where
  a : Bool
  b : Bool
deriving DecidableEq, Repr

/-- A test pulse (R428): the channel that sends it, and whether the contact it is seen at falls with it and rises after it. -/
structure TestPulse where
  pulseB : Bool
  fell : Bool
  rose : Bool
deriving DecidableEq, Repr

/-- The self-test of one channel (R430, R432). -/
structure SelfTest where
  chanB : Bool
  pass : Bool
deriving DecidableEq, Repr

/-- Who sees an edge of the safe reset (R434): both channels, and whether a demand or a fault stands in the same channel cycle. -/
structure ResetSeen where
  both : Bool
  clash : Bool
deriving DecidableEq, Repr

/-- What BOOT takes and measures (R550): the settings of the image as register and word, and for each die whether its skew calibration
fails, and else its trim (R179). -/
structure BootLoad where
  settings : List (Nat × BitVec 32)
  skew : List (Bool × BitVec 8)
deriving DecidableEq, Repr

/-- The commands and events of the part: the rows of spec/opcode_table.json, in order. -/
inductive Instr where
  | angleBaseTick (d : Nat) (grid : List GridMeasure)
  | deadTimeEnd (d : Nat) (n : Nat)
  | legBoundary (d : Nat) (n : Nat)
  | periodApply (d : Nat) (b : Nat)
  | whistle (arrivals : BitVec 8)
  | whistleMiss (d : Nat)
  | baseWhistleStart (d : Nat) (b : Nat)
  | abRunWrite (q : Requester) (d : Nat) (b : Nat) (run : Bool)
  | abAngleWrite (q : Requester) (d : Nat) (b : Nat) (angle : BitVec 32)
  | abCorrWrite (q : Requester) (d : Nat) (b : Nat) (corr : BitVec 32)
  | mainsTrackerEnable (q : Requester) (d : Nat) (m : Nat)
  | mainsCycle (d : Nat) (m : Nat) (meas : MainsMeasure)
  | mainsLock (d : Nat) (m : Nat)
  | pulseEdge (d : Nat) (k : Nat) (edge : PortEdge)
  | positionStateAccept (d : Nat) (k : Nat) (state : PortState)
  | time (headTick : Nat)
  | chainDelayMeasure (delayNs : Nat)
  | chainTickSlew (late : Bool)
  | ld (pe : Nat) (rd : Spec) (ra : Spec) (imm : BitVec 16)
  | st (pe : Nat) (rd : Spec) (ra : Spec) (imm : BitVec 16)
  | ldl (pe : Nat) (rd : Spec) (imm : BitVec 21)
  | ldh (pe : Nat) (rd : Spec) (imm : BitVec 21)
  | adda (pe : Nat) (rd : Spec) (ra : Spec) (imm : BitVec 16)
  | mov (pe : Nat) (rd : Spec) (ra : Spec)
  | addar (pe : Nat) (rd : Spec) (ra : Spec) (rb : Spec)
  | ldx (pe : Nat) (rd : Spec) (ra : Spec) (rb : Spec)
  | stx (pe : Nat) (rd : Spec) (ra : Spec) (rb : Spec)
  | add (pe : Nat) (rd : Spec) (ra : Spec) (rb : Spec)
  | sub (pe : Nat) (rd : Spec) (ra : Spec) (rb : Spec)
  | neg (pe : Nat) (rd : Spec) (ra : Spec)
  | abs (pe : Nat) (rd : Spec) (ra : Spec)
  | min (pe : Nat) (rd : Spec) (ra : Spec) (rb : Spec)
  | max (pe : Nat) (rd : Spec) (ra : Spec) (rb : Spec)
  | clamp (pe : Nat) (rd : Spec) (ra : Spec) (rb : Spec)
  | and (pe : Nat) (rd : Spec) (ra : Spec) (rb : Spec)
  | or (pe : Nat) (rd : Spec) (ra : Spec) (rb : Spec)
  | xor (pe : Nat) (rd : Spec) (ra : Spec) (rb : Spec)
  | not (pe : Nat) (rd : Spec) (ra : Spec)
  | addi (pe : Nat) (rd : Spec) (ra : Spec) (imm : BitVec 16)
  | shl (pe : Nat) (rd : Spec) (ra : Spec) (amt : ShiftAmount)
  | shr (pe : Nat) (rd : Spec) (ra : Spec) (amt : ShiftAmount)
  | shrr (pe : Nat) (rd : Spec) (ra : Spec) (amt : ShiftAmount)
  | lsr (pe : Nat) (rd : Spec) (ra : Spec) (amt : ShiftAmount)
  | lsl (pe : Nat) (rd : Spec) (ra : Spec) (amt : ShiftAmount)
  | norm (pe : Nat) (rd : Spec) (ra : Spec)
  | mul (pe : Nat) (rd : Spec) (ra : Spec) (rb : Spec)
  | mulq8 (pe : Nat) (rd : Spec) (ra : Spec) (rb : Spec)
  | mac (pe : Nat) (acc : Spec) (ra : Spec) (rb : Spec)
  | msu (pe : Nat) (acc : Spec) (ra : Spec) (rb : Spec)
  | macq8 (pe : Nat) (acc : Spec) (ra : Spec) (rb : Spec)
  | msuq8 (pe : Nat) (acc : Spec) (ra : Spec) (rb : Spec)
  | div (pe : Nat) (rd : Spec) (ra : Spec) (rb : Spec)
  | accv (pe : Nat) (rd : Spec) (acc : Spec) (sel : BitVec 3)
  | accvq8 (pe : Nat) (rd : Spec) (acc : Spec)
  | acclo (pe : Nat) (rd : Spec) (acc : Spec)
  | accmid (pe : Nat) (rd : Spec) (acc : Spec)
  | acchi (pe : Nat) (rd : Spec) (acc : Spec)
  | accphm (pe : Nat) (acc : Spec) (ra : Spec) (rb : Spec)
  | accplo (pe : Nat) (acc : Spec) (ra : Spec)
  | accadd (pe : Nat) (acc : Spec) (ra : Spec)
  | lsh (pe : Nat) (rd : Spec) (ra : Spec) (k : BitVec 4)
  | cmp (pe : Nat) (ra : Spec) (rb : Spec)
  | cmpi (pe : Nat) (ra : Spec) (imm : BitVec 16)
  | br (pe : Nat) (cond : BitVec 4) (ra : Spec) (off : BitVec 17)
  | call (pe : Nat) (off : BitVec 17)
  | callr (pe : Nat) (ra : Spec)
  | ret (pe : Nat)
  | jr (pe : Nat) (ra : Spec)
  | mvm (pe : Nat) (base : Spec) (rows1 : BitVec 3) (cols1 : BitVec 3) (dst : Spec) (fmt : Bool) (neg : Bool) (osh : BitVec 2) (cut : Option Nat)
  | mva (pe : Nat) (base : Spec) (rows1 : BitVec 3) (cols1 : BitVec 3) (dst : Spec) (fmt : Bool) (neg : Bool) (osh : BitVec 2) (cut : Option Nat)
  | fir (pe : Nat) (base : Spec) (n1 : BitVec 6) (dst : Spec) (osh : BitVec 2) (cut : Option Nat)
  | bcopy (pe : Nat) (base : Spec) (n1 : BitVec 8) (dst : Spec) (cut : Option Nat)
  | sincos (pe : Nat) (rd : Spec) (ra : Spec)
  | atan2 (pe : Nat) (rd : Spec) (ra : Spec) (rb : Spec)
  | sqrt (pe : Nat) (rd : Spec) (ra : Spec)
  | mag (pe : Nat) (rd : Spec) (ra : Spec) (rb : Spec)
  | clarke (pe : Nat) (rd : Spec) (ra : Spec)
  | park (pe : Nat) (rd : Spec) (ra : Spec) (rb : Spec)
  | ipark (pe : Nat) (rd : Spec) (ra : Spec) (rb : Spec)
  | aget (pe : Nat) (rd : Spec) (b : BitVec 4)
  | aturn (pe : Nat) (rd : Spec) (b : BitVec 4)
  | ainc (pe : Nat) (ra : Spec) (b : BitVec 4)
  | acorr (pe : Nat) (ra : Spec) (b : BitVec 4)
  | aadd (pe : Nat) (rd : Spec) (ra : Spec) (rb : Spec)
  | asub (pe : Nat) (rd : Spec) (ra : Spec) (rb : Spec)
  | amuli (pe : Nat) (rd : Spec) (ra : Spec) (rb : Spec)
  | qpush (pe : Nat) (rd : Spec) (ra : Spec) (rb : Spec) (nb : Bool) (type : BitVec 7)
  | qpop (pe : Nat) (rd : Spec) (ra : Spec) (rb : Spec)
  | qstat (pe : Nat) (rd : Spec) (ra : Spec)
  | sget (pe : Nat) (rd : Spec) (ra : Spec) (rb : Spec) (nb : Bool) (o : BitVec 5)
  | sput (pe : Nat) (rd : Spec) (ra : Spec) (rb : Spec) (nb : Bool) (o : BitVec 5)
  | sputg (pe : Nat) (rd : Spec) (ra : Spec) (rb : Spec) (nb : Bool) (n1 : BitVec 3) (o : BitVec 5)
  | lset (pe : Nat) (rd : Spec) (ra : Spec) (rb : Spec) (sel : BitVec 4)
  | loadall (pe : Nat)
  | nop (pe : Nat)
  | clrstk (pe : Nat)
  | fence (pe : Nat)
  | halt (pe : Nat)
  | trap (pe : Nat)
  | eoi (pe : Nat) (ra : Spec)
  | tret (pe : Nat)
  | wspill (pe : Nat)
  | wfill (pe : Nat)
  | disp (pe : Nat) (ra : Spec) (rb : Spec)
  | oddWordWrite (pe : Nat) (addr : BitVec 24) (v : Word)
  | taskStart (pe : Nat)
  | taskEnd (pe : Nat)
  | engDisp (q : Requester) (pe : Nat) (arg : BitVec 16) (task : BitVec 5)
  | engineStop (q : Requester) (pe : Nat)
  | engineResume (q : Requester) (pe : Nat)
  | engineReset (q : Requester) (pe : Nat)
  | engTflgRead (q : Requester) (pe : Nat)
  | tickLoRead (q : Requester) (d : Nat)
  | fastInterruptEntry (pe : Nat)
  | normalInterruptEntry (pe : Nat)
  | blockingStallRelease (pe : Nat)
  | queuePushRetry (pe : Nat)
  | ringPointRead (d : Nat) (src : Nat)
  | ringPointWrite (d : Nat) (src : Nat)
  | ringGroupCommit (d : Nat) (src : Nat)
  | ringQueuePush (d : Nat) (src : Nat)
  | ringLset (d : Nat) (src : Nat)
  | ringLoadall (d : Nat) (src : Nat)
  | spaceNotice (d : Nat) (src : Nat)
  | ringRegisterAccess (d : Nat) (src : Nat)
  | ringResponse (d : Nat) (src : Nat)
  | hostPointRead (q : Requester) (p : Nat) (n : Nat)
  | hostPointWrite (q : Requester) (p : Nat) (vs : List Word)
  | hostQueuePush (q : Requester) (id : BitVec 16) (type : BitVec 7) (payload : Payload)
  | hostQueuePop (q : Requester) (id : BitVec 16)
  | queueEnable (q : Requester) (d : Nat)
  | queueEnableDone (id : BitVec 16)
  | queueDisable (q : Requester) (d : Nat)
  | qFlush (q : Requester) (d : Nat)
  | slotResult (d : Nat) (n : Nat) (codes : List Int)
  | referenceSlot (d : Nat)
  | referenceSlotDone (d : Nat) (chk : Int) (ext : Int)
  | refAverage (d : Nat)
  | refSwitch (d : Nat)
  | churnRotate (d : Nat) (n : Nat) (inRange : Bool)
  | urgentRequest (q : Requester) (d : Nat) (n : Nat) (inp : BitVec 3) (avg : BitVec 4) (win : BitVec 8)
  | urgentStart (d : Nat) (n : Nat)
  | urgentResult (d : Nat) (n : Nat) (codes : List Int)
  | adcDataRead (q : Requester) (d : Nat) (n : Nat)
  | capMkRead (q : Requester) (d : Nat) (n : Nat)
  | capDataRead (q : Requester) (d : Nat) (n : Nat)
  | capUnfreeze (q : Requester) (d : Nat) (ring : RingClear)
  | modOutput (d : Nat) (m : Nat) (bits : List Bool)
  | modScOutput (d : Nat) (m : Nat) (bits : List Bool)
  | modStuck (d : Nat) (m : Nat)
  | comparatorLatch (d : Nat) (e : CmpInput)
  | blankingEnd (d : Nat) (n : Nat) (pos : BitVec 6)
  | aonCmpDecision (k : Nat) (e : AonInput)
  | laCmd (q : Requester) (d : Nat) (h : Nat)
  | legEnable (q : Requester) (d : Nat) (n : Nat)
  | legForce (q : Requester) (d : Nat) (n : Nat) (force : BitVec 2)
  | grpMaskWrite (q : Requester) (d : Nat) (g : Nat) (mask : BitVec 6)
  | strengthFrame (d : Nat) (n : Nat)
  | gateEnable (q : Requester) (d : Nat) (n : Nat)
  | gfPulse (d : Nat) (n : Nat) (w : Nat)
  | returnMiss (d : Nat) (n : Nat)
  | gfFault (d : Nat) (n : Nat)
  | tripMesh (d : Nat)
  | tripClear (q : Requester) (d : Nat) (n : Nat)
  | vsatLong (h : Nat)
  | heelRestart (q : Requester) (h : Nat) (mask : BitVec 4)
  | heelEnable (q : Requester) (h : Nat) (j : Nat)
  | oscSample (h : Nat)
  | oscEnable (q : Requester) (h : Nat) (c : Nat)
  | bind (q : Requester) (h : Nat)
  | unbind (q : Requester) (h : Nat)
  | arm (q : Requester) (h : Nat)
  | armCheckComplete (h : Nat) (mismatch : List Nat)
  | armCheckTimeout (h : Nat)
  | run (q : Requester) (h : Nat)
  | stop (q : Requester) (h : Nat)
  | stopped (q : Requester) (h : Nat)
  | safe (q : Requester) (h : Nat)
  | recover (q : Requester) (h : Nat)
  | fault (q : Requester) (h : Nat)
  | stopTimeout (h : Nat)
  | ownerWrite (q : Requester) (d : Nat) (kind : OwnKind) (n : Nat) (en : Bool) (herd : BitVec 6)
  | roleWrite (q : Requester) (h : Nat) (role : BitVec 3)
  | roleChangeDone (h : Nat)
  | herdStateCopy (d : Nat) (h : Nat)
  | commandPointStale (h : Nat) (j : Nat)
  | regEnable (q : Requester) (h : Nat)
  | regOverload (h : Nat)
  | burstSleep (h : Nat)
  | burstDisable (q : Requester) (h : Nat)
  | driveEnable (q : Requester) (h : Nat)
  | catchWindowEnd (h : Nat)
  | ascPeriodEnd (h : Nat)
  | seeded (q : Requester) (h : Nat)
  | wsLow (q : Requester) (h : Nat)
  | wsHigh (q : Requester) (h : Nat)
  | wsRelease (q : Requester) (h : Nat)
  | chopEnable (q : Requester) (h : Nat)
  | chopSample (h : Nat)
  | gridEnable (q : Requester) (h : Nat)
  | gridTrip (h : Nat) (n : Nat)
  | mcRestore (h : Nat)
  | holdoverTimeout (h : Nat)
  | probeStart (h : Nat)
  | probeEnd (h : Nat)
  | enterService (h : Nat)
  | trackEnable (q : Requester) (h : Nat)
  | trackStep (h : Nat)
  | sweepStart (h : Nat)
  | sweepRampStep (h : Nat)
  | sweepFrozen (h : Nat)
  | trkGmp (q : Requester) (h : Nat) (volt : Word)
  | sweepFail (h : Nat)
  | meterEnable (q : Requester) (d : Nat) (u : Nat)
  | meterSample (d : Nat) (u : Nat)
  | zcTimeout (d : Nat) (u : Nat) (k : Nat)
  | snap (q : Requester) (d : Nat) (u : Nat)
  | calchk (q : Requester) (d : Nat) (u : Nat)
  | calCheck (d : Nat) (u : Nat)
  | pailLoRead (q : Requester) (d : Nat) (c : WideCounter)
  | pailWrite (q : Requester) (d : Nat) (c : WideCounter) (v : BitVec 32) (collides : Bool)
  | mcCorrectionWrite (q : Requester) (d : Nat) (u : Nat) (c : Nat) (f : Correction) (v : BitVec 24)
  | pulseOutputEnable (q : Requester) (d : Nat) (k : Nat)
  | pulseEnd (d : Nat) (k : Nat)
  | gapEnd (d : Nat) (k : Nat)
  | s0LevelAccept (d : Nat) (k : Nat) (e : S0Input)
  | s0PulseCount (d : Nat) (k : Nat)
  | s0CntWrite (q : Requester) (d : Nat) (k : Nat) (v : BitVec 32) (collides : Bool)
  | safetyChannelCycle (chan : Bool) (osc : OscCheck)
  | contactAccept (chanB : Bool) (k : BitVec 4) (closed : Bool)
  | ss1Expiry (z : Nat)
  | discrepancyTimeout (k : BitVec 4)
  | testPulse (chanB : Bool) (k : BitVec 4) (e : TestPulse)
  | sealRead (a : BitVec 12) (b : BitVec 12)
  | safetySelftest (e : SelfTest)
  | pathFault (d : Nat) (differs : Bool)
  | rstStuck
  | legEnableLoss (chanB : Bool) (d : Nat)
  | legEnableRestore (d : Nat)
  | safeResetEdge (lowMs : Nat) (widthMs : Nat) (e : ResetSeen)
  | mainLost
  | mainReturn
  | powerCycleCount
  | aonSecond
  | gaugeUpdate (vlarge : Nat) (vsmall : Nat) (draw : Nat) (harvest : Nat)
  | harvesterVocMeasure (voc : Nat)
  | aonRecordWrite
  | darkBinClose (energy : Nat)
  | darkCutoff
  | darkTimerExpired
  | darkWake (hours : BitVec 16) (main : Bool)
  | recordCommit
  | mirrorCommit
  | mirrorCopy
  | mirrorCompare
  | flashOpDone (d : Nat)
  | eraseResume (d : Nat)
  | commission (q : Requester)
  | freeze (q : Requester)
  | unfreeze (q : Requester)
  | freezeExpiry
  | recordSelect (q : Requester) (seq : BitVec 32)
  | recordLocated (q : Requester)
  | recWinRead (q : Requester)
  | flashRead (q : Requester) (d : Nat)
  | flashProgram (q : Requester) (d : Nat)
  | flashErase (q : Requester) (d : Nat)
  | irqSwset (q : Requester) (d : Nat) (src : BitVec 9)
  | irqHpendClear (q : Requester) (d : Nat) (w : Nat) (bits : WrittenWord)
  | pllLock (d : Nat) (band : BitVec 6)
  | pllUnlock (d : Nat)
  | rampRun (q : Requester) (d : Nat) (r : Nat)
  | rampStop (q : Requester) (d : Nat) (r : Nat)
  | rampSegmentEnd (d : Nat) (r : Nat)
  | opWrite (q : Requester) (d : Nat) (c : Nat) (vsel : BitVec 2) (fsel : BitVec 2)
  | railSettled (d : Nat) (c : Nat)
  | pwrOn (q : Requester) (d : Nat) (dom : Nat)
  | pwrRetain (q : Requester) (d : Nat) (dom : Nat) (force : Bool)
  | pwrOff (q : Requester) (d : Nat) (dom : Nat) (force : Bool)
  | domainWaitDone (d : Nat) (dom : Nat)
  | domainTransitionDone (d : Nat) (dom : Nat)
  | spiRead (head : SpiHead) (part : BurstPart) (crc : BitVec 16)
  | spiWrite (head : SpiHead) (ws : PartWords) (crc : BitVec 16)
  | spiStatus (st : SpiStatus)
  | spiAbandon
  | bypass
  | idcode
  | samplePreload (cells : List Bool)
  | extest
  | hostacc (cmd : BitVec 8) (addr : BitVec 32) (ws : PartWords) (crc : BitVec 16)
  | canRxFrame (c : Nat) (frame : CanFrame)
  | canTxFrame (c : Nat) (j : Nat)
  | canBusOff (c : Nat)
  | canBusOffRecovery (c : Nat)
  | page (page : Option (BitVec 8)) (pec : Option Bool)
  | operation (v : Option (BitVec 8)) (pec : Option Bool)
  | onOffConfig (v : Option (BitVec 8)) (pec : Option Bool)
  | clearFaults (pec : Option Bool)
  | voutCommand (v : Option (BitVec 16)) (pec : Option Bool)
  | statusWord
  | readVout
  | readIout
  | pmbusUnsupported (code : BitVec 8)
  | avsVoutWrite (rail : BitVec 4) (mv : BitVec 16) (crcOk : Bool)
  | avsVoutRead (rail : BitVec 4) (crcOk : Bool)
  | avsStatusRead (rail : BitVec 4) (crcOk : Bool)
  | linkUp (down : Bool)
  | ack (down : Bool) (id : Nat)
  | nak (down : Bool) (id : Nat)
  | chainRetry (down : Bool) (id : Nat)
  | linkLost (down : Bool)
  | linkDown (up : Bool) (at_ : BitVec 6)
  | enumStart
  | enum (addr : BitVec 6) (gen : BitVec 8) (upPort : Bool)
  | enumAck (addr : BitVec 6) (proto : BitVec 8) (sirev : BitVec 8) (nd : BitVec 8) (last : Bool)
  | enumComplete
  | roster (entries : List RosterEntry)
  | enumWaitTimeout
  | headEnumTimeout
  | pRead (fr : ChainHeader) (p : Nat) (n : Nat)
  | pWrite (fr : ChainHeader) (p : Nat) (vs : List Word)
  | qPush (fr : ChainHeader) (id : BitVec 16) (type : BitVec 7) (payload : Payload)
  | rRead (fr : ChainHeader) (addr : Nat) (n : PartLen)
  | rWrite (fr : ChainHeader) (addr : Nat) (ws : PartWords)
  | resp (fr : ChainHeader) (st : BitVec 4) (orig : BitVec 4) (data : List (BitVec 32))
  | chainTimeout (down : Bool) (tag : BitVec 6)
  | chHcmd (q : Requester) (dst : BitVec 6) (type : BitVec 4) (reuse : Bool) (n1 : BitVec 6)
  | chainOutSend (id : BitVec 16)
  | chainOutResend (id : BitVec 16)
  | powerOn
  | resetN
  | supplyLow
  | pkgCmdReset (q : Requester)
  | resetRelease (pins : PinStraps)
  | bootComplete (intake : BitVec 13) (base : BitVec 14) (e : BootLoad)
  | dieMissing (d : Nat)
  | trialFallback
  | switch (q : Requester)
  | confirm (q : Requester)
  | programKeyHash (q : Requester)
  | programSigReq (q : Requester)
  | wrefClr (q : Requester) (d : Option Nat)
  | registerWrite (q : Requester) (addr : Nat) (e : WrittenWord)
  | undefinedEncoding (pe : Nat) (w : BitVec 32)
  | canError (c : Nat) (err : CanError)
  | chainBadFrame (up : Bool) (fr : BadFrame)
  | railLevelMet (d : Nat) (c : Nat) (level : BitVec 2)
  | harvesterStart (cold : Bool)
  | harvesterStop
  | tapReset
deriving DecidableEq, Repr

end Sys2Proof
end

