-- ==== Sys2Proof/Decode.lean ====
section
/-!
DEFINITION. The decoder over the rows of spec/opcode_table.json that give bits (no row of this block's table gives any, so no word
spells a command by them), and the decoder of the 32-bit words of the Uselo instruction set (chapter 4), which those rows take
their operands from.
-/
namespace Sys2Proof

/-- The command that a word spells by the table's bits: none, since the table gives no row bits. -/
def decodeTableWord (_nbits _w : Nat) : Option Instr := none

/-! ### Fields of an instruction word (R104) -/

/-- [31:26], the opcode. -/
def wordOp (w : BitVec 32) : Nat := (w.extractLsb' 26 6).toNat
/-- [25:21], rd of the R, I and L formats. -/
def wordRd (w : BitVec 32) : Spec := w.extractLsb' 21 5
/-- [20:16], ra of the R and I formats. -/
def wordRa (w : BitVec 32) : Spec := w.extractLsb' 16 5
/-- [15:11], rb of the R format. -/
def wordRb (w : BitVec 32) : Spec := w.extractLsb' 11 5
/-- [10:0], fn of the R format. -/
def wordFn (w : BitVec 32) : BitVec 11 := w.extractLsb' 0 11
/-- [15:0], imm of the I format. -/
def wordImm (w : BitVec 32) : BitVec 16 := w.extractLsb' 0 16
/-- [20:0], imm of the L format. -/
def wordLong (w : BitVec 32) : BitVec 21 := w.extractLsb' 0 21
/-- [25:22], cond of the B format and sub of the M format. -/
def wordCond (w : BitVec 32) : BitVec 4 := w.extractLsb' 22 4
/-- [21:17], ra of the B format and base of the M format. -/
def wordBase (w : BitVec 32) : Spec := w.extractLsb' 17 5
/-- [16:0], off of the B format. -/
def wordOff (w : BitVec 32) : BitVec 17 := w.extractLsb' 0 17
/-- [10:6], dst of the M format. -/
def wordDst (w : BitVec 32) : Spec := w.extractLsb' 6 5

/-- An instruction where the fields that the chapter gives as 0 hold 0 (R105). -/
def whenZero {n : Nat} (field : BitVec n) (i : Option Instr) : Option Instr := if field = 0 then i else none

/-! ### The groups of the opcode map (R105) -/

/-- Opcode 0x10 (R111, R112): moves, the saturating ALU, indexed loads and stores. -/
def decodeAlu (pe : Nat) (fn : Nat) (rd ra rb : Spec) : Option Instr :=
  match fn with
  | 0x00 => some (.mov pe rd ra) | 0x01 => some (.add pe rd ra rb) | 0x02 => some (.sub pe rd ra rb)
  | 0x03 => some (.neg pe rd ra) | 0x04 => some (.abs pe rd ra) | 0x05 => some (.min pe rd ra rb)
  | 0x06 => some (.max pe rd ra rb) | 0x07 => some (.clamp pe rd ra rb) | 0x08 => some (.and pe rd ra rb)
  | 0x09 => some (.or pe rd ra rb) | 0x0A => some (.xor pe rd ra rb) | 0x0B => some (.not pe rd ra)
  | 0x0C => some (.addar pe rd ra rb) | 0x0D => some (.ldx pe rd ra rb) | 0x0E => some (.stx pe rd ra rb)
  | _ => none

/-- Opcode 0x11 (R113): shifts, with their amount in fn[4:0], or in rb where fn[5] is 1; fn[7:6] is 0. -/
def decodeShift (pe : Nat) (fn : BitVec 11) (rd ra rb : Spec) : Option Instr :=
  let amt : ShiftAmount := if fn.getLsbD 5 then .reg rb else .imm (fn.extractLsb' 0 5)
  whenZero (fn.extractLsb' 6 2) <| match (fn.extractLsb' 8 3).toNat with
    | 0 => some (.shl pe rd ra amt) | 1 => some (.shr pe rd ra amt) | 2 => some (.shrr pe rd ra amt)
    | 3 => some (.lsr pe rd ra amt) | 4 => some (.lsl pe rd ra amt) | 5 => some (.norm pe rd ra)
    | _ => none

/-- Opcode 0x12 (R114): multiply and divide; the MAC forms name their accumulator in rd. -/
def decodeMul (pe : Nat) (fn : Nat) (rd ra rb : Spec) : Option Instr :=
  match fn with
  | 0 => some (.mul pe rd ra rb) | 1 => some (.mulq8 pe rd ra rb) | 2 => some (.mac pe rd ra rb)
  | 3 => some (.msu pe rd ra rb) | 4 => some (.macq8 pe rd ra rb) | 5 => some (.msuq8 pe rd ra rb)
  | 6 => some (.div pe rd ra rb)
  | _ => none

/-- Opcode 0x13 (R115): accumulator access, by fn[10:8]. -/
def decodeAcc (pe : Nat) (fn : BitVec 11) (rd ra rb : Spec) : Option Instr :=
  match (fn.extractLsb' 8 3).toNat with
  | 0 => some (.accv pe rd ra (fn.extractLsb' 0 3)) | 1 => some (.accvq8 pe rd ra) | 2 => some (.acclo pe rd ra)
  | 3 => some (.accmid pe rd ra) | 4 => some (.acchi pe rd ra) | 5 => some (.accphm pe rd ra rb)
  | 6 => some (.accplo pe rd ra) | 7 => some (.accadd pe rd ra)
  | _ => none

/-- Opcode 0x1A (R119): jumps and returns. -/
def decodeJump (pe : Nat) (fn : Nat) (ra : Spec) : Option Instr :=
  match fn with
  | 0 => some (.jr pe ra) | 1 => some (.callr pe ra) | 2 => some (.ret pe)
  | _ => none

/-- Opcode 0x20 (R121, R122, R124, R125): long instructions, uncut. -/
def decodeLong (pe : Nat) (w : BitVec 32) : Option Instr :=
  let base := wordBase w
  let dst := wordDst w
  match (wordCond w).toNat with
  | 0 => whenZero (w.extractLsb' 4 2)
    (some (.mvm pe base (w.extractLsb' 14 3) (w.extractLsb' 11 3) dst (w.getLsbD 3) (w.getLsbD 2) (w.extractLsb' 0 2) none))
  | 1 => whenZero (w.extractLsb' 4 2)
    (some (.mva pe base (w.extractLsb' 14 3) (w.extractLsb' 11 3) dst (w.getLsbD 3) (w.getLsbD 2) (w.extractLsb' 0 2) none))
  | 2 => whenZero (w.extractLsb' 2 4) (some (.fir pe base (w.extractLsb' 11 6) dst (w.extractLsb' 0 2) none))
  | 3 => whenZero (w.extractLsb' 2 4) (some (.bcopy pe base (w.extractLsb' 11 6 ++ w.extractLsb' 0 2) dst none))
  | _ => none

/-- Opcode 0x21 (R127): transforms, by fn[10:8]; fn[7:0] is 0. -/
def decodeTransform (pe : Nat) (fn : BitVec 11) (rd ra rb : Spec) : Option Instr :=
  whenZero (fn.extractLsb' 0 8) <| match (fn.extractLsb' 8 3).toNat with
    | 0 => some (.sincos pe rd ra) | 1 => some (.atan2 pe rd ra rb) | 2 => some (.sqrt pe rd ra)
    | 3 => some (.mag pe rd ra rb) | 4 => some (.clarke pe rd ra) | 5 => some (.park pe rd ra rb)
    | 6 => some (.ipark pe rd ra rb)
    | _ => none

/-- Opcode 0x22 (R128): angles, by fn[10:8], with a base in fn[3:0]; fn[7:4] is 0. -/
def decodeAngle (pe : Nat) (fn : BitVec 11) (rd ra rb : Spec) : Option Instr :=
  let b := fn.extractLsb' 0 4
  whenZero (fn.extractLsb' 4 4) <| match (fn.extractLsb' 8 3).toNat with
    | 0 => some (.aget pe rd b) | 1 => some (.aturn pe rd b) | 2 => some (.ainc pe ra b)
    | 3 => some (.acorr pe ra b) | 4 => some (.aadd pe rd ra rb) | 5 => some (.asub pe rd ra rb)
    | 6 => some (.amuli pe rd ra rb)
    | _ => none

/-- Opcode 0x24 (R129): queues, by fn[10:8]. -/
def decodeQueue (pe : Nat) (fn : BitVec 11) (rd ra rb : Spec) : Option Instr :=
  match (fn.extractLsb' 8 3).toNat with
  | 0 => some (.qpush pe rd ra rb (fn.getLsbD 7) (fn.extractLsb' 0 7)) | 1 => some (.qpop pe rd ra rb)
  | 2 => whenZero (fn.extractLsb' 0 8) (some (.qstat pe rd ra))
  | _ => none

/-- Opcode 0x25 (R130): signal points, by fn[10:9]; N − 1 is 0 but for SPUTG. -/
def decodePoint (pe : Nat) (fn : BitVec 11) (rd ra rb : Spec) : Option Instr :=
  let nb := fn.getLsbD 8
  let o := fn.extractLsb' 0 5
  let n1 := fn.extractLsb' 5 3
  match (fn.extractLsb' 9 2).toNat with
  | 0 => whenZero n1 (some (.sget pe rd ra rb nb o)) | 1 => whenZero n1 (some (.sput pe rd ra rb nb o))
  | 2 => some (.sputg pe rd ra rb nb n1 o)
  | _ => none

/-- Opcode 0x26 (R132, R133): LSET with its field in fn[3:0], and LOADALL. -/
def decodeLeg (pe : Nat) (w : BitVec 32) : Option Instr :=
  let fn := (wordFn w).toNat
  if fn < 7 then some (.lset pe (wordRd w) (wordRa w) (wordRb w) (w.extractLsb' 0 4))
  else if fn = 0x100 then whenZero (w.extractLsb' 11 15) (some (.loadall pe))
  else none

/-- Opcode 0x30 (R134): system instructions; operand fields are 0 where the table names no operand. -/
def decodeSystem (pe : Nat) (w : BitVec 32) : Option Instr :=
  let bare := whenZero (w.extractLsb' 11 15)
  match (wordFn w).toNat with
  | 0 => bare (some (.nop pe)) | 1 => bare (some (.clrstk pe)) | 2 => bare (some (.fence pe)) | 3 => bare (some (.halt pe))
  | 4 => bare (some (.trap pe))
  | 5 => whenZero (wordRd w) (whenZero (wordRb w) (some (.eoi pe (wordRa w))))
  | 6 => bare (some (.tret pe)) | 7 => bare (some (.wspill pe)) | 8 => bare (some (.wfill pe))
  | 9 => whenZero (wordRd w) (some (.disp pe (wordRa w) (wordRb w)))
  | _ => none

/-- The instruction that a word of program memory gives engine `pe` (R104, R105): none for a word that the instruction set does
not list. -/
def decodeUselo (pe : Nat) (w : BitVec 32) : Option Instr :=
  let rd := wordRd w
  let ra := wordRa w
  let rb := wordRb w
  let fn := wordFn w
  match wordOp w with
  | 0x01 => some (.ld pe rd ra (wordImm w)) | 0x02 => some (.st pe rd ra (wordImm w)) | 0x03 => some (.ldl pe rd (wordLong w))
  | 0x04 => whenZero (w.extractLsb' 3 18) (some (.ldh pe rd (wordLong w)))
  | 0x05 => some (.adda pe rd ra (wordImm w)) | 0x06 => some (.addi pe rd ra (wordImm w))
  | 0x07 => whenZero rd (some (.cmpi pe ra (wordImm w)))
  | 0x08 => whenZero (w.extractLsb' 4 12) (some (.lsh pe rd ra (w.extractLsb' 0 4)))
  | 0x10 => decodeAlu pe fn.toNat rd ra rb
  | 0x11 => decodeShift pe fn rd ra rb
  | 0x12 => decodeMul pe fn.toNat rd ra rb
  | 0x13 => decodeAcc pe fn rd ra rb
  | 0x14 => whenZero rd (whenZero fn (some (.cmp pe ra rb)))
  | 0x18 =>
    if wordCond w < 9 then whenZero (wordBase w) (some (.br pe (wordCond w) 0 (wordOff w)))
    else if wordCond w < 15 then some (.br pe (wordCond w) (wordBase w) (wordOff w))
    else none
  | 0x19 => whenZero (w.extractLsb' 17 9) (some (.call pe (wordOff w)))
  | 0x1A => decodeJump pe fn.toNat ra
  | 0x20 => decodeLong pe w
  | 0x21 => decodeTransform pe fn rd ra rb
  | 0x22 => decodeAngle pe fn rd ra rb
  | 0x24 => decodeQueue pe fn rd ra rb
  | 0x25 => decodePoint pe fn rd ra rb
  | 0x26 => decodeLeg pe w
  | 0x30 => decodeSystem pe w
  | _ => none

end Sys2Proof
end

