-- ==== Sys2Proof/Config.lean ====
section
/-!
DEFINITION. What the spec leaves open: constants without a body, which no proof can look into. Each is applied to the
plain counter `State.fresh` or to the operands that it depends on.
-/
namespace Sys2Proof

/-- A value that the spec leaves open, drawn afresh: applied to the counter of draws and the width (log entry 2). -/
opaque Config.freeNat : Nat → Nat

/-- The place, among the 8 × 32,768 words of a die's program memories, of word `n` of an image body, which the spec does not lay out
(log entry 30). -/
opaque Config.programPlace : Nat → Nat

end Sys2Proof
end

