-- ==== Sys2Proof/Machine/Field.lean ====
section
/-!
DEFINITION. A register field: where its bits lie, how wide it is, what it holds at reset and its access class (R12). A
field of several instances is named once; the instance numbers select the word.
-/
namespace Sys2Proof.Machine

/-- Access classes (R12); `own` and `role` are the classes that R293 and R304 give. -/
inductive Cls where
  | ro | rw | rws | rwl | w1c | wo | rc | own | role
deriving DecidableEq, Repr

/-- Where a field's word lies: a die block, a package block, or a bank of instances that a requester's cursor selects
(R103, R157, R469), which has no address of its own. -/
inductive Space where
  | die | pkg | bank
deriving DecidableEq, Repr

/-- A register field: the space of its word, the byte offset of instance (0, 0), the strides of its two instance
numbers, its lowest bit, its width, its reset value (or one per instance, where they differ) and its access class. -/
structure Fld where
  space : Space
  off : Nat
  s1 : Nat
  s2 : Nat
  lo : Nat
  width : Nat
  rst : Nat
  rsts : List Nat
  cls : Cls
deriving DecidableEq, Repr

/-- The reset ratios of RG_PT: ramp generator 0 and 1 (R571). -/
def rgReset : List Nat := [0x280000, 0x5000000]

/-- The byte address of a space on die `d` (R562); a bank lies above the 32-bit address space. -/
def Space.base : Space → Nat → Nat
  | .die, d => 0x10000000 + d * 0x1000000
  | .pkg, _ => 0
  | .bank, d => 0x100000000 + d * 0x10000000

/-- The byte address of instance `(i, j)` of a field's word. -/
def Fld.addr (F : Fld) (d i j : Nat) : Nat := F.space.base d + F.off + i * F.s1 + j * F.s2

/-- The key under which the field's value is kept: its word's address and its lowest bit. -/
def Fld.key (F : Fld) (d i j : Nat) : Nat := F.addr d i j * 32 + F.lo

/-- The reset value of instance `(i, j)` (R571): the list's entry of the innermost instance number, where one is given
(of the ramp generator number, for RG_PT), else the one value. -/
def Fld.reset (F : Fld) (i j : Nat) : Nat :=
  F.rsts.getD (if F.s2 = 0 ∨ F.rsts = rgReset then i else j) F.rst

end Sys2Proof.Machine
end

