-- ==== Sys2Proof/Machine/RegsHerd.lean ====
section
/-!
DEFINITION. The register fields of the herd file: herd, leash, heel, detectors, REGULATE, DRIVE, CHOP, GRID and TRACK (chapters 10 to 14):
one name per field of the field tables of the spec, with its place, width, reset value and access class (R12, R571).
-/
namespace Sys2Proof.Machine

-- HERD_CTL (11_herds_roles_prestart.md, R310)
def F.HERD_CTL_CMPT : Fld := ⟨.die, 0x70000, 0x1000, 0x0, 23, 1, 0x0, [], .rwl⟩
def F.HERD_CTL_ROLE : Fld := ⟨.die, 0x70000, 0x1000, 0x0, 20, 3, 0x1, [], .role⟩
def F.HERD_CTL_SAFE_MODE : Fld := ⟨.die, 0x70000, 0x1000, 0x0, 18, 2, 0x0, [], .rwl⟩
def F.HERD_CTL_FLT_MODE : Fld := ⟨.die, 0x70000, 0x1000, 0x0, 16, 2, 0x0, [], .rwl⟩
def F.HERD_CTL_STOP_TMO : Fld := ⟨.die, 0x70000, 0x1000, 0x0, 8, 8, 0x63, [], .rwl⟩
def F.HERD_CTL_CHK_TMO : Fld := ⟨.die, 0x70000, 0x1000, 0x0, 0, 8, 0x63, [], .rwl⟩

-- HERD_CMD (11_herds_roles_prestart.md, R310)
def F.HERD_CMD_CMD : Fld := ⟨.die, 0x70004, 0x1000, 0x0, 0, 4, 0x0, [], .wo⟩

-- HERD_STAT (11_herds_roles_prestart.md, R310)
def F.HERD_STAT_CMD_RES : Fld := ⟨.die, 0x70008, 0x1000, 0x0, 28, 4, 0x0, [], .ro⟩
def F.HERD_STAT_FAULT_CAUSE : Fld := ⟨.die, 0x70008, 0x1000, 0x0, 17, 7, 0x0, [], .ro⟩
def F.HERD_STAT_DIES : Fld := ⟨.die, 0x70008, 0x1000, 0x0, 8, 8, 0x0, [], .ro⟩
def F.HERD_STAT_CHECKING : Fld := ⟨.die, 0x70008, 0x1000, 0x0, 4, 1, 0x0, [], .ro⟩
def F.HERD_STAT_HSS_SKIP : Fld := ⟨.die, 0x70008, 0x1000, 0x0, 3, 1, 0x0, [], .w1c⟩
def F.HERD_STAT_STATE : Fld := ⟨.die, 0x70008, 0x1000, 0x0, 0, 3, 0x0, [], .ro⟩

-- HERD_CHK (11_herds_roles_prestart.md, R310)
def F.HERD_CHK_FAIL_LEG : Fld := ⟨.die, 0x7000C, 0x1000, 0x0, 16, 8, 0x0, [], .ro⟩
def F.HERD_CHK_FAIL_PLB : Fld := ⟨.die, 0x7000C, 0x1000, 0x0, 13, 3, 0x0, [], .ro⟩
def F.HERD_CHK_FAILED : Fld := ⟨.die, 0x7000C, 0x1000, 0x0, 0, 6, 0x0, [], .ro⟩

-- HSS_RAIL (11_herds_roles_prestart.md, R310)
def F.HSS_RAIL_POINT : Fld := ⟨.die, 0x70010, 0x1000, 0x0, 0, 20, 0x0, [], .rwl⟩

-- HSS_CFG (11_herds_roles_prestart.md, R310)
def F.HSS_CFG_SETTLE : Fld := ⟨.die, 0x70014, 0x1000, 0x0, 0, 8, 0x1, [], .rwl⟩

-- HERD_PLB (11_herds_roles_prestart.md, R310)
def F.HERD_PLB_EN : Fld := ⟨.die, 0x70100, 0x1000, 0x10, 23, 1, 0x0, [], .rwl⟩
def F.HERD_PLB_POINT : Fld := ⟨.die, 0x70100, 0x1000, 0x10, 0, 20, 0x0, [], .rwl⟩

-- HERD_PLB_LO (11_herds_roles_prestart.md, R310)
def F.HERD_PLB_LO_LO : Fld := ⟨.die, 0x70104, 0x1000, 0x10, 0, 24, 0x800000, [], .rwl⟩

-- HERD_PLB_HI (11_herds_roles_prestart.md, R310)
def F.HERD_PLB_HI_HI : Fld := ⟨.die, 0x70108, 0x1000, 0x10, 0, 24, 0x7FFFFF, [], .rwl⟩

-- CP_CFG (11_herds_roles_prestart.md, R310)
def F.CP_CFG_EN : Fld := ⟨.die, 0x70200, 0x1000, 0x10, 31, 1, 0x0, [], .rwl⟩
def F.CP_CFG_WRITER : Fld := ⟨.die, 0x70200, 0x1000, 0x10, 24, 7, 0x40, [], .rwl⟩
def F.CP_CFG_POINT : Fld := ⟨.die, 0x70200, 0x1000, 0x10, 0, 20, 0x0, [], .rwl⟩

-- CP_TMO (11_herds_roles_prestart.md, R310)
def F.CP_TMO_TMO : Fld := ⟨.die, 0x70204, 0x1000, 0x10, 0, 24, 0x0, [], .rw⟩

-- CP_STAT (11_herds_roles_prestart.md, R310)
def F.CP_STAT_FOREIGN_CNT : Fld := ⟨.die, 0x70208, 0x1000, 0x10, 16, 16, 0x0, [], .ro⟩
def F.CP_STAT_STALE : Fld := ⟨.die, 0x70208, 0x1000, 0x10, 1, 1, 0x0, [], .ro⟩
def F.CP_STAT_FOREIGN : Fld := ⟨.die, 0x70208, 0x1000, 0x10, 0, 1, 0x0, [], .w1c⟩

-- CP_AGE (11_herds_roles_prestart.md, R310)
def F.CP_AGE_TICKS : Fld := ⟨.die, 0x7020C, 0x1000, 0x10, 0, 32, 0xFFFFFFFF, [], .ro⟩

-- LEASH_LO (10_control_law_practice.md, R291)
def F.LEASH_LO_LO : Fld := ⟨.die, 0x70400, 0x1000, 0x10, 0, 24, 0x800000, [], .rws⟩

-- LEASH_HI (10_control_law_practice.md, R291)
def F.LEASH_HI_HI : Fld := ⟨.die, 0x70404, 0x1000, 0x10, 0, 24, 0x7FFFFF, [], .rws⟩

-- LEASH_RATE (10_control_law_practice.md, R291)
def F.LEASH_RATE_KIND : Fld := ⟨.die, 0x70408, 0x1000, 0x10, 24, 2, 0x0, [], .rws⟩
def F.LEASH_RATE_RATE : Fld := ⟨.die, 0x70408, 0x1000, 0x10, 0, 24, 0x0, [], .rws⟩

-- LEASH_LAST (10_control_law_practice.md, R291)
def F.LEASH_LAST_SET : Fld := ⟨.die, 0x7040C, 0x1000, 0x10, 24, 1, 0x0, [], .ro⟩
def F.LEASH_LAST_LAST : Fld := ⟨.die, 0x7040C, 0x1000, 0x10, 0, 24, 0x0, [], .rw⟩

-- LAW_CFG (10_control_law_practice.md, R291)
def F.LAW_CFG_DERATE : Fld := ⟨.die, 0x70500, 0x1000, 0x0, 16, 8, 0xC0, [], .rwl⟩
def F.LAW_CFG_OSC_FLT : Fld := ⟨.die, 0x70500, 0x1000, 0x0, 8, 1, 0x0, [], .rwl⟩

-- LAW_STAT (10_control_law_practice.md, R291)
def F.LAW_STAT_HEEL_ACT : Fld := ⟨.die, 0x70504, 0x1000, 0x0, 20, 4, 0x0, [], .ro⟩
def F.LAW_STAT_OSC_ARMED : Fld := ⟨.die, 0x70504, 0x1000, 0x0, 16, 4, 0x0, [], .ro⟩
def F.LAW_STAT_LEASH_BAD : Fld := ⟨.die, 0x70504, 0x1000, 0x0, 8, 1, 0x0, [], .w1c⟩
def F.LAW_STAT_PLAUS : Fld := ⟨.die, 0x70504, 0x1000, 0x0, 7, 1, 0x0, [], .w1c⟩
def F.LAW_STAT_OSC : Fld := ⟨.die, 0x70504, 0x1000, 0x0, 6, 1, 0x0, [], .w1c⟩
def F.LAW_STAT_DERATED : Fld := ⟨.die, 0x70504, 0x1000, 0x0, 5, 1, 0x0, [], .ro⟩
def F.LAW_STAT_VSAT_NOW : Fld := ⟨.die, 0x70504, 0x1000, 0x0, 4, 1, 0x0, [], .ro⟩
def F.LAW_STAT_VSAT : Fld := ⟨.die, 0x70504, 0x1000, 0x0, 3, 1, 0x0, [], .w1c⟩
def F.LAW_STAT_COLD : Fld := ⟨.die, 0x70504, 0x1000, 0x0, 2, 1, 0x0, [], .ro⟩

-- VSAT_TIME (10_control_law_practice.md, R291)
def F.VSAT_TIME_TICKS : Fld := ⟨.die, 0x70508, 0x1000, 0x0, 0, 32, 0x0, [], .ro⟩

-- LAW_CNT (10_control_law_practice.md, R291)
def F.LAW_CNT_VSAT_CNT : Fld := ⟨.die, 0x7050C, 0x1000, 0x0, 16, 16, 0x0, [], .ro⟩
def F.LAW_CNT_OSC_CNT : Fld := ⟨.die, 0x7050C, 0x1000, 0x0, 0, 16, 0x0, [], .ro⟩

-- OSC_SPER (10_control_law_practice.md, R291)
def F.OSC_SPER_SPER : Fld := ⟨.die, 0x70510, 0x1000, 0x0, 0, 16, 0x3E8, [], .rwl⟩

-- HEEL_SRC (10_control_law_practice.md, R291)
def F.HEEL_SRC_EN : Fld := ⟨.die, 0x70520, 0x1000, 0x10, 23, 1, 0x0, [], .rw⟩
def F.HEEL_SRC_POINT : Fld := ⟨.die, 0x70520, 0x1000, 0x10, 0, 20, 0x0, [], .rwl⟩

-- HEEL_TGT (10_control_law_practice.md, R291)
def F.HEEL_TGT_POINT : Fld := ⟨.die, 0x70524, 0x1000, 0x10, 0, 20, 0x0, [], .rwl⟩

-- HEEL_OUT (10_control_law_practice.md, R291)
def F.HEEL_OUT_POINT : Fld := ⟨.die, 0x70528, 0x1000, 0x10, 0, 20, 0x0, [], .rwl⟩

-- HEEL_SLEW (10_control_law_practice.md, R291)
def F.HEEL_SLEW_SLEW : Fld := ⟨.die, 0x7052C, 0x1000, 0x10, 0, 24, 0x0, [], .rw⟩

-- HEEL_CMD (10_control_law_practice.md, R291)
def F.HEEL_CMD_RESTART : Fld := ⟨.die, 0x70560, 0x1000, 0x0, 0, 4, 0x0, [], .wo⟩

-- OSC_CFG (10_control_law_practice.md, R291)
def F.OSC_CFG_EN : Fld := ⟨.die, 0x70580, 0x1000, 0x20, 23, 1, 0x0, [], .rwl⟩
def F.OSC_CFG_POINT : Fld := ⟨.die, 0x70580, 0x1000, 0x20, 0, 20, 0x0, [], .rwl⟩

-- OSC_PAR (10_control_law_practice.md, R291)
def F.OSC_PAR_MSH : Fld := ⟨.die, 0x70584, 0x1000, 0x20, 16, 4, 0x8, [], .rwl⟩
def F.OSC_PAR_WLEN : Fld := ⟨.die, 0x70584, 0x1000, 0x20, 12, 3, 0x4, [], .rwl⟩
def F.OSC_PAR_NWIN : Fld := ⟨.die, 0x70584, 0x1000, 0x20, 0, 8, 0x3, [], .rw⟩

-- OSC_ATHR (10_control_law_practice.md, R291)
def F.OSC_ATHR_ATHR : Fld := ⟨.die, 0x70588, 0x1000, 0x20, 0, 24, 0x7FFFFF, [], .rw⟩

-- OSC_HYS (10_control_law_practice.md, R291)
def F.OSC_HYS_HYS : Fld := ⟨.die, 0x7058C, 0x1000, 0x20, 0, 24, 0x0, [], .rw⟩

-- OSC_FWIN (10_control_law_practice.md, R291)
def F.OSC_FWIN_FMAX : Fld := ⟨.die, 0x70590, 0x1000, 0x20, 16, 13, 0x1FFF, [], .rw⟩
def F.OSC_FWIN_FMIN : Fld := ⟨.die, 0x70590, 0x1000, 0x20, 0, 13, 0x0, [], .rw⟩

-- OSC_MEAS (10_control_law_practice.md, R291)
def F.OSC_MEAS_AMP : Fld := ⟨.die, 0x70594, 0x1000, 0x20, 0, 24, 0x0, [], .ro⟩

-- OSC_MEAS2 (10_control_law_practice.md, R291)
def F.OSC_MEAS2_RUN : Fld := ⟨.die, 0x70598, 0x1000, 0x20, 16, 8, 0x0, [], .ro⟩
def F.OSC_MEAS2_XCNT : Fld := ⟨.die, 0x70598, 0x1000, 0x20, 0, 13, 0x0, [], .ro⟩

-- REG_CFG (12_regulate_role.md, R332)
def F.REG_CFG_EN : Fld := ⟨.die, 0x70600, 0x1000, 0x0, 23, 1, 0x0, [], .rwl⟩
def F.REG_CFG_SHED_EN : Fld := ⟨.die, 0x70600, 0x1000, 0x0, 22, 1, 0x1, [], .rw⟩
def F.REG_CFG_BURST_EN : Fld := ⟨.die, 0x70600, 0x1000, 0x0, 21, 1, 0x0, [], .rw⟩
def F.REG_CFG_RET : Fld := ⟨.die, 0x70600, 0x1000, 0x0, 20, 1, 0x0, [], .rwl⟩
def F.REG_CFG_OVL_SH : Fld := ⟨.die, 0x70600, 0x1000, 0x0, 16, 4, 0x6, [], .rwl⟩
def F.REG_CFG_N_MAX : Fld := ⟨.die, 0x70600, 0x1000, 0x0, 8, 6, 0x30, [], .rwl⟩
def F.REG_CFG_N_MIN : Fld := ⟨.die, 0x70600, 0x1000, 0x0, 0, 6, 0x1, [], .rwl⟩

-- REG_STAT (12_regulate_role.md, R332)
def F.REG_STAT_CFG_RES : Fld := ⟨.die, 0x70604, 0x1000, 0x0, 28, 4, 0x0, [], .ro⟩
def F.REG_STAT_N_ACT : Fld := ⟨.die, 0x70604, 0x1000, 0x0, 22, 6, 0x0, [], .ro⟩
def F.REG_STAT_N_AVAIL : Fld := ⟨.die, 0x70604, 0x1000, 0x0, 16, 6, 0x0, [], .ro⟩
def F.REG_STAT_N_PH : Fld := ⟨.die, 0x70604, 0x1000, 0x0, 10, 6, 0x0, [], .ro⟩
def F.REG_STAT_OVL : Fld := ⟨.die, 0x70604, 0x1000, 0x0, 5, 1, 0x0, [], .ro⟩
def F.REG_STAT_OVL_TRIP : Fld := ⟨.die, 0x70604, 0x1000, 0x0, 4, 1, 0x0, [], .w1c⟩
def F.REG_STAT_UNDER : Fld := ⟨.die, 0x70604, 0x1000, 0x0, 3, 1, 0x0, [], .w1c⟩
def F.REG_STAT_BURST : Fld := ⟨.die, 0x70604, 0x1000, 0x0, 2, 1, 0x0, [], .ro⟩
def F.REG_STAT_ASLEEP : Fld := ⟨.die, 0x70604, 0x1000, 0x0, 1, 1, 0x0, [], .ro⟩

-- REG_IADD (12_regulate_role.md, R332)
def F.REG_IADD_I_ADD : Fld := ⟨.die, 0x70608, 0x1000, 0x0, 0, 24, 0x400000, [], .rw⟩

-- REG_ISHED (12_regulate_role.md, R332)
def F.REG_ISHED_I_SHED : Fld := ⟨.die, 0x7060C, 0x1000, 0x0, 0, 24, 0x300000, [], .rw⟩

-- REG_IOVL (12_regulate_role.md, R332)
def F.REG_IOVL_I_OVL : Fld := ⟨.die, 0x70610, 0x1000, 0x0, 0, 24, 0x7FFFFF, [], .rw⟩

-- REG_IBURST (12_regulate_role.md, R332)
def F.REG_IBURST_I_BURST : Fld := ⟨.die, 0x70614, 0x1000, 0x0, 0, 24, 0x0, [], .rw⟩

-- REG_IBEXIT (12_regulate_role.md, R332)
def F.REG_IBEXIT_I_BEXIT : Fld := ⟨.die, 0x70618, 0x1000, 0x0, 0, 24, 0x7FFFFF, [], .rw⟩

-- REG_TIME (12_regulate_role.md, R332)
def F.REG_TIME_TOVL : Fld := ⟨.die, 0x7061C, 0x1000, 0x0, 16, 16, 0x3E8, [], .rw⟩
def F.REG_TIME_DWELL : Fld := ⟨.die, 0x7061C, 0x1000, 0x0, 0, 16, 0x14, [], .rw⟩

-- REG_BURST (12_regulate_role.md, R332)
def F.REG_BURST_BURST_N : Fld := ⟨.die, 0x70620, 0x1000, 0x0, 24, 8, 0x4, [], .rw⟩
def F.REG_BURST_WC : Fld := ⟨.die, 0x70620, 0x1000, 0x0, 16, 6, 0x0, [], .rwl⟩
def F.REG_BURST_SLEEP_MIN : Fld := ⟨.die, 0x70620, 0x1000, 0x0, 0, 16, 0x64, [], .rw⟩

-- REG_BSLOT (12_regulate_role.md, R332)
def F.REG_BSLOT_DS1_EN : Fld := ⟨.die, 0x70624, 0x1000, 0x0, 17, 1, 0x0, [], .rwl⟩
def F.REG_BSLOT_DS0_EN : Fld := ⟨.die, 0x70624, 0x1000, 0x0, 16, 1, 0x0, [], .rwl⟩
def F.REG_BSLOT_DSLOT1 : Fld := ⟨.die, 0x70624, 0x1000, 0x0, 8, 8, 0x0, [], .rwl⟩
def F.REG_BSLOT_DSLOT0 : Fld := ⟨.die, 0x70624, 0x1000, 0x0, 0, 8, 0x0, [], .rwl⟩

-- REG_CNT (12_regulate_role.md, R332)
def F.REG_CNT_ADD_CNT : Fld := ⟨.die, 0x70628, 0x1000, 0x0, 16, 16, 0x0, [], .ro⟩
def F.REG_CNT_SHED_CNT : Fld := ⟨.die, 0x70628, 0x1000, 0x0, 0, 16, 0x0, [], .ro⟩

-- REG_CNT2 (12_regulate_role.md, R332)
def F.REG_CNT2_SLEEP_CNT : Fld := ⟨.die, 0x7062C, 0x1000, 0x0, 16, 16, 0x0, [], .ro⟩
def F.REG_CNT2_OVL_CNT : Fld := ⟨.die, 0x7062C, 0x1000, 0x0, 0, 16, 0x0, [], .ro⟩

-- REG_IPK (12_regulate_role.md, R332)
def F.REG_IPK_POINT : Fld := ⟨.die, 0x70630, 0x1000, 0x0, 0, 20, 0x0, [], .rwl⟩

-- REG_VREF (12_regulate_role.md, R332)
def F.REG_VREF_POINT : Fld := ⟨.die, 0x70634, 0x1000, 0x0, 0, 20, 0x0, [], .rwl⟩

-- REG_VSEL (12_regulate_role.md, R332)
def F.REG_VSEL_CLAMP : Fld := ⟨.die, 0x70638, 0x1000, 0x0, 4, 3, 0x0, [], .w1c⟩
def F.REG_VSEL_CMD_STALE : Fld := ⟨.die, 0x70638, 0x1000, 0x0, 3, 1, 0x0, [], .ro⟩
def F.REG_VSEL_SRC : Fld := ⟨.die, 0x70638, 0x1000, 0x0, 0, 2, 0x3, [], .rw⟩

-- REG_CCNT (12_regulate_role.md, R332)
def F.REG_CCNT_CNT2 : Fld := ⟨.die, 0x7063C, 0x1000, 0x0, 16, 8, 0x0, [], .ro⟩
def F.REG_CCNT_CNT1 : Fld := ⟨.die, 0x7063C, 0x1000, 0x0, 8, 8, 0x0, [], .ro⟩
def F.REG_CCNT_CNT0 : Fld := ⟨.die, 0x7063C, 0x1000, 0x0, 0, 8, 0x0, [], .ro⟩

-- SRC_CFG (12_regulate_role.md, R332)
def F.SRC_CFG_CP_EN : Fld := ⟨.die, 0x70640, 0x1000, 0x10, 23, 1, 0x0, [], .rwl⟩
def F.SRC_CFG_STALE_HOLD : Fld := ⟨.die, 0x70640, 0x1000, 0x10, 22, 1, 0x0, [], .rwl⟩
def F.SRC_CFG_CP : Fld := ⟨.die, 0x70640, 0x1000, 0x10, 20, 2, 0x0, [], .rwl⟩
def F.SRC_CFG_POINT : Fld := ⟨.die, 0x70640, 0x1000, 0x10, 0, 20, 0x0, [], .rwl⟩

-- SRC_LO (12_regulate_role.md, R332)
def F.SRC_LO_LO : Fld := ⟨.die, 0x70644, 0x1000, 0x10, 0, 24, 0x0, [], .rw⟩

-- SRC_HI (12_regulate_role.md, R332)
def F.SRC_HI_HI : Fld := ⟨.die, 0x70648, 0x1000, 0x10, 0, 24, 0x0, [], .rw⟩

-- SRC_SLEW (12_regulate_role.md, R332)
def F.SRC_SLEW_SLEW : Fld := ⟨.die, 0x7064C, 0x1000, 0x10, 0, 24, 0x0, [], .rw⟩

-- DRV_CFG (13_drive_and_chop_roles.md, R355)
def F.DRV_CFG_EN : Fld := ⟨.die, 0x70700, 0x1000, 0x0, 23, 1, 0x0, [], .rwl⟩
def F.DRV_CFG_FW_EN : Fld := ⟨.die, 0x70700, 0x1000, 0x0, 22, 1, 0x0, [], .rw⟩
def F.DRV_CFG_POS : Fld := ⟨.die, 0x70700, 0x1000, 0x0, 20, 2, 0x0, [], .rwl⟩
def F.DRV_CFG_STAGE : Fld := ⟨.die, 0x70700, 0x1000, 0x0, 18, 2, 0x0, [], .rwl⟩
def F.DRV_CFG_SHAFT : Fld := ⟨.die, 0x70700, 0x1000, 0x0, 12, 4, 0x0, [], .rwl⟩
def F.DRV_CFG_PBASE : Fld := ⟨.die, 0x70700, 0x1000, 0x0, 8, 4, 0x0, [], .rwl⟩

-- DRV_STAT (13_drive_and_chop_roles.md, R355)
def F.DRV_STAT_CFG_RES : Fld := ⟨.die, 0x70704, 0x1000, 0x0, 28, 4, 0x0, [], .ro⟩
def F.DRV_STAT_WS_RES : Fld := ⟨.die, 0x70704, 0x1000, 0x0, 24, 4, 0x0, [], .ro⟩
def F.DRV_STAT_FSTATE : Fld := ⟨.die, 0x70704, 0x1000, 0x0, 20, 3, 0x0, [], .ro⟩
def F.DRV_STAT_FTRIES : Fld := ⟨.die, 0x70704, 0x1000, 0x0, 16, 4, 0x0, [], .ro⟩
def F.DRV_STAT_MDLIM : Fld := ⟨.die, 0x70704, 0x1000, 0x0, 7, 1, 0x0, [], .w1c⟩
def F.DRV_STAT_MDLIM_NOW : Fld := ⟨.die, 0x70704, 0x1000, 0x0, 6, 1, 0x0, [], .ro⟩
def F.DRV_STAT_WS_ACTIVE : Fld := ⟨.die, 0x70704, 0x1000, 0x0, 5, 1, 0x0, [], .ro⟩
def F.DRV_STAT_WS_TRIP : Fld := ⟨.die, 0x70704, 0x1000, 0x0, 4, 1, 0x0, [], .w1c⟩
def F.DRV_STAT_FLY_FAIL : Fld := ⟨.die, 0x70704, 0x1000, 0x0, 3, 1, 0x0, [], .w1c⟩

-- DRV_QW (13_drive_and_chop_roles.md, R355)
def F.DRV_QW_PRE : Fld := ⟨.die, 0x70708, 0x1000, 0x0, 16, 8, 0xA, [], .rwl⟩
def F.DRV_QW_POST : Fld := ⟨.die, 0x70708, 0x1000, 0x0, 8, 8, 0x28, [], .rwl⟩
def F.DRV_QW_SAT : Fld := ⟨.die, 0x70708, 0x1000, 0x0, 0, 2, 0x0, [], .rwl⟩

-- DRV_CNT (13_drive_and_chop_roles.md, R355)
def F.DRV_CNT_MDLIM_CNT : Fld := ⟨.die, 0x7070C, 0x1000, 0x0, 16, 16, 0x0, [], .ro⟩
def F.DRV_CNT_WS_CNT : Fld := ⟨.die, 0x7070C, 0x1000, 0x0, 0, 16, 0x0, [], .ro⟩

-- DRV_QG (13_drive_and_chop_roles.md, R355)
def F.DRV_QG_PT_EN : Fld := ⟨.die, 0x70710, 0x1000, 0x4, 23, 1, 0x0, [], .rwl⟩
def F.DRV_QG_EN : Fld := ⟨.die, 0x70710, 0x1000, 0x4, 22, 1, 0x0, [], .rwl⟩
def F.DRV_QG_POINT : Fld := ⟨.die, 0x70710, 0x1000, 0x4, 0, 20, 0x0, [], .rwl⟩

-- DRV_FLY (13_drive_and_chop_roles.md, R355)
def F.DRV_FLY_EN : Fld := ⟨.die, 0x70720, 0x1000, 0x0, 23, 1, 0x0, [], .rwl⟩
def F.DRV_FLY_HI_ACT : Fld := ⟨.die, 0x70720, 0x1000, 0x0, 22, 1, 0x0, [], .rwl⟩
def F.DRV_FLY_TRIES : Fld := ⟨.die, 0x70720, 0x1000, 0x0, 16, 4, 0x3, [], .rwl⟩
def F.DRV_FLY_ASC_T : Fld := ⟨.die, 0x70720, 0x1000, 0x0, 8, 8, 0x32, [], .rwl⟩
def F.DRV_FLY_FLY_T : Fld := ⟨.die, 0x70720, 0x1000, 0x0, 0, 5, 0xA, [], .rwl⟩

-- DRV_FAMP (13_drive_and_chop_roles.md, R355)
def F.DRV_FAMP_POINT : Fld := ⟨.die, 0x70724, 0x1000, 0x0, 0, 20, 0x0, [], .rwl⟩

-- DRV_FVDC (13_drive_and_chop_roles.md, R355)
def F.DRV_FVDC_POINT : Fld := ⟨.die, 0x70728, 0x1000, 0x0, 0, 20, 0x0, [], .rwl⟩

-- DRV_FLIM (13_drive_and_chop_roles.md, R355)
def F.DRV_FLIM_KMAX : Fld := ⟨.die, 0x7072C, 0x1000, 0x0, 0, 24, 0x49E69D, [], .rwl⟩

-- DRV_FAMIN (13_drive_and_chop_roles.md, R355)
def F.DRV_FAMIN_AMIN : Fld := ⟨.die, 0x70730, 0x1000, 0x0, 0, 24, 0x147AE, [], .rwl⟩

-- DRV_FCMD (13_drive_and_chop_roles.md, R355)
def F.DRV_FCMD_SEEDED : Fld := ⟨.die, 0x70734, 0x1000, 0x0, 0, 1, 0x0, [], .wo⟩

-- DRV_WSCFG (13_drive_and_chop_roles.md, R355)
def F.DRV_WSCFG_WC0 : Fld := ⟨.die, 0x70738, 0x1000, 0x0, 16, 6, 0x0, [], .rwl⟩
def F.DRV_WSCFG_NWC : Fld := ⟨.die, 0x70738, 0x1000, 0x0, 8, 4, 0x0, [], .rwl⟩

-- DRV_WSCMD (13_drive_and_chop_roles.md, R355)
def F.DRV_WSCMD_CMD : Fld := ⟨.die, 0x7073C, 0x1000, 0x0, 0, 2, 0x0, [], .wo⟩

-- CH_CFG (13_drive_and_chop_roles.md, R355)
def F.CH_CFG_EN : Fld := ⟨.die, 0x70800, 0x1000, 0x0, 23, 1, 0x0, [], .rwl⟩
def F.CH_CFG_NSEC : Fld := ⟨.die, 0x70800, 0x1000, 0x0, 16, 4, 0x1, [], .rwl⟩
def F.CH_CFG_SPER : Fld := ⟨.die, 0x70800, 0x1000, 0x0, 0, 16, 0x64, [], .rwl⟩

-- CH_VDC (13_drive_and_chop_roles.md, R355)
def F.CH_VDC_POINT : Fld := ⟨.die, 0x70804, 0x1000, 0x0, 0, 20, 0x0, [], .rwl⟩

-- CH_VON (13_drive_and_chop_roles.md, R355)
def F.CH_VON_VON : Fld := ⟨.die, 0x70808, 0x1000, 0x0, 0, 24, 0x7FFFFF, [], .rw⟩

-- CH_VOFF (13_drive_and_chop_roles.md, R355)
def F.CH_VOFF_VOFF : Fld := ⟨.die, 0x7080C, 0x1000, 0x0, 0, 24, 0x0, [], .rw⟩

-- CH_VSTEP (13_drive_and_chop_roles.md, R355)
def F.CH_VSTEP_VSTEP : Fld := ⟨.die, 0x70810, 0x1000, 0x0, 0, 24, 0x0, [], .rw⟩

-- CH_STAT (13_drive_and_chop_roles.md, R355)
def F.CH_STAT_CFG_RES : Fld := ⟨.die, 0x70814, 0x1000, 0x0, 28, 4, 0x0, [], .ro⟩
def F.CH_STAT_ENG : Fld := ⟨.die, 0x70814, 0x1000, 0x0, 16, 8, 0x0, [], .ro⟩
def F.CH_STAT_LOCK : Fld := ⟨.die, 0x70814, 0x1000, 0x0, 8, 8, 0x0, [], .ro⟩
def F.CH_STAT_ALL_LOCK : Fld := ⟨.die, 0x70814, 0x1000, 0x0, 3, 1, 0x0, [], .w1c⟩
def F.CH_STAT_OT : Fld := ⟨.die, 0x70814, 0x1000, 0x0, 2, 1, 0x0, [], .w1c⟩

-- CH_AVPT (13_drive_and_chop_roles.md, R355)
def F.CH_AVPT_EN : Fld := ⟨.die, 0x70818, 0x1000, 0x0, 23, 1, 0x0, [], .rwl⟩
def F.CH_AVPT_POINT : Fld := ⟨.die, 0x70818, 0x1000, 0x0, 0, 20, 0x0, [], .rwl⟩

-- CH_TAMB (13_drive_and_chop_roles.md, R355)
def F.CH_TAMB_TAMB : Fld := ⟨.die, 0x7081C, 0x1000, 0x0, 0, 8, 0x28, [], .rw⟩

-- CH_SCFG (13_drive_and_chop_roles.md, R355)
def F.CH_SCFG_LEG : Fld := ⟨.die, 0x70820, 0x1000, 0x20, 16, 8, 0x0, [], .rwl⟩
def F.CH_SCFG_ON : Fld := ⟨.die, 0x70820, 0x1000, 0x20, 14, 2, 0x1, [], .rwl⟩

-- CH_K (13_drive_and_chop_roles.md, R355)
def F.CH_K_K : Fld := ⟨.die, 0x70824, 0x1000, 0x20, 0, 24, 0x0, [], .rwl⟩

-- CH_RTH (13_drive_and_chop_roles.md, R355)
def F.CH_RTH_RTH : Fld := ⟨.die, 0x70828, 0x1000, 0x20, 0, 24, 0x0, [], .rwl⟩

-- CH_CTH (13_drive_and_chop_roles.md, R355)
def F.CH_CTH_CTH : Fld := ⟨.die, 0x7082C, 0x1000, 0x20, 0, 24, 0x0, [], .rwl⟩

-- CH_TLIM (13_drive_and_chop_roles.md, R355)
def F.CH_TLIM_TLIM : Fld := ⟨.die, 0x70830, 0x1000, 0x20, 16, 12, 0x1F4, [], .rw⟩
def F.CH_TLIM_THYS : Fld := ⟨.die, 0x70830, 0x1000, 0x20, 0, 12, 0x32, [], .rw⟩

-- CH_TEST (13_drive_and_chop_roles.md, R355)
def F.CH_TEST_TEST : Fld := ⟨.die, 0x70834, 0x1000, 0x20, 0, 24, 0x2800, [], .rw⟩

-- CH_EKJ (13_drive_and_chop_roles.md, R355)
def F.CH_EKJ_KJ : Fld := ⟨.die, 0x70838, 0x1000, 0x20, 0, 32, 0x0, [], .ro⟩

-- CH_TMEAS (13_drive_and_chop_roles.md, R355)
def F.CH_TMEAS_EN : Fld := ⟨.die, 0x7083C, 0x1000, 0x20, 23, 1, 0x0, [], .rwl⟩
def F.CH_TMEAS_POINT : Fld := ⟨.die, 0x7083C, 0x1000, 0x20, 0, 20, 0x0, [], .rwl⟩

-- GRD_CFG (14_grid_and_track_roles.md, R388)
def F.GRD_CFG_EN : Fld := ⟨.die, 0x70A00, 0x1000, 0x0, 23, 1, 0x0, [], .rwl⟩
def F.GRD_CFG_QPRI : Fld := ⟨.die, 0x70A00, 0x1000, 0x0, 21, 1, 0x1, [], .rw⟩
def F.GRD_CFG_FW_EN : Fld := ⟨.die, 0x70A00, 0x1000, 0x0, 20, 1, 0x1, [], .rw⟩
def F.GRD_CFG_MU : Fld := ⟨.die, 0x70A00, 0x1000, 0x0, 19, 1, 0x0, [], .rwl⟩
def F.GRD_CFG_QMODE : Fld := ⟨.die, 0x70A00, 0x1000, 0x0, 16, 3, 0x0, [], .rw⟩
def F.GRD_CFG_BASE : Fld := ⟨.die, 0x70A00, 0x1000, 0x0, 12, 4, 0x0, [], .rwl⟩

-- GRD_STAT (14_grid_and_track_roles.md, R388)
def F.GRD_STAT_CFG_RES : Fld := ⟨.die, 0x70A04, 0x1000, 0x0, 28, 4, 0x0, [], .ro⟩
def F.GRD_STAT_VREG : Fld := ⟨.die, 0x70A04, 0x1000, 0x0, 26, 2, 0x0, [], .ro⟩
def F.GRD_STAT_BASELINE : Fld := ⟨.die, 0x70A04, 0x1000, 0x0, 23, 1, 0x0, [], .ro⟩
def F.GRD_STAT_AI_ARMED : Fld := ⟨.die, 0x70A04, 0x1000, 0x0, 22, 1, 0x0, [], .ro⟩
def F.GRD_STAT_ES_OK : Fld := ⟨.die, 0x70A04, 0x1000, 0x0, 21, 1, 0x0, [], .ro⟩
def F.GRD_STAT_MC_NOW : Fld := ⟨.die, 0x70A04, 0x1000, 0x0, 20, 1, 0x0, [], .ro⟩
def F.GRD_STAT_FW_NOW : Fld := ⟨.die, 0x70A04, 0x1000, 0x0, 19, 1, 0x0, [], .ro⟩
def F.GRD_STAT_PROBING : Fld := ⟨.die, 0x70A04, 0x1000, 0x0, 18, 1, 0x0, [], .ro⟩
def F.GRD_STAT_ICAUSE : Fld := ⟨.die, 0x70A04, 0x1000, 0x0, 8, 5, 0x0, [], .ro⟩
def F.GRD_STAT_TRIPPED : Fld := ⟨.die, 0x70A04, 0x1000, 0x0, 7, 1, 0x0, [], .w1c⟩
def F.GRD_STAT_ISLAND : Fld := ⟨.die, 0x70A04, 0x1000, 0x0, 6, 1, 0x0, [], .w1c⟩
def F.GRD_STAT_MC : Fld := ⟨.die, 0x70A04, 0x1000, 0x0, 5, 1, 0x0, [], .w1c⟩
def F.GRD_STAT_TRIP_ENT : Fld := ⟨.die, 0x70A04, 0x1000, 0x0, 0, 4, 0x0, [], .ro⟩

-- GRD_VNOM (14_grid_and_track_roles.md, R388)
def F.GRD_VNOM_V_NOM : Fld := ⟨.die, 0x70A08, 0x1000, 0x0, 0, 24, 0x0, [], .rwl⟩

-- GRD_OUT (14_grid_and_track_roles.md, R388)
def F.GRD_OUT_POINT : Fld := ⟨.die, 0x70A0C, 0x1000, 0x0, 0, 20, 0x0, [], .rwl⟩

-- GRD_PMEAS (14_grid_and_track_roles.md, R388)
def F.GRD_PMEAS_POINT : Fld := ⟨.die, 0x70A10, 0x1000, 0x0, 0, 20, 0x0, [], .rwl⟩

-- GRD_QSP (14_grid_and_track_roles.md, R388)
def F.GRD_QSP_POINT : Fld := ⟨.die, 0x70A14, 0x1000, 0x0, 0, 20, 0x0, [], .rwl⟩

-- GRD_PMAX (14_grid_and_track_roles.md, R388)
def F.GRD_PMAX_PMAX : Fld := ⟨.die, 0x70A18, 0x1000, 0x0, 0, 24, 0x7FFFFF, [], .rw⟩

-- GRD_START (14_grid_and_track_roles.md, R388)
def F.GRD_START_START_LIMIT : Fld := ⟨.die, 0x70A1C, 0x1000, 0x0, 0, 24, 0xCCCCD, [], .rwl⟩

-- GRD_VRT (14_grid_and_track_roles.md, R388)
def F.GRD_VRT_EN : Fld := ⟨.die, 0x70A20, 0x1000, 0x8, 31, 1, 0x0, [1, 1, 1, 1, 1, 1, 1, 0], .rw⟩
def F.GRD_VRT_DIR : Fld := ⟨.die, 0x70A20, 0x1000, 0x8, 30, 1, 0x0, [1, 1, 0, 0, 1, 0, 0, 0], .rw⟩
def F.GRD_VRT_ACT : Fld := ⟨.die, 0x70A20, 0x1000, 0x8, 28, 2, 0x0, [0, 0, 0, 0, 1, 1, 2, 0], .rw⟩
def F.GRD_VRT_LEVEL : Fld := ⟨.die, 0x70A20, 0x1000, 0x8, 0, 16, 0x0, [19661, 18022, 14418, 8192, 18022, 8192, 14418, 0], .rw⟩

-- GRD_VRT_T (14_grid_and_track_roles.md, R388)
def F.GRD_VRT_T_TIME : Fld := ⟨.die, 0x70A24, 0x1000, 0x8, 0, 24, 0x0, [160, 13000, 21000, 2000, 0, 0, 0, 0], .rw⟩

-- GRD_FRT (14_grid_and_track_roles.md, R388)
def F.GRD_FRT_EN : Fld := ⟨.die, 0x70A60, 0x1000, 0x8, 31, 1, 0x0, [1, 1, 1, 1], .rw⟩
def F.GRD_FRT_DIR : Fld := ⟨.die, 0x70A60, 0x1000, 0x8, 30, 1, 0x0, [1, 1, 0, 0], .rw⟩
def F.GRD_FRT_DEV : Fld := ⟨.die, 0x70A60, 0x1000, 0x8, 0, 16, 0x0, [512, 307, 384, 896], .rw⟩

-- GRD_FRT_T (14_grid_and_track_roles.md, R388)
def F.GRD_FRT_T_TIME : Fld := ⟨.die, 0x70A64, 0x1000, 0x8, 0, 24, 0x0, [160, 300000, 300000, 160], .rw⟩

-- GRD_AI (14_grid_and_track_roles.md, R388)
def F.GRD_AI_ROCOF_EN : Fld := ⟨.die, 0x70A80, 0x1000, 0x0, 23, 1, 0x1, [], .rwl⟩
def F.GRD_AI_VS_EN : Fld := ⟨.die, 0x70A80, 0x1000, 0x0, 22, 1, 0x1, [], .rwl⟩
def F.GRD_AI_SFS_EN : Fld := ⟨.die, 0x70A80, 0x1000, 0x0, 21, 1, 0x1, [], .rwl⟩
def F.GRD_AI_PRB_EN : Fld := ⟨.die, 0x70A80, 0x1000, 0x0, 20, 1, 0x1, [], .rwl⟩
def F.GRD_AI_ZC_EN : Fld := ⟨.die, 0x70A80, 0x1000, 0x0, 19, 1, 0x1, [], .rwl⟩
def F.GRD_AI_LOL_EN : Fld := ⟨.die, 0x70A80, 0x1000, 0x0, 18, 1, 0x1, [], .rwl⟩
def F.GRD_AI_VS_LIM : Fld := ⟨.die, 0x70A80, 0x1000, 0x0, 8, 8, 0x1E, [], .rw⟩
def F.GRD_AI_FD_LIM : Fld := ⟨.die, 0x70A80, 0x1000, 0x0, 0, 8, 0x40, [], .rw⟩

-- GRD_ROCOF (14_grid_and_track_roles.md, R388)
def F.GRD_ROCOF_LIM : Fld := ⟨.die, 0x70A84, 0x1000, 0x0, 16, 16, 0x380, [], .rw⟩
def F.GRD_ROCOF_W : Fld := ⟨.die, 0x70A84, 0x1000, 0x0, 0, 16, 0x64, [], .rw⟩

-- GRD_SFS (14_grid_and_track_roles.md, R388)
def F.GRD_SFS_K : Fld := ⟨.die, 0x70A88, 0x1000, 0x0, 12, 12, 0x1F4, [], .rw⟩
def F.GRD_SFS_MAX : Fld := ⟨.die, 0x70A88, 0x1000, 0x0, 0, 12, 0x1F4, [], .rw⟩

-- GRD_PRB (14_grid_and_track_roles.md, R388)
def F.GRD_PRB_ZLIM : Fld := ⟨.die, 0x70A8C, 0x1000, 0x0, 16, 16, 0x2000, [], .rw⟩
def F.GRD_PRB_CYC : Fld := ⟨.die, 0x70A8C, 0x1000, 0x0, 12, 4, 0x2, [], .rw⟩
def F.GRD_PRB_PER : Fld := ⟨.die, 0x70A8C, 0x1000, 0x0, 0, 12, 0x3E8, [], .rw⟩

-- GRD_PRBA (14_grid_and_track_roles.md, R388)
def F.GRD_PRBA_PRB_AMP : Fld := ⟨.die, 0x70A90, 0x1000, 0x0, 0, 24, 0x147AE, [], .rw⟩

-- GRD_TIME (14_grid_and_track_roles.md, R388)
def F.GRD_TIME_LOL_T : Fld := ⟨.die, 0x70A94, 0x1000, 0x0, 16, 16, 0xC8, [], .rw⟩
def F.GRD_TIME_RESTORE : Fld := ⟨.die, 0x70A94, 0x1000, 0x0, 0, 16, 0x0, [], .rw⟩

-- GRD_FW (14_grid_and_track_roles.md, R388)
def F.GRD_FW_DB : Fld := ⟨.die, 0x70A98, 0x1000, 0x0, 16, 16, 0x24, [], .rw⟩
def F.GRD_FW_K : Fld := ⟨.die, 0x70A98, 0x1000, 0x0, 0, 16, 0x32, [], .rw⟩

-- GRD_FWT (14_grid_and_track_roles.md, R388)
def F.GRD_FWT_FW_T : Fld := ⟨.die, 0x70A9C, 0x1000, 0x0, 16, 16, 0x1388, [], .rw⟩
def F.GRD_FWT_VV_T : Fld := ⟨.die, 0x70A9C, 0x1000, 0x0, 0, 16, 0x1388, [], .rw⟩

-- GRD_VV (14_grid_and_track_roles.md, R388)
def F.GRD_VV_V1 : Fld := ⟨.die, 0x70AA0, 0x1000, 0x0, 16, 16, 0x3AE1, [], .rw⟩
def F.GRD_VV_V2 : Fld := ⟨.die, 0x70AA0, 0x1000, 0x0, 0, 16, 0x3EB8, [], .rw⟩

-- GRD_VV2 (14_grid_and_track_roles.md, R388)
def F.GRD_VV2_V3 : Fld := ⟨.die, 0x70AA4, 0x1000, 0x0, 16, 16, 0x4148, [], .rw⟩
def F.GRD_VV2_V4 : Fld := ⟨.die, 0x70AA4, 0x1000, 0x0, 0, 16, 0x451F, [], .rw⟩

-- GRD_VVQ1 (14_grid_and_track_roles.md, R388)
def F.GRD_VVQ1_Q1 : Fld := ⟨.die, 0x70AA8, 0x1000, 0x0, 0, 24, 0x3851EC, [], .rw⟩

-- GRD_VVQ4 (14_grid_and_track_roles.md, R388)
def F.GRD_VVQ4_Q4 : Fld := ⟨.die, 0x70AAC, 0x1000, 0x0, 0, 24, 0xC7AE14, [], .rw⟩

-- GRD_QCAP (14_grid_and_track_roles.md, R388)
def F.GRD_QCAP_QCAP : Fld := ⟨.die, 0x70AB0, 0x1000, 0x0, 0, 24, 0x3851EC, [], .rw⟩

-- GRD_KPF (14_grid_and_track_roles.md, R388)
def F.GRD_KPF_KPF : Fld := ⟨.die, 0x70AB4, 0x1000, 0x0, 0, 24, 0x0, [], .rw⟩

-- GRD_ES (14_grid_and_track_roles.md, R388)
def F.GRD_ES_VLO : Fld := ⟨.die, 0x70AB8, 0x1000, 0x0, 16, 16, 0x3AB0, [], .rw⟩
def F.GRD_ES_VHI : Fld := ⟨.die, 0x70AB8, 0x1000, 0x0, 0, 16, 0x4333, [], .rw⟩

-- GRD_ES2 (14_grid_and_track_roles.md, R388)
def F.GRD_ES2_FLO : Fld := ⟨.die, 0x70ABC, 0x1000, 0x0, 24, 8, 0x80, [], .rw⟩
def F.GRD_ES2_FHI : Fld := ⟨.die, 0x70ABC, 0x1000, 0x0, 16, 8, 0x1A, [], .rw⟩
def F.GRD_ES2_ES_T : Fld := ⟨.die, 0x70ABC, 0x1000, 0x0, 0, 16, 0x12C, [], .rw⟩

-- GRD_MEAS (14_grid_and_track_roles.md, R388)
def F.GRD_MEAS_VLOW : Fld := ⟨.die, 0x70AC0, 0x1000, 0x0, 16, 16, 0x0, [], .ro⟩
def F.GRD_MEAS_VHIGH : Fld := ⟨.die, 0x70AC0, 0x1000, 0x0, 0, 16, 0x0, [], .ro⟩

-- GRD_ZM (14_grid_and_track_roles.md, R388)
def F.GRD_ZM_PRB_CNT : Fld := ⟨.die, 0x70AC4, 0x1000, 0x0, 16, 16, 0x0, [], .ro⟩
def F.GRD_ZM_Z : Fld := ⟨.die, 0x70AC4, 0x1000, 0x0, 0, 16, 0x0, [], .ro⟩

-- GRD_CNT (14_grid_and_track_roles.md, R388)
def F.GRD_CNT_MC_CNT : Fld := ⟨.die, 0x70AC8, 0x1000, 0x0, 16, 16, 0x0, [], .ro⟩
def F.GRD_CNT_SUSP_CNT : Fld := ⟨.die, 0x70AC8, 0x1000, 0x0, 0, 16, 0x0, [], .ro⟩

-- TRK_CFG (14_grid_and_track_roles.md, R388)
def F.TRK_CFG_EN : Fld := ⟨.die, 0x70B00, 0x1000, 0x0, 23, 1, 0x0, [], .rwl⟩
def F.TRK_CFG_SW_EN : Fld := ⟨.die, 0x70B00, 0x1000, 0x0, 22, 1, 0x1, [], .rw⟩
def F.TRK_CFG_CV : Fld := ⟨.die, 0x70B00, 0x1000, 0x0, 19, 3, 0x0, [], .rwl⟩
def F.TRK_CFG_CI : Fld := ⟨.die, 0x70B00, 0x1000, 0x0, 16, 3, 0x1, [], .rwl⟩
def F.TRK_CFG_SWEEP_MIN : Fld := ⟨.die, 0x70B00, 0x1000, 0x0, 8, 8, 0xA, [], .rw⟩

-- TRK_STAT (14_grid_and_track_roles.md, R388)
def F.TRK_STAT_CFG_RES : Fld := ⟨.die, 0x70B04, 0x1000, 0x0, 28, 4, 0x0, [], .ro⟩
def F.TRK_STAT_SWEEPING : Fld := ⟨.die, 0x70B04, 0x1000, 0x0, 23, 1, 0x0, [], .ro⟩
def F.TRK_STAT_WAIT_GMP : Fld := ⟨.die, 0x70B04, 0x1000, 0x0, 22, 1, 0x0, [], .ro⟩
def F.TRK_STAT_CURT_NOW : Fld := ⟨.die, 0x70B04, 0x1000, 0x0, 21, 1, 0x0, [], .ro⟩
def F.TRK_STAT_HOLD : Fld := ⟨.die, 0x70B04, 0x1000, 0x0, 20, 1, 0x0, [], .ro⟩
def F.TRK_STAT_CURT : Fld := ⟨.die, 0x70B04, 0x1000, 0x0, 3, 1, 0x0, [], .w1c⟩
def F.TRK_STAT_SW_FAIL : Fld := ⟨.die, 0x70B04, 0x1000, 0x0, 2, 1, 0x0, [], .w1c⟩
def F.TRK_STAT_SW_DONE : Fld := ⟨.die, 0x70B04, 0x1000, 0x0, 1, 1, 0x0, [], .w1c⟩

-- TRK_VPT (14_grid_and_track_roles.md, R388)
def F.TRK_VPT_POINT : Fld := ⟨.die, 0x70B08, 0x1000, 0x0, 0, 20, 0x0, [], .rwl⟩

-- TRK_IPT (14_grid_and_track_roles.md, R388)
def F.TRK_IPT_POINT : Fld := ⟨.die, 0x70B0C, 0x1000, 0x0, 0, 20, 0x0, [], .rwl⟩

-- TRK_OUT (14_grid_and_track_roles.md, R388)
def F.TRK_OUT_POINT : Fld := ⟨.die, 0x70B10, 0x1000, 0x0, 0, 20, 0x0, [], .rwl⟩

-- TRK_BUS (14_grid_and_track_roles.md, R388)
def F.TRK_BUS_POINT : Fld := ⟨.die, 0x70B14, 0x1000, 0x0, 0, 20, 0x0, [], .rwl⟩

-- TRK_PER (14_grid_and_track_roles.md, R388)
def F.TRK_PER_TPER : Fld := ⟨.die, 0x70B18, 0x1000, 0x0, 0, 24, 0xF4240, [], .rwl⟩

-- TRK_SMIN (14_grid_and_track_roles.md, R388)
def F.TRK_SMIN_SMIN : Fld := ⟨.die, 0x70B1C, 0x1000, 0x0, 0, 24, 0x0, [], .rw⟩

-- TRK_SMAX (14_grid_and_track_roles.md, R388)
def F.TRK_SMAX_SMAX : Fld := ⟨.die, 0x70B20, 0x1000, 0x0, 0, 24, 0x0, [], .rw⟩

-- TRK_KSTEP (14_grid_and_track_roles.md, R388)
def F.TRK_KSTEP_KSTEP : Fld := ⟨.die, 0x70B24, 0x1000, 0x0, 0, 24, 0x10000, [], .rw⟩

-- TRK_SDB (14_grid_and_track_roles.md, R388)
def F.TRK_SDB_SDB : Fld := ⟨.die, 0x70B28, 0x1000, 0x0, 0, 24, 0x0, [], .rw⟩

-- TRK_VMIN (14_grid_and_track_roles.md, R388)
def F.TRK_VMIN_VMIN : Fld := ⟨.die, 0x70B2C, 0x1000, 0x0, 0, 24, 0x0, [], .rw⟩

-- TRK_VMAX (14_grid_and_track_roles.md, R388)
def F.TRK_VMAX_VMAX : Fld := ⟨.die, 0x70B30, 0x1000, 0x0, 0, 24, 0x7FFFFF, [], .rw⟩

-- TRK_CURT (14_grid_and_track_roles.md, R388)
def F.TRK_CURT_CURT : Fld := ⟨.die, 0x70B34, 0x1000, 0x0, 0, 24, 0x7FFFFF, [], .rw⟩

-- TRK_CHYS (14_grid_and_track_roles.md, R388)
def F.TRK_CHYS_CHYS : Fld := ⟨.die, 0x70B38, 0x1000, 0x0, 0, 24, 0x0, [], .rw⟩

-- TRK_SW (14_grid_and_track_roles.md, R388)
def F.TRK_SW_SW_T : Fld := ⟨.die, 0x70B3C, 0x1000, 0x0, 16, 16, 0x320, [], .rw⟩
def F.TRK_SW_SW_TMO : Fld := ⟨.die, 0x70B3C, 0x1000, 0x0, 0, 16, 0x64, [], .rw⟩

-- TRK_DISP (14_grid_and_track_roles.md, R388)
def F.TRK_DISP_EN : Fld := ⟨.die, 0x70B40, 0x1000, 0x0, 23, 1, 0x0, [], .rwl⟩
def F.TRK_DISP_ENGTASK : Fld := ⟨.die, 0x70B40, 0x1000, 0x0, 0, 10, 0x0, [], .rwl⟩

-- TRK_GMP (14_grid_and_track_roles.md, R388)
def F.TRK_GMP_VOLT : Fld := ⟨.die, 0x70B44, 0x1000, 0x0, 0, 24, 0x0, [], .wo⟩

-- TRK_CNT (14_grid_and_track_roles.md, R388)
def F.TRK_CNT_SWEEP_CNT : Fld := ⟨.die, 0x70B48, 0x1000, 0x0, 16, 16, 0x0, [], .ro⟩
def F.TRK_CNT_SWFAIL_CNT : Fld := ⟨.die, 0x70B48, 0x1000, 0x0, 0, 16, 0x0, [], .ro⟩

-- TRK_VREF (14_grid_and_track_roles.md, R388)
def F.TRK_VREF_VREF : Fld := ⟨.die, 0x70B4C, 0x1000, 0x0, 0, 24, 0x0, [], .ro⟩

-- REG_LCFG (12_regulate_role.md, R332)
def F.REG_LCFG_PH : Fld := ⟨.die, 0x78300, 0x10, 0x0, 23, 1, 0x0, [], .rwl⟩
def F.REG_LCFG_LOST : Fld := ⟨.die, 0x78300, 0x10, 0x0, 22, 1, 0x0, [], .ro⟩
def F.REG_LCFG_ACT : Fld := ⟨.die, 0x78300, 0x10, 0x0, 21, 1, 0x0, [], .ro⟩
def F.REG_LCFG_LIM : Fld := ⟨.die, 0x78300, 0x10, 0x0, 20, 1, 0x0, [], .w1c⟩
def F.REG_LCFG_ORDER : Fld := ⟨.die, 0x78300, 0x10, 0x0, 14, 6, 0x0, [], .rwl⟩
def F.REG_LCFG_CMP : Fld := ⟨.die, 0x78300, 0x10, 0x0, 8, 6, 0x0, [], .rwl⟩
def F.REG_LCFG_TRIM : Fld := ⟨.die, 0x78300, 0x10, 0x0, 0, 8, 0x0, [], .rw⟩

-- REG_LIPT (12_regulate_role.md, R332)
def F.REG_LIPT_POINT : Fld := ⟨.die, 0x78304, 0x10, 0x0, 0, 20, 0x0, [], .rwl⟩

-- REG_LILIM (12_regulate_role.md, R332)
def F.REG_LILIM_ILIM : Fld := ⟨.die, 0x78308, 0x10, 0x0, 0, 24, 0x7FFFFF, [], .rw⟩

-- REG_LIF (12_regulate_role.md, R332)
def F.REG_LIF_IF : Fld := ⟨.die, 0x7830C, 0x10, 0x0, 0, 24, 0x0, [], .ro⟩

-- DRV_LCFG (13_drive_and_chop_roles.md, R355)
def F.DRV_LCFG_PH : Fld := ⟨.die, 0x78500, 0x4, 0x0, 23, 1, 0x0, [], .rwl⟩
def F.DRV_LCFG_QG_EN : Fld := ⟨.die, 0x78500, 0x4, 0x0, 22, 1, 0x0, [], .rwl⟩
def F.DRV_LCFG_QG : Fld := ⟨.die, 0x78500, 0x4, 0x0, 20, 2, 0x0, [], .rwl⟩

end Sys2Proof.Machine
end

