-- ==== Sys2Proof/Machine/RegsLeg.lean ====
section
/-!
DEFINITION. The register fields of the legs, gate ports, converters, modulators, comparators, references and owner tables (chapters 06 to 09, 11):
one name per field of the field tables of the spec, with its place, width, reset value and access class (R12, R571).
-/
namespace Sys2Proof.Machine

-- LEG_MODE (08_pwm_and_legs.md, R246)
def F.LEG_MODE_EN : Fld := ⟨.die, 0x20000, 0x40, 0x0, 23, 1, 0x0, [], .rwl⟩
def F.LEG_MODE_WAVE : Fld := ⟨.die, 0x20000, 0x40, 0x0, 20, 2, 0x0, [], .rwl⟩
def F.LEG_MODE_BOUND : Fld := ⟨.die, 0x20000, 0x40, 0x0, 18, 2, 0x0, [], .rwl⟩
def F.LEG_MODE_BASE : Fld := ⟨.die, 0x20000, 0x40, 0x0, 12, 4, 0x0, [], .rwl⟩

-- LEG_CFG (08_pwm_and_legs.md, R246)
def F.LEG_CFG_RISE_DLY : Fld := ⟨.die, 0x20004, 0x40, 0x0, 16, 16, 0x200, [], .rws⟩
def F.LEG_CFG_FALL_DLY : Fld := ⟨.die, 0x20004, 0x40, 0x0, 0, 16, 0x200, [], .rws⟩

-- LEG_DUTY (08_pwm_and_legs.md, R246)
def F.LEG_DUTY_DUTY : Fld := ⟨.die, 0x20008, 0x40, 0x0, 0, 24, 0x0, [], .rws⟩

-- LEG_PER (08_pwm_and_legs.md, R246)
def F.LEG_PER_PERIOD : Fld := ⟨.die, 0x2000C, 0x40, 0x0, 0, 24, 0x0, [], .rws⟩

-- LEG_MIN (08_pwm_and_legs.md, R246)
def F.LEG_MIN_MIN_PULSE : Fld := ⟨.die, 0x20010, 0x40, 0x0, 8, 8, 0x4, [], .rwl⟩
def F.LEG_MIN_MIN_GAP : Fld := ⟨.die, 0x20010, 0x40, 0x0, 0, 8, 0x4, [], .rwl⟩

-- LEG_FORCE (08_pwm_and_legs.md, R246)
def F.LEG_FORCE_FORCE : Fld := ⟨.die, 0x20014, 0x40, 0x0, 0, 2, 0x0, [], .rw⟩

-- LEG_STAT (08_pwm_and_legs.md, R246)
def F.LEG_STAT_TRIP : Fld := ⟨.die, 0x20018, 0x40, 0x0, 15, 1, 0x0, [], .ro⟩
def F.LEG_STAT_SAFE_OFF : Fld := ⟨.die, 0x20018, 0x40, 0x0, 14, 1, 0x0, [], .ro⟩
def F.LEG_STAT_FORCED : Fld := ⟨.die, 0x20018, 0x40, 0x0, 13, 1, 0x0, [], .ro⟩
def F.LEG_STAT_MASKED : Fld := ⟨.die, 0x20018, 0x40, 0x0, 12, 1, 0x0, [], .ro⟩
def F.LEG_STAT_CBC_HOLD : Fld := ⟨.die, 0x20018, 0x40, 0x0, 11, 1, 0x0, [], .ro⟩
def F.LEG_STAT_PEND : Fld := ⟨.die, 0x20018, 0x40, 0x0, 10, 1, 0x0, [], .ro⟩
def F.LEG_STAT_LATE : Fld := ⟨.die, 0x20018, 0x40, 0x0, 9, 1, 0x0, [], .w1c⟩
def F.LEG_STAT_PER_CONFLICT : Fld := ⟨.die, 0x20018, 0x40, 0x0, 8, 1, 0x0, [], .w1c⟩
def F.LEG_STAT_GL : Fld := ⟨.die, 0x20018, 0x40, 0x0, 1, 1, 0x0, [], .ro⟩
def F.LEG_STAT_GH : Fld := ⟨.die, 0x20018, 0x40, 0x0, 0, 1, 0x0, [], .ro⟩

-- LEG_CNT (08_pwm_and_legs.md, R246)
def F.LEG_CNT_MINP_CNT : Fld := ⟨.die, 0x2001C, 0x40, 0x0, 16, 16, 0x0, [], .ro⟩
def F.LEG_CNT_MING_CNT : Fld := ⟨.die, 0x2001C, 0x40, 0x0, 0, 16, 0x0, [], .ro⟩

-- LEG_CNT2 (08_pwm_and_legs.md, R246)
def F.LEG_CNT2_PER_IGN_CNT : Fld := ⟨.die, 0x20020, 0x40, 0x0, 16, 16, 0x0, [], .ro⟩
def F.LEG_CNT2_LATE_CNT : Fld := ⟨.die, 0x20020, 0x40, 0x0, 0, 16, 0x0, [], .ro⟩

-- GRP_MASK (08_pwm_and_legs.md, R246)
def F.GRP_MASK_PORT : Fld := ⟨.die, 0x20800, 0x4, 0x0, 8, 6, 0x3F, [], .ro⟩
def F.GRP_MASK_MASK : Fld := ⟨.die, 0x20800, 0x4, 0x0, 0, 6, 0x3F, [], .rw⟩

-- POS_CFG (08_pwm_and_legs.md, R246)
def F.POS_CFG_EN : Fld := ⟨.die, 0x20900, 0x40, 0x0, 23, 1, 0x0, [], .rwl⟩
def F.POS_CFG_GRP : Fld := ⟨.die, 0x20900, 0x40, 0x0, 21, 2, 0x0, [], .rwl⟩
def F.POS_CFG_FILT : Fld := ⟨.die, 0x20900, 0x40, 0x0, 16, 4, 0x2, [], .rwl⟩

-- POS_STAT (08_pwm_and_legs.md, R246)
def F.POS_STAT_INV_CNT : Fld := ⟨.die, 0x20904, 0x40, 0x0, 24, 8, 0x0, [], .ro⟩
def F.POS_STAT_OOS_CNT : Fld := ⟨.die, 0x20904, 0x40, 0x0, 16, 8, 0x0, [], .ro⟩
def F.POS_STAT_OOS : Fld := ⟨.die, 0x20904, 0x40, 0x0, 4, 1, 0x0, [], .w1c⟩
def F.POS_STAT_INV : Fld := ⟨.die, 0x20904, 0x40, 0x0, 3, 1, 0x0, [], .w1c⟩
def F.POS_STAT_STATE : Fld := ⟨.die, 0x20904, 0x40, 0x0, 0, 3, 0x0, [], .ro⟩

-- POS_TAB (08_pwm_and_legs.md, R246)
def F.POS_TAB_ANGLE : Fld := ⟨.die, 0x20920, 0x40, 0x4, 16, 16, 0x0, [], .rwl⟩
def F.POS_TAB_VALID : Fld := ⟨.die, 0x20920, 0x40, 0x4, 15, 1, 0x0, [], .rwl⟩
def F.POS_TAB_SUCC : Fld := ⟨.die, 0x20920, 0x40, 0x4, 11, 3, 0x0, [], .rwl⟩
def F.POS_TAB_MASK : Fld := ⟨.die, 0x20920, 0x40, 0x4, 0, 6, 0x0, [], .rwl⟩

-- LA_CMD (08_pwm_and_legs.md, R246)
def F.LA_CMD_HERD : Fld := ⟨.die, 0x20B00, 0x0, 0x0, 0, 3, 0x0, [], .wo⟩

-- LA_STAT (08_pwm_and_legs.md, R246)
def F.LA_STAT_MERGE_CNT : Fld := ⟨.die, 0x20B10, 0x4, 0x0, 16, 16, 0x0, [], .ro⟩
def F.LA_STAT_LA_CNT : Fld := ⟨.die, 0x20B10, 0x4, 0x0, 0, 16, 0x0, [], .ro⟩

-- LEG_PHASE (02_angle_bases_and_time.md, R60)
def F.LEG_PHASE_PHASE : Fld := ⟨.die, 0x20C00, 0x4, 0x0, 0, 32, 0x0, [], .rws⟩

-- GATE_CFG (09_gate_port_and_leg_protection.md, R274)
def F.GATE_CFG_EN : Fld := ⟨.die, 0x30000, 0x40, 0x0, 23, 1, 0x0, [], .rwl⟩
def F.GATE_CFG_ADAPT : Fld := ⟨.die, 0x30000, 0x40, 0x0, 22, 1, 0x1, [], .rw⟩
def F.GATE_CFG_NORET_TRIP : Fld := ⟨.die, 0x30000, 0x40, 0x0, 21, 1, 0x1, [], .rwl⟩
def F.GATE_CFG_MISS_LIM : Fld := ⟨.die, 0x30000, 0x40, 0x0, 16, 4, 0x8, [], .rwl⟩
def F.GATE_CFG_STR_MAX : Fld := ⟨.die, 0x30000, 0x40, 0x0, 12, 4, 0xF, [], .rw⟩
def F.GATE_CFG_STR_MIN : Fld := ⟨.die, 0x30000, 0x40, 0x0, 8, 4, 0x0, [], .rw⟩

-- GATE_TGT (09_gate_port_and_leg_protection.md, R274)
def F.GATE_TGT_T_ON : Fld := ⟨.die, 0x30004, 0x40, 0x0, 16, 10, 0x50, [], .rw⟩
def F.GATE_TGT_T_OFF : Fld := ⟨.die, 0x30004, 0x40, 0x0, 0, 10, 0x50, [], .rw⟩

-- GATE_LAW (09_gate_port_and_leg_protection.md, R274)
def F.GATE_LAW_DBAND : Fld := ⟨.die, 0x30008, 0x40, 0x0, 8, 8, 0x2, [], .rw⟩
def F.GATE_LAW_ILIM : Fld := ⟨.die, 0x30008, 0x40, 0x0, 0, 8, 0x8, [], .rw⟩

-- GATE_DEF (09_gate_port_and_leg_protection.md, R274)
def F.GATE_DEF_HS_ON : Fld := ⟨.die, 0x3000C, 0x40, 0x0, 12, 4, 0x8, [], .rwl⟩
def F.GATE_DEF_HS_OFF : Fld := ⟨.die, 0x3000C, 0x40, 0x0, 8, 4, 0x8, [], .rwl⟩
def F.GATE_DEF_LS_ON : Fld := ⟨.die, 0x3000C, 0x40, 0x0, 4, 4, 0x8, [], .rwl⟩
def F.GATE_DEF_LS_OFF : Fld := ⟨.die, 0x3000C, 0x40, 0x0, 0, 4, 0x8, [], .rwl⟩

-- GATE_STR (09_gate_port_and_leg_protection.md, R274)
def F.GATE_STR_CODES : Fld := ⟨.die, 0x30010, 0x40, 0x0, 0, 16, 0x8888, [], .ro⟩

-- GATE_EDGE (09_gate_port_and_leg_protection.md, R274)
def F.GATE_EDGE_CODE : Fld := ⟨.die, 0x30014, 0x40, 0x4, 28, 4, 0x0, [], .ro⟩
def F.GATE_EDGE_NOTR : Fld := ⟨.die, 0x30014, 0x40, 0x4, 27, 1, 0x0, [], .ro⟩
def F.GATE_EDGE_FRAMED : Fld := ⟨.die, 0x30014, 0x40, 0x4, 26, 1, 0x0, [], .ro⟩
def F.GATE_EDGE_W : Fld := ⟨.die, 0x30014, 0x40, 0x4, 0, 14, 0x0, [], .ro⟩

-- GATE_STAT (09_gate_port_and_leg_protection.md, R274)
def F.GATE_STAT_FRAME_LATE : Fld := ⟨.die, 0x30024, 0x40, 0x0, 7, 1, 0x0, [], .w1c⟩
def F.GATE_STAT_NORET : Fld := ⟨.die, 0x30024, 0x40, 0x0, 6, 1, 0x0, [], .w1c⟩
def F.GATE_STAT_GF_FLT : Fld := ⟨.die, 0x30024, 0x40, 0x0, 5, 1, 0x0, [], .ro⟩
def F.GATE_STAT_GF : Fld := ⟨.die, 0x30024, 0x40, 0x0, 4, 1, 0x0, [], .ro⟩
def F.GATE_STAT_PGS : Fld := ⟨.die, 0x30024, 0x40, 0x0, 3, 1, 0x1, [], .ro⟩
def F.GATE_STAT_PGL : Fld := ⟨.die, 0x30024, 0x40, 0x0, 2, 1, 0x0, [], .ro⟩
def F.GATE_STAT_PGH : Fld := ⟨.die, 0x30024, 0x40, 0x0, 1, 1, 0x0, [], .ro⟩

-- GATE_CNT (09_gate_port_and_leg_protection.md, R274)
def F.GATE_CNT_SKIP_CNT : Fld := ⟨.die, 0x30028, 0x40, 0x0, 16, 16, 0x0, [], .ro⟩
def F.GATE_CNT_MISS_CNT : Fld := ⟨.die, 0x30028, 0x40, 0x0, 0, 16, 0x0, [], .ro⟩

-- GATE_CNT2 (09_gate_port_and_leg_protection.md, R274)
def F.GATE_CNT2_STRAY_CNT : Fld := ⟨.die, 0x3002C, 0x40, 0x0, 16, 16, 0x0, [], .ro⟩
def F.GATE_CNT2_NOTR_CNT : Fld := ⟨.die, 0x3002C, 0x40, 0x0, 0, 16, 0x0, [], .ro⟩

-- GATE_TRIP (09_gate_port_and_leg_protection.md, R274)
def F.GATE_TRIP_TRIP_CNT : Fld := ⟨.die, 0x30030, 0x40, 0x0, 16, 16, 0x0, [], .ro⟩
def F.GATE_TRIP_TRIP : Fld := ⟨.die, 0x30030, 0x40, 0x0, 4, 1, 0x0, [], .ro⟩
def F.GATE_TRIP_NORET : Fld := ⟨.die, 0x30030, 0x40, 0x0, 3, 1, 0x0, [], .ro⟩
def F.GATE_TRIP_GF : Fld := ⟨.die, 0x30030, 0x40, 0x0, 2, 1, 0x0, [], .ro⟩
def F.GATE_TRIP_SC : Fld := ⟨.die, 0x30030, 0x40, 0x0, 1, 1, 0x0, [], .ro⟩
def F.GATE_TRIP_CMP : Fld := ⟨.die, 0x30030, 0x40, 0x0, 0, 1, 0x0, [], .ro⟩

-- GATE_TCLR (09_gate_port_and_leg_protection.md, R274)
def F.GATE_TCLR_CLR_REF_CNT : Fld := ⟨.die, 0x30034, 0x40, 0x0, 16, 16, 0x0, [], .ro⟩
def F.GATE_TCLR_CLR : Fld := ⟨.die, 0x30034, 0x40, 0x0, 0, 1, 0x0, [], .wo⟩

-- GATE_HPOL (09_gate_port_and_leg_protection.md, R274)
def F.GATE_HPOL_ACTIVE : Fld := ⟨.die, 0x30800, 0x4, 0x0, 8, 1, 0x0, [], .ro⟩
def F.GATE_HPOL_POLICY : Fld := ⟨.die, 0x30800, 0x4, 0x0, 0, 2, 0x0, [], .rwl⟩

-- ADC_CFG (06_acquisition.md, R189)
def F.ADC_CFG_EN : Fld := ⟨.die, 0x40000, 0x100, 0x0, 23, 1, 0x0, [], .rwl⟩
def F.ADC_CFG_MODE : Fld := ⟨.die, 0x40000, 0x100, 0x0, 21, 2, 0x0, [], .rwl⟩
def F.ADC_CFG_TLEN : Fld := ⟨.die, 0x40000, 0x100, 0x0, 16, 4, 0x0, [], .rwl⟩
def F.ADC_CFG_LEN : Fld := ⟨.die, 0x40000, 0x100, 0x0, 12, 4, 0x0, [], .rwl⟩

-- ADC_STAT (06_acquisition.md, R189)
def F.ADC_STAT_CHURN_STAGE : Fld := ⟨.die, 0x40004, 0x100, 0x0, 12, 4, 0x0, [], .ro⟩
def F.ADC_STAT_CAL_FAULT : Fld := ⟨.die, 0x40004, 0x100, 0x0, 11, 1, 0x0, [], .w1c⟩
def F.ADC_STAT_CAL_PENDING : Fld := ⟨.die, 0x40004, 0x100, 0x0, 10, 1, 0x1, [], .ro⟩
def F.ADC_STAT_TRIG_LOST : Fld := ⟨.die, 0x40004, 0x100, 0x0, 9, 1, 0x0, [], .w1c⟩
def F.ADC_STAT_OVR : Fld := ⟨.die, 0x40004, 0x100, 0x0, 8, 1, 0x0, [], .w1c⟩
def F.ADC_STAT_CLIP : Fld := ⟨.die, 0x40004, 0x100, 0x0, 7, 1, 0x0, [], .w1c⟩
def F.ADC_STAT_BUSY : Fld := ⟨.die, 0x40004, 0x100, 0x0, 6, 1, 0x0, [], .ro⟩
def F.ADC_STAT_URG_PEND : Fld := ⟨.die, 0x40004, 0x100, 0x0, 5, 1, 0x0, [], .ro⟩
def F.ADC_STAT_CUR_SLOT : Fld := ⟨.die, 0x40004, 0x100, 0x0, 0, 4, 0x0, [], .ro⟩

-- ADC_CNT (06_acquisition.md, R189)
def F.ADC_CNT_TRIG_LOST_CNT : Fld := ⟨.die, 0x40008, 0x100, 0x0, 16, 16, 0x0, [], .ro⟩
def F.ADC_CNT_OVR_CNT : Fld := ⟨.die, 0x40008, 0x100, 0x0, 0, 16, 0x0, [], .ro⟩

-- ADC_CNT2 (06_acquisition.md, R189)
def F.ADC_CNT2_URG_FULL_CNT : Fld := ⟨.die, 0x4000C, 0x100, 0x0, 16, 16, 0x0, [], .ro⟩
def F.ADC_CNT2_DEST_COAL_CNT : Fld := ⟨.die, 0x4000C, 0x100, 0x0, 0, 16, 0x0, [], .ro⟩

-- ADC_CHURN (06_acquisition.md, R189)
def F.ADC_CHURN_ROUNDS : Fld := ⟨.die, 0x40010, 0x100, 0x0, 0, 24, 0x0, [], .ro⟩

-- ADC_DATA (06_acquisition.md, R189)
def F.ADC_DATA_NEW : Fld := ⟨.die, 0x40014, 0x100, 0x0, 31, 1, 0x0, [], .rc⟩
def F.ADC_DATA_OVR : Fld := ⟨.die, 0x40014, 0x100, 0x0, 30, 1, 0x0, [], .rc⟩
def F.ADC_DATA_CAL_PENDING : Fld := ⟨.die, 0x40014, 0x100, 0x0, 29, 1, 0x1, [], .ro⟩
def F.ADC_DATA_CLIP : Fld := ⟨.die, 0x40014, 0x100, 0x0, 28, 1, 0x0, [], .ro⟩
def F.ADC_DATA_SLOT : Fld := ⟨.die, 0x40014, 0x100, 0x0, 24, 4, 0x0, [], .ro⟩
def F.ADC_DATA_VALUE : Fld := ⟨.die, 0x40014, 0x100, 0x0, 0, 24, 0x0, [], .ro⟩

-- ADC_URG (06_acquisition.md, R189)
def F.ADC_URG_GO : Fld := ⟨.die, 0x40018, 0x100, 0x0, 23, 1, 0x0, [], .wo⟩
def F.ADC_URG_INP : Fld := ⟨.die, 0x40018, 0x100, 0x0, 16, 3, 0x0, [], .rw⟩
def F.ADC_URG_AVG : Fld := ⟨.die, 0x40018, 0x100, 0x0, 12, 4, 0x0, [], .rw⟩
def F.ADC_URG_WIN : Fld := ⟨.die, 0x40018, 0x100, 0x0, 0, 8, 0x7, [], .rw⟩

-- ADC_UDATA (06_acquisition.md, R189)
def F.ADC_UDATA_NEW : Fld := ⟨.die, 0x4001C, 0x100, 0x0, 31, 1, 0x0, [], .rc⟩
def F.ADC_UDATA_CLIP : Fld := ⟨.die, 0x4001C, 0x100, 0x0, 28, 1, 0x0, [], .ro⟩
def F.ADC_UDATA_VALUE : Fld := ⟨.die, 0x4001C, 0x100, 0x0, 0, 24, 0x0, [], .ro⟩

-- SLOT_A (06_acquisition.md, R189)
def F.SLOT_A_RING : Fld := ⟨.die, 0x40040, 0x100, 0x8, 23, 1, 0x0, [], .rwl⟩
def F.SLOT_A_INP : Fld := ⟨.die, 0x40040, 0x100, 0x8, 20, 3, 0x0, [], .rwl⟩
def F.SLOT_A_AVG : Fld := ⟨.die, 0x40040, 0x100, 0x8, 16, 4, 0x0, [], .rwl⟩
def F.SLOT_A_WIN : Fld := ⟨.die, 0x40040, 0x100, 0x8, 0, 8, 0x7, [], .rwl⟩

-- SLOT_B (06_acquisition.md, R189)
def F.SLOT_B_PT_EN : Fld := ⟨.die, 0x40044, 0x100, 0x8, 23, 1, 0x0, [], .rwl⟩
def F.SLOT_B_POINT : Fld := ⟨.die, 0x40044, 0x100, 0x8, 0, 20, 0x0, [], .rwl⟩

-- SG_CONV (06_acquisition.md, R189)
def F.SG_CONV_CONV : Fld := ⟨.die, 0x40800, 0x8, 0x0, 0, 8, 0x0, [], .rwl⟩

-- SG_MOD (06_acquisition.md, R189)
def F.SG_MOD_MOD : Fld := ⟨.die, 0x40804, 0x8, 0x0, 0, 24, 0x0, [], .rwl⟩

-- ADC_REF (06_acquisition.md, R189)
def F.ADC_REF_SKIP_CNT : Fld := ⟨.die, 0x40900, 0x0, 0x0, 16, 16, 0x0, [], .ro⟩
def F.ADC_REF_CONV : Fld := ⟨.die, 0x40900, 0x0, 0x0, 0, 3, 0x7, [], .rw⟩

-- ADC_SKEW (06_acquisition.md, R189)
def F.ADC_SKEW_FAIL : Fld := ⟨.die, 0x40904, 0x0, 0x0, 8, 1, 0x0, [], .ro⟩
def F.ADC_SKEW_TRIM : Fld := ⟨.die, 0x40904, 0x0, 0x0, 0, 8, 0x0, [], .ro⟩

-- CAP_CFG (06_acquisition.md, R189)
def F.CAP_CFG_EN : Fld := ⟨.die, 0x41000, 0x40, 0x0, 23, 1, 0x0, [], .rw⟩
def F.CAP_CFG_RDTRK : Fld := ⟨.die, 0x41000, 0x40, 0x0, 22, 1, 0x0, [], .rw⟩
def F.CAP_CFG_STOPMK : Fld := ⟨.die, 0x41000, 0x40, 0x0, 21, 1, 0x0, [], .rw⟩
def F.CAP_CFG_DEC : Fld := ⟨.die, 0x41000, 0x40, 0x0, 0, 8, 0x0, [], .rw⟩

-- CAP_POST (06_acquisition.md, R189)
def F.CAP_POST_POST : Fld := ⟨.die, 0x41004, 0x40, 0x0, 0, 13, 0x0, [], .rw⟩

-- CAP_WIDX (06_acquisition.md, R189)
def F.CAP_WIDX_WRAP : Fld := ⟨.die, 0x41008, 0x40, 0x0, 13, 11, 0x0, [], .ro⟩
def F.CAP_WIDX_IDX : Fld := ⟨.die, 0x41008, 0x40, 0x0, 0, 13, 0x0, [], .ro⟩

-- CAP_RD (06_acquisition.md, R189)
def F.CAP_RD_RD : Fld := ⟨.die, 0x4100C, 0x40, 0x0, 0, 13, 0x0, [], .rw⟩

-- CAP_STAT (06_acquisition.md, R189)
def F.CAP_STAT_ROVR_CNT : Fld := ⟨.die, 0x41010, 0x40, 0x0, 16, 16, 0x0, [], .ro⟩
def F.CAP_STAT_MK_LOST_CNT : Fld := ⟨.die, 0x41010, 0x40, 0x0, 8, 8, 0x0, [], .ro⟩
def F.CAP_STAT_FROZEN : Fld := ⟨.die, 0x41010, 0x40, 0x0, 2, 1, 0x0, [], .w1c⟩
def F.CAP_STAT_ROVR : Fld := ⟨.die, 0x41010, 0x40, 0x0, 1, 1, 0x0, [], .w1c⟩

-- CAP_MK (06_acquisition.md, R189)
def F.CAP_MK_VALID : Fld := ⟨.die, 0x41014, 0x40, 0x0, 31, 1, 0x0, [], .rc⟩
def F.CAP_MK_CODE : Fld := ⟨.die, 0x41014, 0x40, 0x0, 16, 8, 0x0, [], .rc⟩
def F.CAP_MK_IDX : Fld := ⟨.die, 0x41014, 0x40, 0x0, 0, 13, 0x0, [], .rc⟩

-- CAP_PTR (06_acquisition.md, R189)
def F.CAP_PTR_PTR : Fld := ⟨.die, 0x41018, 0x40, 0x0, 0, 13, 0x0, [], .rw⟩

-- CAP_DATA (06_acquisition.md, R189)
def F.CAP_DATA_DATA : Fld := ⟨.die, 0x4101C, 0x40, 0x0, 0, 24, 0x0, [], .ro⟩

-- WC_CFG (06_acquisition.md, R192)
def F.WC_CFG_EN : Fld := ⟨.die, 0x42000, 0x10, 0x0, 23, 1, 0x0, [], .rw⟩
def F.WC_CFG_IRQ : Fld := ⟨.die, 0x42000, 0x10, 0x0, 22, 1, 0x0, [], .rw⟩
def F.WC_CFG_URG : Fld := ⟨.die, 0x42000, 0x10, 0x0, 21, 1, 0x0, [], .rw⟩
def F.WC_CFG_URG_CONV : Fld := ⟨.die, 0x42000, 0x10, 0x0, 18, 3, 0x0, [], .rw⟩
def F.WC_CFG_STATE : Fld := ⟨.die, 0x42000, 0x10, 0x0, 16, 2, 0x0, [], .ro⟩
def F.WC_CFG_EVT_LOW : Fld := ⟨.die, 0x42000, 0x10, 0x0, 15, 1, 0x0, [], .w1c⟩
def F.WC_CFG_EVT_HIGH : Fld := ⟨.die, 0x42000, 0x10, 0x0, 14, 1, 0x0, [], .w1c⟩
def F.WC_CFG_SRC : Fld := ⟨.die, 0x42000, 0x10, 0x0, 0, 8, 0x0, [], .rw⟩

-- WC_LO (06_acquisition.md, R192)
def F.WC_LO_LO : Fld := ⟨.die, 0x42004, 0x10, 0x0, 0, 24, 0x800000, [], .rw⟩

-- WC_HI (06_acquisition.md, R192)
def F.WC_HI_HI : Fld := ⟨.die, 0x42008, 0x10, 0x0, 0, 24, 0x7FFFFF, [], .rw⟩

-- WC_HYS (06_acquisition.md, R192)
def F.WC_HYS_HYS : Fld := ⟨.die, 0x4200C, 0x10, 0x0, 0, 23, 0x0, [], .rw⟩

-- MOD_CFG (06_acquisition.md, R199)
def F.MOD_CFG_EN : Fld := ⟨.die, 0x50000, 0x40, 0x0, 23, 1, 0x0, [], .rwl⟩
def F.MOD_CFG_CLK : Fld := ⟨.die, 0x50000, 0x40, 0x0, 21, 2, 0x0, [], .rwl⟩
def F.MOD_CFG_DLY : Fld := ⟨.die, 0x50000, 0x40, 0x0, 18, 3, 0x0, [], .rwl⟩
def F.MOD_CFG_ORD : Fld := ⟨.die, 0x50000, 0x40, 0x0, 17, 1, 0x0, [], .rwl⟩
def F.MOD_CFG_OSR : Fld := ⟨.die, 0x50000, 0x40, 0x0, 14, 3, 0x4, [], .rwl⟩
def F.MOD_CFG_SC_EN : Fld := ⟨.die, 0x50000, 0x40, 0x0, 13, 1, 0x0, [], .rw⟩
def F.MOD_CFG_SC_ORD : Fld := ⟨.die, 0x50000, 0x40, 0x0, 12, 1, 0x1, [], .rwl⟩
def F.MOD_CFG_SC_OSR : Fld := ⟨.die, 0x50000, 0x40, 0x0, 10, 2, 0x1, [], .rwl⟩
def F.MOD_CFG_PT_EN : Fld := ⟨.die, 0x50000, 0x40, 0x0, 9, 1, 0x0, [], .rwl⟩

-- MOD_SC (06_acquisition.md, R199)
def F.MOD_SC_THR : Fld := ⟨.die, 0x50004, 0x40, 0x0, 0, 23, 0x0, [], .rw⟩

-- MOD_PT (06_acquisition.md, R199)
def F.MOD_PT_POINT : Fld := ⟨.die, 0x50008, 0x40, 0x0, 0, 20, 0x0, [], .rwl⟩

-- MOD_DATA (06_acquisition.md, R199)
def F.MOD_DATA_VALID : Fld := ⟨.die, 0x5000C, 0x40, 0x0, 24, 1, 0x0, [], .ro⟩
def F.MOD_DATA_VALUE : Fld := ⟨.die, 0x5000C, 0x40, 0x0, 0, 24, 0x0, [], .ro⟩

-- MOD_LAT (06_acquisition.md, R199)
def F.MOD_LAT_AGE : Fld := ⟨.die, 0x50010, 0x40, 0x0, 24, 8, 0x0, [], .ro⟩
def F.MOD_LAT_VALUE : Fld := ⟨.die, 0x50010, 0x40, 0x0, 0, 24, 0x0, [], .ro⟩

-- MOD_STAT (06_acquisition.md, R199)
def F.MOD_STAT_SC_CNT : Fld := ⟨.die, 0x50014, 0x40, 0x0, 16, 16, 0x0, [], .ro⟩
def F.MOD_STAT_SC_HIT : Fld := ⟨.die, 0x50014, 0x40, 0x0, 2, 1, 0x0, [], .w1c⟩
def F.MOD_STAT_STUCK : Fld := ⟨.die, 0x50014, 0x40, 0x0, 1, 1, 0x0, [], .w1c⟩
def F.MOD_STAT_SC_ARMED : Fld := ⟨.die, 0x50014, 0x40, 0x0, 0, 1, 0x0, [], .ro⟩

-- MOD_CLK (06_acquisition.md, R199)
def F.MOD_CLK_EN : Fld := ⟨.die, 0x50800, 0x4, 0x0, 23, 1, 0x0, [], .rwl⟩
def F.MOD_CLK_DIV : Fld := ⟨.die, 0x50800, 0x4, 0x0, 0, 8, 0x4, [], .rwl⟩

-- CMP_CFG (07_comparators_and_references.md, R217)
def F.CMP_CFG_EN : Fld := ⟨.die, 0x60000, 0x10, 0x0, 23, 1, 0x0, [], .rwl⟩
def F.CMP_CFG_POL : Fld := ⟨.die, 0x60000, 0x10, 0x0, 22, 1, 0x0, [], .rwl⟩
def F.CMP_CFG_HYS : Fld := ⟨.die, 0x60000, 0x10, 0x0, 20, 2, 0x1, [], .rwl⟩
def F.CMP_CFG_LMODE : Fld := ⟨.die, 0x60000, 0x10, 0x0, 19, 1, 0x0, [], .rwl⟩
def F.CMP_CFG_TRIP : Fld := ⟨.die, 0x60000, 0x10, 0x0, 18, 1, 0x0, [], .rwl⟩
def F.CMP_CFG_CBC : Fld := ⟨.die, 0x60000, 0x10, 0x0, 17, 1, 0x0, [], .rwl⟩
def F.CMP_CFG_URG : Fld := ⟨.die, 0x60000, 0x10, 0x0, 16, 1, 0x0, [], .rw⟩
def F.CMP_CFG_IRQ : Fld := ⟨.die, 0x60000, 0x10, 0x0, 15, 1, 0x0, [], .rw⟩
def F.CMP_CFG_URG_CONV : Fld := ⟨.die, 0x60000, 0x10, 0x0, 12, 3, 0x0, [], .rw⟩
def F.CMP_CFG_LEG : Fld := ⟨.die, 0x60000, 0x10, 0x0, 6, 5, 0x18, [], .rwl⟩
def F.CMP_CFG_INP : Fld := ⟨.die, 0x60000, 0x10, 0x0, 0, 6, 0x0, [], .rwl⟩

-- CMP_THR (07_comparators_and_references.md, R217)
def F.CMP_THR_CODE : Fld := ⟨.die, 0x60004, 0x10, 0x0, 0, 10, 0x3FF, [], .rw⟩
def F.CMP_THR_FRAC : Fld := ⟨.die, 0x60004, 0x10, 0x0, 0, 6, 0x3F, [], .rw⟩

-- CMP_BLK (07_comparators_and_references.md, R217)
def F.CMP_BLK_BLANK : Fld := ⟨.die, 0x60008, 0x10, 0x0, 0, 9, 0x0, [], .rwl⟩

-- CMP_STAT (07_comparators_and_references.md, R217)
def F.CMP_STAT_CNT : Fld := ⟨.die, 0x6000C, 0x10, 0x0, 16, 16, 0x0, [], .ro⟩
def F.CMP_STAT_BLANKED : Fld := ⟨.die, 0x6000C, 0x10, 0x0, 2, 1, 0x0, [], .ro⟩
def F.CMP_STAT_RAW : Fld := ⟨.die, 0x6000C, 0x10, 0x0, 1, 1, 0x0, [], .ro⟩
def F.CMP_STAT_LATCH : Fld := ⟨.die, 0x6000C, 0x10, 0x0, 0, 1, 0x0, [], .w1c⟩

-- CMP_SCK (07_comparators_and_references.md, R217)
def F.CMP_SCK_SEL : Fld := ⟨.die, 0x60400, 0x4, 0x0, 0, 7, 0x7F, [], .rw⟩

-- REF_CFG (07_comparators_and_references.md, R217)
def F.REF_CFG_EXT_EN : Fld := ⟨.die, 0x60500, 0x0, 0x0, 0, 1, 0x0, [], .rw⟩

-- REF_STAT (07_comparators_and_references.md, R217)
def F.REF_STAT_EXT_FAIL : Fld := ⟨.die, 0x60504, 0x0, 0x0, 6, 1, 0x0, [], .ro⟩
def F.REF_STAT_USING : Fld := ⟨.die, 0x60504, 0x0, 0x0, 5, 1, 0x0, [], .ro⟩
def F.REF_STAT_BILL_LOST : Fld := ⟨.die, 0x60504, 0x0, 0x0, 4, 1, 0x0, [], .ro⟩
def F.REF_STAT_SUSPECT : Fld := ⟨.die, 0x60504, 0x0, 0x0, 3, 1, 0x0, [], .ro⟩
def F.REF_STAT_DRIFT : Fld := ⟨.die, 0x60504, 0x0, 0x0, 2, 1, 0x0, [], .w1c⟩
def F.REF_STAT_DRIFT_NOW : Fld := ⟨.die, 0x60504, 0x0, 0x0, 1, 1, 0x0, [], .ro⟩

-- REF_DEV (07_comparators_and_references.md, R217)
def F.REF_DEV_D : Fld := ⟨.die, 0x60508, 0x0, 0x0, 0, 16, 0x0, [], .ro⟩

-- REF_EDEV (07_comparators_and_references.md, R217)
def F.REF_EDEV_E : Fld := ⟨.die, 0x6050C, 0x0, 0x0, 0, 16, 0x0, [], .ro⟩

-- OWN_LEG (11_herds_roles_prestart.md, R310)
def F.OWN_LEG_EN : Fld := ⟨.die, 0x78000, 0x4, 0x0, 7, 1, 0x0, [], .own⟩
def F.OWN_LEG_HERD : Fld := ⟨.die, 0x78000, 0x4, 0x0, 0, 6, 0x0, [], .own⟩

-- OWN_ADC (11_herds_roles_prestart.md, R310)
def F.OWN_ADC_EN : Fld := ⟨.die, 0x78060, 0x4, 0x0, 7, 1, 0x0, [], .own⟩
def F.OWN_ADC_HERD : Fld := ⟨.die, 0x78060, 0x4, 0x0, 0, 6, 0x0, [], .own⟩

-- OWN_MOD (11_herds_roles_prestart.md, R310)
def F.OWN_MOD_EN : Fld := ⟨.die, 0x78080, 0x4, 0x0, 7, 1, 0x0, [], .own⟩
def F.OWN_MOD_HERD : Fld := ⟨.die, 0x78080, 0x4, 0x0, 0, 6, 0x0, [], .own⟩

-- OWN_AB (11_herds_roles_prestart.md, R310)
def F.OWN_AB_EN : Fld := ⟨.die, 0x780E0, 0x4, 0x0, 7, 1, 0x0, [], .own⟩
def F.OWN_AB_HERD : Fld := ⟨.die, 0x780E0, 0x4, 0x0, 0, 6, 0x0, [], .own⟩

-- LEG_HSS (11_herds_roles_prestart.md, R310)
def F.LEG_HSS_EN : Fld := ⟨.die, 0x78200, 0x4, 0x0, 23, 1, 0x0, [], .rwl⟩
def F.LEG_HSS_SRC : Fld := ⟨.die, 0x78200, 0x4, 0x0, 0, 8, 0x0, [], .rwl⟩

end Sys2Proof.Machine
end

