-- ==== Sys2Proof/Machine/RegsPkg.lean ====
section
/-!
DEFINITION. The register fields of power, clocks, metrology, flash and the package blocks (chapters 15 to 18, 20 to 22):
one name per field of the field tables of the spec, with its place, width, reset value and access class (R12, R571).
-/
namespace Sys2Proof.Machine

-- PWR_DOM (20_clocks_and_power_domains.md, R503)
def F.PWR_DOM_RES : Fld := ⟨.die, 0xB0000, 0x10, 0x0, 28, 4, 0x0, [], .ro⟩
def F.PWR_DOM_FORCE : Fld := ⟨.die, 0xB0000, 0x10, 0x0, 5, 1, 0x0, [], .wo⟩
def F.PWR_DOM_BUSY : Fld := ⟨.die, 0xB0000, 0x10, 0x0, 4, 1, 0x0, [], .ro⟩
def F.PWR_DOM_STATE : Fld := ⟨.die, 0xB0000, 0x10, 0x0, 2, 2, 0x0, [], .ro⟩
def F.PWR_DOM_REQ : Fld := ⟨.die, 0xB0000, 0x10, 0x0, 0, 2, 0x0, [], .wo⟩

-- PWR_DCNT (20_clocks_and_power_domains.md, R503)
def F.PWR_DCNT_REF_CNT : Fld := ⟨.die, 0xB0004, 0x10, 0x0, 16, 16, 0x0, [], .ro⟩
def F.PWR_DCNT_ABT_CNT : Fld := ⟨.die, 0xB0004, 0x10, 0x0, 0, 16, 0x0, [], .ro⟩

-- PWR_DLAST (20_clocks_and_power_domains.md, R503)
def F.PWR_DLAST_QUEUE : Fld := ⟨.die, 0xB0008, 0x10, 0x0, 16, 13, 0x0, [], .ro⟩
def F.PWR_DLAST_ID : Fld := ⟨.die, 0xB0008, 0x10, 0x0, 0, 10, 0x0, [], .ro⟩

-- CLU_OP (20_clocks_and_power_domains.md, R503)
def F.CLU_OP_OP_RES : Fld := ⟨.die, 0xB0100, 0x4, 0x0, 28, 4, 0x0, [], .ro⟩
def F.CLU_OP_VNOW : Fld := ⟨.die, 0xB0100, 0x4, 0x0, 20, 2, 0x0, [], .ro⟩
def F.CLU_OP_VOK : Fld := ⟨.die, 0xB0100, 0x4, 0x0, 19, 1, 0x1, [], .ro⟩
def F.CLU_OP_VSEL : Fld := ⟨.die, 0xB0100, 0x4, 0x0, 12, 2, 0x0, [], .rw⟩
def F.CLU_OP_FSEL : Fld := ⟨.die, 0xB0100, 0x4, 0x0, 8, 2, 0x0, [], .rw⟩

-- PWR_PKG (20_clocks_and_power_domains.md, R503)
def F.PWR_PKG_AON : Fld := ⟨.die, 0xB0200, 0x0, 0x0, 2, 2, 0x0, [], .ro⟩
def F.PWR_PKG_SAFE : Fld := ⟨.die, 0xB0200, 0x0, 0x0, 0, 2, 0x0, [], .ro⟩

-- CLK_PLL (20_clocks_and_power_domains.md, R503)
def F.CLK_PLL_LOSS_CNT : Fld := ⟨.die, 0xC0000, 0x0, 0x0, 16, 16, 0x0, [], .ro⟩
def F.CLK_PLL_BAND : Fld := ⟨.die, 0xC0000, 0x0, 0x0, 8, 6, 0x0, [], .ro⟩
def F.CLK_PLL_SEARCH : Fld := ⟨.die, 0xC0000, 0x0, 0x0, 2, 1, 0x1, [], .ro⟩
def F.CLK_PLL_UNLOCK : Fld := ⟨.die, 0xC0000, 0x0, 0x0, 1, 1, 0x0, [], .w1c⟩
def F.CLK_PLL_LOCK : Fld := ⟨.die, 0xC0000, 0x0, 0x0, 0, 1, 0x0, [], .ro⟩

-- CLK_OUT (20_clocks_and_power_domains.md, R503)
def F.CLK_OUT_EN : Fld := ⟨.die, 0xC0010, 0x8, 0x0, 31, 1, 0x1, [1, 1, 1, 1, 1, 0], .rw⟩
def F.CLK_OUT_DLY : Fld := ⟨.die, 0xC0010, 0x8, 0x0, 16, 5, 0x0, [], .rw⟩
def F.CLK_OUT_DIV : Fld := ⟨.die, 0xC0010, 0x8, 0x0, 0, 13, 0x28, [40, 40, 128, 160, 20, 640], .rw⟩

-- CLK_OUTF (20_clocks_and_power_domains.md, R503)
def F.CLK_OUTF_FRAC : Fld := ⟨.die, 0xC0014, 0x8, 0x0, 0, 16, 0x0, [], .rw⟩

-- RG_CFG (20_clocks_and_power_domains.md, R503)
def F.RG_CFG_RUN : Fld := ⟨.die, 0xC0100, 0x100, 0x0, 31, 1, 0x0, [], .rw⟩
def F.RG_CFG_MODE : Fld := ⟨.die, 0xC0100, 0x100, 0x0, 30, 1, 0x0, [], .rw⟩
def F.RG_CFG_LAST : Fld := ⟨.die, 0xC0100, 0x100, 0x0, 0, 4, 0x0, [], .rw⟩

-- RG_STAT (20_clocks_and_power_domains.md, R503)
def F.RG_STAT_RES : Fld := ⟨.die, 0xC0104, 0x100, 0x0, 28, 4, 0x0, [], .ro⟩
def F.RG_STAT_DONE : Fld := ⟨.die, 0xC0104, 0x100, 0x0, 4, 1, 0x0, [], .w1c⟩
def F.RG_STAT_CUR : Fld := ⟨.die, 0xC0104, 0x100, 0x0, 0, 4, 0x0, [], .ro⟩

-- RG_PT (20_clocks_and_power_domains.md, R503)
def F.RG_PT_RATIO : Fld := ⟨.die, 0xC0140, 0x100, 0x8, 0, 29, 0x280000, rgReset, .rw⟩

-- RG_DW (20_clocks_and_power_domains.md, R503)
def F.RG_DW_DWELL : Fld := ⟨.die, 0xC0144, 0x100, 0x8, 0, 16, 0x1, [], .rw⟩

-- MU_CFG (15_metrology.md, R413)
def F.MU_CFG_EN : Fld := ⟨.die, 0xD0000, 0x1000, 0x0, 23, 1, 0x0, [], .rw⟩
def F.MU_CFG_DC : Fld := ⟨.die, 0xD0000, 0x1000, 0x0, 22, 1, 0x0, [], .rw⟩
def F.MU_CFG_NOM : Fld := ⟨.die, 0xD0000, 0x1000, 0x0, 21, 1, 0x0, [], .rw⟩
def F.MU_CFG_ZC_TMO : Fld := ⟨.die, 0xD0000, 0x1000, 0x0, 16, 4, 0x2, [], .rw⟩
def F.MU_CFG_CH_EN : Fld := ⟨.die, 0xD0000, 0x1000, 0x0, 0, 8, 0x0, [], .rw⟩

-- MU_STAT (15_metrology.md, R413)
def F.MU_STAT_CFG_RES : Fld := ⟨.die, 0xD0004, 0x1000, 0x0, 28, 4, 0x0, [], .ro⟩
def F.MU_STAT_ZC_TO : Fld := ⟨.die, 0xD0004, 0x1000, 0x0, 8, 4, 0x0, [], .ro⟩
def F.MU_STAT_VALID_BILL : Fld := ⟨.die, 0xD0004, 0x1000, 0x0, 7, 1, 0x0, [], .ro⟩
def F.MU_STAT_REF_OK : Fld := ⟨.die, 0xD0004, 0x1000, 0x0, 6, 1, 0x0, [], .ro⟩
def F.MU_STAT_CHURN_OK : Fld := ⟨.die, 0xD0004, 0x1000, 0x0, 5, 1, 0x0, [], .ro⟩
def F.MU_STAT_CAL_OK : Fld := ⟨.die, 0xD0004, 0x1000, 0x0, 4, 1, 0x0, [], .ro⟩
def F.MU_STAT_CH_OK : Fld := ⟨.die, 0xD0004, 0x1000, 0x0, 3, 1, 0x0, [], .ro⟩
def F.MU_STAT_BILL_LOSS : Fld := ⟨.die, 0xD0004, 0x1000, 0x0, 2, 1, 0x0, [], .w1c⟩
def F.MU_STAT_OVF_LOST : Fld := ⟨.die, 0xD0004, 0x1000, 0x0, 1, 1, 0x0, [], .w1c⟩

-- MU_CMD (15_metrology.md, R413)
def F.MU_CMD_CALCHK : Fld := ⟨.die, 0xD0008, 0x1000, 0x0, 1, 1, 0x0, [], .wo⟩
def F.MU_CMD_SNAP : Fld := ⟨.die, 0xD0008, 0x1000, 0x0, 0, 1, 0x0, [], .wo⟩

-- MU_INOM (15_metrology.md, R413)
def F.MU_INOM_I_NOM : Fld := ⟨.die, 0xD000C, 0x1000, 0x0, 0, 24, 0x400000, [], .rw⟩

-- MU_START (15_metrology.md, R413)
def F.MU_START_FRAC : Fld := ⟨.die, 0xD0010, 0x1000, 0x0, 0, 16, 0x32, [], .rw⟩

-- MU_ZCHYS (15_metrology.md, R413)
def F.MU_ZCHYS_HYS : Fld := ⟨.die, 0xD0014, 0x1000, 0x0, 0, 24, 0x10000, [], .rw⟩

-- MU_OVF (15_metrology.md, R413)
def F.MU_OVF_OVF : Fld := ⟨.die, 0xD0018, 0x1000, 0x0, 0, 30, 0x0, [], .w1c⟩

-- MU_INVAL (15_metrology.md, R413)
def F.MU_INVAL_SECS : Fld := ⟨.die, 0xD001C, 0x1000, 0x0, 0, 32, 0x0, [], .ro⟩

-- MU_COLL (15_metrology.md, R413)
def F.MU_COLL_COLL_CNT : Fld := ⟨.die, 0xD0020, 0x1000, 0x0, 0, 16, 0x0, [], .ro⟩

-- MC_SRC (15_metrology.md, R413)
def F.MC_SRC_MOD : Fld := ⟨.die, 0xD0100, 0x1000, 0x20, 0, 5, 0x0, [], .rw⟩

-- MC_OFS (15_metrology.md, R413)
def F.MC_OFS_OFS : Fld := ⟨.die, 0xD0104, 0x1000, 0x20, 0, 24, 0x0, [], .rw⟩

-- MC_GAIN (15_metrology.md, R413)
def F.MC_GAIN_GAIN : Fld := ⟨.die, 0xD0108, 0x1000, 0x20, 0, 24, 0x0, [], .rw⟩

-- MC_DLY (15_metrology.md, R413)
def F.MC_DLY_DLY : Fld := ⟨.die, 0xD010C, 0x1000, 0x20, 0, 13, 0x0, [], .rw⟩

-- MC_RMS (15_metrology.md, R413)
def F.MC_RMS_RMS : Fld := ⟨.die, 0xD0110, 0x1000, 0x20, 0, 24, 0x0, [], .ro⟩

-- ZC_PER (15_metrology.md, R413)
def F.ZC_PER_TICKS : Fld := ⟨.die, 0xD0200, 0x1000, 0x10, 0, 32, 0x0, [], .ro⟩

-- ZC_TICK (15_metrology.md, R413)
def F.ZC_TICK_TICK : Fld := ⟨.die, 0xD0204, 0x1000, 0x10, 0, 32, 0x0, [], .ro⟩

-- ZC_CNT (15_metrology.md, R413)
def F.ZC_CNT_TO_CNT : Fld := ⟨.die, 0xD0208, 0x1000, 0x10, 16, 16, 0x0, [], .ro⟩
def F.ZC_CNT_CNT : Fld := ⟨.die, 0xD0208, 0x1000, 0x10, 0, 16, 0x0, [], .ro⟩

-- PAIL_LO (15_metrology.md, R413)
def F.PAIL_LO : Fld := ⟨.die, 0xD0400, 0x1000, 0x8, 0, 32, 0x0, [], .rw⟩

-- PAIL_HI (15_metrology.md, R413)
def F.PAIL_HI : Fld := ⟨.die, 0xD0404, 0x1000, 0x8, 0, 32, 0x0, [], .rw⟩

-- SNAP_LO (15_metrology.md, R413)
def F.SNAP_LO : Fld := ⟨.die, 0xD0500, 0x1000, 0x8, 0, 32, 0x0, [], .ro⟩

-- SNAP_HI (15_metrology.md, R413)
def F.SNAP_HI : Fld := ⟨.die, 0xD0504, 0x1000, 0x8, 0, 32, 0x0, [], .ro⟩

-- SNAP_S0 (15_metrology.md, R413)
def F.SNAP_S0 : Fld := ⟨.die, 0xD0600, 0x1000, 0x4, 0, 32, 0x0, [], .ro⟩

-- SNAP_TLO (15_metrology.md, R413)
def F.SNAP_TLO : Fld := ⟨.die, 0xD0620, 0x1000, 0x0, 0, 32, 0x0, [], .ro⟩

-- SNAP_THI (15_metrology.md, R413)
def F.SNAP_THI : Fld := ⟨.die, 0xD0624, 0x1000, 0x0, 0, 32, 0x0, [], .ro⟩

-- SNAP_STAT (15_metrology.md, R413)
def F.SNAP_STAT_SEQ : Fld := ⟨.die, 0xD0628, 0x1000, 0x0, 8, 16, 0x0, [], .ro⟩
def F.SNAP_STAT_VALID_INT : Fld := ⟨.die, 0xD0628, 0x1000, 0x0, 0, 1, 0x0, [], .ro⟩

-- PO_CFG (15_metrology.md, R413)
def F.PO_CFG_EN : Fld := ⟨.die, 0xD2000, 0x20, 0x0, 23, 1, 0x0, [], .rw⟩
def F.PO_CFG_MODE : Fld := ⟨.die, 0xD2000, 0x20, 0x0, 22, 1, 0x0, [], .rw⟩
def F.PO_CFG_OD : Fld := ⟨.die, 0xD2000, 0x20, 0x0, 21, 1, 0x0, [], .rw⟩
def F.PO_CFG_POL : Fld := ⟨.die, 0xD2000, 0x20, 0x0, 20, 1, 0x0, [], .rw⟩
def F.PO_CFG_UNIT : Fld := ⟨.die, 0xD2000, 0x20, 0x0, 19, 1, 0x0, [], .rw⟩
def F.PO_CFG_QTY : Fld := ⟨.die, 0xD2000, 0x20, 0x0, 12, 5, 0x0, [], .rw⟩
def F.PO_CFG_WID : Fld := ⟨.die, 0xD2000, 0x20, 0x0, 0, 8, 0x64, [], .rw⟩

-- PO_THR_LO (15_metrology.md, R413)
def F.PO_THR_LO_THR : Fld := ⟨.die, 0xD2004, 0x20, 0x0, 0, 32, 0x0, [], .rw⟩

-- PO_THR_HI (15_metrology.md, R413)
def F.PO_THR_HI_THR : Fld := ⟨.die, 0xD2008, 0x20, 0x0, 0, 16, 0x0, [], .rw⟩

-- PO_PAIL_LO (15_metrology.md, R413)
def F.PO_PAIL_LO : Fld := ⟨.die, 0xD200C, 0x20, 0x0, 0, 32, 0x0, [], .rw⟩

-- PO_PAIL_HI (15_metrology.md, R413)
def F.PO_PAIL_HI : Fld := ⟨.die, 0xD2010, 0x20, 0x0, 0, 32, 0x0, [], .rw⟩

-- PO_CNT (15_metrology.md, R413)
def F.PO_CNT_CNT : Fld := ⟨.die, 0xD2014, 0x20, 0x0, 0, 32, 0x0, [], .ro⟩

-- PO_STAT (15_metrology.md, R413)
def F.PO_STAT_BACKLOG : Fld := ⟨.die, 0xD2018, 0x20, 0x0, 2, 1, 0x0, [], .w1c⟩
def F.PO_STAT_ACTIVE : Fld := ⟨.die, 0xD2018, 0x20, 0x0, 1, 1, 0x0, [], .ro⟩

-- S0_CFG (15_metrology.md, R413)
def F.S0_CFG_EN : Fld := ⟨.die, 0xD2200, 0x10, 0x0, 23, 1, 0x0, [], .rw⟩
def F.S0_CFG_POL : Fld := ⟨.die, 0xD2200, 0x10, 0x0, 22, 1, 0x0, [], .rw⟩
def F.S0_CFG_MINW : Fld := ⟨.die, 0xD2200, 0x10, 0x0, 8, 8, 0x1E, [], .rw⟩
def F.S0_CFG_DEB : Fld := ⟨.die, 0xD2200, 0x10, 0x0, 0, 8, 0x2, [], .rw⟩

-- S0_CNT (15_metrology.md, R413)
def F.S0_CNT_CNT : Fld := ⟨.die, 0xD2204, 0x10, 0x0, 0, 32, 0x0, [], .rw⟩

-- S0_TICK (15_metrology.md, R413)
def F.S0_TICK_TICK : Fld := ⟨.die, 0xD2208, 0x10, 0x0, 0, 32, 0x0, [], .ro⟩

-- S0_STAT (15_metrology.md, R413)
def F.S0_STAT_REJ_CNT : Fld := ⟨.die, 0xD220C, 0x10, 0x0, 16, 16, 0x0, [], .ro⟩
def F.S0_STAT_OVF : Fld := ⟨.die, 0xD220C, 0x10, 0x0, 2, 1, 0x0, [], .w1c⟩
def F.S0_STAT_LEVEL : Fld := ⟨.die, 0xD220C, 0x10, 0x0, 1, 1, 0x0, [], .ro⟩

-- FL_ADDR (18_event_recorder_and_flash.md, R474)
def F.FL_ADDR_ROW : Fld := ⟨.die, 0xE0000, 0x0, 0x0, 5, 17, 0x0, [], .rw⟩

-- FL_CMD (18_event_recorder_and_flash.md, R474)
def F.FL_CMD_CMD : Fld := ⟨.die, 0xE0004, 0x0, 0x0, 0, 2, 0x0, [], .wo⟩

-- FL_STAT (18_event_recorder_and_flash.md, R474)
def F.FL_STAT_RES : Fld := ⟨.die, 0xE0008, 0x0, 0x0, 28, 4, 0x0, [], .ro⟩
def F.FL_STAT_SUSP : Fld := ⟨.die, 0xE0008, 0x0, 0x0, 2, 1, 0x0, [], .ro⟩
def F.FL_STAT_BUSY : Fld := ⟨.die, 0xE0008, 0x0, 0x0, 1, 1, 0x0, [], .ro⟩

-- FL_SSTAT (18_event_recorder_and_flash.md, R474)
def F.FL_SSTAT_LOCK : Fld := ⟨.die, 0xE000C, 0x0, 0x0, 8, 1, 0x0, [], .ro⟩
def F.FL_SSTAT_STATE : Fld := ⟨.die, 0xE000C, 0x0, 0x0, 0, 8, 0x0, [], .ro⟩

-- FL_DATA (18_event_recorder_and_flash.md, R474)
def F.FL_DATA : Fld := ⟨.die, 0xE0010, 0x4, 0x0, 0, 32, 0x0, [], .rw⟩

-- FL_CNT (18_event_recorder_and_flash.md, R474)
def F.FL_CNT_SUSP_CNT : Fld := ⟨.die, 0xE0030, 0x0, 0x0, 16, 16, 0x0, [], .ro⟩
def F.FL_CNT_REERASE_CNT : Fld := ⟨.die, 0xE0030, 0x0, 0x0, 0, 16, 0x0, [], .ro⟩

-- PKG_ID (01_package_architecture.md, R21)
def F.PKG_ID_FAMILY : Fld := ⟨.pkg, 0x0, 0x0, 0x0, 24, 8, 0x5E, [], .ro⟩
def F.PKG_ID_SIREV : Fld := ⟨.pkg, 0x0, 0x0, 0x0, 16, 8, 0x1, [], .ro⟩
/-- PKG_ID.GRADE: 0 for an -A part, 1 for an -X part (R2, R21). Which of the two is left to the part; the model takes -A for every member
(DESIGN CHOICE, log entry 1). -/
def F.PKG_ID_GRADE : Fld := ⟨.pkg, 0x0, 0x0, 0x0, 8, 4, 0x0, [], .ro⟩
def F.PKG_ID_DIES : Fld := ⟨.pkg, 0x0, 0x0, 0x0, 0, 4, 0x0, [], .ro⟩

-- PKG_STATE (22_reset_boot_agreement.md, R561)
def F.PKG_STATE_RST_CAUSE : Fld := ⟨.pkg, 0x4, 0x0, 0x0, 4, 4, 0x0, [], .ro⟩
def F.PKG_STATE_STATE : Fld := ⟨.pkg, 0x4, 0x0, 0x0, 0, 3, 0x1, [], .ro⟩

-- PKG_STRAP (22_reset_boot_agreement.md, R561)
def F.PKG_STRAP_COMPAT : Fld := ⟨.pkg, 0x8, 0x0, 0x0, 15, 1, 0x0, [], .ro⟩
def F.PKG_STRAP_CHAIN_HEAD : Fld := ⟨.pkg, 0x8, 0x0, 0x0, 14, 1, 0x0, [], .ro⟩
def F.PKG_STRAP_SEAL : Fld := ⟨.pkg, 0x8, 0x0, 0x0, 0, 12, 0x0, [], .ro⟩

-- PKG_AGREE (22_reset_boot_agreement.md, R561)
def F.PKG_AGREE_DIEMASK : Fld := ⟨.pkg, 0xC, 0x0, 0x0, 16, 8, 0x0, [], .ro⟩
def F.PKG_AGREE_REASON : Fld := ⟨.pkg, 0xC, 0x0, 0x0, 0, 4, 0x0, [], .ro⟩

-- PKG_BOOT (22_reset_boot_agreement.md, R561)
def F.PKG_BOOT_BOOT_MS : Fld := ⟨.pkg, 0x10, 0x0, 0x0, 16, 16, 0x0, [], .ro⟩
def F.PKG_BOOT_PARTIAL : Fld := ⟨.pkg, 0x10, 0x0, 0x0, 7, 1, 0x0, [], .ro⟩
def F.PKG_BOOT_FALLBACK : Fld := ⟨.pkg, 0x10, 0x0, 0x0, 6, 1, 0x0, [], .ro⟩
def F.PKG_BOOT_TRIAL : Fld := ⟨.pkg, 0x10, 0x0, 0x0, 5, 1, 0x0, [], .ro⟩
def F.PKG_BOOT_SLOT : Fld := ⟨.pkg, 0x10, 0x0, 0x0, 0, 1, 0x0, [], .ro⟩

-- PKG_CMD (22_reset_boot_agreement.md, R561)
def F.PKG_CMD_CMD : Fld := ⟨.pkg, 0x14, 0x0, 0x0, 0, 8, 0x0, [], .wo⟩

-- PKG_CRES (22_reset_boot_agreement.md, R561)
def F.PKG_CRES_RES : Fld := ⟨.pkg, 0x18, 0x0, 0x0, 0, 4, 0x0, [], .ro⟩

-- PKG_SLOT (22_reset_boot_agreement.md, R561)
def F.PKG_SLOT_SIREV : Fld := ⟨.pkg, 0x20, 0x4, 0x0, 24, 8, 0x1, [], .ro⟩
def F.PKG_SLOT_STATE_B : Fld := ⟨.pkg, 0x20, 0x4, 0x0, 16, 8, 0x0, [], .ro⟩
def F.PKG_SLOT_STATE_A : Fld := ⟨.pkg, 0x20, 0x4, 0x0, 8, 8, 0x0, [], .ro⟩
def F.PKG_SLOT_PROTO : Fld := ⟨.pkg, 0x20, 0x4, 0x0, 0, 8, 0x0, [], .ro⟩

-- PKG_IMGID (22_reset_boot_agreement.md, R561)
def F.PKG_IMGID_ID : Fld := ⟨.pkg, 0x40, 0x4, 0x0, 0, 32, 0x0, [], .ro⟩

-- PKG_CHASH (22_reset_boot_agreement.md, R561)
def F.PKG_CHASH_HASH : Fld := ⟨.pkg, 0x60, 0x4, 0x0, 0, 32, 0x0, [], .ro⟩

-- PKG_OTP (22_reset_boot_agreement.md, R561)
def F.PKG_OTP_SIG_REQ : Fld := ⟨.pkg, 0x80, 0x0, 0x0, 31, 1, 0x0, [], .ro⟩
def F.PKG_OTP_KEY_SET : Fld := ⟨.pkg, 0x80, 0x0, 0x0, 30, 1, 0x0, [], .ro⟩

-- PKG_OTPCMD (22_reset_boot_agreement.md, R561)
def F.PKG_OTPCMD_CMD : Fld := ⟨.pkg, 0x84, 0x0, 0x0, 0, 2, 0x0, [], .wo⟩

-- PKG_KEYW (22_reset_boot_agreement.md, R561)
def F.PKG_KEYW_WORD : Fld := ⟨.pkg, 0xA0, 0x4, 0x0, 0, 32, 0x0, [], .rw⟩

-- PKG_WREF (23_register_map.md, R570)
def F.PKG_WREF_CLR : Fld := ⟨.pkg, 0xC0, 0x0, 0x0, 31, 1, 0x0, [], .wo⟩
def F.PKG_WREF_CNT : Fld := ⟨.pkg, 0xC0, 0x0, 0x0, 0, 16, 0x0, [], .ro⟩

-- PKG_WLAST (23_register_map.md, R570)
def F.PKG_WLAST_KIND : Fld := ⟨.pkg, 0xC4, 0x0, 0x0, 30, 2, 0x0, [], .ro⟩
def F.PKG_WLAST_INDEX : Fld := ⟨.pkg, 0xC4, 0x0, 0x0, 22, 8, 0x0, [], .ro⟩
def F.PKG_WLAST_OFFSET : Fld := ⟨.pkg, 0xC4, 0x0, 0x0, 2, 20, 0x0, [], .ro⟩

-- SAFE_STAT (16_safety_functions.md, R435)
def F.SAFE_STAT_DEM_ZONE : Fld := ⟨.pkg, 0x10000, 0x0, 0x0, 12, 4, 0xF, [], .ro⟩
def F.SAFE_STAT_SS1_ZONE : Fld := ⟨.pkg, 0x10000, 0x0, 0x0, 8, 4, 0x0, [], .ro⟩
def F.SAFE_STAT_SFAULT : Fld := ⟨.pkg, 0x10000, 0x0, 0x0, 7, 1, 0x0, [], .ro⟩
def F.SAFE_STAT_STATE : Fld := ⟨.pkg, 0x10000, 0x0, 0x0, 0, 3, 0x0, [], .ro⟩

-- SAFE_SEAL (16_safety_functions.md, R435)
def F.SAFE_SEAL_SEAL_B : Fld := ⟨.pkg, 0x10004, 0x0, 0x0, 16, 12, 0x0, [], .ro⟩
def F.SAFE_SEAL_SEAL_A : Fld := ⟨.pkg, 0x10004, 0x0, 0x0, 0, 12, 0x0, [], .ro⟩

-- SAFE_IN (16_safety_functions.md, R435)
def F.SAFE_IN_B : Fld := ⟨.pkg, 0x10008, 0x0, 0x0, 16, 16, 0x0, [], .ro⟩
def F.SAFE_IN_A : Fld := ⟨.pkg, 0x10008, 0x0, 0x0, 0, 16, 0x0, [], .ro⟩

-- SAFE_INDEM (16_safety_functions.md, R435)
def F.SAFE_INDEM_DEM : Fld := ⟨.pkg, 0x1000C, 0x0, 0x0, 0, 16, 0x0, [], .ro⟩

-- SAFE_FLT (16_safety_functions.md, R435)
def F.SAFE_FLT_DIE : Fld := ⟨.pkg, 0x10010, 0x0, 0x0, 24, 3, 0x0, [], .ro⟩
def F.SAFE_FLT_INPUT : Fld := ⟨.pkg, 0x10010, 0x0, 0x0, 16, 4, 0x0, [], .ro⟩
def F.SAFE_FLT_CAUSE : Fld := ⟨.pkg, 0x10010, 0x0, 0x0, 0, 8, 0x0, [], .ro⟩

-- SAFE_CNT (16_safety_functions.md, R435)
def F.SAFE_CNT_DEM_CNT : Fld := ⟨.pkg, 0x10014, 0x0, 0x0, 16, 16, 0x0, [], .ro⟩
def F.SAFE_CNT_RST_REJ_CNT : Fld := ⟨.pkg, 0x10014, 0x0, 0x0, 0, 16, 0x0, [], .ro⟩

-- SAFE_CNT2 (16_safety_functions.md, R435)
def F.SAFE_CNT2_FLT_CNT : Fld := ⟨.pkg, 0x10018, 0x0, 0x0, 0, 16, 0x0, [], .ro⟩

-- SAFE_EN (16_safety_functions.md, R435)
def F.SAFE_EN_B : Fld := ⟨.pkg, 0x1001C, 0x0, 0x0, 8, 8, 0x0, [], .ro⟩
def F.SAFE_EN_A : Fld := ⟨.pkg, 0x1001C, 0x0, 0x0, 0, 8, 0x0, [], .ro⟩

-- AON_STAT (17_always_on_harvest_domain.md, R453)
def F.AON_STAT_MAIN_OK : Fld := ⟨.pkg, 0x20000, 0x0, 0x0, 7, 1, 0x0, [], .ro⟩
def F.AON_STAT_ON_STORE : Fld := ⟨.pkg, 0x20000, 0x0, 0x0, 6, 1, 0x1, [], .ro⟩
def F.AON_STAT_HARV_RUN : Fld := ⟨.pkg, 0x20000, 0x0, 0x0, 5, 1, 0x0, [], .ro⟩
def F.AON_STAT_ALARM : Fld := ⟨.pkg, 0x20000, 0x0, 0x0, 4, 1, 0x0, [], .ro⟩
def F.AON_STAT_WOKE : Fld := ⟨.pkg, 0x20000, 0x0, 0x0, 3, 1, 0x0, [], .w1c⟩

-- AON_SECS (17_always_on_harvest_domain.md, R453)
def F.AON_SECS_SECS : Fld := ⟨.pkg, 0x20004, 0x0, 0x0, 0, 32, 0x0, [], .ro⟩

-- AON_MSECS (17_always_on_harvest_domain.md, R453)
def F.AON_MSECS_SECS : Fld := ⟨.pkg, 0x20008, 0x0, 0x0, 0, 32, 0x0, [], .ro⟩

-- AON_PCYC (17_always_on_harvest_domain.md, R453)
def F.AON_PCYC_CNT : Fld := ⟨.pkg, 0x2000C, 0x0, 0x0, 0, 24, 0x0, [], .ro⟩

-- AON_CFG (17_always_on_harvest_domain.md, R453)
def F.AON_CFG_CHG_MAIN : Fld := ⟨.pkg, 0x20010, 0x0, 0x0, 23, 1, 0x1, [], .rw⟩
def F.AON_CFG_FOC : Fld := ⟨.pkg, 0x20010, 0x0, 0x0, 16, 7, 0x32, [], .rw⟩
def F.AON_CFG_DARK_H : Fld := ⟨.pkg, 0x20010, 0x0, 0x0, 8, 8, 0x30, [], .rw⟩
def F.AON_CFG_LCAP : Fld := ⟨.pkg, 0x20010, 0x0, 0x0, 0, 8, 0xA, [], .rw⟩

-- AON_LMAX (17_always_on_harvest_domain.md, R453)
def F.AON_LMAX_CODE : Fld := ⟨.pkg, 0x20014, 0x0, 0x0, 0, 6, 0x14, [], .rw⟩

-- AON_GAUGE (17_always_on_harvest_domain.md, R453)
def F.AON_GAUGE_HOURS : Fld := ⟨.pkg, 0x20018, 0x0, 0x0, 16, 16, 0xFFFF, [], .ro⟩
def F.AON_GAUGE_PCT : Fld := ⟨.pkg, 0x20018, 0x0, 0x0, 0, 7, 0x0, [], .ro⟩

-- AON_VST (17_always_on_harvest_domain.md, R453)
def F.AON_VST_VLARGE : Fld := ⟨.pkg, 0x2001C, 0x0, 0x0, 16, 16, 0x0, [], .ro⟩
def F.AON_VST_VSMALL : Fld := ⟨.pkg, 0x2001C, 0x0, 0x0, 0, 16, 0x0, [], .ro⟩

-- AON_HARV (17_always_on_harvest_domain.md, R453)
def F.AON_HARV_VOC : Fld := ⟨.pkg, 0x20020, 0x0, 0x0, 16, 16, 0x0, [], .ro⟩
def F.AON_HARV_PAVG : Fld := ⟨.pkg, 0x20020, 0x0, 0x0, 0, 16, 0x0, [], .ro⟩

-- AON_DARK (17_always_on_harvest_domain.md, R453)
def F.AON_DARK_AVG : Fld := ⟨.pkg, 0x20024, 0x0, 0x0, 16, 16, 0xFFFF, [], .ro⟩
def F.AON_DARK_BINS : Fld := ⟨.pkg, 0x20024, 0x0, 0x0, 8, 8, 0x0, [], .ro⟩

-- AON_CNT (17_always_on_harvest_domain.md, R453)
def F.AON_CNT_LOST_CNT : Fld := ⟨.pkg, 0x20028, 0x0, 0x0, 16, 16, 0x0, [], .ro⟩
def F.AON_CNT_HANDOVER_CNT : Fld := ⟨.pkg, 0x20028, 0x0, 0x0, 0, 16, 0x0, [], .ro⟩

-- AON_GAP (17_always_on_harvest_domain.md, R453)
def F.AON_GAP_EXPIRED : Fld := ⟨.pkg, 0x2002C, 0x0, 0x0, 16, 1, 0x0, [], .ro⟩
def F.AON_GAP_HOURS : Fld := ⟨.pkg, 0x2002C, 0x0, 0x0, 0, 16, 0x0, [], .ro⟩

-- AON_ALM (17_always_on_harvest_domain.md, R453)
def F.AON_ALM_PCT : Fld := ⟨.pkg, 0x20030, 0x0, 0x0, 16, 8, 0x14, [], .rw⟩
def F.AON_ALM_LOW_EN : Fld := ⟨.pkg, 0x20030, 0x0, 0x0, 8, 1, 0x0, [], .rw⟩
def F.AON_ALM_MASK : Fld := ⟨.pkg, 0x20030, 0x0, 0x0, 0, 8, 0x0, [], .rw⟩

-- AON_CMP_CFG (07_comparators_and_references.md, R217)
def F.AON_CMP_CFG_EN : Fld := ⟨.pkg, 0x20100, 0x8, 0x0, 23, 1, 0x0, [], .rw⟩
def F.AON_CMP_CFG_POL : Fld := ⟨.pkg, 0x20100, 0x8, 0x0, 22, 1, 0x0, [], .rw⟩
def F.AON_CMP_CFG_TMR : Fld := ⟨.pkg, 0x20100, 0x8, 0x0, 20, 2, 0x0, [], .rw⟩
def F.AON_CMP_CFG_CONF : Fld := ⟨.pkg, 0x20100, 0x8, 0x0, 18, 2, 0x0, [], .rw⟩
def F.AON_CMP_CFG_THR : Fld := ⟨.pkg, 0x20100, 0x8, 0x0, 0, 8, 0xFF, [], .rw⟩

-- AON_CMP_STAT (07_comparators_and_references.md, R217)
def F.AON_CMP_STAT_CNT : Fld := ⟨.pkg, 0x20104, 0x8, 0x0, 16, 16, 0x0, [], .ro⟩
def F.AON_CMP_STAT_OUT : Fld := ⟨.pkg, 0x20104, 0x8, 0x0, 1, 1, 0x0, [], .ro⟩
def F.AON_CMP_STAT_HIT : Fld := ⟨.pkg, 0x20104, 0x8, 0x0, 0, 1, 0x0, [], .w1c⟩

-- AON_ST (07_comparators_and_references.md, R217)
def F.AON_ST_PERIOD : Fld := ⟨.pkg, 0x20140, 0x4, 0x0, 0, 16, 0x8000, [], .rw⟩

-- REC_CMD (18_event_recorder_and_flash.md, R473)
def F.REC_CMD_CMD : Fld := ⟨.pkg, 0x30000, 0x0, 0x0, 0, 4, 0x0, [], .wo⟩

-- REC_STAT (18_event_recorder_and_flash.md, R473)
def F.REC_STAT_CMD_RES : Fld := ⟨.pkg, 0x30004, 0x0, 0x0, 28, 4, 0x0, [], .ro⟩
def F.REC_STAT_INTAKE : Fld := ⟨.pkg, 0x30004, 0x0, 0x0, 0, 9, 0x0, [], .ro⟩

-- REC_CURSOR (18_event_recorder_and_flash.md, R473)
def F.REC_CURSOR_SEQ : Fld := ⟨.bank, 0xD00000, 0x4, 0x0, 0, 32, 0x0, [], .rw⟩

-- REC_CSEL (18_event_recorder_and_flash.md, R473)
def F.REC_CSEL_WSTAT : Fld := ⟨.bank, 0xE00000, 0x4, 0x0, 4, 4, 0x2, [], .ro⟩
def F.REC_CSEL_AUTO : Fld := ⟨.bank, 0xE00000, 0x4, 0x0, 2, 1, 0x0, [], .rw⟩
def F.REC_CSEL_SRC : Fld := ⟨.bank, 0xE00000, 0x4, 0x0, 0, 2, 0x0, [], .rw⟩

-- REC_WIN (18_event_recorder_and_flash.md, R473)
def F.REC_WIN : Fld := ⟨.bank, 0xF00000, 0x40, 0x4, 0, 32, 0x0, [], .ro⟩

-- REC_NEXT (18_event_recorder_and_flash.md, R473)
def F.REC_NEXT_SEQ : Fld := ⟨.pkg, 0x30030, 0x0, 0x0, 0, 32, 0x0, [], .ro⟩

-- REC_OLD (18_event_recorder_and_flash.md, R473)
def F.REC_OLD_SEQ : Fld := ⟨.pkg, 0x30034, 0x0, 0x0, 0, 32, 0xFFFFFFFF, [], .ro⟩

-- REC_PFIRST (18_event_recorder_and_flash.md, R473)
def F.REC_PFIRST_SEQ : Fld := ⟨.pkg, 0x30038, 0x0, 0x0, 0, 32, 0xFFFFFFFF, [], .ro⟩

-- REC_FLG (18_event_recorder_and_flash.md, R473)
def F.REC_FLG_FROZEN : Fld := ⟨.pkg, 0x3003C, 0x0, 0x0, 4, 1, 0x0, [], .ro⟩
def F.REC_FLG_FRZ_EXP : Fld := ⟨.pkg, 0x3003C, 0x0, 0x0, 3, 1, 0x0, [], .w1c⟩
def F.REC_FLG_COMMISSIONED : Fld := ⟨.pkg, 0x3003C, 0x0, 0x0, 2, 1, 0x0, [], .ro⟩
def F.REC_FLG_PERM_FULL : Fld := ⟨.pkg, 0x3003C, 0x0, 0x0, 1, 1, 0x0, [], .ro⟩
def F.REC_FLG_ERASING : Fld := ⟨.pkg, 0x3003C, 0x0, 0x0, 0, 1, 0x0, [], .ro⟩

-- REC_LOST (18_event_recorder_and_flash.md, R473)
def F.REC_LOST_CNT : Fld := ⟨.pkg, 0x30040, 0x0, 0x0, 0, 32, 0x0, [], .ro⟩

-- REC_CNT (18_event_recorder_and_flash.md, R473)
def F.REC_CNT_DEDUP_CNT : Fld := ⟨.pkg, 0x30044, 0x0, 0x0, 16, 16, 0x0, [], .ro⟩
def F.REC_CNT_TORN_CNT : Fld := ⟨.pkg, 0x30044, 0x0, 0x0, 0, 16, 0x0, [], .ro⟩

-- REC_MIR (18_event_recorder_and_flash.md, R473)
def F.REC_MIR_MIRROR_COSMETIC : Fld := ⟨.pkg, 0x30048, 0x0, 0x0, 16, 16, 0x0, [], .ro⟩
def F.REC_MIR_MIRROR_MISMATCH : Fld := ⟨.pkg, 0x30048, 0x0, 0x0, 0, 16, 0x0, [], .ro⟩

-- REC_MIR2 (18_event_recorder_and_flash.md, R473)
def F.REC_MIR2_BADCRC_CNT : Fld := ⟨.pkg, 0x3004C, 0x0, 0x0, 16, 16, 0x0, [], .ro⟩
def F.REC_MIR2_MIRROR_LAG : Fld := ⟨.pkg, 0x3004C, 0x0, 0x0, 0, 16, 0x0, [], .ro⟩

-- SPI_STAT (21_host_ports_and_chain.md, R537)
def F.SPI_STAT_CRC_CNT : Fld := ⟨.pkg, 0x40000, 0x0, 0x0, 16, 16, 0x0, [], .ro⟩
def F.SPI_STAT_SEQ : Fld := ⟨.pkg, 0x40000, 0x0, 0x0, 0, 4, 0x0, [], .ro⟩

-- CAN_CFG (21_host_ports_and_chain.md, R537)
def F.CAN_CFG_EN : Fld := ⟨.pkg, 0x40200, 0x200, 0x0, 31, 1, 0x0, [], .rw⟩
def F.CAN_CFG_FD_EN : Fld := ⟨.pkg, 0x40200, 0x200, 0x0, 30, 1, 0x0, [], .rw⟩
def F.CAN_CFG_AUTO_REC : Fld := ⟨.pkg, 0x40200, 0x200, 0x0, 29, 1, 0x1, [], .rw⟩

-- CAN_NBT (21_host_ports_and_chain.md, R537)
def F.CAN_NBT_NBRP : Fld := ⟨.pkg, 0x40204, 0x200, 0x0, 24, 8, 0x2, [], .rw⟩
def F.CAN_NBT_NTSEG1 : Fld := ⟨.pkg, 0x40204, 0x200, 0x0, 16, 8, 0x4F, [], .rw⟩
def F.CAN_NBT_NTSEG2 : Fld := ⟨.pkg, 0x40204, 0x200, 0x0, 8, 7, 0x14, [], .rw⟩
def F.CAN_NBT_NSJW : Fld := ⟨.pkg, 0x40204, 0x200, 0x0, 0, 7, 0x10, [], .rw⟩

-- CAN_DBT (21_host_ports_and_chain.md, R537)
def F.CAN_DBT_TDCO : Fld := ⟨.pkg, 0x40208, 0x200, 0x0, 24, 8, 0xE, [], .rw⟩
def F.CAN_DBT_DBRP : Fld := ⟨.pkg, 0x40208, 0x200, 0x0, 16, 8, 0x1, [], .rw⟩
def F.CAN_DBT_DTSEG1 : Fld := ⟨.pkg, 0x40208, 0x200, 0x0, 8, 5, 0xE, [], .rw⟩
def F.CAN_DBT_DTSEG2 : Fld := ⟨.pkg, 0x40208, 0x200, 0x0, 4, 4, 0x5, [], .rw⟩
def F.CAN_DBT_DSJW : Fld := ⟨.pkg, 0x40208, 0x200, 0x0, 0, 4, 0x4, [], .rw⟩

-- CAN_STAT (21_host_ports_and_chain.md, R537)
def F.CAN_STAT_TEC : Fld := ⟨.pkg, 0x4020C, 0x200, 0x0, 24, 8, 0x0, [], .ro⟩
def F.CAN_STAT_REC : Fld := ⟨.pkg, 0x4020C, 0x200, 0x0, 16, 8, 0x0, [], .ro⟩
def F.CAN_STAT_BUSOFF : Fld := ⟨.pkg, 0x4020C, 0x200, 0x0, 2, 1, 0x0, [], .w1c⟩
def F.CAN_STAT_STATE : Fld := ⟨.pkg, 0x4020C, 0x200, 0x0, 0, 2, 0x0, [], .ro⟩

-- CAN_CNT (21_host_ports_and_chain.md, R537)
def F.CAN_CNT_RX_OVR_CNT : Fld := ⟨.pkg, 0x40210, 0x200, 0x0, 16, 16, 0x0, [], .ro⟩
def F.CAN_CNT_NOMATCH_CNT : Fld := ⟨.pkg, 0x40210, 0x200, 0x0, 0, 16, 0x0, [], .ro⟩

-- CAN_TXQ (21_host_ports_and_chain.md, R537)
def F.CAN_TXQ_EN : Fld := ⟨.pkg, 0x40220, 0x200, 0x4, 31, 1, 0x0, [], .rw⟩
def F.CAN_TXQ_QUEUE : Fld := ⟨.pkg, 0x40220, 0x200, 0x4, 0, 16, 0x0, [], .rw⟩

-- CAN_FID (21_host_ports_and_chain.md, R537)
def F.CAN_FID_EN : Fld := ⟨.pkg, 0x40240, 0x200, 0x10, 31, 1, 0x0, [], .rw⟩
def F.CAN_FID_IDE : Fld := ⟨.pkg, 0x40240, 0x200, 0x10, 30, 1, 0x0, [], .rw⟩
def F.CAN_FID_ID : Fld := ⟨.pkg, 0x40240, 0x200, 0x10, 0, 29, 0x0, [], .rw⟩

-- CAN_FMSK (21_host_ports_and_chain.md, R537)
def F.CAN_FMSK_MSK : Fld := ⟨.pkg, 0x40244, 0x200, 0x10, 0, 29, 0x1FFFFFFF, [], .rw⟩

-- CAN_FQ (21_host_ports_and_chain.md, R537)
def F.CAN_FQ_QUEUE : Fld := ⟨.pkg, 0x40248, 0x200, 0x10, 0, 16, 0x0, [], .rw⟩

-- PMB_CFG (21_host_ports_and_chain.md, R537)
def F.PMB_CFG_EN : Fld := ⟨.pkg, 0x40600, 0x0, 0x0, 31, 1, 0x0, [], .rw⟩
def F.PMB_CFG_PEC_REQ : Fld := ⟨.pkg, 0x40600, 0x0, 0x0, 30, 1, 0x0, [], .rw⟩
def F.PMB_CFG_AVS_EN : Fld := ⟨.pkg, 0x40600, 0x0, 0x0, 29, 1, 0x0, [], .rw⟩
def F.PMB_CFG_ADDR : Fld := ⟨.pkg, 0x40600, 0x0, 0x0, 0, 7, 0x40, [], .rw⟩

-- PMB_CNT (21_host_ports_and_chain.md, R537)
def F.PMB_CNT_UNSUP_CNT : Fld := ⟨.pkg, 0x40604, 0x0, 0x0, 24, 8, 0x0, [], .ro⟩
def F.PMB_CNT_PEC_CNT : Fld := ⟨.pkg, 0x40604, 0x0, 0x0, 16, 8, 0x0, [], .ro⟩
def F.PMB_CNT_QFULL_CNT : Fld := ⟨.pkg, 0x40604, 0x0, 0x0, 8, 8, 0x0, [], .ro⟩
def F.PMB_CNT_AVS_CRC_CNT : Fld := ⟨.pkg, 0x40604, 0x0, 0x0, 0, 8, 0x0, [], .ro⟩

-- PMB_PG (21_host_ports_and_chain.md, R537)
def F.PMB_PG_EN : Fld := ⟨.pkg, 0x40640, 0x10, 0x0, 31, 1, 0x0, [], .rw⟩
def F.PMB_PG_VEXP : Fld := ⟨.pkg, 0x40640, 0x10, 0x0, 26, 5, 0x17, [], .rw⟩
def F.PMB_PG_IEXP : Fld := ⟨.pkg, 0x40640, 0x10, 0x0, 21, 5, 0x1E, [], .rw⟩
def F.PMB_PG_BPT : Fld := ⟨.pkg, 0x40640, 0x10, 0x0, 0, 20, 0x0, [], .rw⟩

-- PMB_PQ (21_host_ports_and_chain.md, R537)
def F.PMB_PQ_OPER : Fld := ⟨.pkg, 0x40644, 0x10, 0x0, 24, 8, 0x0, [], .ro⟩
def F.PMB_PQ_OOC : Fld := ⟨.pkg, 0x40644, 0x10, 0x0, 16, 8, 0x0, [], .ro⟩
def F.PMB_PQ_QUEUE : Fld := ⟨.pkg, 0x40644, 0x10, 0x0, 0, 16, 0x0, [], .rw⟩

-- PMB_PSC (21_host_ports_and_chain.md, R537)
def F.PMB_PSC_KV : Fld := ⟨.pkg, 0x40648, 0x10, 0x0, 16, 16, 0x0, [], .rw⟩
def F.PMB_PSC_KI : Fld := ⟨.pkg, 0x40648, 0x10, 0x0, 0, 16, 0x0, [], .rw⟩

-- PMB_PV (21_host_ports_and_chain.md, R537)
def F.PMB_PV_VCMD : Fld := ⟨.pkg, 0x4064C, 0x10, 0x0, 16, 16, 0x0, [], .ro⟩
def F.PMB_PV_KA : Fld := ⟨.pkg, 0x4064C, 0x10, 0x0, 0, 16, 0x0, [], .rw⟩

-- CHN_CFG (21_host_ports_and_chain.md, R537)
def F.CHN_CFG_TMO : Fld := ⟨.pkg, 0x50000, 0x0, 0x0, 16, 16, 0x3E8, [], .rw⟩
def F.CHN_CFG_RETRY_N : Fld := ⟨.pkg, 0x50000, 0x0, 0x0, 8, 4, 0x4, [], .rw⟩
def F.CHN_CFG_RETRY_T : Fld := ⟨.pkg, 0x50000, 0x0, 0x0, 4, 4, 0x8, [], .rw⟩

-- CHN_STAT (21_host_ports_and_chain.md, R537)
def F.CHN_STAT_GEN : Fld := ⟨.pkg, 0x50004, 0x0, 0x0, 24, 8, 0x0, [], .ro⟩
def F.CHN_STAT_ADDR : Fld := ⟨.pkg, 0x50004, 0x0, 0x0, 16, 6, 0x0, [], .ro⟩
def F.CHN_STAT_HEAD : Fld := ⟨.pkg, 0x50004, 0x0, 0x0, 15, 1, 0x0, [], .ro⟩
def F.CHN_STAT_UP_LINK : Fld := ⟨.pkg, 0x50004, 0x0, 0x0, 14, 1, 0x0, [], .ro⟩
def F.CHN_STAT_DN_LINK : Fld := ⟨.pkg, 0x50004, 0x0, 0x0, 13, 1, 0x0, [], .ro⟩
def F.CHN_STAT_EXCL : Fld := ⟨.pkg, 0x50004, 0x0, 0x0, 11, 1, 0x0, [], .ro⟩
def F.CHN_STAT_TIME_DIS : Fld := ⟨.pkg, 0x50004, 0x0, 0x0, 10, 1, 0x0, [], .ro⟩
def F.CHN_STAT_OVER : Fld := ⟨.pkg, 0x50004, 0x0, 0x0, 9, 1, 0x0, [], .ro⟩
def F.CHN_STAT_STATE : Fld := ⟨.pkg, 0x50004, 0x0, 0x0, 0, 2, 0x0, [], .ro⟩

-- CHN_CNT (21_host_ports_and_chain.md, R537)
def F.CHN_CNT_LOSS_CNT : Fld := ⟨.pkg, 0x50008, 0x0, 0x0, 16, 16, 0x0, [], .ro⟩
def F.CHN_CNT_RETRY_CNT : Fld := ⟨.pkg, 0x50008, 0x0, 0x0, 0, 16, 0x0, [], .ro⟩

-- CHN_CNT2 (21_host_ports_and_chain.md, R537)
def F.CHN_CNT2_STALE_CNT : Fld := ⟨.pkg, 0x5000C, 0x0, 0x0, 16, 16, 0x0, [], .ro⟩
def F.CHN_CNT2_DUP_CNT : Fld := ⟨.pkg, 0x5000C, 0x0, 0x0, 0, 16, 0x0, [], .ro⟩

-- CHN_CNT3 (21_host_ports_and_chain.md, R537)
def F.CHN_CNT3_TMO_CNT : Fld := ⟨.pkg, 0x50010, 0x0, 0x0, 16, 16, 0x0, [], .ro⟩
def F.CHN_CNT3_LATE_CNT : Fld := ⟨.pkg, 0x50010, 0x0, 0x0, 0, 16, 0x0, [], .ro⟩

-- CHN_CNT4 (21_host_ports_and_chain.md, R537)
def F.CHN_CNT4_OUTFAIL_CNT : Fld := ⟨.pkg, 0x50014, 0x0, 0x0, 16, 16, 0x0, [], .ro⟩
def F.CHN_CNT4_BADFR_CNT : Fld := ⟨.pkg, 0x50014, 0x0, 0x0, 0, 16, 0x0, [], .ro⟩

-- CHN_RSEL (21_host_ports_and_chain.md, R537)
def F.CHN_RSEL_ADDR : Fld := ⟨.pkg, 0x50018, 0x0, 0x0, 0, 6, 0x1, [], .rw⟩

-- CHN_RDAT (21_host_ports_and_chain.md, R537)
def F.CHN_RDAT_PRESENT : Fld := ⟨.pkg, 0x5001C, 0x0, 0x0, 31, 1, 0x0, [], .ro⟩
def F.CHN_RDAT_EXCL : Fld := ⟨.pkg, 0x5001C, 0x0, 0x0, 30, 1, 0x0, [], .ro⟩
def F.CHN_RDAT_PROTO : Fld := ⟨.pkg, 0x5001C, 0x0, 0x0, 16, 8, 0x0, [], .ro⟩
def F.CHN_RDAT_GEN : Fld := ⟨.pkg, 0x5001C, 0x0, 0x0, 8, 8, 0x0, [], .ro⟩

-- CHN_XHERD_LO (21_host_ports_and_chain.md, R537)
def F.CHN_XHERD_LO : Fld := ⟨.pkg, 0x50020, 0x0, 0x0, 0, 32, 0x0, [], .rw⟩

-- CHN_XHERD_HI (21_host_ports_and_chain.md, R537)
def F.CHN_XHERD_HI : Fld := ⟨.pkg, 0x50024, 0x0, 0x0, 0, 32, 0x0, [], .rw⟩

-- CHN_PROTO (21_host_ports_and_chain.md, R537)
def F.CHN_PROTO_PROTO : Fld := ⟨.pkg, 0x50028, 0x0, 0x0, 0, 8, 0x0, [], .ro⟩

-- CHAIN_TOFS (02_angle_bases_and_time.md, R67)
def F.CHAIN_TOFS_OFFSET : Fld := ⟨.pkg, 0x50040, 0x0, 0x0, 0, 32, 0x0, [], .ro⟩

-- CHN_HCMD (21_host_ports_and_chain.md, R537)
def F.CHN_HCMD_DST : Fld := ⟨.pkg, 0x50080, 0x0, 0x0, 24, 6, 0x0, [], .wo⟩
def F.CHN_HCMD_TYPE : Fld := ⟨.pkg, 0x50080, 0x0, 0x0, 20, 4, 0x0, [], .wo⟩
def F.CHN_HCMD_REUSE : Fld := ⟨.pkg, 0x50080, 0x0, 0x0, 19, 1, 0x0, [], .wo⟩
def F.CHN_HCMD_N : Fld := ⟨.pkg, 0x50080, 0x0, 0x0, 0, 6, 0x0, [], .wo⟩

-- CHN_HADDR (21_host_ports_and_chain.md, R537)
def F.CHN_HADDR_ADDR : Fld := ⟨.pkg, 0x50084, 0x0, 0x0, 0, 32, 0x0, [], .rw⟩

-- CHN_HRES (21_host_ports_and_chain.md, R537)
def F.CHN_HRES_RID : Fld := ⟨.pkg, 0x50088, 0x0, 0x0, 16, 16, 0x0, [], .ro⟩
def F.CHN_HRES_ORIG : Fld := ⟨.pkg, 0x50088, 0x0, 0x0, 8, 4, 0x0, [], .ro⟩
def F.CHN_HRES_BUSY : Fld := ⟨.pkg, 0x50088, 0x0, 0x0, 5, 1, 0x0, [], .ro⟩
def F.CHN_HRES_DONE : Fld := ⟨.pkg, 0x50088, 0x0, 0x0, 4, 1, 0x0, [], .w1c⟩
def F.CHN_HRES_RES : Fld := ⟨.pkg, 0x50088, 0x0, 0x0, 0, 4, 0x0, [], .ro⟩

-- CHN_HBUF (21_host_ports_and_chain.md, R537)
def F.CHN_HBUF : Fld := ⟨.pkg, 0x50100, 0x4, 0x0, 0, 32, 0x0, [], .rw⟩

end Sys2Proof.Machine
end

