-- ==== Sys2Proof/Machine/RegsTime.lean ====
section
/-!
DEFINITION. The register fields of the die identity, the tick, the angle bases, the engines, the queues, the interrupt controller and the ring (chapters 01 to 05, 19, 23):
one name per field of the field tables of the spec, with its place, width, reset value and access class (R12, R571).
-/
namespace Sys2Proof.Machine

-- DIE_ID (01_package_architecture.md, R20)
def F.DIE_ID_SAFE_B : Fld := ⟨.die, 0x0, 0x0, 0x0, 7, 1, 0x0, [], .ro⟩
def F.DIE_ID_ANCHOR : Fld := ⟨.die, 0x0, 0x0, 0x0, 6, 1, 0x0, [], .ro⟩
def F.DIE_ID_PAIR : Fld := ⟨.die, 0x0, 0x0, 0x0, 3, 3, 0x0, [], .ro⟩
def F.DIE_ID_DIE : Fld := ⟨.die, 0x0, 0x0, 0x0, 0, 3, 0x0, [], .ro⟩

-- TICK_LO (02_angle_bases_and_time.md, R40)
def F.TICK_LO_COUNT : Fld := ⟨.die, 0x10, 0x0, 0x0, 0, 32, 0x0, [], .ro⟩

-- TICK_HI (02_angle_bases_and_time.md, R40)
def F.TICK_HI_COUNT : Fld := ⟨.bank, 0xC00000, 0x4, 0x0, 0, 32, 0x0, [], .ro⟩

-- TICK_STAT (02_angle_bases_and_time.md, R40)
def F.TICK_STAT_SLIP_CNT : Fld := ⟨.die, 0x18, 0x0, 0x0, 8, 16, 0x0, [], .ro⟩
def F.TICK_STAT_WHISTLE_MISS : Fld := ⟨.die, 0x18, 0x0, 0x0, 3, 1, 0x0, [], .w1c⟩
def F.TICK_STAT_DISAGREE : Fld := ⟨.die, 0x18, 0x0, 0x0, 2, 1, 0x0, [], .w1c⟩
def F.TICK_STAT_LAST_SLIP : Fld := ⟨.die, 0x18, 0x0, 0x0, 0, 2, 0x0, [], .ro⟩

-- TICK_ERR (02_angle_bases_and_time.md, R40)
def F.TICK_ERR_ERR : Fld := ⟨.die, 0x1C, 0x0, 0x0, 0, 16, 0x0, [], .ro⟩

-- DIE_WREF (23_register_map.md, R570)
def F.DIE_WREF_CLR : Fld := ⟨.die, 0x20, 0x0, 0x0, 31, 1, 0x0, [], .wo⟩
def F.DIE_WREF_CNT : Fld := ⟨.die, 0x20, 0x0, 0x0, 0, 16, 0x0, [], .ro⟩

-- DIE_WLAST (23_register_map.md, R570)
def F.DIE_WLAST_KIND : Fld := ⟨.die, 0x24, 0x0, 0x0, 30, 2, 0x0, [], .ro⟩
def F.DIE_WLAST_INDEX : Fld := ⟨.die, 0x24, 0x0, 0x0, 24, 6, 0x0, [], .ro⟩
def F.DIE_WLAST_OFFSET : Fld := ⟨.die, 0x24, 0x0, 0x0, 2, 22, 0x0, [], .ro⟩

-- AB_CFG (02_angle_bases_and_time.md, R51)
def F.AB_CFG_PARENT : Fld := ⟨.die, 0x10000, 0x20, 0x0, 20, 4, 0x0, [], .rwl⟩
def F.AB_CFG_SRC : Fld := ⟨.die, 0x10000, 0x20, 0x0, 16, 4, 0x0, [], .rwl⟩
def F.AB_CFG_PMODE : Fld := ⟨.die, 0x10000, 0x20, 0x0, 14, 2, 0x0, [], .rwl⟩
def F.AB_CFG_INTERP : Fld := ⟨.die, 0x10000, 0x20, 0x0, 13, 1, 0x0, [], .rwl⟩
def F.AB_CFG_SYNC_WRAP : Fld := ⟨.die, 0x10000, 0x20, 0x0, 12, 1, 0x0, [], .rwl⟩
def F.AB_CFG_CMODE : Fld := ⟨.die, 0x10000, 0x20, 0x0, 11, 1, 0x0, [], .rw⟩
def F.AB_CFG_ALLOW_BACK : Fld := ⟨.die, 0x10000, 0x20, 0x0, 10, 1, 0x0, [], .rwl⟩
def F.AB_CFG_WSTART : Fld := ⟨.die, 0x10000, 0x20, 0x0, 9, 1, 0x0, [], .rw⟩
def F.AB_CFG_RUN : Fld := ⟨.die, 0x10000, 0x20, 0x0, 8, 1, 0x0, [], .rw⟩
def F.AB_CFG_CORR_SHIFT : Fld := ⟨.die, 0x10000, 0x20, 0x0, 4, 4, 0x4, [], .rw⟩
def F.AB_CFG_TYPE : Fld := ⟨.die, 0x10000, 0x20, 0x0, 0, 3, 0x0, [], .rwl⟩

-- AB_INC (02_angle_bases_and_time.md, R51)
def F.AB_INC_INC : Fld := ⟨.die, 0x10004, 0x20, 0x0, 0, 32, 0x0, [], .rw⟩

-- AB_ANGLE (02_angle_bases_and_time.md, R51)
def F.AB_ANGLE_ANGLE : Fld := ⟨.die, 0x10008, 0x20, 0x0, 0, 32, 0x0, [], .rw⟩

-- AB_CORR (02_angle_bases_and_time.md, R51)
def F.AB_CORR_CORR : Fld := ⟨.die, 0x1000C, 0x20, 0x0, 0, 32, 0x0, [], .wo⟩

-- AB_TURN (02_angle_bases_and_time.md, R51)
def F.AB_TURN_TURN : Fld := ⟨.die, 0x10010, 0x20, 0x0, 0, 16, 0x0, [], .rw⟩

-- AB_STAT (02_angle_bases_and_time.md, R51)
def F.AB_STAT_SKIP_CNT : Fld := ⟨.die, 0x10014, 0x20, 0x0, 16, 16, 0x0, [], .ro⟩
def F.AB_STAT_CORR_BUSY : Fld := ⟨.die, 0x10014, 0x20, 0x0, 7, 1, 0x0, [], .ro⟩
def F.AB_STAT_BACK_SLEWED : Fld := ⟨.die, 0x10014, 0x20, 0x0, 6, 1, 0x0, [], .w1c⟩
def F.AB_STAT_INC_CLAMP : Fld := ⟨.die, 0x10014, 0x20, 0x0, 5, 1, 0x0, [], .w1c⟩
def F.AB_STAT_JUMP : Fld := ⟨.die, 0x10014, 0x20, 0x0, 4, 1, 0x0, [], .w1c⟩
def F.AB_STAT_PULSE_ERR : Fld := ⟨.die, 0x10014, 0x20, 0x0, 3, 1, 0x0, [], .w1c⟩
def F.AB_STAT_HOLD : Fld := ⟨.die, 0x10014, 0x20, 0x0, 2, 1, 0x0, [], .ro⟩

-- AB_MULT (02_angle_bases_and_time.md, R51)
def F.AB_MULT_MULT : Fld := ⟨.die, 0x10018, 0x20, 0x0, 0, 24, 0x10000, [], .rwl⟩

-- AB_PHASE (02_angle_bases_and_time.md, R51)
def F.AB_PHASE_PHASE : Fld := ⟨.die, 0x1001C, 0x20, 0x0, 0, 32, 0x0, [], .rws⟩

-- MT_CFG (02_angle_bases_and_time.md, R56)
def F.MT_CFG_NOM : Fld := ⟨.die, 0x10800, 0x20, 0x0, 16, 1, 0x0, [], .rwl⟩
def F.MT_CFG_BW : Fld := ⟨.die, 0x10800, 0x20, 0x0, 12, 4, 0x6, [], .rwl⟩
def F.MT_CFG_LOCK_CYC : Fld := ⟨.die, 0x10800, 0x20, 0x0, 8, 4, 0x5, [], .rw⟩
def F.MT_CFG_EN : Fld := ⟨.die, 0x10800, 0x20, 0x0, 7, 1, 0x0, [], .rw⟩

-- MT_SRC (02_angle_bases_and_time.md, R56)
def F.MT_SRC_C : Fld := ⟨.die, 0x10804, 0x20, 0x0, 16, 8, 0x0, [], .rwl⟩
def F.MT_SRC_B : Fld := ⟨.die, 0x10804, 0x20, 0x0, 8, 8, 0x0, [], .rwl⟩
def F.MT_SRC_A : Fld := ⟨.die, 0x10804, 0x20, 0x0, 0, 8, 0x0, [], .rwl⟩

-- MT_FREQ (02_angle_bases_and_time.md, R56)
def F.MT_FREQ_FREQ : Fld := ⟨.die, 0x10808, 0x20, 0x0, 0, 24, 0x320000, [], .ro⟩

-- MT_AMP (02_angle_bases_and_time.md, R56)
def F.MT_AMP_AMP : Fld := ⟨.die, 0x1080C, 0x20, 0x0, 0, 24, 0x0, [], .ro⟩

-- MT_STAT (02_angle_bases_and_time.md, R56)
def F.MT_STAT_LOSS_CNT : Fld := ⟨.die, 0x10810, 0x20, 0x0, 8, 16, 0x0, [], .ro⟩
def F.MT_STAT_RANGE : Fld := ⟨.die, 0x10810, 0x20, 0x0, 2, 1, 0x0, [], .w1c⟩
def F.MT_STAT_HOLD : Fld := ⟨.die, 0x10810, 0x20, 0x0, 1, 1, 0x1, [], .ro⟩
def F.MT_STAT_LOCK : Fld := ⟨.die, 0x10810, 0x20, 0x0, 0, 1, 0x0, [], .ro⟩

-- AEV_CFG (02_angle_bases_and_time.md, R64)
def F.AEV_CFG_BASE : Fld := ⟨.die, 0x11000, 0x10, 0x0, 20, 4, 0x0, [], .rw⟩
def F.AEV_CFG_ACTION : Fld := ⟨.die, 0x11000, 0x10, 0x0, 17, 3, 0x0, [], .rw⟩
def F.AEV_CFG_DIR : Fld := ⟨.die, 0x11000, 0x10, 0x0, 15, 2, 0x0, [], .rw⟩
def F.AEV_CFG_ONCE : Fld := ⟨.die, 0x11000, 0x10, 0x0, 14, 1, 0x0, [], .rw⟩
def F.AEV_CFG_PASS_ON_JUMP : Fld := ⟨.die, 0x11000, 0x10, 0x0, 13, 1, 0x0, [], .rw⟩
def F.AEV_CFG_ARMED : Fld := ⟨.die, 0x11000, 0x10, 0x0, 12, 1, 0x0, [], .rw⟩
def F.AEV_CFG_MISS : Fld := ⟨.die, 0x11000, 0x10, 0x0, 11, 1, 0x0, [], .w1c⟩

-- AEV_ANGLE (02_angle_bases_and_time.md, R64)
def F.AEV_ANGLE_ANGLE : Fld := ⟨.die, 0x11004, 0x10, 0x0, 0, 32, 0x0, [], .rw⟩

-- AEV_ARG (02_angle_bases_and_time.md, R64)
def F.AEV_ARG_ARG : Fld := ⟨.die, 0x11008, 0x10, 0x0, 0, 32, 0x0, [], .rw⟩

-- AEV_CNT (02_angle_bases_and_time.md, R64)
def F.AEV_CNT_COUNT : Fld := ⟨.die, 0x1100C, 0x10, 0x0, 0, 24, 0x0, [], .ro⟩

-- ENG_CTL (03_engine_programming_model.md, R103)
def F.ENG_CTL_STOP : Fld := ⟨.die, 0x80000, 0x800, 0x0, 2, 1, 0x0, [], .rw⟩
def F.ENG_CTL_RST : Fld := ⟨.die, 0x80000, 0x800, 0x0, 1, 1, 0x0, [], .wo⟩
def F.ENG_CTL_EN : Fld := ⟨.die, 0x80000, 0x800, 0x0, 0, 1, 0x0, [], .rw⟩

-- ENG_STAT (03_engine_programming_model.md, R103)
def F.ENG_STAT_OVERRUN : Fld := ⟨.die, 0x80004, 0x800, 0x0, 15, 1, 0x0, [], .w1c⟩
def F.ENG_STAT_CUR_TASK : Fld := ⟨.die, 0x80004, 0x800, 0x0, 8, 5, 0x0, [], .ro⟩
def F.ENG_STAT_STATE : Fld := ⟨.die, 0x80004, 0x800, 0x0, 0, 3, 0x0, [], .ro⟩

-- ENG_WIN (03_engine_programming_model.md, R103)
def F.ENG_WIN_SPILLED : Fld := ⟨.die, 0x80008, 0x800, 0x0, 16, 8, 0x0, [], .ro⟩
def F.ENG_WIN_WIN_USED : Fld := ⟨.die, 0x80008, 0x800, 0x0, 8, 4, 0x2, [], .ro⟩
def F.ENG_WIN_CWP : Fld := ⟨.die, 0x80008, 0x800, 0x0, 0, 3, 0x0, [], .ro⟩

-- ENG_SPB (03_engine_programming_model.md, R103)
def F.ENG_SPB_SPLIM : Fld := ⟨.die, 0x8000C, 0x800, 0x0, 12, 12, 0x800, [], .rwl⟩
def F.ENG_SPB_SPBASE : Fld := ⟨.die, 0x8000C, 0x800, 0x0, 0, 12, 0x700, [], .rwl⟩

-- ENG_SPP (03_engine_programming_model.md, R103)
def F.ENG_SPP_SPP : Fld := ⟨.die, 0x80010, 0x800, 0x0, 0, 12, 0x700, [], .ro⟩

-- ENG_TRAP (03_engine_programming_model.md, R103)
def F.ENG_TRAP_DF_CAUSE : Fld := ⟨.die, 0x80014, 0x800, 0x0, 20, 3, 0x0, [], .ro⟩
def F.ENG_TRAP_CAUSE : Fld := ⟨.die, 0x80014, 0x800, 0x0, 16, 3, 0x0, [], .ro⟩
def F.ENG_TRAP_TPC : Fld := ⟨.die, 0x80014, 0x800, 0x0, 0, 15, 0x0, [], .ro⟩

-- ENG_TVEC (03_engine_programming_model.md, R103)
def F.ENG_TVEC_BASE : Fld := ⟨.die, 0x80018, 0x800, 0x0, 5, 10, 0x0, [], .rwl⟩

-- ENG_DISP (03_engine_programming_model.md, R103)
def F.ENG_DISP_ARG : Fld := ⟨.die, 0x8001C, 0x800, 0x0, 8, 16, 0x0, [], .wo⟩
def F.ENG_DISP_TASK : Fld := ⟨.die, 0x8001C, 0x800, 0x0, 0, 5, 0x0, [], .wo⟩

-- ENG_TSEL (03_engine_programming_model.md, R103)
def F.ENG_TSEL_TASK : Fld := ⟨.bank, 0x400000, 0x1000, 0x4, 0, 5, 0x0, [], .rw⟩

-- ENG_TCFG (03_engine_programming_model.md, R103)
def F.ENG_TCFG_EN : Fld := ⟨.bank, 0x0, 0x400, 0x4, 23, 1, 0x0, [], .rwl⟩
def F.ENG_TCFG_HB : Fld := ⟨.bank, 0x0, 0x400, 0x4, 22, 1, 0x0, [], .rwl⟩
def F.ENG_TCFG_HERD : Fld := ⟨.bank, 0x0, 0x400, 0x4, 16, 3, 0x0, [], .rwl⟩
def F.ENG_TCFG_ENTRY : Fld := ⟨.bank, 0x0, 0x400, 0x4, 0, 15, 0x0, [], .rwl⟩

-- ENG_THC (03_engine_programming_model.md, R103)
def F.ENG_THC_HC : Fld := ⟨.bank, 0x100000, 0x400, 0x4, 0, 24, 0x0, [], .rwl⟩

-- ENG_TSTAT (03_engine_programming_model.md, R103)
def F.ENG_TSTAT_OVR_CNT : Fld := ⟨.bank, 0x200000, 0x400, 0x4, 16, 16, 0x0, [], .ro⟩
def F.ENG_TSTAT_RUN : Fld := ⟨.bank, 0x200000, 0x400, 0x4, 9, 1, 0x0, [], .ro⟩
def F.ENG_TSTAT_PEND : Fld := ⟨.bank, 0x200000, 0x400, 0x4, 8, 1, 0x0, [], .ro⟩

-- ENG_TFLG (03_engine_programming_model.md, R103)
def F.ENG_TFLG_FLAGS : Fld := ⟨.bank, 0x300000, 0x400, 0x4, 0, 7, 0x0, [], .rc⟩

-- Q_SEL (05_signal_store_queues_die_ring.md, R157)
def F.Q_SEL_QUEUE : Fld := ⟨.bank, 0xA00000, 0x4, 0x0, 0, 13, 0x0, [], .rw⟩

-- Q_CFG (05_signal_store_queues_die_ring.md, R157)
def F.Q_CFG_EN : Fld := ⟨.bank, 0x500000, 0x4, 0x0, 23, 1, 0x0, [], .rw⟩
def F.Q_CFG_KIND : Fld := ⟨.bank, 0x500000, 0x4, 0x0, 20, 3, 0x0, [], .rw⟩
def F.Q_CFG_OWNER : Fld := ⟨.bank, 0x500000, 0x4, 0x0, 0, 16, 0x0, [], .rw⟩

-- Q_SIZE (05_signal_store_queues_die_ring.md, R157)
def F.Q_SIZE_WMARK : Fld := ⟨.bank, 0x600000, 0x4, 0x0, 16, 13, 0x0, [], .rw⟩
def F.Q_SIZE_DEPTH : Fld := ⟨.bank, 0x600000, 0x4, 0x0, 0, 13, 0x0, [], .rw⟩

-- Q_BASE (05_signal_store_queues_die_ring.md, R157)
def F.Q_BASE_BASE : Fld := ⟨.bank, 0x700000, 0x4, 0x0, 0, 14, 0x0, [], .rw⟩

-- Q_STAT (05_signal_store_queues_die_ring.md, R157)
def F.Q_STAT_FULL_CNT : Fld := ⟨.bank, 0x800000, 0x4, 0x0, 16, 16, 0x0, [], .ro⟩
def F.Q_STAT_WM : Fld := ⟨.bank, 0x800000, 0x4, 0x0, 15, 1, 0x0, [], .ro⟩
def F.Q_STAT_BUSY : Fld := ⟨.bank, 0x800000, 0x4, 0x0, 14, 1, 0x0, [], .ro⟩
def F.Q_STAT_COUNT : Fld := ⟨.bank, 0x800000, 0x4, 0x0, 0, 13, 0x0, [], .ro⟩

-- Q_RES (05_signal_store_queues_die_ring.md, R157)
def F.Q_RES_RES : Fld := ⟨.bank, 0xB00000, 0x4, 0x0, 0, 4, 0x0, [], .ro⟩

-- Q_BUDGET (05_signal_store_queues_die_ring.md, R157)
def F.Q_BUDGET_USED : Fld := ⟨.die, 0x90018, 0x0, 0x0, 0, 15, 0x0, [], .ro⟩

-- Q_FLUSH (05_signal_store_queues_die_ring.md, R157)
def F.Q_FLUSH_DISCARD_CNT : Fld := ⟨.bank, 0x900000, 0x4, 0x0, 16, 16, 0x0, [], .ro⟩
def F.Q_FLUSH_FLUSH : Fld := ⟨.bank, 0x900000, 0x4, 0x0, 0, 1, 0x0, [], .wo⟩

-- IRQ_SRC (19_interrupt_controller.md, R487)
def F.IRQ_SRC_EN : Fld := ⟨.die, 0xA0000, 0x4, 0x0, 31, 1, 0x0, [], .rw⟩
def F.IRQ_SRC_CLASS : Fld := ⟨.die, 0xA0000, 0x4, 0x0, 30, 1, 0x0, [], .rw⟩
def F.IRQ_SRC_MODE : Fld := ⟨.die, 0xA0000, 0x4, 0x0, 29, 1, 0x0, [], .rw⟩
def F.IRQ_SRC_HOST : Fld := ⟨.die, 0xA0000, 0x4, 0x0, 28, 1, 0x0, [], .rw⟩
def F.IRQ_SRC_LEVEL : Fld := ⟨.die, 0xA0000, 0x4, 0x0, 27, 1, 0x0, [], .ro⟩
def F.IRQ_SRC_ACTIVE : Fld := ⟨.die, 0xA0000, 0x4, 0x0, 26, 1, 0x0, [], .ro⟩
def F.IRQ_SRC_ENGINE : Fld := ⟨.die, 0xA0000, 0x4, 0x0, 21, 5, 0x0, [], .rw⟩
def F.IRQ_SRC_TARGET : Fld := ⟨.die, 0xA0000, 0x4, 0x0, 0, 15, 0x0, [], .rw⟩

-- IRQ_PEND (19_interrupt_controller.md, R487)
def F.IRQ_PEND_PEND : Fld := ⟨.die, 0xA0800, 0x4, 0x0, 0, 32, 0x0, [], .w1c⟩

-- IRQ_HPEND (19_interrupt_controller.md, R487)
def F.IRQ_HPEND_HPEND : Fld := ⟨.die, 0xA0840, 0x4, 0x0, 0, 32, 0x0, [], .w1c⟩

-- IRQ_LINE (19_interrupt_controller.md, R487)
def F.IRQ_LINE_LINE : Fld := ⟨.die, 0xA0880, 0x4, 0x0, 0, 32, 0x0, [], .ro⟩

-- IRQ_SWSET (19_interrupt_controller.md, R487)
def F.IRQ_SWSET_SRC : Fld := ⟨.die, 0xA08C0, 0x0, 0x0, 0, 9, 0x0, [], .wo⟩

-- IRQ_STK (19_interrupt_controller.md, R487)
def F.IRQ_STK_FROZEN : Fld := ⟨.die, 0xA0900, 0x4, 0x0, 20, 1, 0x0, [], .ro⟩
def F.IRQ_STK_DEPTH : Fld := ⟨.die, 0xA0900, 0x4, 0x0, 18, 2, 0x0, [], .ro⟩
def F.IRQ_STK_LOWER : Fld := ⟨.die, 0xA0900, 0x4, 0x0, 9, 9, 0x1FF, [], .ro⟩
def F.IRQ_STK_UPPER : Fld := ⟨.die, 0xA0900, 0x4, 0x0, 0, 9, 0x1FF, [], .ro⟩

-- IRQ_ESTAT (19_interrupt_controller.md, R487)
def F.IRQ_ESTAT_ENG : Fld := ⟨.die, 0xA0980, 0x0, 0x0, 0, 32, 0x0, [], .w1c⟩

-- IRQ_CNT (19_interrupt_controller.md, R487)
def F.IRQ_CNT_LOST_CNT : Fld := ⟨.die, 0xA0984, 0x0, 0x0, 0, 16, 0x0, [], .ro⟩

-- IRQ_DSUM (19_interrupt_controller.md, R487)
def F.IRQ_DSUM_DIES : Fld := ⟨.die, 0xA0988, 0x0, 0x0, 0, 8, 0x0, [], .ro⟩

-- RING_STAT (05_signal_store_queues_die_ring.md, R161)
def F.RING_STAT_ABORT_CNT : Fld := ⟨.die, 0xF0000, 0x0, 0x0, 16, 16, 0x0, [], .ro⟩
def F.RING_STAT_RD_OUT : Fld := ⟨.die, 0xF0000, 0x0, 0x0, 0, 9, 0x0, [], .ro⟩

-- RING_FULL (05_signal_store_queues_die_ring.md, R161)
def F.RING_FULL_NB_CNT : Fld := ⟨.die, 0xF0004, 0x0, 0x0, 16, 16, 0x0, [], .ro⟩
def F.RING_FULL_STALL_CNT : Fld := ⟨.die, 0xF0004, 0x0, 0x0, 0, 16, 0x0, [], .ro⟩

-- RING_CRED (05_signal_store_queues_die_ring.md, R161)
def F.RING_CRED_DSC_RSP : Fld := ⟨.die, 0xF0008, 0x0, 0x0, 24, 8, 0x10, [], .ro⟩
def F.RING_CRED_DSC_REQ : Fld := ⟨.die, 0xF0008, 0x0, 0x0, 16, 8, 0x30, [], .ro⟩
def F.RING_CRED_ASC_RSP : Fld := ⟨.die, 0xF0008, 0x0, 0x0, 8, 8, 0x10, [], .ro⟩
def F.RING_CRED_ASC_REQ : Fld := ⟨.die, 0xF0008, 0x0, 0x0, 0, 8, 0x30, [], .ro⟩

end Sys2Proof.Machine
end

