-- ==== Sys2Proof/Machine/RegTable.lean ====
section
/-!
DEFINITION. The register index of R571: every host-visible register word, with its offset, its instances and its fields.
`RegId` names the registers, so that a rule about one register names it.
-/
namespace Sys2Proof.Machine

/-- The registers of the index (R571), by name. -/
inductive RegId where
  | DIE_ID | TICK_LO | TICK_HI | TICK_STAT | TICK_ERR | DIE_WREF | DIE_WLAST | AB_CFG
  | AB_INC | AB_ANGLE | AB_CORR | AB_TURN | AB_STAT | AB_MULT | AB_PHASE | MT_CFG
  | MT_SRC | MT_FREQ | MT_AMP | MT_STAT | AEV_CFG | AEV_ANGLE | AEV_ARG | AEV_CNT
  | LEG_MODE | LEG_CFG | LEG_DUTY | LEG_PER | LEG_MIN | LEG_FORCE | LEG_STAT | LEG_CNT
  | LEG_CNT2 | GRP_MASK | POS_CFG | POS_STAT | POS_TAB | LA_CMD | LA_STAT | LEG_PHASE
  | GATE_CFG | GATE_TGT | GATE_LAW | GATE_DEF | GATE_STR | GATE_EDGE | GATE_STAT | GATE_CNT
  | GATE_CNT2 | GATE_TRIP | GATE_TCLR | GATE_HPOL | ADC_CFG | ADC_STAT | ADC_CNT | ADC_CNT2
  | ADC_CHURN | ADC_DATA | ADC_URG | ADC_UDATA | SLOT_A | SLOT_B | SG_CONV | SG_MOD
  | ADC_REF | ADC_SKEW | CAP_CFG | CAP_POST | CAP_WIDX | CAP_RD | CAP_STAT | CAP_MK
  | CAP_PTR | CAP_DATA | WC_CFG | WC_LO | WC_HI | WC_HYS | MOD_CFG | MOD_SC
  | MOD_PT | MOD_DATA | MOD_LAT | MOD_STAT | MOD_CLK | CMP_CFG | CMP_THR | CMP_BLK
  | CMP_STAT | CMP_SCK | REF_CFG | REF_STAT | REF_DEV | REF_EDEV | HERD_CTL | HERD_CMD
  | HERD_STAT | HERD_CHK | HSS_RAIL | HSS_CFG | HERD_PLB | HERD_PLB_LO | HERD_PLB_HI | CP_CFG
  | CP_TMO | CP_STAT | CP_AGE | LEASH_LO | LEASH_HI | LEASH_RATE | LEASH_LAST | LAW_CFG
  | LAW_STAT | VSAT_TIME | LAW_CNT | OSC_SPER | HEEL_SRC | HEEL_TGT | HEEL_OUT | HEEL_SLEW
  | HEEL_CMD | OSC_CFG | OSC_PAR | OSC_ATHR | OSC_HYS | OSC_FWIN | OSC_MEAS | OSC_MEAS2
  | REG_CFG | REG_STAT | REG_IADD | REG_ISHED | REG_IOVL | REG_IBURST | REG_IBEXIT | REG_TIME
  | REG_BURST | REG_BSLOT | REG_CNT | REG_CNT2 | REG_IPK | REG_VREF | REG_VSEL | REG_CCNT
  | SRC_CFG | SRC_LO | SRC_HI | SRC_SLEW | DRV_CFG | DRV_STAT | DRV_QW | DRV_CNT
  | DRV_QG | DRV_FLY | DRV_FAMP | DRV_FVDC | DRV_FLIM | DRV_FAMIN | DRV_FCMD | DRV_WSCFG
  | DRV_WSCMD | CH_CFG | CH_VDC | CH_VON | CH_VOFF | CH_VSTEP | CH_STAT | CH_AVPT
  | CH_TAMB | CH_SCFG | CH_K | CH_RTH | CH_CTH | CH_TLIM | CH_TEST | CH_EKJ
  | CH_TMEAS | GRD_CFG | GRD_STAT | GRD_VNOM | GRD_OUT | GRD_PMEAS | GRD_QSP | GRD_PMAX
  | GRD_START | GRD_VRT | GRD_VRT_T | GRD_FRT | GRD_FRT_T | GRD_AI | GRD_ROCOF | GRD_SFS
  | GRD_PRB | GRD_PRBA | GRD_TIME | GRD_FW | GRD_FWT | GRD_VV | GRD_VV2 | GRD_VVQ1
  | GRD_VVQ4 | GRD_QCAP | GRD_KPF | GRD_ES | GRD_ES2 | GRD_MEAS | GRD_ZM | GRD_CNT
  | TRK_CFG | TRK_STAT | TRK_VPT | TRK_IPT | TRK_OUT | TRK_BUS | TRK_PER | TRK_SMIN
  | TRK_SMAX | TRK_KSTEP | TRK_SDB | TRK_VMIN | TRK_VMAX | TRK_CURT | TRK_CHYS | TRK_SW
  | TRK_DISP | TRK_GMP | TRK_CNT | TRK_VREF | OWN_LEG | OWN_ADC | OWN_MOD | OWN_AB
  | LEG_HSS | REG_LCFG | REG_LIPT | REG_LILIM | REG_LIF | DRV_LCFG | ENG_CTL | ENG_STAT
  | ENG_WIN | ENG_SPB | ENG_SPP | ENG_TRAP | ENG_TVEC | ENG_DISP | ENG_TSEL | ENG_TCFG
  | ENG_THC | ENG_TSTAT | ENG_TFLG | Q_SEL | Q_CFG | Q_SIZE | Q_BASE | Q_STAT
  | Q_RES | Q_BUDGET | Q_FLUSH | IRQ_SRC | IRQ_PEND | IRQ_HPEND | IRQ_LINE | IRQ_SWSET
  | IRQ_STK | IRQ_ESTAT | IRQ_CNT | IRQ_DSUM | PWR_DOM | PWR_DCNT | PWR_DLAST | CLU_OP
  | PWR_PKG | CLK_PLL | CLK_OUT | CLK_OUTF | RG_CFG | RG_STAT | RG_PT | RG_DW
  | MU_CFG | MU_STAT | MU_CMD | MU_INOM | MU_START | MU_ZCHYS | MU_OVF | MU_INVAL
  | MU_COLL | MC_SRC | MC_OFS | MC_GAIN | MC_DLY | MC_RMS | ZC_PER | ZC_TICK
  | ZC_CNT | PAIL_LO | PAIL_HI | SNAP_LO | SNAP_HI | SNAP_S0 | SNAP_TLO | SNAP_THI
  | SNAP_STAT | PO_CFG | PO_THR_LO | PO_THR_HI | PO_PAIL_LO | PO_PAIL_HI | PO_CNT | PO_STAT
  | S0_CFG | S0_CNT | S0_TICK | S0_STAT | FL_ADDR | FL_CMD | FL_STAT | FL_SSTAT
  | FL_DATA | FL_CNT | RING_STAT | RING_FULL | RING_CRED | PKG_ID | PKG_STATE | PKG_STRAP
  | PKG_AGREE | PKG_BOOT | PKG_CMD | PKG_CRES | PKG_SLOT | PKG_IMGID | PKG_CHASH | PKG_OTP
  | PKG_OTPCMD | PKG_KEYW | PKG_WREF | PKG_WLAST | SAFE_STAT | SAFE_SEAL | SAFE_IN | SAFE_INDEM
  | SAFE_FLT | SAFE_CNT | SAFE_CNT2 | SAFE_EN | AON_STAT | AON_SECS | AON_MSECS | AON_PCYC
  | AON_CFG | AON_LMAX | AON_GAUGE | AON_VST | AON_HARV | AON_DARK | AON_CNT | AON_GAP
  | AON_ALM | AON_CMP_CFG | AON_CMP_STAT | AON_ST | REC_CMD | REC_STAT | REC_CURSOR | REC_CSEL
  | REC_WIN | REC_NEXT | REC_OLD | REC_PFIRST | REC_FLG | REC_LOST | REC_CNT | REC_MIR
  | REC_MIR2 | SPI_STAT | CAN_CFG | CAN_NBT | CAN_DBT | CAN_STAT | CAN_CNT | CAN_TXQ
  | CAN_FID | CAN_FMSK | CAN_FQ | PMB_CFG | PMB_CNT | PMB_PG | PMB_PQ | PMB_PSC
  | PMB_PV | CHN_CFG | CHN_STAT | CHN_CNT | CHN_CNT2 | CHN_CNT3 | CHN_CNT4 | CHN_RSEL
  | CHN_RDAT | CHN_XHERD_LO | CHN_XHERD_HI | CHN_PROTO | CHAIN_TOFS | CHN_HCMD | CHN_HADDR | CHN_HRES
  | CHN_HBUF
deriving DecidableEq, Repr

/-- One row of the register index (R571): the register, its block space (die or package), the byte offset of instance
(0, 0), the counts and strides of its two instance numbers, its fields, and whether the word acts on an instance that the
requester's own cursor selects (R103, R157, R469). -/
structure Reg where
  id : RegId
  die : Bool
  off : Nat
  n1 : Nat
  s1 : Nat
  n2 : Nat
  s2 : Nat
  flds : List Fld
  cursor : Bool

/-- Rows 0 on of the register index. -/
def regTable0 : List Reg :=
  [⟨.DIE_ID, true, 0x0, 1, 0x0, 1, 0x0, [F.DIE_ID_SAFE_B, F.DIE_ID_ANCHOR, F.DIE_ID_PAIR, F.DIE_ID_DIE], false⟩,
   ⟨.TICK_LO, true, 0x10, 1, 0x0, 1, 0x0, [F.TICK_LO_COUNT], false⟩,
   ⟨.TICK_HI, true, 0x14, 1, 0x0, 1, 0x0, [F.TICK_HI_COUNT], true⟩,
   ⟨.TICK_STAT, true, 0x18, 1, 0x0, 1, 0x0, [F.TICK_STAT_SLIP_CNT, F.TICK_STAT_WHISTLE_MISS, F.TICK_STAT_DISAGREE, F.TICK_STAT_LAST_SLIP], false⟩,
   ⟨.TICK_ERR, true, 0x1C, 1, 0x0, 1, 0x0, [F.TICK_ERR_ERR], false⟩,
   ⟨.DIE_WREF, true, 0x20, 1, 0x0, 1, 0x0, [F.DIE_WREF_CLR, F.DIE_WREF_CNT], false⟩,
   ⟨.DIE_WLAST, true, 0x24, 1, 0x0, 1, 0x0, [F.DIE_WLAST_KIND, F.DIE_WLAST_INDEX, F.DIE_WLAST_OFFSET], false⟩,
   ⟨.AB_CFG, true, 0x10000, 16, 0x20, 1, 0x0, [F.AB_CFG_PARENT, F.AB_CFG_SRC, F.AB_CFG_PMODE, F.AB_CFG_INTERP, F.AB_CFG_SYNC_WRAP, F.AB_CFG_CMODE, F.AB_CFG_ALLOW_BACK, F.AB_CFG_WSTART, F.AB_CFG_RUN, F.AB_CFG_CORR_SHIFT, F.AB_CFG_TYPE], false⟩,
   ⟨.AB_INC, true, 0x10004, 16, 0x20, 1, 0x0, [F.AB_INC_INC], false⟩,
   ⟨.AB_ANGLE, true, 0x10008, 16, 0x20, 1, 0x0, [F.AB_ANGLE_ANGLE], false⟩,
   ⟨.AB_CORR, true, 0x1000C, 16, 0x20, 1, 0x0, [F.AB_CORR_CORR], false⟩,
   ⟨.AB_TURN, true, 0x10010, 16, 0x20, 1, 0x0, [F.AB_TURN_TURN], false⟩,
   ⟨.AB_STAT, true, 0x10014, 16, 0x20, 1, 0x0, [F.AB_STAT_SKIP_CNT, F.AB_STAT_CORR_BUSY, F.AB_STAT_BACK_SLEWED, F.AB_STAT_INC_CLAMP, F.AB_STAT_JUMP, F.AB_STAT_PULSE_ERR, F.AB_STAT_HOLD], false⟩,
   ⟨.AB_MULT, true, 0x10018, 16, 0x20, 1, 0x0, [F.AB_MULT_MULT], false⟩,
   ⟨.AB_PHASE, true, 0x1001C, 16, 0x20, 1, 0x0, [F.AB_PHASE_PHASE], false⟩,
   ⟨.MT_CFG, true, 0x10800, 2, 0x20, 1, 0x0, [F.MT_CFG_NOM, F.MT_CFG_BW, F.MT_CFG_LOCK_CYC, F.MT_CFG_EN], false⟩,
   ⟨.MT_SRC, true, 0x10804, 2, 0x20, 1, 0x0, [F.MT_SRC_C, F.MT_SRC_B, F.MT_SRC_A], false⟩,
   ⟨.MT_FREQ, true, 0x10808, 2, 0x20, 1, 0x0, [F.MT_FREQ_FREQ], false⟩,
   ⟨.MT_AMP, true, 0x1080C, 2, 0x20, 1, 0x0, [F.MT_AMP_AMP], false⟩,
   ⟨.MT_STAT, true, 0x10810, 2, 0x20, 1, 0x0, [F.MT_STAT_LOSS_CNT, F.MT_STAT_RANGE, F.MT_STAT_HOLD, F.MT_STAT_LOCK], false⟩,
   ⟨.AEV_CFG, true, 0x11000, 256, 0x10, 1, 0x0, [F.AEV_CFG_BASE, F.AEV_CFG_ACTION, F.AEV_CFG_DIR, F.AEV_CFG_ONCE, F.AEV_CFG_PASS_ON_JUMP, F.AEV_CFG_ARMED, F.AEV_CFG_MISS], false⟩,
   ⟨.AEV_ANGLE, true, 0x11004, 256, 0x10, 1, 0x0, [F.AEV_ANGLE_ANGLE], false⟩,
   ⟨.AEV_ARG, true, 0x11008, 256, 0x10, 1, 0x0, [F.AEV_ARG_ARG], false⟩,
   ⟨.AEV_CNT, true, 0x1100C, 256, 0x10, 1, 0x0, [F.AEV_CNT_COUNT], false⟩,
   ⟨.LEG_MODE, true, 0x20000, 24, 0x40, 1, 0x0, [F.LEG_MODE_EN, F.LEG_MODE_WAVE, F.LEG_MODE_BOUND, F.LEG_MODE_BASE], false⟩,
   ⟨.LEG_CFG, true, 0x20004, 24, 0x40, 1, 0x0, [F.LEG_CFG_RISE_DLY, F.LEG_CFG_FALL_DLY], false⟩,
   ⟨.LEG_DUTY, true, 0x20008, 24, 0x40, 1, 0x0, [F.LEG_DUTY_DUTY], false⟩,
   ⟨.LEG_PER, true, 0x2000C, 24, 0x40, 1, 0x0, [F.LEG_PER_PERIOD], false⟩,
   ⟨.LEG_MIN, true, 0x20010, 24, 0x40, 1, 0x0, [F.LEG_MIN_MIN_PULSE, F.LEG_MIN_MIN_GAP], false⟩,
   ⟨.LEG_FORCE, true, 0x20014, 24, 0x40, 1, 0x0, [F.LEG_FORCE_FORCE], false⟩,
   ⟨.LEG_STAT, true, 0x20018, 24, 0x40, 1, 0x0, [F.LEG_STAT_TRIP, F.LEG_STAT_SAFE_OFF, F.LEG_STAT_FORCED, F.LEG_STAT_MASKED, F.LEG_STAT_CBC_HOLD, F.LEG_STAT_PEND, F.LEG_STAT_LATE, F.LEG_STAT_PER_CONFLICT, F.LEG_STAT_GL, F.LEG_STAT_GH], false⟩,
   ⟨.LEG_CNT, true, 0x2001C, 24, 0x40, 1, 0x0, [F.LEG_CNT_MINP_CNT, F.LEG_CNT_MING_CNT], false⟩,
   ⟨.LEG_CNT2, true, 0x20020, 24, 0x40, 1, 0x0, [F.LEG_CNT2_PER_IGN_CNT, F.LEG_CNT2_LATE_CNT], false⟩,
   ⟨.GRP_MASK, true, 0x20800, 4, 0x4, 1, 0x0, [F.GRP_MASK_PORT, F.GRP_MASK_MASK], false⟩,
   ⟨.POS_CFG, true, 0x20900, 8, 0x40, 1, 0x0, [F.POS_CFG_EN, F.POS_CFG_GRP, F.POS_CFG_FILT], false⟩,
   ⟨.POS_STAT, true, 0x20904, 8, 0x40, 1, 0x0, [F.POS_STAT_INV_CNT, F.POS_STAT_OOS_CNT, F.POS_STAT_OOS, F.POS_STAT_INV, F.POS_STAT_STATE], false⟩,
   ⟨.POS_TAB, true, 0x20920, 8, 0x40, 8, 0x4, [F.POS_TAB_ANGLE, F.POS_TAB_VALID, F.POS_TAB_SUCC, F.POS_TAB_MASK], false⟩,
   ⟨.LA_CMD, true, 0x20B00, 1, 0x0, 1, 0x0, [F.LA_CMD_HERD], false⟩,
   ⟨.LA_STAT, true, 0x20B10, 8, 0x4, 1, 0x0, [F.LA_STAT_MERGE_CNT, F.LA_STAT_LA_CNT], false⟩,
   ⟨.LEG_PHASE, true, 0x20C00, 24, 0x4, 1, 0x0, [F.LEG_PHASE_PHASE], false⟩]

/-- Rows 40 on of the register index. -/
def regTable1 : List Reg :=
  [⟨.GATE_CFG, true, 0x30000, 24, 0x40, 1, 0x0, [F.GATE_CFG_EN, F.GATE_CFG_ADAPT, F.GATE_CFG_NORET_TRIP, F.GATE_CFG_MISS_LIM, F.GATE_CFG_STR_MAX, F.GATE_CFG_STR_MIN], false⟩,
   ⟨.GATE_TGT, true, 0x30004, 24, 0x40, 1, 0x0, [F.GATE_TGT_T_ON, F.GATE_TGT_T_OFF], false⟩,
   ⟨.GATE_LAW, true, 0x30008, 24, 0x40, 1, 0x0, [F.GATE_LAW_DBAND, F.GATE_LAW_ILIM], false⟩,
   ⟨.GATE_DEF, true, 0x3000C, 24, 0x40, 1, 0x0, [F.GATE_DEF_HS_ON, F.GATE_DEF_HS_OFF, F.GATE_DEF_LS_ON, F.GATE_DEF_LS_OFF], false⟩,
   ⟨.GATE_STR, true, 0x30010, 24, 0x40, 1, 0x0, [F.GATE_STR_CODES], false⟩,
   ⟨.GATE_EDGE, true, 0x30014, 24, 0x40, 4, 0x4, [F.GATE_EDGE_CODE, F.GATE_EDGE_NOTR, F.GATE_EDGE_FRAMED, F.GATE_EDGE_W], false⟩,
   ⟨.GATE_STAT, true, 0x30024, 24, 0x40, 1, 0x0, [F.GATE_STAT_FRAME_LATE, F.GATE_STAT_NORET, F.GATE_STAT_GF_FLT, F.GATE_STAT_GF, F.GATE_STAT_PGS, F.GATE_STAT_PGL, F.GATE_STAT_PGH], false⟩,
   ⟨.GATE_CNT, true, 0x30028, 24, 0x40, 1, 0x0, [F.GATE_CNT_SKIP_CNT, F.GATE_CNT_MISS_CNT], false⟩,
   ⟨.GATE_CNT2, true, 0x3002C, 24, 0x40, 1, 0x0, [F.GATE_CNT2_STRAY_CNT, F.GATE_CNT2_NOTR_CNT], false⟩,
   ⟨.GATE_TRIP, true, 0x30030, 24, 0x40, 1, 0x0, [F.GATE_TRIP_TRIP_CNT, F.GATE_TRIP_TRIP, F.GATE_TRIP_NORET, F.GATE_TRIP_GF, F.GATE_TRIP_SC, F.GATE_TRIP_CMP], false⟩,
   ⟨.GATE_TCLR, true, 0x30034, 24, 0x40, 1, 0x0, [F.GATE_TCLR_CLR_REF_CNT, F.GATE_TCLR_CLR], false⟩,
   ⟨.GATE_HPOL, true, 0x30800, 8, 0x4, 1, 0x0, [F.GATE_HPOL_ACTIVE, F.GATE_HPOL_POLICY], false⟩,
   ⟨.ADC_CFG, true, 0x40000, 8, 0x100, 1, 0x0, [F.ADC_CFG_EN, F.ADC_CFG_MODE, F.ADC_CFG_TLEN, F.ADC_CFG_LEN], false⟩,
   ⟨.ADC_STAT, true, 0x40004, 8, 0x100, 1, 0x0, [F.ADC_STAT_CHURN_STAGE, F.ADC_STAT_CAL_FAULT, F.ADC_STAT_CAL_PENDING, F.ADC_STAT_TRIG_LOST, F.ADC_STAT_OVR, F.ADC_STAT_CLIP, F.ADC_STAT_BUSY, F.ADC_STAT_URG_PEND, F.ADC_STAT_CUR_SLOT], false⟩,
   ⟨.ADC_CNT, true, 0x40008, 8, 0x100, 1, 0x0, [F.ADC_CNT_TRIG_LOST_CNT, F.ADC_CNT_OVR_CNT], false⟩,
   ⟨.ADC_CNT2, true, 0x4000C, 8, 0x100, 1, 0x0, [F.ADC_CNT2_URG_FULL_CNT, F.ADC_CNT2_DEST_COAL_CNT], false⟩,
   ⟨.ADC_CHURN, true, 0x40010, 8, 0x100, 1, 0x0, [F.ADC_CHURN_ROUNDS], false⟩,
   ⟨.ADC_DATA, true, 0x40014, 8, 0x100, 1, 0x0, [F.ADC_DATA_NEW, F.ADC_DATA_OVR, F.ADC_DATA_CAL_PENDING, F.ADC_DATA_CLIP, F.ADC_DATA_SLOT, F.ADC_DATA_VALUE], false⟩,
   ⟨.ADC_URG, true, 0x40018, 8, 0x100, 1, 0x0, [F.ADC_URG_GO, F.ADC_URG_INP, F.ADC_URG_AVG, F.ADC_URG_WIN], false⟩,
   ⟨.ADC_UDATA, true, 0x4001C, 8, 0x100, 1, 0x0, [F.ADC_UDATA_NEW, F.ADC_UDATA_CLIP, F.ADC_UDATA_VALUE], false⟩,
   ⟨.SLOT_A, true, 0x40040, 8, 0x100, 16, 0x8, [F.SLOT_A_RING, F.SLOT_A_INP, F.SLOT_A_AVG, F.SLOT_A_WIN], false⟩,
   ⟨.SLOT_B, true, 0x40044, 8, 0x100, 16, 0x8, [F.SLOT_B_PT_EN, F.SLOT_B_POINT], false⟩,
   ⟨.SG_CONV, true, 0x40800, 8, 0x8, 1, 0x0, [F.SG_CONV_CONV], false⟩,
   ⟨.SG_MOD, true, 0x40804, 8, 0x8, 1, 0x0, [F.SG_MOD_MOD], false⟩,
   ⟨.ADC_REF, true, 0x40900, 1, 0x0, 1, 0x0, [F.ADC_REF_SKIP_CNT, F.ADC_REF_CONV], false⟩,
   ⟨.ADC_SKEW, true, 0x40904, 1, 0x0, 1, 0x0, [F.ADC_SKEW_FAIL, F.ADC_SKEW_TRIM], false⟩,
   ⟨.CAP_CFG, true, 0x41000, 8, 0x40, 1, 0x0, [F.CAP_CFG_EN, F.CAP_CFG_RDTRK, F.CAP_CFG_STOPMK, F.CAP_CFG_DEC], false⟩,
   ⟨.CAP_POST, true, 0x41004, 8, 0x40, 1, 0x0, [F.CAP_POST_POST], false⟩,
   ⟨.CAP_WIDX, true, 0x41008, 8, 0x40, 1, 0x0, [F.CAP_WIDX_WRAP, F.CAP_WIDX_IDX], false⟩,
   ⟨.CAP_RD, true, 0x4100C, 8, 0x40, 1, 0x0, [F.CAP_RD_RD], false⟩,
   ⟨.CAP_STAT, true, 0x41010, 8, 0x40, 1, 0x0, [F.CAP_STAT_ROVR_CNT, F.CAP_STAT_MK_LOST_CNT, F.CAP_STAT_FROZEN, F.CAP_STAT_ROVR], false⟩,
   ⟨.CAP_MK, true, 0x41014, 8, 0x40, 1, 0x0, [F.CAP_MK_VALID, F.CAP_MK_CODE, F.CAP_MK_IDX], false⟩,
   ⟨.CAP_PTR, true, 0x41018, 8, 0x40, 1, 0x0, [F.CAP_PTR_PTR], false⟩,
   ⟨.CAP_DATA, true, 0x4101C, 8, 0x40, 1, 0x0, [F.CAP_DATA_DATA], false⟩,
   ⟨.WC_CFG, true, 0x42000, 64, 0x10, 1, 0x0, [F.WC_CFG_EN, F.WC_CFG_IRQ, F.WC_CFG_URG, F.WC_CFG_URG_CONV, F.WC_CFG_STATE, F.WC_CFG_EVT_LOW, F.WC_CFG_EVT_HIGH, F.WC_CFG_SRC], false⟩,
   ⟨.WC_LO, true, 0x42004, 64, 0x10, 1, 0x0, [F.WC_LO_LO], false⟩,
   ⟨.WC_HI, true, 0x42008, 64, 0x10, 1, 0x0, [F.WC_HI_HI], false⟩,
   ⟨.WC_HYS, true, 0x4200C, 64, 0x10, 1, 0x0, [F.WC_HYS_HYS], false⟩,
   ⟨.MOD_CFG, true, 0x50000, 24, 0x40, 1, 0x0, [F.MOD_CFG_EN, F.MOD_CFG_CLK, F.MOD_CFG_DLY, F.MOD_CFG_ORD, F.MOD_CFG_OSR, F.MOD_CFG_SC_EN, F.MOD_CFG_SC_ORD, F.MOD_CFG_SC_OSR, F.MOD_CFG_PT_EN], false⟩,
   ⟨.MOD_SC, true, 0x50004, 24, 0x40, 1, 0x0, [F.MOD_SC_THR], false⟩]

/-- Rows 80 on of the register index. -/
def regTable2 : List Reg :=
  [⟨.MOD_PT, true, 0x50008, 24, 0x40, 1, 0x0, [F.MOD_PT_POINT], false⟩,
   ⟨.MOD_DATA, true, 0x5000C, 24, 0x40, 1, 0x0, [F.MOD_DATA_VALID, F.MOD_DATA_VALUE], false⟩,
   ⟨.MOD_LAT, true, 0x50010, 24, 0x40, 1, 0x0, [F.MOD_LAT_AGE, F.MOD_LAT_VALUE], false⟩,
   ⟨.MOD_STAT, true, 0x50014, 24, 0x40, 1, 0x0, [F.MOD_STAT_SC_CNT, F.MOD_STAT_SC_HIT, F.MOD_STAT_STUCK, F.MOD_STAT_SC_ARMED], false⟩,
   ⟨.MOD_CLK, true, 0x50800, 4, 0x4, 1, 0x0, [F.MOD_CLK_EN, F.MOD_CLK_DIV], false⟩,
   ⟨.CMP_CFG, true, 0x60000, 48, 0x10, 1, 0x0, [F.CMP_CFG_EN, F.CMP_CFG_POL, F.CMP_CFG_HYS, F.CMP_CFG_LMODE, F.CMP_CFG_TRIP, F.CMP_CFG_CBC, F.CMP_CFG_URG, F.CMP_CFG_IRQ, F.CMP_CFG_URG_CONV, F.CMP_CFG_LEG, F.CMP_CFG_INP], false⟩,
   ⟨.CMP_THR, true, 0x60004, 48, 0x10, 1, 0x0, [F.CMP_THR_CODE], false⟩,
   ⟨.CMP_BLK, true, 0x60008, 48, 0x10, 1, 0x0, [F.CMP_BLK_BLANK], false⟩,
   ⟨.CMP_STAT, true, 0x6000C, 48, 0x10, 1, 0x0, [F.CMP_STAT_CNT, F.CMP_STAT_BLANKED, F.CMP_STAT_RAW, F.CMP_STAT_LATCH], false⟩,
   ⟨.CMP_SCK, true, 0x60400, 8, 0x4, 1, 0x0, [F.CMP_SCK_SEL], false⟩,
   ⟨.REF_CFG, true, 0x60500, 1, 0x0, 1, 0x0, [F.REF_CFG_EXT_EN], false⟩,
   ⟨.REF_STAT, true, 0x60504, 1, 0x0, 1, 0x0, [F.REF_STAT_EXT_FAIL, F.REF_STAT_USING, F.REF_STAT_BILL_LOST, F.REF_STAT_SUSPECT, F.REF_STAT_DRIFT, F.REF_STAT_DRIFT_NOW], false⟩,
   ⟨.REF_DEV, true, 0x60508, 1, 0x0, 1, 0x0, [F.REF_DEV_D], false⟩,
   ⟨.REF_EDEV, true, 0x6050C, 1, 0x0, 1, 0x0, [F.REF_EDEV_E], false⟩,
   ⟨.HERD_CTL, true, 0x70000, 8, 0x1000, 1, 0x0, [F.HERD_CTL_CMPT, F.HERD_CTL_ROLE, F.HERD_CTL_SAFE_MODE, F.HERD_CTL_FLT_MODE, F.HERD_CTL_STOP_TMO, F.HERD_CTL_CHK_TMO], false⟩,
   ⟨.HERD_CMD, true, 0x70004, 8, 0x1000, 1, 0x0, [F.HERD_CMD_CMD], false⟩,
   ⟨.HERD_STAT, true, 0x70008, 8, 0x1000, 1, 0x0, [F.HERD_STAT_CMD_RES, F.HERD_STAT_FAULT_CAUSE, F.HERD_STAT_DIES, F.HERD_STAT_CHECKING, F.HERD_STAT_HSS_SKIP, F.HERD_STAT_STATE], false⟩,
   ⟨.HERD_CHK, true, 0x7000C, 8, 0x1000, 1, 0x0, [F.HERD_CHK_FAIL_LEG, F.HERD_CHK_FAIL_PLB, F.HERD_CHK_FAILED], false⟩,
   ⟨.HSS_RAIL, true, 0x70010, 8, 0x1000, 1, 0x0, [F.HSS_RAIL_POINT], false⟩,
   ⟨.HSS_CFG, true, 0x70014, 8, 0x1000, 1, 0x0, [F.HSS_CFG_SETTLE], false⟩,
   ⟨.HERD_PLB, true, 0x70100, 8, 0x1000, 8, 0x10, [F.HERD_PLB_EN, F.HERD_PLB_POINT], false⟩,
   ⟨.HERD_PLB_LO, true, 0x70104, 8, 0x1000, 8, 0x10, [F.HERD_PLB_LO_LO], false⟩,
   ⟨.HERD_PLB_HI, true, 0x70108, 8, 0x1000, 8, 0x10, [F.HERD_PLB_HI_HI], false⟩,
   ⟨.CP_CFG, true, 0x70200, 8, 0x1000, 4, 0x10, [F.CP_CFG_EN, F.CP_CFG_WRITER, F.CP_CFG_POINT], false⟩,
   ⟨.CP_TMO, true, 0x70204, 8, 0x1000, 4, 0x10, [F.CP_TMO_TMO], false⟩,
   ⟨.CP_STAT, true, 0x70208, 8, 0x1000, 4, 0x10, [F.CP_STAT_FOREIGN_CNT, F.CP_STAT_STALE, F.CP_STAT_FOREIGN], false⟩,
   ⟨.CP_AGE, true, 0x7020C, 8, 0x1000, 4, 0x10, [F.CP_AGE_TICKS], false⟩,
   ⟨.LEASH_LO, true, 0x70400, 8, 0x1000, 16, 0x10, [F.LEASH_LO_LO], false⟩,
   ⟨.LEASH_HI, true, 0x70404, 8, 0x1000, 16, 0x10, [F.LEASH_HI_HI], false⟩,
   ⟨.LEASH_RATE, true, 0x70408, 8, 0x1000, 16, 0x10, [F.LEASH_RATE_KIND, F.LEASH_RATE_RATE], false⟩,
   ⟨.LEASH_LAST, true, 0x7040C, 8, 0x1000, 16, 0x10, [F.LEASH_LAST_SET, F.LEASH_LAST_LAST], false⟩,
   ⟨.LAW_CFG, true, 0x70500, 8, 0x1000, 1, 0x0, [F.LAW_CFG_DERATE, F.LAW_CFG_OSC_FLT], false⟩,
   ⟨.LAW_STAT, true, 0x70504, 8, 0x1000, 1, 0x0, [F.LAW_STAT_HEEL_ACT, F.LAW_STAT_OSC_ARMED, F.LAW_STAT_LEASH_BAD, F.LAW_STAT_PLAUS, F.LAW_STAT_OSC, F.LAW_STAT_DERATED, F.LAW_STAT_VSAT_NOW, F.LAW_STAT_VSAT, F.LAW_STAT_COLD], false⟩,
   ⟨.VSAT_TIME, true, 0x70508, 8, 0x1000, 1, 0x0, [F.VSAT_TIME_TICKS], false⟩,
   ⟨.LAW_CNT, true, 0x7050C, 8, 0x1000, 1, 0x0, [F.LAW_CNT_VSAT_CNT, F.LAW_CNT_OSC_CNT], false⟩,
   ⟨.OSC_SPER, true, 0x70510, 8, 0x1000, 1, 0x0, [F.OSC_SPER_SPER], false⟩,
   ⟨.HEEL_SRC, true, 0x70520, 8, 0x1000, 4, 0x10, [F.HEEL_SRC_EN, F.HEEL_SRC_POINT], false⟩,
   ⟨.HEEL_TGT, true, 0x70524, 8, 0x1000, 4, 0x10, [F.HEEL_TGT_POINT], false⟩,
   ⟨.HEEL_OUT, true, 0x70528, 8, 0x1000, 4, 0x10, [F.HEEL_OUT_POINT], false⟩,
   ⟨.HEEL_SLEW, true, 0x7052C, 8, 0x1000, 4, 0x10, [F.HEEL_SLEW_SLEW], false⟩]

/-- Rows 120 on of the register index. -/
def regTable3 : List Reg :=
  [⟨.HEEL_CMD, true, 0x70560, 8, 0x1000, 1, 0x0, [F.HEEL_CMD_RESTART], false⟩,
   ⟨.OSC_CFG, true, 0x70580, 8, 0x1000, 4, 0x20, [F.OSC_CFG_EN, F.OSC_CFG_POINT], false⟩,
   ⟨.OSC_PAR, true, 0x70584, 8, 0x1000, 4, 0x20, [F.OSC_PAR_MSH, F.OSC_PAR_WLEN, F.OSC_PAR_NWIN], false⟩,
   ⟨.OSC_ATHR, true, 0x70588, 8, 0x1000, 4, 0x20, [F.OSC_ATHR_ATHR], false⟩,
   ⟨.OSC_HYS, true, 0x7058C, 8, 0x1000, 4, 0x20, [F.OSC_HYS_HYS], false⟩,
   ⟨.OSC_FWIN, true, 0x70590, 8, 0x1000, 4, 0x20, [F.OSC_FWIN_FMAX, F.OSC_FWIN_FMIN], false⟩,
   ⟨.OSC_MEAS, true, 0x70594, 8, 0x1000, 4, 0x20, [F.OSC_MEAS_AMP], false⟩,
   ⟨.OSC_MEAS2, true, 0x70598, 8, 0x1000, 4, 0x20, [F.OSC_MEAS2_RUN, F.OSC_MEAS2_XCNT], false⟩,
   ⟨.REG_CFG, true, 0x70600, 8, 0x1000, 1, 0x0, [F.REG_CFG_EN, F.REG_CFG_SHED_EN, F.REG_CFG_BURST_EN, F.REG_CFG_RET, F.REG_CFG_OVL_SH, F.REG_CFG_N_MAX, F.REG_CFG_N_MIN], false⟩,
   ⟨.REG_STAT, true, 0x70604, 8, 0x1000, 1, 0x0, [F.REG_STAT_CFG_RES, F.REG_STAT_N_ACT, F.REG_STAT_N_AVAIL, F.REG_STAT_N_PH, F.REG_STAT_OVL, F.REG_STAT_OVL_TRIP, F.REG_STAT_UNDER, F.REG_STAT_BURST, F.REG_STAT_ASLEEP], false⟩,
   ⟨.REG_IADD, true, 0x70608, 8, 0x1000, 1, 0x0, [F.REG_IADD_I_ADD], false⟩,
   ⟨.REG_ISHED, true, 0x7060C, 8, 0x1000, 1, 0x0, [F.REG_ISHED_I_SHED], false⟩,
   ⟨.REG_IOVL, true, 0x70610, 8, 0x1000, 1, 0x0, [F.REG_IOVL_I_OVL], false⟩,
   ⟨.REG_IBURST, true, 0x70614, 8, 0x1000, 1, 0x0, [F.REG_IBURST_I_BURST], false⟩,
   ⟨.REG_IBEXIT, true, 0x70618, 8, 0x1000, 1, 0x0, [F.REG_IBEXIT_I_BEXIT], false⟩,
   ⟨.REG_TIME, true, 0x7061C, 8, 0x1000, 1, 0x0, [F.REG_TIME_TOVL, F.REG_TIME_DWELL], false⟩,
   ⟨.REG_BURST, true, 0x70620, 8, 0x1000, 1, 0x0, [F.REG_BURST_BURST_N, F.REG_BURST_WC, F.REG_BURST_SLEEP_MIN], false⟩,
   ⟨.REG_BSLOT, true, 0x70624, 8, 0x1000, 1, 0x0, [F.REG_BSLOT_DS1_EN, F.REG_BSLOT_DS0_EN, F.REG_BSLOT_DSLOT1, F.REG_BSLOT_DSLOT0], false⟩,
   ⟨.REG_CNT, true, 0x70628, 8, 0x1000, 1, 0x0, [F.REG_CNT_ADD_CNT, F.REG_CNT_SHED_CNT], false⟩,
   ⟨.REG_CNT2, true, 0x7062C, 8, 0x1000, 1, 0x0, [F.REG_CNT2_SLEEP_CNT, F.REG_CNT2_OVL_CNT], false⟩,
   ⟨.REG_IPK, true, 0x70630, 8, 0x1000, 1, 0x0, [F.REG_IPK_POINT], false⟩,
   ⟨.REG_VREF, true, 0x70634, 8, 0x1000, 1, 0x0, [F.REG_VREF_POINT], false⟩,
   ⟨.REG_VSEL, true, 0x70638, 8, 0x1000, 1, 0x0, [F.REG_VSEL_CLAMP, F.REG_VSEL_CMD_STALE, F.REG_VSEL_SRC], false⟩,
   ⟨.REG_CCNT, true, 0x7063C, 8, 0x1000, 1, 0x0, [F.REG_CCNT_CNT2, F.REG_CCNT_CNT1, F.REG_CCNT_CNT0], false⟩,
   ⟨.SRC_CFG, true, 0x70640, 8, 0x1000, 3, 0x10, [F.SRC_CFG_CP_EN, F.SRC_CFG_STALE_HOLD, F.SRC_CFG_CP, F.SRC_CFG_POINT], false⟩,
   ⟨.SRC_LO, true, 0x70644, 8, 0x1000, 3, 0x10, [F.SRC_LO_LO], false⟩,
   ⟨.SRC_HI, true, 0x70648, 8, 0x1000, 3, 0x10, [F.SRC_HI_HI], false⟩,
   ⟨.SRC_SLEW, true, 0x7064C, 8, 0x1000, 3, 0x10, [F.SRC_SLEW_SLEW], false⟩,
   ⟨.DRV_CFG, true, 0x70700, 8, 0x1000, 1, 0x0, [F.DRV_CFG_EN, F.DRV_CFG_FW_EN, F.DRV_CFG_POS, F.DRV_CFG_STAGE, F.DRV_CFG_SHAFT, F.DRV_CFG_PBASE], false⟩,
   ⟨.DRV_STAT, true, 0x70704, 8, 0x1000, 1, 0x0, [F.DRV_STAT_CFG_RES, F.DRV_STAT_WS_RES, F.DRV_STAT_FSTATE, F.DRV_STAT_FTRIES, F.DRV_STAT_MDLIM, F.DRV_STAT_MDLIM_NOW, F.DRV_STAT_WS_ACTIVE, F.DRV_STAT_WS_TRIP, F.DRV_STAT_FLY_FAIL], false⟩,
   ⟨.DRV_QW, true, 0x70708, 8, 0x1000, 1, 0x0, [F.DRV_QW_PRE, F.DRV_QW_POST, F.DRV_QW_SAT], false⟩,
   ⟨.DRV_CNT, true, 0x7070C, 8, 0x1000, 1, 0x0, [F.DRV_CNT_MDLIM_CNT, F.DRV_CNT_WS_CNT], false⟩,
   ⟨.DRV_QG, true, 0x70710, 8, 0x1000, 4, 0x4, [F.DRV_QG_PT_EN, F.DRV_QG_EN, F.DRV_QG_POINT], false⟩,
   ⟨.DRV_FLY, true, 0x70720, 8, 0x1000, 1, 0x0, [F.DRV_FLY_EN, F.DRV_FLY_HI_ACT, F.DRV_FLY_TRIES, F.DRV_FLY_ASC_T, F.DRV_FLY_FLY_T], false⟩,
   ⟨.DRV_FAMP, true, 0x70724, 8, 0x1000, 1, 0x0, [F.DRV_FAMP_POINT], false⟩,
   ⟨.DRV_FVDC, true, 0x70728, 8, 0x1000, 1, 0x0, [F.DRV_FVDC_POINT], false⟩,
   ⟨.DRV_FLIM, true, 0x7072C, 8, 0x1000, 1, 0x0, [F.DRV_FLIM_KMAX], false⟩,
   ⟨.DRV_FAMIN, true, 0x70730, 8, 0x1000, 1, 0x0, [F.DRV_FAMIN_AMIN], false⟩,
   ⟨.DRV_FCMD, true, 0x70734, 8, 0x1000, 1, 0x0, [F.DRV_FCMD_SEEDED], false⟩,
   ⟨.DRV_WSCFG, true, 0x70738, 8, 0x1000, 1, 0x0, [F.DRV_WSCFG_WC0, F.DRV_WSCFG_NWC], false⟩]

/-- Rows 160 on of the register index. -/
def regTable4 : List Reg :=
  [⟨.DRV_WSCMD, true, 0x7073C, 8, 0x1000, 1, 0x0, [F.DRV_WSCMD_CMD], false⟩,
   ⟨.CH_CFG, true, 0x70800, 8, 0x1000, 1, 0x0, [F.CH_CFG_EN, F.CH_CFG_NSEC, F.CH_CFG_SPER], false⟩,
   ⟨.CH_VDC, true, 0x70804, 8, 0x1000, 1, 0x0, [F.CH_VDC_POINT], false⟩,
   ⟨.CH_VON, true, 0x70808, 8, 0x1000, 1, 0x0, [F.CH_VON_VON], false⟩,
   ⟨.CH_VOFF, true, 0x7080C, 8, 0x1000, 1, 0x0, [F.CH_VOFF_VOFF], false⟩,
   ⟨.CH_VSTEP, true, 0x70810, 8, 0x1000, 1, 0x0, [F.CH_VSTEP_VSTEP], false⟩,
   ⟨.CH_STAT, true, 0x70814, 8, 0x1000, 1, 0x0, [F.CH_STAT_CFG_RES, F.CH_STAT_ENG, F.CH_STAT_LOCK, F.CH_STAT_ALL_LOCK, F.CH_STAT_OT], false⟩,
   ⟨.CH_AVPT, true, 0x70818, 8, 0x1000, 1, 0x0, [F.CH_AVPT_EN, F.CH_AVPT_POINT], false⟩,
   ⟨.CH_TAMB, true, 0x7081C, 8, 0x1000, 1, 0x0, [F.CH_TAMB_TAMB], false⟩,
   ⟨.CH_SCFG, true, 0x70820, 8, 0x1000, 8, 0x20, [F.CH_SCFG_LEG, F.CH_SCFG_ON], false⟩,
   ⟨.CH_K, true, 0x70824, 8, 0x1000, 8, 0x20, [F.CH_K_K], false⟩,
   ⟨.CH_RTH, true, 0x70828, 8, 0x1000, 8, 0x20, [F.CH_RTH_RTH], false⟩,
   ⟨.CH_CTH, true, 0x7082C, 8, 0x1000, 8, 0x20, [F.CH_CTH_CTH], false⟩,
   ⟨.CH_TLIM, true, 0x70830, 8, 0x1000, 8, 0x20, [F.CH_TLIM_TLIM, F.CH_TLIM_THYS], false⟩,
   ⟨.CH_TEST, true, 0x70834, 8, 0x1000, 8, 0x20, [F.CH_TEST_TEST], false⟩,
   ⟨.CH_EKJ, true, 0x70838, 8, 0x1000, 8, 0x20, [F.CH_EKJ_KJ], false⟩,
   ⟨.CH_TMEAS, true, 0x7083C, 8, 0x1000, 8, 0x20, [F.CH_TMEAS_EN, F.CH_TMEAS_POINT], false⟩,
   ⟨.GRD_CFG, true, 0x70A00, 8, 0x1000, 1, 0x0, [F.GRD_CFG_EN, F.GRD_CFG_QPRI, F.GRD_CFG_FW_EN, F.GRD_CFG_MU, F.GRD_CFG_QMODE, F.GRD_CFG_BASE], false⟩,
   ⟨.GRD_STAT, true, 0x70A04, 8, 0x1000, 1, 0x0, [F.GRD_STAT_CFG_RES, F.GRD_STAT_VREG, F.GRD_STAT_BASELINE, F.GRD_STAT_AI_ARMED, F.GRD_STAT_ES_OK, F.GRD_STAT_MC_NOW, F.GRD_STAT_FW_NOW, F.GRD_STAT_PROBING, F.GRD_STAT_ICAUSE, F.GRD_STAT_TRIPPED, F.GRD_STAT_ISLAND, F.GRD_STAT_MC, F.GRD_STAT_TRIP_ENT], false⟩,
   ⟨.GRD_VNOM, true, 0x70A08, 8, 0x1000, 1, 0x0, [F.GRD_VNOM_V_NOM], false⟩,
   ⟨.GRD_OUT, true, 0x70A0C, 8, 0x1000, 1, 0x0, [F.GRD_OUT_POINT], false⟩,
   ⟨.GRD_PMEAS, true, 0x70A10, 8, 0x1000, 1, 0x0, [F.GRD_PMEAS_POINT], false⟩,
   ⟨.GRD_QSP, true, 0x70A14, 8, 0x1000, 1, 0x0, [F.GRD_QSP_POINT], false⟩,
   ⟨.GRD_PMAX, true, 0x70A18, 8, 0x1000, 1, 0x0, [F.GRD_PMAX_PMAX], false⟩,
   ⟨.GRD_START, true, 0x70A1C, 8, 0x1000, 1, 0x0, [F.GRD_START_START_LIMIT], false⟩,
   ⟨.GRD_VRT, true, 0x70A20, 8, 0x1000, 8, 0x8, [F.GRD_VRT_EN, F.GRD_VRT_DIR, F.GRD_VRT_ACT, F.GRD_VRT_LEVEL], false⟩,
   ⟨.GRD_VRT_T, true, 0x70A24, 8, 0x1000, 8, 0x8, [F.GRD_VRT_T_TIME], false⟩,
   ⟨.GRD_FRT, true, 0x70A60, 8, 0x1000, 4, 0x8, [F.GRD_FRT_EN, F.GRD_FRT_DIR, F.GRD_FRT_DEV], false⟩,
   ⟨.GRD_FRT_T, true, 0x70A64, 8, 0x1000, 4, 0x8, [F.GRD_FRT_T_TIME], false⟩,
   ⟨.GRD_AI, true, 0x70A80, 8, 0x1000, 1, 0x0, [F.GRD_AI_ROCOF_EN, F.GRD_AI_VS_EN, F.GRD_AI_SFS_EN, F.GRD_AI_PRB_EN, F.GRD_AI_ZC_EN, F.GRD_AI_LOL_EN, F.GRD_AI_VS_LIM, F.GRD_AI_FD_LIM], false⟩,
   ⟨.GRD_ROCOF, true, 0x70A84, 8, 0x1000, 1, 0x0, [F.GRD_ROCOF_LIM, F.GRD_ROCOF_W], false⟩,
   ⟨.GRD_SFS, true, 0x70A88, 8, 0x1000, 1, 0x0, [F.GRD_SFS_K, F.GRD_SFS_MAX], false⟩,
   ⟨.GRD_PRB, true, 0x70A8C, 8, 0x1000, 1, 0x0, [F.GRD_PRB_ZLIM, F.GRD_PRB_CYC, F.GRD_PRB_PER], false⟩,
   ⟨.GRD_PRBA, true, 0x70A90, 8, 0x1000, 1, 0x0, [F.GRD_PRBA_PRB_AMP], false⟩,
   ⟨.GRD_TIME, true, 0x70A94, 8, 0x1000, 1, 0x0, [F.GRD_TIME_LOL_T, F.GRD_TIME_RESTORE], false⟩,
   ⟨.GRD_FW, true, 0x70A98, 8, 0x1000, 1, 0x0, [F.GRD_FW_DB, F.GRD_FW_K], false⟩,
   ⟨.GRD_FWT, true, 0x70A9C, 8, 0x1000, 1, 0x0, [F.GRD_FWT_FW_T, F.GRD_FWT_VV_T], false⟩,
   ⟨.GRD_VV, true, 0x70AA0, 8, 0x1000, 1, 0x0, [F.GRD_VV_V1, F.GRD_VV_V2], false⟩,
   ⟨.GRD_VV2, true, 0x70AA4, 8, 0x1000, 1, 0x0, [F.GRD_VV2_V3, F.GRD_VV2_V4], false⟩,
   ⟨.GRD_VVQ1, true, 0x70AA8, 8, 0x1000, 1, 0x0, [F.GRD_VVQ1_Q1], false⟩]

/-- Rows 200 on of the register index. -/
def regTable5 : List Reg :=
  [⟨.GRD_VVQ4, true, 0x70AAC, 8, 0x1000, 1, 0x0, [F.GRD_VVQ4_Q4], false⟩,
   ⟨.GRD_QCAP, true, 0x70AB0, 8, 0x1000, 1, 0x0, [F.GRD_QCAP_QCAP], false⟩,
   ⟨.GRD_KPF, true, 0x70AB4, 8, 0x1000, 1, 0x0, [F.GRD_KPF_KPF], false⟩,
   ⟨.GRD_ES, true, 0x70AB8, 8, 0x1000, 1, 0x0, [F.GRD_ES_VLO, F.GRD_ES_VHI], false⟩,
   ⟨.GRD_ES2, true, 0x70ABC, 8, 0x1000, 1, 0x0, [F.GRD_ES2_FLO, F.GRD_ES2_FHI, F.GRD_ES2_ES_T], false⟩,
   ⟨.GRD_MEAS, true, 0x70AC0, 8, 0x1000, 1, 0x0, [F.GRD_MEAS_VLOW, F.GRD_MEAS_VHIGH], false⟩,
   ⟨.GRD_ZM, true, 0x70AC4, 8, 0x1000, 1, 0x0, [F.GRD_ZM_PRB_CNT, F.GRD_ZM_Z], false⟩,
   ⟨.GRD_CNT, true, 0x70AC8, 8, 0x1000, 1, 0x0, [F.GRD_CNT_MC_CNT, F.GRD_CNT_SUSP_CNT], false⟩,
   ⟨.TRK_CFG, true, 0x70B00, 8, 0x1000, 1, 0x0, [F.TRK_CFG_EN, F.TRK_CFG_SW_EN, F.TRK_CFG_CV, F.TRK_CFG_CI, F.TRK_CFG_SWEEP_MIN], false⟩,
   ⟨.TRK_STAT, true, 0x70B04, 8, 0x1000, 1, 0x0, [F.TRK_STAT_CFG_RES, F.TRK_STAT_SWEEPING, F.TRK_STAT_WAIT_GMP, F.TRK_STAT_CURT_NOW, F.TRK_STAT_HOLD, F.TRK_STAT_CURT, F.TRK_STAT_SW_FAIL, F.TRK_STAT_SW_DONE], false⟩,
   ⟨.TRK_VPT, true, 0x70B08, 8, 0x1000, 1, 0x0, [F.TRK_VPT_POINT], false⟩,
   ⟨.TRK_IPT, true, 0x70B0C, 8, 0x1000, 1, 0x0, [F.TRK_IPT_POINT], false⟩,
   ⟨.TRK_OUT, true, 0x70B10, 8, 0x1000, 1, 0x0, [F.TRK_OUT_POINT], false⟩,
   ⟨.TRK_BUS, true, 0x70B14, 8, 0x1000, 1, 0x0, [F.TRK_BUS_POINT], false⟩,
   ⟨.TRK_PER, true, 0x70B18, 8, 0x1000, 1, 0x0, [F.TRK_PER_TPER], false⟩,
   ⟨.TRK_SMIN, true, 0x70B1C, 8, 0x1000, 1, 0x0, [F.TRK_SMIN_SMIN], false⟩,
   ⟨.TRK_SMAX, true, 0x70B20, 8, 0x1000, 1, 0x0, [F.TRK_SMAX_SMAX], false⟩,
   ⟨.TRK_KSTEP, true, 0x70B24, 8, 0x1000, 1, 0x0, [F.TRK_KSTEP_KSTEP], false⟩,
   ⟨.TRK_SDB, true, 0x70B28, 8, 0x1000, 1, 0x0, [F.TRK_SDB_SDB], false⟩,
   ⟨.TRK_VMIN, true, 0x70B2C, 8, 0x1000, 1, 0x0, [F.TRK_VMIN_VMIN], false⟩,
   ⟨.TRK_VMAX, true, 0x70B30, 8, 0x1000, 1, 0x0, [F.TRK_VMAX_VMAX], false⟩,
   ⟨.TRK_CURT, true, 0x70B34, 8, 0x1000, 1, 0x0, [F.TRK_CURT_CURT], false⟩,
   ⟨.TRK_CHYS, true, 0x70B38, 8, 0x1000, 1, 0x0, [F.TRK_CHYS_CHYS], false⟩,
   ⟨.TRK_SW, true, 0x70B3C, 8, 0x1000, 1, 0x0, [F.TRK_SW_SW_T, F.TRK_SW_SW_TMO], false⟩,
   ⟨.TRK_DISP, true, 0x70B40, 8, 0x1000, 1, 0x0, [F.TRK_DISP_EN, F.TRK_DISP_ENGTASK], false⟩,
   ⟨.TRK_GMP, true, 0x70B44, 8, 0x1000, 1, 0x0, [F.TRK_GMP_VOLT], false⟩,
   ⟨.TRK_CNT, true, 0x70B48, 8, 0x1000, 1, 0x0, [F.TRK_CNT_SWEEP_CNT, F.TRK_CNT_SWFAIL_CNT], false⟩,
   ⟨.TRK_VREF, true, 0x70B4C, 8, 0x1000, 1, 0x0, [F.TRK_VREF_VREF], false⟩,
   ⟨.OWN_LEG, true, 0x78000, 24, 0x4, 1, 0x0, [F.OWN_LEG_EN, F.OWN_LEG_HERD], false⟩,
   ⟨.OWN_ADC, true, 0x78060, 8, 0x4, 1, 0x0, [F.OWN_ADC_EN, F.OWN_ADC_HERD], false⟩,
   ⟨.OWN_MOD, true, 0x78080, 24, 0x4, 1, 0x0, [F.OWN_MOD_EN, F.OWN_MOD_HERD], false⟩,
   ⟨.OWN_AB, true, 0x780E0, 16, 0x4, 1, 0x0, [F.OWN_AB_EN, F.OWN_AB_HERD], false⟩,
   ⟨.LEG_HSS, true, 0x78200, 24, 0x4, 1, 0x0, [F.LEG_HSS_EN, F.LEG_HSS_SRC], false⟩,
   ⟨.REG_LCFG, true, 0x78300, 24, 0x10, 1, 0x0, [F.REG_LCFG_PH, F.REG_LCFG_LOST, F.REG_LCFG_ACT, F.REG_LCFG_LIM, F.REG_LCFG_ORDER, F.REG_LCFG_CMP, F.REG_LCFG_TRIM], false⟩,
   ⟨.REG_LIPT, true, 0x78304, 24, 0x10, 1, 0x0, [F.REG_LIPT_POINT], false⟩,
   ⟨.REG_LILIM, true, 0x78308, 24, 0x10, 1, 0x0, [F.REG_LILIM_ILIM], false⟩,
   ⟨.REG_LIF, true, 0x7830C, 24, 0x10, 1, 0x0, [F.REG_LIF_IF], false⟩,
   ⟨.DRV_LCFG, true, 0x78500, 24, 0x4, 1, 0x0, [F.DRV_LCFG_PH, F.DRV_LCFG_QG_EN, F.DRV_LCFG_QG], false⟩,
   ⟨.ENG_CTL, true, 0x80000, 32, 0x800, 1, 0x0, [F.ENG_CTL_STOP, F.ENG_CTL_RST, F.ENG_CTL_EN], false⟩,
   ⟨.ENG_STAT, true, 0x80004, 32, 0x800, 1, 0x0, [F.ENG_STAT_OVERRUN, F.ENG_STAT_CUR_TASK, F.ENG_STAT_STATE], false⟩]

/-- Rows 240 on of the register index. -/
def regTable6 : List Reg :=
  [⟨.ENG_WIN, true, 0x80008, 32, 0x800, 1, 0x0, [F.ENG_WIN_SPILLED, F.ENG_WIN_WIN_USED, F.ENG_WIN_CWP], false⟩,
   ⟨.ENG_SPB, true, 0x8000C, 32, 0x800, 1, 0x0, [F.ENG_SPB_SPLIM, F.ENG_SPB_SPBASE], false⟩,
   ⟨.ENG_SPP, true, 0x80010, 32, 0x800, 1, 0x0, [F.ENG_SPP_SPP], false⟩,
   ⟨.ENG_TRAP, true, 0x80014, 32, 0x800, 1, 0x0, [F.ENG_TRAP_DF_CAUSE, F.ENG_TRAP_CAUSE, F.ENG_TRAP_TPC], false⟩,
   ⟨.ENG_TVEC, true, 0x80018, 32, 0x800, 1, 0x0, [F.ENG_TVEC_BASE], false⟩,
   ⟨.ENG_DISP, true, 0x8001C, 32, 0x800, 1, 0x0, [F.ENG_DISP_ARG, F.ENG_DISP_TASK], false⟩,
   ⟨.ENG_TSEL, true, 0x80020, 32, 0x800, 1, 0x0, [F.ENG_TSEL_TASK], true⟩,
   ⟨.ENG_TCFG, true, 0x80024, 32, 0x800, 1, 0x0, [F.ENG_TCFG_EN, F.ENG_TCFG_HB, F.ENG_TCFG_HERD, F.ENG_TCFG_ENTRY], true⟩,
   ⟨.ENG_THC, true, 0x80028, 32, 0x800, 1, 0x0, [F.ENG_THC_HC], true⟩,
   ⟨.ENG_TSTAT, true, 0x8002C, 32, 0x800, 1, 0x0, [F.ENG_TSTAT_OVR_CNT, F.ENG_TSTAT_RUN, F.ENG_TSTAT_PEND], true⟩,
   ⟨.ENG_TFLG, true, 0x80030, 32, 0x800, 1, 0x0, [F.ENG_TFLG_FLAGS], true⟩,
   ⟨.Q_SEL, true, 0x90000, 1, 0x0, 1, 0x0, [F.Q_SEL_QUEUE], true⟩,
   ⟨.Q_CFG, true, 0x90004, 1, 0x0, 1, 0x0, [F.Q_CFG_EN, F.Q_CFG_KIND, F.Q_CFG_OWNER], true⟩,
   ⟨.Q_SIZE, true, 0x90008, 1, 0x0, 1, 0x0, [F.Q_SIZE_WMARK, F.Q_SIZE_DEPTH], true⟩,
   ⟨.Q_BASE, true, 0x9000C, 1, 0x0, 1, 0x0, [F.Q_BASE_BASE], true⟩,
   ⟨.Q_STAT, true, 0x90010, 1, 0x0, 1, 0x0, [F.Q_STAT_FULL_CNT, F.Q_STAT_WM, F.Q_STAT_BUSY, F.Q_STAT_COUNT], true⟩,
   ⟨.Q_RES, true, 0x90014, 1, 0x0, 1, 0x0, [F.Q_RES_RES], true⟩,
   ⟨.Q_BUDGET, true, 0x90018, 1, 0x0, 1, 0x0, [F.Q_BUDGET_USED], false⟩,
   ⟨.Q_FLUSH, true, 0x9001C, 1, 0x0, 1, 0x0, [F.Q_FLUSH_DISCARD_CNT, F.Q_FLUSH_FLUSH], true⟩,
   ⟨.IRQ_SRC, true, 0xA0000, 512, 0x4, 1, 0x0, [F.IRQ_SRC_EN, F.IRQ_SRC_CLASS, F.IRQ_SRC_MODE, F.IRQ_SRC_HOST, F.IRQ_SRC_LEVEL, F.IRQ_SRC_ACTIVE, F.IRQ_SRC_ENGINE, F.IRQ_SRC_TARGET], false⟩,
   ⟨.IRQ_PEND, true, 0xA0800, 16, 0x4, 1, 0x0, [F.IRQ_PEND_PEND], false⟩,
   ⟨.IRQ_HPEND, true, 0xA0840, 16, 0x4, 1, 0x0, [F.IRQ_HPEND_HPEND], false⟩,
   ⟨.IRQ_LINE, true, 0xA0880, 16, 0x4, 1, 0x0, [F.IRQ_LINE_LINE], false⟩,
   ⟨.IRQ_SWSET, true, 0xA08C0, 1, 0x0, 1, 0x0, [F.IRQ_SWSET_SRC], false⟩,
   ⟨.IRQ_STK, true, 0xA0900, 32, 0x4, 1, 0x0, [F.IRQ_STK_FROZEN, F.IRQ_STK_DEPTH, F.IRQ_STK_LOWER, F.IRQ_STK_UPPER], false⟩,
   ⟨.IRQ_ESTAT, true, 0xA0980, 1, 0x0, 1, 0x0, [F.IRQ_ESTAT_ENG], false⟩,
   ⟨.IRQ_CNT, true, 0xA0984, 1, 0x0, 1, 0x0, [F.IRQ_CNT_LOST_CNT], false⟩,
   ⟨.IRQ_DSUM, true, 0xA0988, 1, 0x0, 1, 0x0, [F.IRQ_DSUM_DIES], false⟩,
   ⟨.PWR_DOM, true, 0xB0000, 13, 0x10, 1, 0x0, [F.PWR_DOM_RES, F.PWR_DOM_FORCE, F.PWR_DOM_BUSY, F.PWR_DOM_STATE, F.PWR_DOM_REQ], false⟩,
   ⟨.PWR_DCNT, true, 0xB0004, 13, 0x10, 1, 0x0, [F.PWR_DCNT_REF_CNT, F.PWR_DCNT_ABT_CNT], false⟩,
   ⟨.PWR_DLAST, true, 0xB0008, 13, 0x10, 1, 0x0, [F.PWR_DLAST_QUEUE, F.PWR_DLAST_ID], false⟩,
   ⟨.CLU_OP, true, 0xB0100, 8, 0x4, 1, 0x0, [F.CLU_OP_OP_RES, F.CLU_OP_VNOW, F.CLU_OP_VOK, F.CLU_OP_VSEL, F.CLU_OP_FSEL], false⟩,
   ⟨.PWR_PKG, true, 0xB0200, 1, 0x0, 1, 0x0, [F.PWR_PKG_AON, F.PWR_PKG_SAFE], false⟩,
   ⟨.CLK_PLL, true, 0xC0000, 1, 0x0, 1, 0x0, [F.CLK_PLL_LOSS_CNT, F.CLK_PLL_BAND, F.CLK_PLL_SEARCH, F.CLK_PLL_UNLOCK, F.CLK_PLL_LOCK], false⟩,
   ⟨.CLK_OUT, true, 0xC0010, 6, 0x8, 1, 0x0, [F.CLK_OUT_EN, F.CLK_OUT_DLY, F.CLK_OUT_DIV], false⟩,
   ⟨.CLK_OUTF, true, 0xC0014, 6, 0x8, 1, 0x0, [F.CLK_OUTF_FRAC], false⟩,
   ⟨.RG_CFG, true, 0xC0100, 2, 0x100, 1, 0x0, [F.RG_CFG_RUN, F.RG_CFG_MODE, F.RG_CFG_LAST], false⟩,
   ⟨.RG_STAT, true, 0xC0104, 2, 0x100, 1, 0x0, [F.RG_STAT_RES, F.RG_STAT_DONE, F.RG_STAT_CUR], false⟩,
   ⟨.RG_PT, true, 0xC0140, 2, 0x100, 16, 0x8, [F.RG_PT_RATIO], false⟩,
   ⟨.RG_DW, true, 0xC0144, 2, 0x100, 16, 0x8, [F.RG_DW_DWELL], false⟩]

/-- Rows 280 on of the register index. -/
def regTable7 : List Reg :=
  [⟨.MU_CFG, true, 0xD0000, 2, 0x1000, 1, 0x0, [F.MU_CFG_EN, F.MU_CFG_DC, F.MU_CFG_NOM, F.MU_CFG_ZC_TMO, F.MU_CFG_CH_EN], false⟩,
   ⟨.MU_STAT, true, 0xD0004, 2, 0x1000, 1, 0x0, [F.MU_STAT_CFG_RES, F.MU_STAT_ZC_TO, F.MU_STAT_VALID_BILL, F.MU_STAT_REF_OK, F.MU_STAT_CHURN_OK, F.MU_STAT_CAL_OK, F.MU_STAT_CH_OK, F.MU_STAT_BILL_LOSS, F.MU_STAT_OVF_LOST], false⟩,
   ⟨.MU_CMD, true, 0xD0008, 2, 0x1000, 1, 0x0, [F.MU_CMD_CALCHK, F.MU_CMD_SNAP], false⟩,
   ⟨.MU_INOM, true, 0xD000C, 2, 0x1000, 1, 0x0, [F.MU_INOM_I_NOM], false⟩,
   ⟨.MU_START, true, 0xD0010, 2, 0x1000, 1, 0x0, [F.MU_START_FRAC], false⟩,
   ⟨.MU_ZCHYS, true, 0xD0014, 2, 0x1000, 1, 0x0, [F.MU_ZCHYS_HYS], false⟩,
   ⟨.MU_OVF, true, 0xD0018, 2, 0x1000, 1, 0x0, [F.MU_OVF_OVF], false⟩,
   ⟨.MU_INVAL, true, 0xD001C, 2, 0x1000, 1, 0x0, [F.MU_INVAL_SECS], false⟩,
   ⟨.MU_COLL, true, 0xD0020, 2, 0x1000, 1, 0x0, [F.MU_COLL_COLL_CNT], false⟩,
   ⟨.MC_SRC, true, 0xD0100, 2, 0x1000, 8, 0x20, [F.MC_SRC_MOD], false⟩,
   ⟨.MC_OFS, true, 0xD0104, 2, 0x1000, 8, 0x20, [F.MC_OFS_OFS], false⟩,
   ⟨.MC_GAIN, true, 0xD0108, 2, 0x1000, 8, 0x20, [F.MC_GAIN_GAIN], false⟩,
   ⟨.MC_DLY, true, 0xD010C, 2, 0x1000, 8, 0x20, [F.MC_DLY_DLY], false⟩,
   ⟨.MC_RMS, true, 0xD0110, 2, 0x1000, 8, 0x20, [F.MC_RMS_RMS], false⟩,
   ⟨.ZC_PER, true, 0xD0200, 2, 0x1000, 4, 0x10, [F.ZC_PER_TICKS], false⟩,
   ⟨.ZC_TICK, true, 0xD0204, 2, 0x1000, 4, 0x10, [F.ZC_TICK_TICK], false⟩,
   ⟨.ZC_CNT, true, 0xD0208, 2, 0x1000, 4, 0x10, [F.ZC_CNT_TO_CNT, F.ZC_CNT_CNT], false⟩,
   ⟨.PAIL_LO, true, 0xD0400, 2, 0x1000, 30, 0x8, [F.PAIL_LO], false⟩,
   ⟨.PAIL_HI, true, 0xD0404, 2, 0x1000, 30, 0x8, [F.PAIL_HI], false⟩,
   ⟨.SNAP_LO, true, 0xD0500, 2, 0x1000, 30, 0x8, [F.SNAP_LO], false⟩,
   ⟨.SNAP_HI, true, 0xD0504, 2, 0x1000, 30, 0x8, [F.SNAP_HI], false⟩,
   ⟨.SNAP_S0, true, 0xD0600, 2, 0x1000, 8, 0x4, [F.SNAP_S0], false⟩,
   ⟨.SNAP_TLO, true, 0xD0620, 2, 0x1000, 1, 0x0, [F.SNAP_TLO], false⟩,
   ⟨.SNAP_THI, true, 0xD0624, 2, 0x1000, 1, 0x0, [F.SNAP_THI], false⟩,
   ⟨.SNAP_STAT, true, 0xD0628, 2, 0x1000, 1, 0x0, [F.SNAP_STAT_SEQ, F.SNAP_STAT_VALID_INT], false⟩,
   ⟨.PO_CFG, true, 0xD2000, 8, 0x20, 1, 0x0, [F.PO_CFG_EN, F.PO_CFG_MODE, F.PO_CFG_OD, F.PO_CFG_POL, F.PO_CFG_UNIT, F.PO_CFG_QTY, F.PO_CFG_WID], false⟩,
   ⟨.PO_THR_LO, true, 0xD2004, 8, 0x20, 1, 0x0, [F.PO_THR_LO_THR], false⟩,
   ⟨.PO_THR_HI, true, 0xD2008, 8, 0x20, 1, 0x0, [F.PO_THR_HI_THR], false⟩,
   ⟨.PO_PAIL_LO, true, 0xD200C, 8, 0x20, 1, 0x0, [F.PO_PAIL_LO], false⟩,
   ⟨.PO_PAIL_HI, true, 0xD2010, 8, 0x20, 1, 0x0, [F.PO_PAIL_HI], false⟩,
   ⟨.PO_CNT, true, 0xD2014, 8, 0x20, 1, 0x0, [F.PO_CNT_CNT], false⟩,
   ⟨.PO_STAT, true, 0xD2018, 8, 0x20, 1, 0x0, [F.PO_STAT_BACKLOG, F.PO_STAT_ACTIVE], false⟩,
   ⟨.S0_CFG, true, 0xD2200, 8, 0x10, 1, 0x0, [F.S0_CFG_EN, F.S0_CFG_POL, F.S0_CFG_MINW, F.S0_CFG_DEB], false⟩,
   ⟨.S0_CNT, true, 0xD2204, 8, 0x10, 1, 0x0, [F.S0_CNT_CNT], false⟩,
   ⟨.S0_TICK, true, 0xD2208, 8, 0x10, 1, 0x0, [F.S0_TICK_TICK], false⟩,
   ⟨.S0_STAT, true, 0xD220C, 8, 0x10, 1, 0x0, [F.S0_STAT_REJ_CNT, F.S0_STAT_OVF, F.S0_STAT_LEVEL], false⟩,
   ⟨.FL_ADDR, true, 0xE0000, 1, 0x0, 1, 0x0, [F.FL_ADDR_ROW], false⟩,
   ⟨.FL_CMD, true, 0xE0004, 1, 0x0, 1, 0x0, [F.FL_CMD_CMD], false⟩,
   ⟨.FL_STAT, true, 0xE0008, 1, 0x0, 1, 0x0, [F.FL_STAT_RES, F.FL_STAT_SUSP, F.FL_STAT_BUSY], false⟩,
   ⟨.FL_SSTAT, true, 0xE000C, 1, 0x0, 1, 0x0, [F.FL_SSTAT_LOCK, F.FL_SSTAT_STATE], false⟩]

/-- Rows 320 on of the register index. -/
def regTable8 : List Reg :=
  [⟨.FL_DATA, true, 0xE0010, 8, 0x4, 1, 0x0, [F.FL_DATA], false⟩,
   ⟨.FL_CNT, true, 0xE0030, 1, 0x0, 1, 0x0, [F.FL_CNT_SUSP_CNT, F.FL_CNT_REERASE_CNT], false⟩,
   ⟨.RING_STAT, true, 0xF0000, 1, 0x0, 1, 0x0, [F.RING_STAT_ABORT_CNT, F.RING_STAT_RD_OUT], false⟩,
   ⟨.RING_FULL, true, 0xF0004, 1, 0x0, 1, 0x0, [F.RING_FULL_NB_CNT, F.RING_FULL_STALL_CNT], false⟩,
   ⟨.RING_CRED, true, 0xF0008, 1, 0x0, 1, 0x0, [F.RING_CRED_DSC_RSP, F.RING_CRED_DSC_REQ, F.RING_CRED_ASC_RSP, F.RING_CRED_ASC_REQ], false⟩,
   ⟨.PKG_ID, false, 0x0, 1, 0x0, 1, 0x0, [F.PKG_ID_FAMILY, F.PKG_ID_SIREV, F.PKG_ID_GRADE, F.PKG_ID_DIES], false⟩,
   ⟨.PKG_STATE, false, 0x4, 1, 0x0, 1, 0x0, [F.PKG_STATE_RST_CAUSE, F.PKG_STATE_STATE], false⟩,
   ⟨.PKG_STRAP, false, 0x8, 1, 0x0, 1, 0x0, [F.PKG_STRAP_COMPAT, F.PKG_STRAP_CHAIN_HEAD, F.PKG_STRAP_SEAL], false⟩,
   ⟨.PKG_AGREE, false, 0xC, 1, 0x0, 1, 0x0, [F.PKG_AGREE_DIEMASK, F.PKG_AGREE_REASON], false⟩,
   ⟨.PKG_BOOT, false, 0x10, 1, 0x0, 1, 0x0, [F.PKG_BOOT_BOOT_MS, F.PKG_BOOT_PARTIAL, F.PKG_BOOT_FALLBACK, F.PKG_BOOT_TRIAL, F.PKG_BOOT_SLOT], false⟩,
   ⟨.PKG_CMD, false, 0x14, 1, 0x0, 1, 0x0, [F.PKG_CMD_CMD], false⟩,
   ⟨.PKG_CRES, false, 0x18, 1, 0x0, 1, 0x0, [F.PKG_CRES_RES], false⟩,
   ⟨.PKG_SLOT, false, 0x20, 8, 0x4, 1, 0x0, [F.PKG_SLOT_SIREV, F.PKG_SLOT_STATE_B, F.PKG_SLOT_STATE_A, F.PKG_SLOT_PROTO], false⟩,
   ⟨.PKG_IMGID, false, 0x40, 8, 0x4, 1, 0x0, [F.PKG_IMGID_ID], false⟩,
   ⟨.PKG_CHASH, false, 0x60, 8, 0x4, 1, 0x0, [F.PKG_CHASH_HASH], false⟩,
   ⟨.PKG_OTP, false, 0x80, 1, 0x0, 1, 0x0, [F.PKG_OTP_SIG_REQ, F.PKG_OTP_KEY_SET], false⟩,
   ⟨.PKG_OTPCMD, false, 0x84, 1, 0x0, 1, 0x0, [F.PKG_OTPCMD_CMD], false⟩,
   ⟨.PKG_KEYW, false, 0xA0, 8, 0x4, 1, 0x0, [F.PKG_KEYW_WORD], false⟩,
   ⟨.PKG_WREF, false, 0xC0, 1, 0x0, 1, 0x0, [F.PKG_WREF_CLR, F.PKG_WREF_CNT], false⟩,
   ⟨.PKG_WLAST, false, 0xC4, 1, 0x0, 1, 0x0, [F.PKG_WLAST_KIND, F.PKG_WLAST_INDEX, F.PKG_WLAST_OFFSET], false⟩,
   ⟨.SAFE_STAT, false, 0x10000, 1, 0x0, 1, 0x0, [F.SAFE_STAT_DEM_ZONE, F.SAFE_STAT_SS1_ZONE, F.SAFE_STAT_SFAULT, F.SAFE_STAT_STATE], false⟩,
   ⟨.SAFE_SEAL, false, 0x10004, 1, 0x0, 1, 0x0, [F.SAFE_SEAL_SEAL_B, F.SAFE_SEAL_SEAL_A], false⟩,
   ⟨.SAFE_IN, false, 0x10008, 1, 0x0, 1, 0x0, [F.SAFE_IN_B, F.SAFE_IN_A], false⟩,
   ⟨.SAFE_INDEM, false, 0x1000C, 1, 0x0, 1, 0x0, [F.SAFE_INDEM_DEM], false⟩,
   ⟨.SAFE_FLT, false, 0x10010, 1, 0x0, 1, 0x0, [F.SAFE_FLT_DIE, F.SAFE_FLT_INPUT, F.SAFE_FLT_CAUSE], false⟩,
   ⟨.SAFE_CNT, false, 0x10014, 1, 0x0, 1, 0x0, [F.SAFE_CNT_DEM_CNT, F.SAFE_CNT_RST_REJ_CNT], false⟩,
   ⟨.SAFE_CNT2, false, 0x10018, 1, 0x0, 1, 0x0, [F.SAFE_CNT2_FLT_CNT], false⟩,
   ⟨.SAFE_EN, false, 0x1001C, 1, 0x0, 1, 0x0, [F.SAFE_EN_B, F.SAFE_EN_A], false⟩,
   ⟨.AON_STAT, false, 0x20000, 1, 0x0, 1, 0x0, [F.AON_STAT_MAIN_OK, F.AON_STAT_ON_STORE, F.AON_STAT_HARV_RUN, F.AON_STAT_ALARM, F.AON_STAT_WOKE], false⟩,
   ⟨.AON_SECS, false, 0x20004, 1, 0x0, 1, 0x0, [F.AON_SECS_SECS], false⟩,
   ⟨.AON_MSECS, false, 0x20008, 1, 0x0, 1, 0x0, [F.AON_MSECS_SECS], false⟩,
   ⟨.AON_PCYC, false, 0x2000C, 1, 0x0, 1, 0x0, [F.AON_PCYC_CNT], false⟩,
   ⟨.AON_CFG, false, 0x20010, 1, 0x0, 1, 0x0, [F.AON_CFG_CHG_MAIN, F.AON_CFG_FOC, F.AON_CFG_DARK_H, F.AON_CFG_LCAP], false⟩,
   ⟨.AON_LMAX, false, 0x20014, 1, 0x0, 1, 0x0, [F.AON_LMAX_CODE], false⟩,
   ⟨.AON_GAUGE, false, 0x20018, 1, 0x0, 1, 0x0, [F.AON_GAUGE_HOURS, F.AON_GAUGE_PCT], false⟩,
   ⟨.AON_VST, false, 0x2001C, 1, 0x0, 1, 0x0, [F.AON_VST_VLARGE, F.AON_VST_VSMALL], false⟩,
   ⟨.AON_HARV, false, 0x20020, 1, 0x0, 1, 0x0, [F.AON_HARV_VOC, F.AON_HARV_PAVG], false⟩,
   ⟨.AON_DARK, false, 0x20024, 1, 0x0, 1, 0x0, [F.AON_DARK_AVG, F.AON_DARK_BINS], false⟩,
   ⟨.AON_CNT, false, 0x20028, 1, 0x0, 1, 0x0, [F.AON_CNT_LOST_CNT, F.AON_CNT_HANDOVER_CNT], false⟩,
   ⟨.AON_GAP, false, 0x2002C, 1, 0x0, 1, 0x0, [F.AON_GAP_EXPIRED, F.AON_GAP_HOURS], false⟩]

/-- Rows 360 on of the register index. -/
def regTable9 : List Reg :=
  [⟨.AON_ALM, false, 0x20030, 1, 0x0, 1, 0x0, [F.AON_ALM_PCT, F.AON_ALM_LOW_EN, F.AON_ALM_MASK], false⟩,
   ⟨.AON_CMP_CFG, false, 0x20100, 8, 0x8, 1, 0x0, [F.AON_CMP_CFG_EN, F.AON_CMP_CFG_POL, F.AON_CMP_CFG_TMR, F.AON_CMP_CFG_CONF, F.AON_CMP_CFG_THR], false⟩,
   ⟨.AON_CMP_STAT, false, 0x20104, 8, 0x8, 1, 0x0, [F.AON_CMP_STAT_CNT, F.AON_CMP_STAT_OUT, F.AON_CMP_STAT_HIT], false⟩,
   ⟨.AON_ST, false, 0x20140, 4, 0x4, 1, 0x0, [F.AON_ST_PERIOD], false⟩,
   ⟨.REC_CMD, false, 0x30000, 1, 0x0, 1, 0x0, [F.REC_CMD_CMD], false⟩,
   ⟨.REC_STAT, false, 0x30004, 1, 0x0, 1, 0x0, [F.REC_STAT_CMD_RES, F.REC_STAT_INTAKE], false⟩,
   ⟨.REC_CURSOR, false, 0x30008, 1, 0x0, 1, 0x0, [F.REC_CURSOR_SEQ], true⟩,
   ⟨.REC_CSEL, false, 0x3000C, 1, 0x0, 1, 0x0, [F.REC_CSEL_WSTAT, F.REC_CSEL_AUTO, F.REC_CSEL_SRC], true⟩,
   ⟨.REC_WIN, false, 0x30010, 8, 0x4, 1, 0x0, [F.REC_WIN], true⟩,
   ⟨.REC_NEXT, false, 0x30030, 1, 0x0, 1, 0x0, [F.REC_NEXT_SEQ], false⟩,
   ⟨.REC_OLD, false, 0x30034, 1, 0x0, 1, 0x0, [F.REC_OLD_SEQ], false⟩,
   ⟨.REC_PFIRST, false, 0x30038, 1, 0x0, 1, 0x0, [F.REC_PFIRST_SEQ], false⟩,
   ⟨.REC_FLG, false, 0x3003C, 1, 0x0, 1, 0x0, [F.REC_FLG_FROZEN, F.REC_FLG_FRZ_EXP, F.REC_FLG_COMMISSIONED, F.REC_FLG_PERM_FULL, F.REC_FLG_ERASING], false⟩,
   ⟨.REC_LOST, false, 0x30040, 1, 0x0, 1, 0x0, [F.REC_LOST_CNT], false⟩,
   ⟨.REC_CNT, false, 0x30044, 1, 0x0, 1, 0x0, [F.REC_CNT_DEDUP_CNT, F.REC_CNT_TORN_CNT], false⟩,
   ⟨.REC_MIR, false, 0x30048, 1, 0x0, 1, 0x0, [F.REC_MIR_MIRROR_COSMETIC, F.REC_MIR_MIRROR_MISMATCH], false⟩,
   ⟨.REC_MIR2, false, 0x3004C, 1, 0x0, 1, 0x0, [F.REC_MIR2_BADCRC_CNT, F.REC_MIR2_MIRROR_LAG], false⟩,
   ⟨.SPI_STAT, false, 0x40000, 1, 0x0, 1, 0x0, [F.SPI_STAT_CRC_CNT, F.SPI_STAT_SEQ], false⟩,
   ⟨.CAN_CFG, false, 0x40200, 2, 0x200, 1, 0x0, [F.CAN_CFG_EN, F.CAN_CFG_FD_EN, F.CAN_CFG_AUTO_REC], false⟩,
   ⟨.CAN_NBT, false, 0x40204, 2, 0x200, 1, 0x0, [F.CAN_NBT_NBRP, F.CAN_NBT_NTSEG1, F.CAN_NBT_NTSEG2, F.CAN_NBT_NSJW], false⟩,
   ⟨.CAN_DBT, false, 0x40208, 2, 0x200, 1, 0x0, [F.CAN_DBT_TDCO, F.CAN_DBT_DBRP, F.CAN_DBT_DTSEG1, F.CAN_DBT_DTSEG2, F.CAN_DBT_DSJW], false⟩,
   ⟨.CAN_STAT, false, 0x4020C, 2, 0x200, 1, 0x0, [F.CAN_STAT_TEC, F.CAN_STAT_REC, F.CAN_STAT_BUSOFF, F.CAN_STAT_STATE], false⟩,
   ⟨.CAN_CNT, false, 0x40210, 2, 0x200, 1, 0x0, [F.CAN_CNT_RX_OVR_CNT, F.CAN_CNT_NOMATCH_CNT], false⟩,
   ⟨.CAN_TXQ, false, 0x40220, 2, 0x200, 4, 0x4, [F.CAN_TXQ_EN, F.CAN_TXQ_QUEUE], false⟩,
   ⟨.CAN_FID, false, 0x40240, 2, 0x200, 16, 0x10, [F.CAN_FID_EN, F.CAN_FID_IDE, F.CAN_FID_ID], false⟩,
   ⟨.CAN_FMSK, false, 0x40244, 2, 0x200, 16, 0x10, [F.CAN_FMSK_MSK], false⟩,
   ⟨.CAN_FQ, false, 0x40248, 2, 0x200, 16, 0x10, [F.CAN_FQ_QUEUE], false⟩,
   ⟨.PMB_CFG, false, 0x40600, 1, 0x0, 1, 0x0, [F.PMB_CFG_EN, F.PMB_CFG_PEC_REQ, F.PMB_CFG_AVS_EN, F.PMB_CFG_ADDR], false⟩,
   ⟨.PMB_CNT, false, 0x40604, 1, 0x0, 1, 0x0, [F.PMB_CNT_UNSUP_CNT, F.PMB_CNT_PEC_CNT, F.PMB_CNT_QFULL_CNT, F.PMB_CNT_AVS_CRC_CNT], false⟩,
   ⟨.PMB_PG, false, 0x40640, 16, 0x10, 1, 0x0, [F.PMB_PG_EN, F.PMB_PG_VEXP, F.PMB_PG_IEXP, F.PMB_PG_BPT], false⟩,
   ⟨.PMB_PQ, false, 0x40644, 16, 0x10, 1, 0x0, [F.PMB_PQ_OPER, F.PMB_PQ_OOC, F.PMB_PQ_QUEUE], false⟩,
   ⟨.PMB_PSC, false, 0x40648, 16, 0x10, 1, 0x0, [F.PMB_PSC_KV, F.PMB_PSC_KI], false⟩,
   ⟨.PMB_PV, false, 0x4064C, 16, 0x10, 1, 0x0, [F.PMB_PV_VCMD, F.PMB_PV_KA], false⟩,
   ⟨.CHN_CFG, false, 0x50000, 1, 0x0, 1, 0x0, [F.CHN_CFG_TMO, F.CHN_CFG_RETRY_N, F.CHN_CFG_RETRY_T], false⟩,
   ⟨.CHN_STAT, false, 0x50004, 1, 0x0, 1, 0x0, [F.CHN_STAT_GEN, F.CHN_STAT_ADDR, F.CHN_STAT_HEAD, F.CHN_STAT_UP_LINK, F.CHN_STAT_DN_LINK, F.CHN_STAT_EXCL, F.CHN_STAT_TIME_DIS, F.CHN_STAT_OVER, F.CHN_STAT_STATE], false⟩,
   ⟨.CHN_CNT, false, 0x50008, 1, 0x0, 1, 0x0, [F.CHN_CNT_LOSS_CNT, F.CHN_CNT_RETRY_CNT], false⟩,
   ⟨.CHN_CNT2, false, 0x5000C, 1, 0x0, 1, 0x0, [F.CHN_CNT2_STALE_CNT, F.CHN_CNT2_DUP_CNT], false⟩,
   ⟨.CHN_CNT3, false, 0x50010, 1, 0x0, 1, 0x0, [F.CHN_CNT3_TMO_CNT, F.CHN_CNT3_LATE_CNT], false⟩,
   ⟨.CHN_CNT4, false, 0x50014, 1, 0x0, 1, 0x0, [F.CHN_CNT4_OUTFAIL_CNT, F.CHN_CNT4_BADFR_CNT], false⟩,
   ⟨.CHN_RSEL, false, 0x50018, 1, 0x0, 1, 0x0, [F.CHN_RSEL_ADDR], false⟩]

/-- Rows 400 on of the register index. -/
def regTable10 : List Reg :=
  [⟨.CHN_RDAT, false, 0x5001C, 1, 0x0, 1, 0x0, [F.CHN_RDAT_PRESENT, F.CHN_RDAT_EXCL, F.CHN_RDAT_PROTO, F.CHN_RDAT_GEN], false⟩,
   ⟨.CHN_XHERD_LO, false, 0x50020, 1, 0x0, 1, 0x0, [F.CHN_XHERD_LO], false⟩,
   ⟨.CHN_XHERD_HI, false, 0x50024, 1, 0x0, 1, 0x0, [F.CHN_XHERD_HI], false⟩,
   ⟨.CHN_PROTO, false, 0x50028, 1, 0x0, 1, 0x0, [F.CHN_PROTO_PROTO], false⟩,
   ⟨.CHAIN_TOFS, false, 0x50040, 1, 0x0, 1, 0x0, [F.CHAIN_TOFS_OFFSET], false⟩,
   ⟨.CHN_HCMD, false, 0x50080, 1, 0x0, 1, 0x0, [F.CHN_HCMD_DST, F.CHN_HCMD_TYPE, F.CHN_HCMD_REUSE, F.CHN_HCMD_N], false⟩,
   ⟨.CHN_HADDR, false, 0x50084, 1, 0x0, 1, 0x0, [F.CHN_HADDR_ADDR], false⟩,
   ⟨.CHN_HRES, false, 0x50088, 1, 0x0, 1, 0x0, [F.CHN_HRES_RID, F.CHN_HRES_ORIG, F.CHN_HRES_BUSY, F.CHN_HRES_DONE, F.CHN_HRES_RES], false⟩,
   ⟨.CHN_HBUF, false, 0x50100, 64, 0x4, 1, 0x0, [F.CHN_HBUF], false⟩]

/-- The register index (R571), whole. -/
def regTable : List Reg :=
  regTable0 ++ regTable1 ++ regTable2 ++ regTable3 ++ regTable4 ++ regTable5 ++ regTable6 ++ regTable7 ++ regTable8 ++ regTable9 ++ regTable10

end Sys2Proof.Machine
end

