-- ==== Sys2Proof/Machine/Store.lean ====
section
/-!
DEFINITION. Sparse stores: every memory and every register file of the machine is a list of (key, value) pairs in ONE
canonical form: keys strictly rising, and no entry equal to what an unlisted key reads as (the default given to each
operation). Equal stores are therefore equal data.
-/
namespace Sys2Proof.Machine

/-- A sparse store: (key, value) pairs, keys strictly rising. -/
abbrev Store (α : Type) := List (Nat × α)

/-- The entry of key `k`, if listed. -/
def Store.find {α : Type} : Store α → Nat → Option α
  | [], _ => none
  | (j, v) :: m, k => if j = k then some v else Store.find m k

/-- The value at key `k`: the listed one, else the default `d`. -/
def Store.get {α : Type} (m : Store α) (d : α) (k : Nat) : α := (Store.find m k).getD d

/-- The store without key `k`. -/
def Store.erase {α : Type} (m : Store α) (k : Nat) : Store α := m.filter fun p => !decide (p.1 = k)

/-- The store with a key that it does not list, in its place. -/
def Store.insert {α : Type} : Store α → Nat → α → Store α
  | [], k, v => [(k, v)]
  | (j, w) :: m, k, v => if k < j then (k, v) :: (j, w) :: m else (j, w) :: Store.insert m k v

/-- A write: the default removes the entry, any other value lists it. -/
def Store.set {α : Type} [DecidableEq α] (m : Store α) (d : α) (k : Nat) (v : α) : Store α :=
  if v = d then Store.erase m k else Store.insert (Store.erase m k) k v

/-- Keys strictly rising, all above `b`. -/
def Store.sortedFrom {α : Type} : Option Nat → Store α → Bool
  | _, [] => true
  | none, (j, _) :: m => Store.sortedFrom (some j) m
  | some b, (j, _) :: m => decide (b < j) && Store.sortedFrom (some j) m

/-- The canonical form over a default: keys strictly rising and no entry equal to the default. -/
def Store.wf {α : Type} [DecidableEq α] (d : α) (m : Store α) : Bool :=
  Store.sortedFrom none m && m.all (fun p => decide (p.2 ≠ d))

end Sys2Proof.Machine
end

