-- ==== Sys2Proof/Machine/State.lean ====
section
/-!
DEFINITION. The state of an EVH as plain data. `cells` holds every host-visible register, field by field (R571), and
`shadow` the shadow values of RWS fields (R12). Memories are sparse stores; what a unit holds beside its registers is a
record per unit, kept in a store under the unit's package number, so that a unit no command has touched takes no space.
-/
namespace Sys2Proof.Machine

/-- Why a command stops the model. No command of the part does: the part reports every error in its own state, so there
is no constructor. -/
inductive Fault where
deriving DecidableEq, Repr

/-- Why the model gives a command no meaning. -/
inductive Refusal where
  /-- The command has no meaning in the model yet. Safe: nothing can be proved of it. -/
  | notModelled (mnemonic : String)
  /-- The command names a unit that the member does not have (`Instr.wf` is false): no such command reaches that part.
  Raised by every meaning on ill-formed commands. Safe. -/
  | noSuchUnit
deriving DecidableEq, Repr

/-- The members of the family (R1). -/
inductive Member where
  | evh2 | evh4 | evh6 | evh8
deriving DecidableEq, Repr

/-- The number of dies of a member (R1). -/
def Member.dies : Member → Nat
  | .evh2 => 2 | .evh4 => 4 | .evh6 => 6 | .evh8 => 8

/-- How a hold drives the two outputs of a leg (R266, R296). -/
inductive HoldMode where
  | highz | ascLow | ascHigh
deriving DecidableEq, Repr

/-- A message of the trip mesh on its way to a member die (R267, R346): the die, the herd, the drive that its legs take, and
whether it is a winding short rather than a companion action. -/
structure MeshMsg where
  die : Nat
  herd : Nat
  mode : HoldMode
  short : Bool
deriving DecidableEq, Repr

/-- What a die keeps beside its registers: its tick replica (R38), a tick edge to be inserted or withheld (R42), the run
of missed whistles and the reload it waits for (R43, R44), whether its clocks are gated (R489), whether it has not reported
(R550), the value, plus one, that the latest whistle dealt with has marked, the edges still to be inserted (positive) or
withheld for chain time (R67), and the delay of its whistle path as measured in BOOT (R41). -/
structure DieRun where
  tick : Nat
  insert : Bool
  withhold : Bool
  missRun : Nat
  reloadNext : Bool
  gated : Bool
  missing : Bool
  seen : Nat
  chain : Int
  delay : Nat
deriving DecidableEq, Repr

/-- A die as it leaves RESET. -/
def DieRun.reset : DieRun := ⟨0, false, false, 0, false, false, false, 0, 0, 0⟩

/-- What an angle base keeps beside its registers: whether it moves, the tick on which a WSTART start falls (R50), the
remaining correction (R52), the jumps and the written angle that wait for the next tick (R47, R48), the step register of
a PULSE base and its interpolation (R57, R58), the fraction of a fractional CARRIER (R59), the movement of its latest tick
(R61), and the PERIOD that waits for a forward wrap (R235). -/
structure Base where
  moving : Bool
  waitStart : Bool
  startAt : Option Nat
  rem : Int
  jumpIn : Int
  setIn : Option (BitVec 32)
  stepReg : BitVec 32
  snapTo : Option (BitVec 32)
  pulseIn : Int
  pulseLast : Int
  pulseAge : Nat
  pulseGap : Nat
  pulseNext : Int
  residue : Nat
  a0 : BitVec 32
  step : Int
  jump : Int
  wrapped : Bool
  reloaded : Bool
  moved : Bool
  period : Option (Nat × Nat)
  periodReached : Bool
deriving DecidableEq, Repr

/-- An angle base at reset. -/
def Base.reset : Base :=
  { moving := false, waitStart := false, startAt := none, rem := 0, jumpIn := 0, setIn := none, stepReg := 0, snapTo := none,
    pulseIn := 0, pulseLast := 0, pulseAge := 0, pulseGap := 0, pulseNext := 0, residue := 0, a0 := 0, step := 0, jump := 0,
    wrapped := false, reloaded := false, moved := false, period := none, periodReached := false }

/-- What a mains tracker keeps: the run of cycles within the lock errors, the last locked increment (R56), and the tick since which it
is in holdover. -/
structure Tracker where
  goodRun : Nat
  lockedInc : Int
  holdAt : Nat
deriving DecidableEq, Repr

/-- A tracker at reset: at the nominal 50 Hz, in holdover (R56). -/
def Tracker.reset : Tracker := ⟨0, 2147, 0⟩

/-- Where an instruction's answer lands: a general register of the file (windows, trap window, fast bank, globals), an
accumulator, STK or HC of the task or of the fast bank, or nowhere (R76, R98). -/
inductive Slot where
  | reg (k : Nat) | acc (k : Nat) | stk (fast : Bool) | hc (fast : Bool) | none
deriving DecidableEq, Repr

/-- A register that waits for data of transfer `id` (R131, R153): the status register or the data register. -/
structure Await where
  id : Nat
  dst : Slot
  isStatus : Bool
deriving DecidableEq, Repr

/-- The progress of a long instruction that was cut at a boundary (R100): its PC, the rows, taps or words done, the partial
sum and the latched input vector. -/
structure Resume where
  pc : BitVec 15
  progress : Nat
  partialSum : Int
  vec : List Word
deriving DecidableEq, Repr

/-- What an engine keeps beside its registers (R68 to R103). `regs` is the register file: 12 × window + r, then the trap
window from 96, the fast bank from 112 and the globals from 128; `accs` the accumulators, the fast bank's from 4. `fastPc` is
the PC of the context that a fast handler interrupted, `fastHc` the HC that the handler sees. `latches`, `holds` and `waits` are kept per context (0 tasks and idle,
1 normal handler, 2 fast handler): read latches and write holds. `waits` (the blocking read waited for, its number plus one) and
`stalled` (the instruction that has stalled at a bound) are kept per lane: the context, or 3 in the trap window; with the
latter, in `counted`, whether the stall has been counted (1). -/
structure Engine where
  pc : BitVec 15
  regs : Store Word
  accs : Store Acc
  stk : Word
  stkFast : Word
  hc : Word
  taskReg : Word
  task : Option Nat
  ending : Bool
  normal : Bool
  normalIdle : Bool
  fast : Bool
  fastPc : BitVec 15
  fastHc : Word
  trap : Bool
  dfault : Bool
  stopped : Bool
  frozen : Bool
  resume : Option Resume
  latches : Store (Nat × Nat)
  holds : Store (Nat × Nat)
  awaits : List Await
  waits : Store Nat
  stalled : Store (Option Instr)
  counted : Store Nat
deriving DecidableEq, Repr

/-- An engine at reset: idle, registers cleared. -/
def Engine.reset : Engine :=
  { pc := 0, regs := [], accs := [], stk := 0, stkFast := 0, hc := 0, taskReg := 0, task := none, ending := false,
    normal := false, normalIdle := false, fast := false, fastPc := 0, fastHc := 0, trap := false, dfault := false, stopped := false,
    frozen := false, resume := none, latches := [], holds := [], awaits := [], waits := [], stalled := [], counted := [] }

/-- One entry of a queue (R147): header and payload. -/
structure QEntry where
  hdr : BitVec 16
  payload : Payload
deriving DecidableEq, Repr

/-- An entry of the recorder's intake (R464): the record's content, the stamps taken at acceptance, and whether it is the
REC_LOST record placed behind an accepted entry. -/
structure RecEntry where
  code : Nat
  herd : Option Nat
  leg : Nat
  srcDie : Nat
  data0 : Nat
  data1 : Nat
  data2 : Nat
  secs : Nat
  pcyc : Nat
  tick : Nat
  repeats : Nat
  aon : Bool
  lost : Bool
deriving DecidableEq, Repr

/-- The operation that a ring transaction carries (R158); `record` is the push of a hardware fault source to the intake (R138). -/
inductive RingOp where
  | read (p : Nat)
  | write (p : Nat) (v : Word)
  | group (p : Nat) (vs : List Word)
  | push (id : BitVec 16) (e : QEntry) (nb : Bool)
  | lset (leg sel : Nat) (v : BitVec 32)
  | loadAll (herd due : Nat) (inRun : Bool)
  | notice (id : BitVec 16)
  | regRead (addr : Nat) (odd : Bool)
  | regWrite (addr : Nat) (v : BitVec 32) (whole : Bool)
  | record (e : RecEntry)
deriving DecidableEq, Repr

/-- Where a ring transaction stands: on its way, held back after a FULL answer until a space notice, sent again after it (R154),
or answered with a status and a word of data. -/
inductive XferStage where
  | request | blocked | retry | answered (st : Status) (data : BitVec 32)
deriving DecidableEq, Repr

/-- A transfer in flight on the die ring (R158 to R164): its number, requesting die, destination die, requester, operation
and stage. -/
structure Xfer where
  id : Nat
  src : Nat
  dst : Nat
  who : Requester
  herd : Option Nat
  op : RingOp
  stage : XferStage
deriving DecidableEq, Repr

/-- The values of the five shadowed leg fields that wait for a boundary (R228), with the due tick (R229), the PERIOD mark
(R235), the mask bit and comparator threshold that the REGULATE manager sends with them (R316, R317), and whether the herd was
in RUNNING or STOPPING as the load-all was issued (R303). -/
structure PendSet where
  duty : Nat
  rise : Nat
  fall : Nat
  phase : Nat
  period : Nat
  marked : Bool
  due : Nat
  mask : Option Bool
  thr : Option Nat
  inRun : Bool
deriving DecidableEq, Repr

/-- A gate edge that waits for its return (R259): its kind (0 HS_ON, 1 HS_OFF, 2 LS_ON, 3 LS_OFF), the code used, whether
it had its frame, and the position (in 156.25 ps steps) at which it was produced. -/
structure RetEdge where
  kind : Nat
  code : Nat
  framed : Bool
  at64 : Nat
deriving DecidableEq, Repr

/-- A strength frame on its way to the booster or not yet applied by it (R250): the position of its start, the kind and code
that it carries, and whether it is one of the frames whose code is GATE_DEF's (R254, R305). -/
structure Frame where
  start : Nat
  kind : Nat
  code : Nat
  fixed : Bool
deriving DecidableEq, Repr

/-- The part of a tick's movement of a leg's carrier that is still to be run (R221, R222): the carrier angle at the start
of the tick, the distance already run, the applied increment, the jump, the tick edge before the movement, whether it waits for
the boundary that its jump has crossed, and the direction of travel of the base (R61). -/
structure LegSpan where
  theta : BitVec 32
  done : Nat
  step : Int
  jump : Int
  edge : Nat
  jumping : Bool
  fwd : Bool
deriving DecidableEq, Repr

/-- What a leg keeps beside its registers: its carrier level, the source that decides its outputs (1 to 7 of R237, 0 none yet),
the scheduled rises of GH and GL (R223), the pending set (R228), the boundary reached in the latest tick with the rest of that
tick's movement, its holds, the herds of its companion action and of its own trip (R266, R269), and the state of its gate port
(R250 to R262): the frames under way, the booster's held codes in the layout of GATE_STR (R255), whether the coming C edge has
had its pair, with the frames sent for it, whether a scheduled rise had its frame, a NORET that is still to act, and the positions
of the latest four gate edges, newest first (R203). -/
structure Leg where
  car : Bool
  src : Nat
  riseH : Option Nat
  riseL : Option Nat
  pend : Option PendSet
  marked : Bool
  boundary : Option LegSpan
  lastBoundary : Option Nat
  runHold : Bool
  runHoldFrom : Nat
  clearHold : Option Nat
  comp : Option HoldMode
  compHerd : Nat
  compRelease : Bool
  tripHerd : Option Nat
  short : Option HoldMode
  shortRelease : Bool
  mcHold : Bool
  mcRelease : Bool
  mcReleaseFrom : Nat
  burstMask : Bool
  safeA : Bool
  safeB : Bool
  cbcWait : Bool
  lastEdge : Nat
  returns : List RetEdge
  missRun : Nat
  integ : Store Int
  edgeLog : List Nat
  noretDue : Bool
  frames : List Frame
  held : Nat
  paired : Bool
  framedOff : Bool
  framedOn : Bool
  riseFramed : Bool
  gfHighSince : Option Nat
  shMask : Option Bool
  shThr : Option Nat
deriving DecidableEq, Repr

/-- A leg at reset: carrier low, nothing pending, held by no source of its own; both safety channels hold it (R434), and its
booster holds code 8 for every kind (R255). -/
def Leg.reset : Leg :=
  { car := false, src := 0, riseH := none, riseL := none, pend := none, marked := false, boundary := none, lastBoundary := none,
    runHold := false, runHoldFrom := 0, clearHold := none, comp := none, compHerd := 0, compRelease := false, tripHerd := none, short := none,
    shortRelease := false, mcHold := false, mcRelease := false, mcReleaseFrom := 0, burstMask := false, safeA := true,
    safeB := true, cbcWait := false, lastEdge := 0, returns := [], missRun := 0, integ := [], edgeLog := [], noretDue := false,
    frames := [], held := 0x8888, paired := false, framedOff := false, framedOn := false, riseFramed := false, gfHighSince := none, shMask := none,
    shThr := none }

/-- An operation of a die's flash (R458, R474). -/
inductive FlashOp where
  | read (row : Nat)
  | program (row : Nat) (v : BitVec 256)
  | erase (sector : Nat)
deriving DecidableEq, Repr

/-- A die's flash unit (R458): the operation in progress, the erase it has suspended, the operations that wait. -/
structure FlashRun where
  busy : Option FlashOp
  suspended : Option Nat
  waiting : List FlashOp
deriving DecidableEq, Repr

/-- A flash unit at reset: idle. -/
def FlashRun.reset : FlashRun := ⟨none, none, []⟩

/-- A sector's header row (R456): the STATE byte and the LOCK bit. -/
structure SectorHdr where
  state : Nat
  lock : Bool
deriving DecidableEq, Repr

/-- A header that nothing has programmed: ERASED, not locked. -/
def SectorHdr.reset : SectorHdr := ⟨0xFF, false⟩

/-- The event recorder (R460 to R473): the intake, the tick of the last FREEZE, the next row of each area, the rows whose
mirror copy is due, the rows that D1 lacks, the next stored record to compare, the commit in progress (its entry, SEQ and row),
the COMMISSIONED record that waits for its commit (R467), the torn rows, counted over the dies (R459), and the row whose mirror copy is
in progress (R471). -/
structure Recorder where
  intake : List RecEntry
  frozenAt : Nat
  circRow : Nat
  permRow : Nat
  mirrorDue : List Nat
  mirrorLack : List Nat
  compareAt : Nat
  committing : Option (RecEntry × Nat × Nat)
  first : Option RecEntry
  torn : List Nat
  mirroring : Option Nat
deriving DecidableEq, Repr

/-- The recorder at reset. -/
def Recorder.reset : Recorder :=
  { intake := [], frozenAt := 0, circRow := 0, permRow := 0, mirrorDue := [], mirrorLack := [], compareAt := 0, committing := none,
    first := none, torn := [], mirroring := none }

/-- A domain's transition (R498): whether one is in progress, its target, whether a cluster still waits for its engines,
the FORCE of the entry, and an ON request held meanwhile. -/
structure DomRun where
  moving : Bool
  target : Nat
  waiting : Bool
  force : Bool
  heldOn : Bool
deriving DecidableEq, Repr

/-- A domain at reset: ON, no transition. -/
def DomRun.reset : DomRun := ⟨false, 0, false, false, false⟩

/-- The fault causes of R300, by their bit of FAULT_CAUSE. -/
inductive Cause where
  | prog | engine | tick | osc | plaus | check | hshort
deriving DecidableEq, Repr

/-- What befalls a herd on a tick, as R299 orders it: SAFE, fault causes, commands. `told`: it is a command, which CMD_RES answers;
`task`: the command, by its code, comes from a task of the herd (R298); code 0 is the end of the ARM checks or of STOP_TMO. -/
inductive HerdEvent where
  | safe (told : Bool)
  | fault (c : Cause) (told : Bool)
  | command (code : Nat) (task : Bool)
deriving DecidableEq, Repr

/-- The events of a herd on one tick (R299): the tick plus one, the herd's state before them (R295), the register fields of the herd
and its points that they have changed, each as it was, the first number of the transfers that they have begun, and the events in
the order in which they are taken. -/
structure HerdTick where
  at_ : Nat
  state : Nat
  xfer : Nat
  fields : List (Nat × Option Nat)
  points : List (Nat × Word)
  events : List HerdEvent
deriving DecidableEq, Repr

/-- What a herd keeps beside its registers: the ARM check in progress with the ticks of the ARM command and of the check's
start (R305), the tick of entry into STOPPING (R302), the VSAT episode (R283), the role change in progress (R558), the node results of the HSS
check, by package leg (R306), the tick of each heel's latest start, plus one (R286), the tick of the latest BIND or RECOVER, plus one,
and the events of the latest tick that had any (R299). -/
structure HerdRun where
  check : Option Nat
  armAt : Nat
  checkFrom : Nat
  stopAt : Nat
  vsatAt : Nat
  vsatRecorded : Bool
  vsatEntry : Nat
  vecLimited : Bool
  roleAt : Option Nat
  hss : Store Word
  heelAt : Store Nat
  freshAt : Nat
  tick : HerdTick
deriving DecidableEq, Repr

/-- A herd at reset. -/
def HerdRun.reset : HerdRun := ⟨none, 0, 0, 0, 0, false, 0, false, none, [], [], 0, ⟨0, 0, 0, [], [], []⟩⟩

/-- The variables of a detector channel (R288), and the tick of its latest sample. -/
structure OscRun where
  first : Bool
  m : Int
  s : Int
  n : Nat
  wins : Nat
  run : Nat
  amp : Nat
  xcnt : Nat
  at_ : Nat
deriving DecidableEq, Repr

/-- A detector channel at a start (R288). -/
def OscRun.reset : OscRun := ⟨true, 0, 0, 0, 0, 0, 0, 0, 0⟩

/-- The REGULATE phase manager (R315 to R330): the phases by index as (die, leg), the tick of the last change of N_ACT, the
ticks since which the add, shed and burst conditions hold, the start of the overload, VREF, the sources in a clamp episode,
the residues ρ, the boundaries left in the burst with whether its first boundary is still awaited, and the sleep: its tick,
the clusters in RETAIN, the slots disarmed, and the tick of the latest wake. -/
structure RegRun where
  phases : List (Nat × Nat)
  lastChange : Nat
  addSince : Option Nat
  shedSince : Option Nat
  burstSince : Option Nat
  ovlSince : Nat
  vref : Int
  clampEp : Nat
  rho : Store Nat
  burstLeft : Nat
  burstWait : Bool
  sleepAt : Nat
  retained : List Nat
  disarmed : List Nat
  wakeAt : Nat
  lastLost : Option (Nat × Nat)
deriving DecidableEq, Repr

/-- The manager at reset. -/
def RegRun.reset : RegRun := ⟨[], 0, none, none, none, 0, 0, 0, [], 0, false, 0, [], [], 0, none⟩

/-- The DRIVE units (R337 to R348): the start tick of the catch window or ASC period, SEEDED, the winding-short command and
its tick, and the copies of DRV_QW, DRV_QG and DRV_LCFG that the member dies hold since entry into ARMED (R355): of DRV_LCFG, the
package legs in a quiet group, each with its group. -/
structure DrvRun where
  winAt : Nat
  seeded : Bool
  wsCmd : Nat
  wsAt : Nat
  qw : Nat × Nat × Nat
  qg : List (Bool × Bool × Nat)
  lcfg : List (Nat × Nat)
deriving DecidableEq, Repr

/-- The DRIVE units at reset. -/
def DrvRun.reset : DrvRun := ⟨0, false, 0, 0, (10, 40, 0), [], []⟩

/-- The chopper unit (R350 to R352): the tick of the latest sample, the energy residues in
2⁻⁴⁶ of 10 nJ, the rises in 2⁻¹⁶ °C,
and a saturation episode. -/
structure ChopRun where
  at_ : Nat
  resid : Store Nat
  rise : Store Int
  satEp : Bool
deriving DecidableEq, Repr

/-- The chopper at reset. -/
def ChopRun.reset : ChopRun := ⟨0, [], [], false⟩

/-- The grid monitor (R357 to R377): the tick of the latest evaluation, and the times then taken from the registers (R388), none
before the first; the tick up to which the frequency timers have counted (R364); per trip entry the accumulated ticks plus one (0:
its condition does not hold); the filtered limit with its target and the filtered reactive reference, in 2⁻²³; P_pre; the angle
offset; the baseline's count and sum, f_base in 2⁻¹⁶ Hz, and whether the tracker has locked since RUNNING; the cessation
episode and the tick of its end; the latest evaluation that left the MC region; the histories of frequency, phase and V1 with
the tick since which ROCOF holds; the probe: evaluations left, sum and number of V1, its scheduled tick, the evaluation of a
suspicion that waits, whether f is beyond FD_LIM; the start of the enter-service conditions; the islanding hold. -/
structure GrdRun where
  evalAt : Nat
  times : List Nat
  freqFrom : Nat
  timers : Store Nat
  fw : Int
  fwTarget : Int
  qf : Int
  ppre : Int
  phi : Int
  count : Nat
  fsum : Int
  fbase : Int
  lockSeen : Bool
  mcEp : Bool
  mcEndAt : Option Nat
  mcTill : Nat
  fHist : List (Nat × Int)
  rocofSince : Option Nat
  phHist : List Int
  v1Hist : List Nat
  probeLeft : Nat
  probeSum : Nat
  probeN : Nat
  probeDue : Nat
  suspAt : Option Nat
  suspOn : Bool
  esSince : Option Nat
  islandHold : Nat
deriving DecidableEq, Repr

/-- The grid monitor at reset. -/
def GrdRun.reset : GrdRun :=
  { evalAt := 0, times := [], freqFrom := 0, timers := [], fw := 0, fwTarget := 0, qf := 0, ppre := 0, phi := 0, count := 0, fsum := 0, fbase := 0,
    lockSeen := false, mcEp := false, mcEndAt := none, mcTill := 0, fHist := [], rocofSince := none, phHist := [],
    v1Hist := [], probeLeft := 0, probeSum := 0, probeN := 0, probeDue := 0, suspAt := none, suspOn := false,
    esSince := none, islandHold := 0 }

/-- The tracking unit (R379 to R384): the previous values, the tick of the latest step, whether the
first sweep since RUNNING is still to come, the start tick of the latest one (before it, the tick of RUNNING), its VREF0, the tick of its latest ramp write, the tick of WAIT_GMP, and the settings that a write has replaced and that stay in effect until
the next period, with the tick of that write (R388). -/
structure TrkRun where
  vPrev : Int
  iPrev : Int
  havePrev : Bool
  at_ : Nat
  first : Bool
  sweepAt : Nat
  vref0 : Nat
  rampAt : Nat
  gmpAt : Nat
  held : Option (Nat × List Int)
deriving DecidableEq, Repr

/-- The tracking unit at reset. -/
def TrkRun.reset : TrkRun := ⟨0, 0, false, 0, true, 0, 0, 0, 0, none⟩

/-- An urgent window that has started (R188): its count A, its input, and the time in ns at which its sampling ends. -/
structure UrgentRun where
  count : Nat
  inp : Nat
  stop : Nat
deriving DecidableEq, Repr

/-- What a converter keeps beside its registers (R176 to R188): the time in ns at which the sampling of its triggered run
ends, whether results of that run are due, the time in ns at which the sampling of the slot due next ends and the time by which
the slot after it is put off, the tick of the latest trigger plus one (R178), an OFF of ANA since the latest enable (R171), the slots whose results are still to come, its next background slot, the urgent conversions whose results are still to come, oldest first, the reference slot in progress, the
rotations left in its first churn round, the decimation count, the marker FIFO, the words left before it freezes, and its
destination writes: those in flight (transfer numbers) and those that wait for an entry. -/
structure AdcRun where
  runEnd : Nat
  inRun : Bool
  slotEnd : Nat
  gap : Nat
  trigAt : Nat
  anaOff : Bool
  late : List Nat
  bgSlot : Nat
  urgent : List UrgentRun
  reference : Bool
  churnLeft : Nat
  dec : Nat
  markers : List (Nat × Nat)
  post : Option Nat
  destOut : List Nat
  destWait : List (Nat × Word)
deriving DecidableEq, Repr

/-- A converter at reset: its first churn round of eleven stages is ahead. -/
def AdcRun.reset : AdcRun := ⟨0, false, 0, 0, 0, false, [], 0, [], false, 11, 0, [], none, [], []⟩

/-- A sinc^N filter (R194, R197) of N integrators at the rate of the bitstream and N differences at the output rate, modulo
2⁶⁴, which every sum fits. -/
structure Sinc where
  acc : List (BitVec 64)
  comb : List (BitVec 64)
deriving DecidableEq, Repr

/-- A filter that has taken nothing. -/
def Sinc.reset : Sinc := ⟨[], []⟩

/-- What a modulator input keeps: its two filters, outputs of the two paths since their enable, the tick and value of the latest main output,
the number of all its main outputs and the latest eight of them, newest first, for metrology (R391). -/
structure ModRun where
  outs : Nat
  scOuts : Nat
  lastTick : Nat
  last : Word
  total : Nat
  hist : List Word
  main : Sinc
  short : Sinc
deriving DecidableEq, Repr

/-- A modulator input at reset. -/
def ModRun.reset : ModRun := ⟨0, 0, 0, 0, 0, [], Sinc.reset, Sinc.reset⟩

/-- The sums of a block of a pair (R394): its samples, Σ v·i, Σ v_q·i, Σv² and Σi². -/
structure BlockSum where
  n : Nat
  p : Int
  q : Int
  vv : Int
  ii : Int
deriving DecidableEq, Repr

/-- An empty block. -/
def BlockSum.reset : BlockSum := ⟨0, 0, 0, 0, 0⟩

/-- What a metrology unit keeps (R391 to R412): per channel the main outputs already used, the past values of the correction
chain and (from 8 on) of the corrected voltages; per voltage channel whether a crossing is armed and the tick of the last
accepted one, plus one; the tick of the enable and of the last sample; the blocks; the residues of the pails, in 2⁻²⁴; the
counters written in the store cycle of an update, with their former value plus one; the ticks of an invalid second; whether
VALID_BILL has been 1 since the last snapshot; the tick of that snapshot and of the last calibration check. -/
structure MeterRun where
  seen : Store Nat
  past : Store (List Word)
  armed : Store Nat
  zcAt : Store Nat
  enabledAt : Nat
  sampleAt : Nat
  blocks : Store BlockSum
  residue : Store Nat
  written : Store Nat
  inval : Nat
  billHeld : Bool
  snapAt : Option Nat
  calAt : Nat
deriving DecidableEq, Repr

/-- A metrology unit at reset. -/
def MeterRun.reset : MeterRun :=
  { seen := [], past := [], armed := [], zcAt := [], enabledAt := 0, sampleAt := 0, blocks := [], residue := [], written := [],
    inval := 0, billHeld := false, snapAt := none, calAt := 0 }

/-- What a pulse output keeps (R405): 0 idle, 1 in a pulse, 2 in a gap, 3 in the gap of a HALF pulse that ended between two samples,
with the tick since which; its pail's residue, and
the former value plus one of a pail written in the store cycle of an update. -/
structure PoRun where
  phase : Nat
  at_ : Nat
  residue : Nat
  written : Nat
deriving DecidableEq, Repr

/-- A pulse output at reset: idle. -/
def PoRun.reset : PoRun := ⟨0, 0, 0, 0⟩

/-- What an S0 input keeps (R408): the tick of its latest accepted level, whether that active level has been counted, and the
former value plus one of a count written in the store cycle of a pulse (R409). -/
structure S0Run where
  since : Nat
  counted : Bool
  written : Nat
deriving DecidableEq, Repr

/-- An S0 input at reset. -/
def S0Run.reset : S0Run := ⟨0, false, 0⟩

/-- The threshold of a comparator on its way (R207, R208): the codes before the present one at which its node may still stand, and the
tick of the latest write, plus one. -/
structure CmpRun where
  before : List Nat
  since : Nat
deriving DecidableEq, Repr

/-- A threshold at reset: settled. -/
def CmpRun.reset : CmpRun := ⟨[], 0⟩

/-- Reference supervision of a die (R212 to R216): the sums of the 5 ms in progress with its completed slots, the
persistence counts (D above 0.25 %, at or below 0.20 %, above 0.50 %; the sole remaining deviation; E alone), the switch to the
check reference (1: due, waits for a whistle; 2: the whistle has come), whether D is ignored, whether a
reference slot is due (R180), and whether a first average has been formed. -/
structure RefRun where
  dSum : Int
  eSum : Int
  slots : Nat
  marks : Nat
  cDrift : Nat
  cCalm : Nat
  cBill : Nat
  cSole : Nat
  cExt : Nat
  switchDue : Nat
  ignoreD : Bool
  refDue : Bool
  formed : Bool
deriving DecidableEq, Repr

/-- Reference supervision at reset. -/
def RefRun.reset : RefRun := ⟨0, 0, 0, 0, 0, 0, 0, 0, 0, 0, false, false, false⟩

/-- A zone's SS1 timer (R429): the input that started it, the channel cycle of its start, and the channels whose inputs demand it. -/
structure Ss1Run where
  input : Nat
  from_ : Nat
  chanA : Bool
  chanB : Bool
deriving DecidableEq, Repr

/-- The safety channels (chapter 16): the channel cycles since RESET; per channel the inputs found open since its last cycle (bit k),
those of them that were healthy before, and the inputs that have opened since the last release; the dies whose lines each channel
toggles (bit d); the inputs in discrepancy timing, with the cycle of its start, and those of them that wait for channel B's contact, and for an open one; the fault causes that remain present (contacts by
k + 16 for channel B and, for a cross-short, by 32 more; readbacks by die; per channel the other's exchange and the self-test); the
channels whose self-test has passed; whether zones have been released since RESET; the seals at RESET exit; the SS1 timers by
zone. -/
structure SafetyRun where
  cycles : Nat
  openA : Nat
  openB : Nat
  fresh : Nat
  opened : Nat
  driveA : Nat
  driveB : Nat
  disc : Nat
  discFrom : Store Nat
  discB : Nat
  discOpen : Nat
  tpBad : Nat
  pathBad : Nat
  chanBad : Bool
  oscBad : Nat
  selfBad : Nat
  stuck : Bool
  tested : Nat
  started : Bool
  sealExit : Option (Nat × Nat)
  ss1 : Store Ss1Run
deriving DecidableEq, Repr

/-- The safety channels at RESET exit (R432): every zone disabled. -/
def SafetyRun.reset : SafetyRun :=
  { cycles := 0, openA := 0, openB := 0, fresh := 0, opened := 0, driveA := 0, driveB := 0, disc := 0, discFrom := [], discB := 0, discOpen := 0, tpBad := 0,
    pathBad := 0, chanBad := false, oscBad := 0, selfBad := 0, stuck := false, tested := 0, started := false, sealExit := none,
    ss1 := [] }

/-- No SS1 timer. -/
def Ss1Run.reset : Ss1Run := ⟨0, 0, false, false⟩

/-- The always-on domain (chapter 17): the records that wait, whether main has been absent since the last power-cycle count,
whether the domain is cut off and its darkness timer has run out, the hourly bins (newest first) in 0.1 µWh, per sampled
comparator the run of active decisions (R210), whether the charger from main runs, which store is being charged (the large one:
true), whether the small store is refilled from the large one (R437, R438), the voltage at which the harvester regulates its input, in
1/100 of the unit of AON_HARV.VOC, whether it has stopped with both stores at their limits (R440), the seconds counts at the record
writes of the last 10 minutes (R441), the hours at which the darkness timer has stopped (R451), and the decision that has confirmed last, per comparator: its tick
plus one (R211). -/
structure AonRun where
  buffer : List RecEntry
  absent : Bool
  off : Bool
  expired : Bool
  bins : List Nat
  runs : Store Nat
  charger : Bool
  charging : Option Bool
  refill : Bool
  inputAt : Nat
  full : Bool
  writes : List Nat
  hours : Option Nat
  hitAt : Store Nat
deriving DecidableEq, Repr

/-- The always-on domain at its first power-up. -/
def AonRun.reset : AonRun :=
  { buffer := [], absent := true, off := false, expired := false, bins := [], runs := [], charger := false, charging := none, refill := false,
    inputAt := 0, full := false, writes := [], hours := none, hitAt := [] }

/-- A ramp generator in a run (R493): the ratio at the start of the segment, the ticks into it, the present ratio, and whether
the run ends with this segment (R494). Ratios are in 2⁻¹⁹. -/
structure RampRun where
  prev : Nat
  n : Nat
  ratio : Nat
  ending : Bool
deriving DecidableEq, Repr

/-- A ramp generator at reset. -/
def RampRun.reset : RampRun := ⟨0, 0, 0, false⟩

/-- What the boot of the package keeps (chapter 22): whether the boot steps have begun, the slot that R545 chose, the
dies whose image check failed, the run of good whistles since entry into AGREE, the tick of that entry and of the entry
into ENUM, and the records that wait for the intake (code and data). -/
structure BootRun where
  begun : Bool
  slot : Option Nat
  failed : List Nat
  good : Nat
  agreeAt : Nat
  enumAt : Nat
  records : List (Nat × Nat × Nat × Nat)
deriving DecidableEq, Repr

/-- The boot at reset: not begun. -/
def BootRun.reset : BootRun := ⟨false, none, [], 0, 0, 0, []⟩

/-- What a chain frame carries (R525): a request with its type and payload words, a response, the head's tick, and the frames
of enumeration and of a break. -/
inductive ChainMsg where
  | request (dst src gen type tag rid : Nat) (payload : List Nat)
  | resp (dst src gen tag rid st orig : Nat) (data : List Nat)
  | time (tick : Nat)
  | enum (addr gen : Nat)
  | enumAck (addr proto sirev dies : Nat) (last : Bool)
  | roster (entries : List RosterEntry)
  | linkDown (unit : Nat)
deriving DecidableEq, Repr

/-- A frame that waits for its link-level ACK (R519): the port it leaves by, its link sequence number, its repeats, and the
tick of its latest sending. -/
structure LinkFrame where
  down : Bool
  seq : Nat
  repeats : Nat
  at_ : Nat
  msg : ChainMsg
deriving DecidableEq, Repr

/-- A transaction of this unit in flight (R528, R529): its port, tag, destination, RID and generation, the tick of its sending,
and the CHAIN_OUT queue it serves (none: a transaction of the host). -/
structure ChainReq where
  down : Bool
  tag : Nat
  dst : Nat
  rid : Nat
  gen : Nat
  at_ : Nat
  queue : Option Nat
deriving DecidableEq, Repr

/-- An entry of a CHAIN_OUT queue in flight (R532): queue, RID, entry, destination unit, and the tick from which it is sent
again after a FULL answer. -/
structure OutEntry where
  queue : Nat
  rid : Nat
  entry : QEntry
  dst : Nat
  resendAt : Option Nat
deriving DecidableEq, Repr

/-- What the chain port keeps beside its registers (R518 to R535): frames not yet acknowledged and the next link sequence
numbers; the port and kind (ACK or NAK) of the latest link-level answer; transactions in flight, the last RID, CHAIN_OUT
entries in flight; the duplicate windows (source, generation, RIDs, newest first); the roster; the ticks at which the links
came up; a restored downstream segment that is not enumerated yet; on the head, the generation counter, the enumeration in
progress with its first address and tick, its acknowledgements (entry, SIREV, DIES), whether the last has come, and the
first address that a break has cut off; the run of whistles within 20 ns, whether the unit keeps its local count, the
measured round-trip delay in ns, the tick edges still to be corrected (positive: the unit is ahead) and the tick of the
latest correction. -/
structure ChainRun where
  frames : List LinkFrame
  seqUp : Nat
  seqDn : Nat
  linkAns : Option (Bool × Bool)
  reqs : List ChainReq
  lastRid : Nat
  outs : List OutEntry
  windows : List (Nat × Nat × List Nat)
  roster : List RosterEntry
  upAt : Nat
  dnAt : Nat
  segment : Bool
  genCount : Nat
  enumFirst : Option Nat
  enumAt : Nat
  acks : List (RosterEntry × Nat × Nat)
  ackLast : Bool
  lostFrom : Option Nat
  goodRun : Nat
  localCount : Bool
  delay : Nat
  slew : Int
  slewAt : Nat
deriving DecidableEq, Repr

/-- The chain port at reset: nothing enumerated, so that the head's chain is still to be enumerated from address 2 on. -/
def ChainRun.reset : ChainRun :=
  { frames := [], seqUp := 0, seqDn := 0, linkAns := none, reqs := [], lastRid := 0, outs := [], windows := [], roster := [],
    upAt := 0, dnAt := 0, segment := false, genCount := 0, enumFirst := none, enumAt := 0, acks := [], ackLast := false,
    lostFrom := some 2, goodRun := 0, localCount := false, delay := 0, slew := 0, slewAt := 0 }

/-- The instruction that the test access port holds (R508). -/
inductive TapInstr where
  | bypass | idcode | sample | extest | hostacc
deriving DecidableEq, Repr

/-- The test access port (R508): its instruction, the boundary cells as last loaded, and of HOSTACC the transfer count, the status of
the last completed transfer and the response that its data register holds. -/
structure TapRun where
  instr : TapInstr
  cells : List Bool
  count : Nat
  last : Status
  out : List (BitVec 8)
deriving DecidableEq, Repr

/-- The port at which a register burst runs (R564): SPI, HOSTACC, or the chain request with a header. -/
inductive BurstKey where
  | spi | tap | chain (fr : ChainHeader)
deriving DecidableEq, Repr

/-- A register burst of which some words are still to be served (R564): its port and requester, the address of the next word, the words
still to be written or the number still to be read, and the statuses and data of those served. -/
structure Burst where
  key : BurstKey
  who : Requester
  addr : Nat
  words : Option (List WrittenWord)
  count : Nat
  sts : List Status
  data : List Nat
deriving DecidableEq, Repr

/-- The test access port at its reset: Test-Logic-Reset selects IDCODE (IEEE 1149.1). -/
def TapRun.reset : TapRun := ⟨.idcode, [], 0, .ok, []⟩

/-- The state of the part. -/
structure State where
  member : Member
  pending : List Instr
  fresh : Nat
  cells : Store Nat
  shadow : Store Nat
  points : Store Word
  program : Store (BitVec 32)
  priv : Store Word
  shared : Store Word
  capture : Store Word
  flash : Store (BitVec 256)
  sectors : Store SectorHdr
  dieRuns : Store DieRun
  bases : Store Base
  trackers : Store Tracker
  engines : Store Engine
  taskStk : Store Word
  pendArg : Store Nat
  queues : Store (List QEntry)
  qWaiters : Store Nat
  ring : List Xfer
  nextXfer : Nat
  legs : Store Leg
  herdCopies : Store Nat
  cpLast : Store Nat
  flashRuns : Store FlashRun
  recorder : Recorder
  latches : Store Nat
  recQueue : Option Nat
  mesh : List MeshMsg
  doms : Store DomRun
  herds : Store HerdRun
  oscs : Store OscRun
  regs : Store RegRun
  drvs : Store DrvRun
  chops : Store ChopRun
  grds : Store GrdRun
  trks : Store TrkRun
  adcs : Store AdcRun
  mods : Store ModRun
  refs : Store RefRun
  answer : List (BitVec 32)
  posPrev : Store Nat
  meters : Store MeterRun
  pulses : Store PoRun
  s0s : Store S0Run
  safety : SafetyRun
  aonRun : AonRun
  ramps : Store RampRun
  boot : BootRun
  answerSt : Status
  whistleAt : Nat
  chain : ChainRun
  pmbPage : Nat
  canOff : Store Nat
  spiLast : Status
  tap : TapRun
  slotWrites : List Nat
  cmps : Store CmpRun
  dispatched : Store Nat
  otpKey : Store Nat
  pointsHeld : Option (Store Word)
  spiOut : List (BitVec 8)
  pec : BitVec 8
  bursts : List Burst
deriving DecidableEq, Repr

/-- The part right after reset, with member `m` (R538, R571): every register at its reset value, every memory with nothing
listed, every unit as its record's reset gives, no command waiting. -/
def State.resetFor (m : Member) : State where
  member := m
  pending := []
  fresh := 0
  cells := []
  shadow := []
  points := []
  program := []
  priv := []
  shared := []
  capture := []
  flash := []
  sectors := []
  dieRuns := []
  bases := []
  trackers := []
  engines := []
  taskStk := []
  pendArg := []
  queues := []
  qWaiters := []
  ring := []
  nextXfer := 0
  legs := []
  herdCopies := []
  cpLast := []
  flashRuns := []
  recorder := Recorder.reset
  latches := []
  recQueue := none
  mesh := []
  doms := []
  herds := []
  oscs := []
  regs := []
  drvs := []
  chops := []
  grds := []
  trks := []
  adcs := []
  mods := []
  refs := []
  answer := []
  posPrev := []
  meters := []
  pulses := []
  s0s := []
  safety := SafetyRun.reset
  aonRun := AonRun.reset
  ramps := []
  boot := BootRun.reset
  answerSt := .ok
  whistleAt := 0
  chain := ChainRun.reset
  pmbPage := 0
  canOff := []
  spiLast := .ok
  tap := TapRun.reset
  slotWrites := []
  cmps := []
  dispatched := []
  otpKey := []
  pointsHeld := none
  spiOut := []
  pec := 0
  bursts := []

/-- The part right after reset. The member is EVH2, the smallest (DESIGN CHOICE, log entry 1). -/
def State.reset : State := State.resetFor .evh2

end Sys2Proof.Machine
end

