-- ==== Sys2Proof/WellFormed.lean ====
section
/-!
DEFINITION. Well-formed commands: every unit that a command names exists on a member of `dies` dies (R1, R8, R17). A command
for a unit that the member does not have is no command of that part, and its meaning refuses it by name.
-/
namespace Sys2Proof

/-- A 64-bit counter of the metrology block that exists (R401): two units of 30 pails and snapshots, eight output pails. -/
def WideCounter.valid : WideCounter → Bool
  | .pail u q => decide (u < 2) && decide (q < 30)
  | .output k => decide (k < 8)
  | .snap u q => decide (u < 2) && decide (q < 30)
  | .snapTick u => decide (u < 2)

/-- The units that a command names exist on a member of `dies` dies. -/
def Instr.wf (dies : Nat) : Instr → Bool
  | .angleBaseTick d _ => decide (d < dies)
  | .deadTimeEnd d n => decide (d < dies) && decide (n < 24)
  | .legBoundary d n => decide (d < dies) && decide (n < 24)
  | .periodApply d b => decide (d < dies) && decide (b < 16)
  | .whistle _ => true
  | .whistleMiss d => decide (d < dies)
  | .baseWhistleStart d b => decide (d < dies) && decide (b < 16)
  | .abRunWrite _ d b _ => decide (d < dies) && decide (b < 16)
  | .abAngleWrite _ d b _ => decide (d < dies) && decide (b < 16)
  | .abCorrWrite _ d b _ => decide (d < dies) && decide (b < 16)
  | .mainsTrackerEnable _ d m => decide (d < dies) && decide (m < 2)
  | .mainsCycle d m _ => decide (d < dies) && decide (m < 2)
  | .mainsLock d m => decide (d < dies) && decide (m < 2)
  | .pulseEdge d k _ => decide (d < dies) && decide (k < 8)
  | .positionStateAccept d k _ => decide (d < dies) && decide (k < 8)
  | .time _ => true
  | .chainDelayMeasure _ => true
  | .chainTickSlew _ => true
  | .ld pe _ _ _ => decide (pe < 32 * dies)
  | .st pe _ _ _ => decide (pe < 32 * dies)
  | .ldl pe _ _ => decide (pe < 32 * dies)
  | .ldh pe _ _ => decide (pe < 32 * dies)
  | .adda pe _ _ _ => decide (pe < 32 * dies)
  | .mov pe _ _ => decide (pe < 32 * dies)
  | .addar pe _ _ _ => decide (pe < 32 * dies)
  | .ldx pe _ _ _ => decide (pe < 32 * dies)
  | .stx pe _ _ _ => decide (pe < 32 * dies)
  | .add pe _ _ _ => decide (pe < 32 * dies)
  | .sub pe _ _ _ => decide (pe < 32 * dies)
  | .neg pe _ _ => decide (pe < 32 * dies)
  | .abs pe _ _ => decide (pe < 32 * dies)
  | .min pe _ _ _ => decide (pe < 32 * dies)
  | .max pe _ _ _ => decide (pe < 32 * dies)
  | .clamp pe _ _ _ => decide (pe < 32 * dies)
  | .and pe _ _ _ => decide (pe < 32 * dies)
  | .or pe _ _ _ => decide (pe < 32 * dies)
  | .xor pe _ _ _ => decide (pe < 32 * dies)
  | .not pe _ _ => decide (pe < 32 * dies)
  | .addi pe _ _ _ => decide (pe < 32 * dies)
  | .shl pe _ _ _ => decide (pe < 32 * dies)
  | .shr pe _ _ _ => decide (pe < 32 * dies)
  | .shrr pe _ _ _ => decide (pe < 32 * dies)
  | .lsr pe _ _ _ => decide (pe < 32 * dies)
  | .lsl pe _ _ _ => decide (pe < 32 * dies)
  | .norm pe _ _ => decide (pe < 32 * dies)
  | .mul pe _ _ _ => decide (pe < 32 * dies)
  | .mulq8 pe _ _ _ => decide (pe < 32 * dies)
  | .mac pe _ _ _ => decide (pe < 32 * dies)
  | .msu pe _ _ _ => decide (pe < 32 * dies)
  | .macq8 pe _ _ _ => decide (pe < 32 * dies)
  | .msuq8 pe _ _ _ => decide (pe < 32 * dies)
  | .div pe _ _ _ => decide (pe < 32 * dies)
  | .accv pe _ _ _ => decide (pe < 32 * dies)
  | .accvq8 pe _ _ => decide (pe < 32 * dies)
  | .acclo pe _ _ => decide (pe < 32 * dies)
  | .accmid pe _ _ => decide (pe < 32 * dies)
  | .acchi pe _ _ => decide (pe < 32 * dies)
  | .accphm pe _ _ _ => decide (pe < 32 * dies)
  | .accplo pe _ _ => decide (pe < 32 * dies)
  | .accadd pe _ _ => decide (pe < 32 * dies)
  | .lsh pe _ _ _ => decide (pe < 32 * dies)
  | .cmp pe _ _ => decide (pe < 32 * dies)
  | .cmpi pe _ _ => decide (pe < 32 * dies)
  | .br pe _ _ _ => decide (pe < 32 * dies)
  | .call pe _ => decide (pe < 32 * dies)
  | .callr pe _ => decide (pe < 32 * dies)
  | .ret pe => decide (pe < 32 * dies)
  | .jr pe _ => decide (pe < 32 * dies)
  | .mvm pe _ _ _ _ _ _ _ _ => decide (pe < 32 * dies)
  | .mva pe _ _ _ _ _ _ _ _ => decide (pe < 32 * dies)
  | .fir pe _ _ _ _ _ => decide (pe < 32 * dies)
  | .bcopy pe _ _ _ _ => decide (pe < 32 * dies)
  | .sincos pe _ _ => decide (pe < 32 * dies)
  | .atan2 pe _ _ _ => decide (pe < 32 * dies)
  | .sqrt pe _ _ => decide (pe < 32 * dies)
  | .mag pe _ _ _ => decide (pe < 32 * dies)
  | .clarke pe _ _ => decide (pe < 32 * dies)
  | .park pe _ _ _ => decide (pe < 32 * dies)
  | .ipark pe _ _ _ => decide (pe < 32 * dies)
  | .aget pe _ _ => decide (pe < 32 * dies)
  | .aturn pe _ _ => decide (pe < 32 * dies)
  | .ainc pe _ _ => decide (pe < 32 * dies)
  | .acorr pe _ _ => decide (pe < 32 * dies)
  | .aadd pe _ _ _ => decide (pe < 32 * dies)
  | .asub pe _ _ _ => decide (pe < 32 * dies)
  | .amuli pe _ _ _ => decide (pe < 32 * dies)
  | .qpush pe _ _ _ _ _ => decide (pe < 32 * dies)
  | .qpop pe _ _ _ => decide (pe < 32 * dies)
  | .qstat pe _ _ => decide (pe < 32 * dies)
  | .sget pe _ _ _ _ _ => decide (pe < 32 * dies)
  | .sput pe _ _ _ _ _ => decide (pe < 32 * dies)
  | .sputg pe _ _ _ _ _ _ => decide (pe < 32 * dies)
  | .lset pe _ _ _ _ => decide (pe < 32 * dies)
  | .loadall pe => decide (pe < 32 * dies)
  | .nop pe => decide (pe < 32 * dies)
  | .clrstk pe => decide (pe < 32 * dies)
  | .fence pe => decide (pe < 32 * dies)
  | .halt pe => decide (pe < 32 * dies)
  | .trap pe => decide (pe < 32 * dies)
  | .eoi pe _ => decide (pe < 32 * dies)
  | .tret pe => decide (pe < 32 * dies)
  | .wspill pe => decide (pe < 32 * dies)
  | .wfill pe => decide (pe < 32 * dies)
  | .disp pe _ _ => decide (pe < 32 * dies)
  | .oddWordWrite pe _ _ => decide (pe < 32 * dies)
  | .taskStart pe => decide (pe < 32 * dies)
  | .taskEnd pe => decide (pe < 32 * dies)
  | .engDisp _ pe _ _ => decide (pe < 32 * dies)
  | .engineStop _ pe => decide (pe < 32 * dies)
  | .engineResume _ pe => decide (pe < 32 * dies)
  | .engineReset _ pe => decide (pe < 32 * dies)
  | .engTflgRead _ pe => decide (pe < 32 * dies)
  | .tickLoRead _ d => decide (d < dies)
  | .fastInterruptEntry pe => decide (pe < 32 * dies)
  | .normalInterruptEntry pe => decide (pe < 32 * dies)
  | .blockingStallRelease pe => decide (pe < 32 * dies)
  | .queuePushRetry pe => decide (pe < 32 * dies)
  | .ringPointRead d src => decide (d < dies) && decide (src < dies)
  | .ringPointWrite d src => decide (d < dies) && decide (src < dies)
  | .ringGroupCommit d src => decide (d < dies) && decide (src < dies)
  | .ringQueuePush d src => decide (d < dies) && decide (src < dies)
  | .ringLset d src => decide (d < dies) && decide (src < dies)
  | .ringLoadall d src => decide (d < dies) && decide (src < dies)
  | .spaceNotice d src => decide (d < dies) && decide (src < dies)
  | .ringRegisterAccess d src => decide (d < dies) && decide (src < dies)
  | .ringResponse d src => decide (d < dies) && decide (src < dies)
  | .hostPointRead _ _ _ => true
  | .hostPointWrite _ _ _ => true
  | .hostQueuePush _ _ _ _ => true
  | .hostQueuePop _ _ => true
  | .queueEnable _ d => decide (d < dies)
  | .queueEnableDone _ => true
  | .queueDisable _ d => decide (d < dies)
  | .qFlush _ d => decide (d < dies)
  | .slotResult d n _ => decide (d < dies) && decide (n < 8)
  | .referenceSlot d => decide (d < dies)
  | .referenceSlotDone d _ _ => decide (d < dies)
  | .refAverage d => decide (d < dies)
  | .refSwitch d => decide (d < dies)
  | .churnRotate d n _ => decide (d < dies) && decide (n < 8)
  | .urgentRequest _ d n _ _ _ => decide (d < dies) && decide (n < 8)
  | .urgentStart d n => decide (d < dies) && decide (n < 8)
  | .urgentResult d n _ => decide (d < dies) && decide (n < 8)
  | .adcDataRead _ d n => decide (d < dies) && decide (n < 8)
  | .capMkRead _ d n => decide (d < dies) && decide (n < 8)
  | .capDataRead _ d n => decide (d < dies) && decide (n < 8)
  | .capUnfreeze _ d _ => decide (d < dies)
  | .modOutput d m _ => decide (d < dies) && decide (m < 24)
  | .modScOutput d m _ => decide (d < dies) && decide (m < 24)
  | .modStuck d m => decide (d < dies) && decide (m < 24)
  | .comparatorLatch d e => decide (d < dies) && decide (e.n < 48)
  | .blankingEnd d n _ => decide (d < dies) && decide (n < 48)
  | .aonCmpDecision k _ => decide (k < 8)
  | .laCmd _ d h => decide (d < dies) && decide (h < 8)
  | .legEnable _ d n => decide (d < dies) && decide (n < 24)
  | .legForce _ d n _ => decide (d < dies) && decide (n < 24)
  | .grpMaskWrite _ d g _ => decide (d < dies) && decide (g < 4)
  | .strengthFrame d n => decide (d < dies) && decide (n < 24)
  | .gateEnable _ d n => decide (d < dies) && decide (n < 24)
  | .gfPulse d n _ => decide (d < dies) && decide (n < 24)
  | .returnMiss d n => decide (d < dies) && decide (n < 24)
  | .gfFault d n => decide (d < dies) && decide (n < 24)
  | .tripMesh d => decide (d < dies)
  | .tripClear _ d n => decide (d < dies) && decide (n < 24)
  | .vsatLong h => decide (h < 8 * dies)
  | .heelRestart _ h _ => decide (h < 8 * dies)
  | .heelEnable _ h j => decide (h < 8 * dies) && decide (j < 4)
  | .oscSample h => decide (h < 8 * dies)
  | .oscEnable _ h c => decide (h < 8 * dies) && decide (c < 4)
  | .bind _ h => decide (h < 8 * dies)
  | .unbind _ h => decide (h < 8 * dies)
  | .arm _ h => decide (h < 8 * dies)
  | .armCheckComplete h _ => decide (h < 8 * dies)
  | .armCheckTimeout h => decide (h < 8 * dies)
  | .run _ h => decide (h < 8 * dies)
  | .stop _ h => decide (h < 8 * dies)
  | .stopped _ h => decide (h < 8 * dies)
  | .safe _ h => decide (h < 8 * dies)
  | .recover _ h => decide (h < 8 * dies)
  | .fault _ h => decide (h < 8 * dies)
  | .stopTimeout h => decide (h < 8 * dies)
  | .ownerWrite _ d _ _ _ _ => decide (d < dies)
  | .roleWrite _ h _ => decide (h < 8 * dies)
  | .roleChangeDone h => decide (h < 8 * dies)
  | .herdStateCopy d h => decide (d < dies) && decide (h < 8 * dies)
  | .commandPointStale h j => decide (h < 8 * dies) && decide (j < 4)
  | .regEnable _ h => decide (h < 8 * dies)
  | .regOverload h => decide (h < 8 * dies)
  | .burstSleep h => decide (h < 8 * dies)
  | .burstDisable _ h => decide (h < 8 * dies)
  | .driveEnable _ h => decide (h < 8 * dies)
  | .catchWindowEnd h => decide (h < 8 * dies)
  | .ascPeriodEnd h => decide (h < 8 * dies)
  | .seeded _ h => decide (h < 8 * dies)
  | .wsLow _ h => decide (h < 8 * dies)
  | .wsHigh _ h => decide (h < 8 * dies)
  | .wsRelease _ h => decide (h < 8 * dies)
  | .chopEnable _ h => decide (h < 8 * dies)
  | .chopSample h => decide (h < 8 * dies)
  | .gridEnable _ h => decide (h < 8 * dies)
  | .gridTrip h n => decide (h < 8 * dies) && decide (n < 12)
  | .mcRestore h => decide (h < 8 * dies)
  | .holdoverTimeout h => decide (h < 8 * dies)
  | .probeStart h => decide (h < 8 * dies)
  | .probeEnd h => decide (h < 8 * dies)
  | .enterService h => decide (h < 8 * dies)
  | .trackEnable _ h => decide (h < 8 * dies)
  | .trackStep h => decide (h < 8 * dies)
  | .sweepStart h => decide (h < 8 * dies)
  | .sweepRampStep h => decide (h < 8 * dies)
  | .sweepFrozen h => decide (h < 8 * dies)
  | .trkGmp _ h _ => decide (h < 8 * dies)
  | .sweepFail h => decide (h < 8 * dies)
  | .meterEnable _ d u => decide (d < dies) && decide (u < 2)
  | .meterSample d u => decide (d < dies) && decide (u < 2)
  | .zcTimeout d u k => decide (d < dies) && decide (u < 2) && decide (k < 4)
  | .snap _ d u => decide (d < dies) && decide (u < 2)
  | .calchk _ d u => decide (d < dies) && decide (u < 2)
  | .calCheck d u => decide (d < dies) && decide (u < 2)
  | .pailLoRead _ d c => decide (d < dies) && c.valid
  | .pailWrite _ d c _ _ => decide (d < dies) && c.valid
  | .mcCorrectionWrite _ d u c _ _ => decide (d < dies) && decide (u < 2) && decide (c < 8)
  | .pulseOutputEnable _ d k => decide (d < dies) && decide (k < 8)
  | .pulseEnd d k => decide (d < dies) && decide (k < 8)
  | .gapEnd d k => decide (d < dies) && decide (k < 8)
  | .s0LevelAccept d k _ => decide (d < dies) && decide (k < 8)
  | .s0PulseCount d k => decide (d < dies) && decide (k < 8)
  | .s0CntWrite _ d k _ _ => decide (d < dies) && decide (k < 8)
  | .safetyChannelCycle _ _ => true
  | .contactAccept _ _ _ => true
  | .ss1Expiry z => decide (z < 4)
  | .discrepancyTimeout _ => true
  | .testPulse _ _ _ => true
  | .sealRead _ _ => true
  | .safetySelftest _ => true
  | .pathFault d _ => decide (d < dies)
  | .rstStuck => true
  | .legEnableLoss _ d => decide (d < dies)
  | .legEnableRestore d => decide (d < dies)
  | .safeResetEdge _ _ _ => true
  | .mainLost => true
  | .mainReturn => true
  | .powerCycleCount => true
  | .aonSecond => true
  | .gaugeUpdate _ _ _ _ => true
  | .harvesterVocMeasure _ => true
  | .aonRecordWrite => true
  | .darkBinClose _ => true
  | .darkCutoff => true
  | .darkTimerExpired => true
  | .darkWake _ _ => true
  | .recordCommit => true
  | .mirrorCommit => true
  | .mirrorCopy => true
  | .mirrorCompare => true
  | .flashOpDone d => decide (d < dies)
  | .eraseResume d => decide (d < dies)
  | .commission _ => true
  | .freeze _ => true
  | .unfreeze _ => true
  | .freezeExpiry => true
  | .recordSelect _ _ => true
  | .recordLocated _ => true
  | .recWinRead _ => true
  | .flashRead _ d => decide (d < dies)
  | .flashProgram _ d => decide (d < dies)
  | .flashErase _ d => decide (d < dies)
  | .irqSwset _ d _ => decide (d < dies)
  | .irqHpendClear _ d w _ => decide (d < dies) && decide (w < 16)
  | .pllLock d _ => decide (d < dies)
  | .pllUnlock d => decide (d < dies)
  | .rampRun _ d r => decide (d < dies) && decide (r < 2)
  | .rampStop _ d r => decide (d < dies) && decide (r < 2)
  | .rampSegmentEnd d r => decide (d < dies) && decide (r < 2)
  | .opWrite _ d c _ _ => decide (d < dies) && decide (c < 8)
  | .railSettled d c => decide (d < dies) && decide (c < 8)
  | .pwrOn _ d dom => decide (d < dies) && decide (dom < 13)
  | .pwrRetain _ d dom _ => decide (d < dies) && decide (dom < 13)
  | .pwrOff _ d dom _ => decide (d < dies) && decide (dom < 13)
  | .domainWaitDone d dom => decide (d < dies) && decide (dom < 13)
  | .domainTransitionDone d dom => decide (d < dies) && decide (dom < 13)
  | .spiRead _ _ _ => true
  | .spiWrite _ _ _ => true
  | .spiStatus _ => true
  | .spiAbandon => true
  | .bypass => true
  | .idcode => true
  | .samplePreload _ => true
  | .extest => true
  | .hostacc _ _ _ _ => true
  | .canRxFrame c _ => decide (c < 2)
  | .canTxFrame c j => decide (c < 2) && decide (j < 4)
  | .canBusOff c => decide (c < 2)
  | .canBusOffRecovery c => decide (c < 2)
  | .page _ _ => true
  | .operation _ _ => true
  | .onOffConfig _ _ => true
  | .clearFaults _ => true
  | .voutCommand _ _ => true
  | .statusWord => true
  | .readVout => true
  | .readIout => true
  | .pmbusUnsupported _ => true
  | .avsVoutWrite _ _ _ => true
  | .avsVoutRead _ _ => true
  | .avsStatusRead _ _ => true
  | .linkUp _ => true
  | .ack _ _ => true
  | .nak _ _ => true
  | .chainRetry _ _ => true
  | .linkLost _ => true
  | .linkDown _ _ => true
  | .enumStart => true
  | .enum _ _ _ => true
  | .enumAck _ _ _ _ _ => true
  | .enumComplete => true
  | .roster _ => true
  | .enumWaitTimeout => true
  | .headEnumTimeout => true
  | .pRead _ _ _ => true
  | .pWrite _ _ _ => true
  | .qPush _ _ _ _ => true
  | .rRead _ _ _ => true
  | .rWrite _ _ _ => true
  | .resp _ _ _ _ => true
  | .chainTimeout _ _ => true
  | .chHcmd _ _ _ _ _ => true
  | .chainOutSend _ => true
  | .chainOutResend _ => true
  | .powerOn => true
  | .resetN => true
  | .supplyLow => true
  | .pkgCmdReset _ => true
  | .resetRelease _ => true
  | .bootComplete _ _ _ => true
  | .dieMissing d => decide (d < dies)
  | .trialFallback => true
  | .switch _ => true
  | .confirm _ => true
  | .programKeyHash _ => true
  | .programSigReq _ => true
  | .wrefClr _ d => decide (d.getD 0 < dies)
  | .registerWrite _ _ _ => true
  | .undefinedEncoding pe _ => decide (pe < 32 * dies)
  | .canError c _ => decide (c < 2)
  | .chainBadFrame _ _ => true
  | .railLevelMet d c _ => decide (d < dies) && decide (c < 8)
  | .harvesterStart _ => true
  | .harvesterStop => true
  | .tapReset => true

end Sys2Proof
end

