-- ==== Sys2Proof/Machine/Ops.lean ====
section
/-!
DEFINITION. The named operations that every family uses: register fields and their shadows, unit records, herd states and
owners, interrupt sources (chapter 19), task dispatch (R92 to R97), the recorder's intake (R464, R465), signal points
(R137, R308) and queues (R144 to R156).
-/
namespace Sys2Proof.Machine

/-- A meaning answers its next state, with the member and the queue of waiting commands as they were, where its command is
well-formed (`ok` is its `Instr.wf`); an ill-formed command (it names a unit that the member does not have) is refused by
name. -/
def guarded (ok : Bool) (s t : State) : Host.Outcome State Fault Refusal :=
  if ok then .next { t with member := s.member, pending := s.pending } else .refused .noSuchUnit

/-- The number of dies of the member (R1). -/
def State.dies (s : State) : Nat := s.member.dies

/-! ### Register fields -/

/-- The value of a register field (R12). -/
def State.get (s : State) (F : Fld) (d : Nat := 0) (i : Nat := 0) (j : Nat := 0) : Nat :=
  Store.get s.cells (F.reset i j) (F.key d i j)

/-- A field set to `v`, cut to its width. -/
def State.put (s : State) (F : Fld) (v : Nat) (d : Nat := 0) (i : Nat := 0) (j : Nat := 0) : State :=
  { s with cells := Store.set s.cells (F.reset i j) (F.key d i j) (v % 2 ^ F.width) }

/-- A field is not zero. -/
def State.bit (s : State) (F : Fld) (d : Nat := 0) (i : Nat := 0) (j : Nat := 0) : Bool :=
  decide (s.get F d i j ≠ 0)

/-- A one-bit field set from a Boolean. -/
def State.putB (s : State) (F : Fld) (b : Bool) (d : Nat := 0) (i : Nat := 0) (j : Nat := 0) : State :=
  s.put F (if b then 1 else 0) d i j

/-- A field read as a two's-complement number. -/
def State.getI (s : State) (F : Fld) (d : Nat := 0) (i : Nat := 0) (j : Nat := 0) : Int :=
  (BitVec.ofNat F.width (s.get F d i j)).toInt

/-- A field set to the low bits of an integer. -/
def State.putI (s : State) (F : Fld) (v : Int) (d : Nat := 0) (i : Nat := 0) (j : Nat := 0) : State :=
  s.put F (BitVec.ofInt F.width v).toNat d i j

/-- A counter that saturates at its width, raised by one. -/
def State.incSat (s : State) (F : Fld) (d : Nat := 0) (i : Nat := 0) (j : Nat := 0) : State :=
  s.put F (min (s.get F d i j + 1) (2 ^ F.width - 1)) d i j

/-- A counter that wraps at its width, raised by one. -/
def State.incMod (s : State) (F : Fld) (d : Nat := 0) (i : Nat := 0) (j : Nat := 0) : State :=
  s.put F (s.get F d i j + 1) d i j

/-- Bit `k` of a field. -/
def State.getBit (s : State) (F : Fld) (k : Nat) (d : Nat := 0) (i : Nat := 0) (j : Nat := 0) : Bool :=
  (s.get F d i j).testBit k

/-- Bit `k` of a field set to `b`. -/
def State.putBit (s : State) (F : Fld) (k : Nat) (b : Bool) (d : Nat := 0) (i : Nat := 0) (j : Nat := 0) : State :=
  let v := s.get F d i j
  if v.testBit k = b then s else s.put F (if b then v + 2 ^ k else v - 2 ^ k) d i j

/-- The shadow value of an RWS field (R12, R228). -/
def State.getSh (s : State) (F : Fld) (d : Nat := 0) (i : Nat := 0) (j : Nat := 0) : Nat :=
  Store.get s.shadow (F.reset i j) (F.key d i j)

/-- The shadow value of an RWS field set. -/
def State.putSh (s : State) (F : Fld) (v : Nat) (d : Nat := 0) (i : Nat := 0) (j : Nat := 0) : State :=
  { s with shadow := Store.set s.shadow (F.reset i j) (F.key d i j) (v % 2 ^ F.width) }

/-- A field takes its shadow value (R12). -/
def State.loadSh (s : State) (F : Fld) (d : Nat := 0) (i : Nat := 0) (j : Nat := 0) : State :=
  s.put F (s.getSh F d i j) d i j

/-- A fresh number for a value that the spec leaves open: each use advances the counter. -/
def State.nextFresh (s : State) : State := { s with fresh := s.fresh + 1 }

/-! ### Unit records -/

/-- What die `d` keeps beside its registers. -/
def State.die (s : State) (d : Nat) : DieRun := Store.get s.dieRuns DieRun.reset d
/-- Die `d` changed. -/
def State.modDie (s : State) (d : Nat) (f : DieRun → DieRun) : State :=
  { s with dieRuns := Store.set s.dieRuns DieRun.reset d (f (s.die d)) }
/-- The tick replica of die `d` (R38); D0's is the master count. -/
def State.tick (s : State) (d : Nat) : Nat := (s.die d).tick

/-- Angle base `b` of die `d`. -/
def State.base (s : State) (d b : Nat) : Base := Store.get s.bases Base.reset (d * 16 + b)
/-- Angle base `b` of die `d` changed. -/
def State.modBase (s : State) (d b : Nat) (f : Base → Base) : State :=
  { s with bases := Store.set s.bases Base.reset (d * 16 + b) (f (s.base d b)) }

/-- Mains tracker `m` of die `d`. -/
def State.tracker (s : State) (d m : Nat) : Tracker := Store.get s.trackers Tracker.reset (d * 2 + m)
/-- Mains tracker `m` of die `d` changed. -/
def State.modTracker (s : State) (d m : Nat) (f : Tracker → Tracker) : State :=
  { s with trackers := Store.set s.trackers Tracker.reset (d * 2 + m) (f (s.tracker d m)) }

/-- Package engine `pe`. -/
def State.eng (s : State) (pe : Nat) : Engine := Store.get s.engines Engine.reset pe
/-- Package engine `pe` changed. -/
def State.modEng (s : State) (pe : Nat) (f : Engine → Engine) : State :=
  { s with engines := Store.set s.engines Engine.reset pe (f (s.eng pe)) }

/-- Leg `n` of die `d`. -/
def State.leg (s : State) (d n : Nat) : Leg := Store.get s.legs Leg.reset (d * 24 + n)
/-- Leg `n` of die `d` changed. -/
def State.modLeg (s : State) (d n : Nat) (f : Leg → Leg) : State :=
  { s with legs := Store.set s.legs Leg.reset (d * 24 + n) (f (s.leg d n)) }

/-- Flash unit of die `d`. -/
def State.flashRun (s : State) (d : Nat) : FlashRun := Store.get s.flashRuns FlashRun.reset d
/-- Flash unit of die `d` changed. -/
def State.modFlash (s : State) (d : Nat) (f : FlashRun → FlashRun) : State :=
  { s with flashRuns := Store.set s.flashRuns FlashRun.reset d (f (s.flashRun d)) }

/-- `f` applied to the state for each number in the list, in order. -/
def forEach {σ : Type} (xs : List Nat) (f : σ → Nat → σ) (s : σ) : σ := xs.foldl f s

/-! ### Package, domains, herds and owners -/

/-- The package state (R538): 0 RESET, 1 BOOT, 2 AGREE, 3 ENUM, 4 READY. -/
def State.pkgState (s : State) : Nat := s.get F.PKG_STATE_STATE
/-- What a register access does, where its block answers: the PKG, FLASH and DIE_SYS blocks from BOOT on (`least` 1), every
other from AGREE on (2); before that it does nothing (R538, R565). -/
def State.whenAnswers (s : State) (least : Nat) (t : State) : State := if least ≤ s.pkgState then t else s
/-- The package is READY. -/
def State.ready (s : State) : Bool := decide (s.pkgState = 4)

/-- Domain numbers of PWR_DOM (R503). -/
def domANA : Nat := 8
/-- Domain LEG (R503). -/
def domLEG : Nat := 9
/-- Domain MEM (R503). -/
def domMEM : Nat := 10
/-- Domain LINK (R503). -/
def domLINK : Nat := 11
/-- Domain FLASH (R503). -/
def domFLASH : Nat := 12

/-- Domain `k` of die `d` is ON (R497). -/
def State.domOn (s : State) (d k : Nat) : Bool := decide (s.get F.PWR_DOM_STATE d k = 0)
/-- Output `k` of die `d`'s PLL runs (R489, R490): enabled, and not gated. 0 ENG, 1 PWM, 2 ADC, 3 MOD. -/
def State.clockOn (s : State) (d k : Nat) : Bool := !(s.die d).gated && s.bit F.CLK_OUT_EN d k
/-- The store of die `d` answers: its MEM domain is ON (R165). -/
def State.memOn (s : State) (d : Nat) : Bool := s.domOn d domMEM
/-- The cluster of engine `pe` runs: ON and not waiting to leave ON (R97, R498). -/
def State.clusterOn (s : State) (pe : Nat) : Bool :=
  s.domOn (pe / 32) (pe % 32 / 4) && !s.bit F.PWR_DOM_BUSY (pe / 32) (pe % 32 / 4)

/-- The herd states (R295). -/
inductive HState where
  | unbound | bound | armed | running | stopping | faulted | safe
deriving DecidableEq, Repr

/-- The code of a herd state (R295). -/
def HState.code : HState → Nat
  | .unbound => 0 | .bound => 1 | .armed => 2 | .running => 3 | .stopping => 4 | .faulted => 5 | .safe => 6

/-- The herd state of a code; HERD_STAT.STATE never holds 7. -/
def HState.ofCode : Nat → HState
  | 0 => .unbound | 1 => .bound | 2 => .armed | 3 => .running | 4 => .stopping | 5 => .faulted | _ => .safe

/-- The state of package herd `h` on its home die (R30, R295). -/
def State.herdState (s : State) (h : Nat) : HState := .ofCode (s.get F.HERD_STAT_STATE (h / 8) (h % 8))
/-- The state of herd `h` as die `d` holds it: the home die's own, a member die's copy (R297). -/
def State.herdStateAt (s : State) (d h : Nat) : HState :=
  if d = h / 8 then s.herdState h else .ofCode (Store.get s.herdCopies 0 (d * 64 + h))
/-- A herd state in which RWL fields are locked (R12). -/
def HState.locked : HState → Bool
  | .armed | .running | .stopping => true
  | .unbound | .bound | .faulted | .safe => false

/-- The herd that an owner entry names, if it names one (R292). -/
def State.ownerOf (s : State) (en herd : Fld) (d n : Nat) : Option Nat :=
  if s.bit en d n then some (s.get herd d n) else none
/-- The herd of leg `n` of die `d` (R292). -/
def State.legHerd (s : State) (d n : Nat) : Option Nat := s.ownerOf F.OWN_LEG_EN F.OWN_LEG_HERD d n
/-- The herd of converter `n` of die `d` (R292). -/
def State.adcHerd (s : State) (d n : Nat) : Option Nat := s.ownerOf F.OWN_ADC_EN F.OWN_ADC_HERD d n
/-- The herd of modulator input `m` of die `d` (R292). -/
def State.modHerd (s : State) (d m : Nat) : Option Nat := s.ownerOf F.OWN_MOD_EN F.OWN_MOD_HERD d m
/-- The herd of angle base `b` of die `d` (R292). -/
def State.abHerd (s : State) (d b : Nat) : Option Nat := s.ownerOf F.OWN_AB_EN F.OWN_AB_HERD d b

/-- The legs of herd `h` on die `d`, in ascending number. -/
def State.herdLegsOn (s : State) (d h : Nat) : List Nat :=
  (List.range 24).filter fun n => decide (s.legHerd d n = some h)
/-- The legs of herd `h` on every die, as (die, leg). -/
def State.herdLegs (s : State) (h : Nat) : List (Nat × Nat) :=
  (List.range s.dies).flatMap fun d => (s.herdLegsOn d h).map fun n => (d, n)
/-- The herd to which the running task `t` of engine `pe` belongs: ENG_TCFG with HB = 1 (R103). -/
def State.taskHerd (s : State) (pe t : Nat) : Option Nat :=
  if s.bit F.ENG_TCFG_HB (pe / 32) (pe % 32) t then some (pe / 32 * 8 + s.get F.ENG_TCFG_HERD (pe / 32) (pe % 32) t)
  else none
/-- The herd of the task that engine `pe` is running, if it runs one of a herd (R308). -/
def State.runningHerd (s : State) (pe : Nat) : Option Nat :=
  match (s.eng pe).task with
  | some t => s.taskHerd pe t
  | none => none
/-- The herds that have a task with EN = 1 and HB = 1 on engine `pe` (R85, R103). -/
def State.engineHerds (s : State) (pe : Nat) : List Nat :=
  ((List.range 32).filterMap fun t =>
    if s.bit F.ENG_TCFG_EN (pe / 32) (pe % 32) t then s.taskHerd pe t else none).eraseDups

/-- The herd owns a resource on die `d` (R292, R294): a leg, converter, modulator input or angle base, or on its home die a
task. -/
def State.herdOnDie (s : State) (d h : Nat) : Bool :=
  (List.range 24).any (fun n => decide (s.legHerd d n = some h) || decide (s.modHerd d n = some h)) ||
  (List.range 8).any (fun n => decide (s.adcHerd d n = some h)) ||
  (List.range 16).any (fun b => decide (s.abHerd d b = some h)) ||
  (decide (d = h / 8) && (List.range 32).any fun e => (s.engineHerds (d * 32 + e)).contains h)

/-! ### Engine windows and task start -/

/-- The engine can start a task: nothing runs on it, it is not stopped, frozen or in DFAULT, its cluster is ON (R94) and clocked. -/
def State.engineFree (s : State) (pe : Nat) : Bool :=
  let E := s.eng pe
  E.task.isNone && !E.normal && !E.fast && !E.trap && !E.dfault && !E.stopped && !E.frozen && s.clusterOn pe && s.clockOn (pe / 32) 0

/-- Twelve registers from `k` on read 0. -/
def clearRegs (m : Store Word) (k n : Nat) : Store Word := (List.range n).foldl (fun m r => Store.set m 0 (k + r) 0) m

/-- The window state at a task start or an idle normal entry (R79, R99): CWP 0, WIN_USED 2, SPILLED 0, SPP at SPBASE. -/
def State.resetWindows (s : State) (pe : Nat) : State :=
  let d := pe / 32; let e := pe % 32
  (((s.put F.ENG_WIN_CWP 0 d e).put F.ENG_WIN_WIN_USED 2 d e).put F.ENG_WIN_SPILLED 0 d e).put
    F.ENG_SPP_SPP (s.get F.ENG_SPB_SPBASE d e) d e

/-- Where the STK of an engine's idle context is kept between its times (R110), above those of the tasks. -/
def idleStk (pe : Nat) : Nat := 65536 + pe

/-- Task `t` of engine `pe` starts with its argument and source code (R77). `pendArg` holds what its dispatch carried. A register
that still awaits the data of a non-blocking read of an idle normal handler stays awaited, and takes the late data (DESIGN
CHOICE, log entry 61). -/
def State.startTask (s : State) (pe t : Nat) : State :=
  let d := pe / 32; let e := pe % 32
  let a := Store.get s.pendArg 0 (pe * 32 + t)
  let s := s.resetWindows pe
  let s := ((s.put F.ENG_TSTAT_PEND 0 d e t).put F.ENG_TSTAT_RUN 1 d e t).put F.ENG_STAT_CUR_TASK t d e
  let s := { s with pendArg := Store.set s.pendArg 0 (pe * 32 + t) 0,
                    taskStk := Store.set s.taskStk 0 (idleStk pe) (s.eng pe).stk }
  let entry := s.get F.ENG_TCFG_ENTRY d e t
  let hc := s.get F.ENG_THC_HC d e t
  let stk := Store.get s.taskStk 0 (pe * 32 + t)
  s.modEng pe fun E =>
    { E with
      pc := BitVec.ofNat 15 entry, regs := clearRegs E.regs 0 16,
      accs := (List.range 4).foldl (fun m k => Store.set m 0 k 0) E.accs,
      hc := BitVec.ofNat 24 hc, stk := stk, task := some t, ending := false,
      taskReg := BitVec.ofNat 24 (a * 32 + t), resume := none, waits := [], stalled := [], counted := [] }

/-! ### Interrupt sources and dispatch -/

/-- The level sources of a die (R475, R502, R537). -/
def isLevel (src : Nat) : Bool :=
  (96 ≤ src && src < 144) || (152 ≤ src && src < 200) || (200 ≤ src && src < 207) || src == 216 || src == 219 ||
  src == 222

/-- Interrupt source 200 of die `d`: some queue of the die has WM set (R150). -/
def State.anyWm (s : State) (d : Nat) : Bool :=
  s.queues.any (fun p => decide (p.1 / 8192 = d) && s.bit F.Q_STAT_WM d (p.1 % 8192)) ||
  (match s.recQueue with | some q => decide (d = 0) && s.bit F.Q_STAT_WM 0 q | none => false)

/-- The line of a level source of die `d` (R475, R502, R537). -/
def State.lineOf (s : State) (d src : Nat) : Bool :=
  if src < 96 then false
  else if src < 144 then s.bit F.CMP_STAT_LATCH d (src - 96) && s.bit F.CMP_CFG_IRQ d (src - 96)
  else if src < 152 then false
  else if src < 176 then s.bit F.MOD_STAT_STUCK d (src - 152)
  else if src < 200 then s.bit F.LEG_STAT_TRIP d (src - 176)
  else if src = 200 then s.anyWm d
  else if src < 203 then s.bit F.MU_STAT_ZC_TO d (src - 201)
  else if src = 203 then s.bit F.SAFE_STAT_DEM_ZONE
  else if src = 204 then s.bit F.SAFE_STAT_SS1_ZONE
  else if src = 205 then s.bit F.SAFE_STAT_SFAULT
  else if src = 206 then s.bit F.IRQ_ESTAT_ENG d
  else if src = 216 then s.bit F.CLK_PLL_UNLOCK d
  else if src = 219 then decide (d = 0) && (!s.bit F.CHN_STAT_UP_LINK || !s.bit F.CHN_STAT_DN_LINK)
  else if src = 222 then decide (d = 0) && s.bit F.CHN_STAT_TIME_DIS
  else false

/-- Some IRQ_HPEND bit of die `d` is set (R486). -/
def State.anyHpend (s : State) (d : Nat) : Bool := (List.range 16).any fun w => s.bit F.IRQ_HPEND_HPEND d w
/-- IRQ_DSUM of D0 follows the host-pending bits of die `d` (R486). -/
def State.syncDsum (s : State) (d : Nat) : State := s.putBit F.IRQ_DSUM_DIES d (s.anyHpend d)
/-- The pin IRQ_N conducts: some host-pending bit of some die is set (R486). -/
def State.irqN (s : State) : Bool := (List.range s.dies).any fun d => s.anyHpend d

/-- Source `src` becomes host-pending where it is marked HOST (R486). -/
def State.hostPend (s : State) (d src : Nat) : State :=
  if s.bit F.IRQ_SRC_HOST d src then
    (s.putBit F.IRQ_HPEND_HPEND (src % 32) true d (src / 32)).putBit F.IRQ_DSUM_DIES d true
  else s

/-- The pending bit of a source. -/
def State.isPend (s : State) (d src : Nat) : Bool := s.getBit F.IRQ_PEND_PEND (src % 32) d (src / 32)
/-- The package engine to which a source of die `d` is routed (R478). -/
def State.srcEngine (s : State) (d src : Nat) : Nat := d * 32 + s.get F.IRQ_SRC_ENGINE d src
/-- The pending bit of a source set or cleared; those of a source routed to a frozen engine stand (R484). -/
def State.setPend (s : State) (d src : Nat) (b : Bool) : State :=
  if (s.eng (s.srcEngine d src)).frozen then s else s.putBit F.IRQ_PEND_PEND (src % 32) b d (src / 32)

/-- The lowest pending source of class `cls` routed to engine `pe` as a handler (R478, R481). -/
def State.pendingSource (s : State) (pe cls : Nat) : Option Nat :=
  (List.range 512).find? fun src =>
    s.isPend (pe / 32) src && s.bit F.IRQ_SRC_EN (pe / 32) src && !s.bit F.IRQ_SRC_MODE (pe / 32) src &&
    decide (s.get F.IRQ_SRC_CLASS (pe / 32) src = cls) && decide (s.get F.IRQ_SRC_ENGINE (pe / 32) src = pe % 32)

/-- Some task of engine `pe` is pending. -/
def State.anyTaskPend (s : State) (pe : Nat) : Bool :=
  (List.range 32).any fun t => s.bit F.ENG_TSTAT_PEND (pe / 32) (pe % 32) t

/-- A dispatch reaches an entry that discards it (R86, R92, R165, R295). -/
def State.dispatchDiscarded (s : State) (pe t : Nat) : Bool :=
  let d := pe / 32; let e := pe % 32
  !s.bit F.ENG_TCFG_EN d e t || !s.bit F.ENG_CTL_EN d e || (s.eng pe).dfault ||
  decide (s.get F.PWR_DOM_STATE d (e / 4) = 2) ||
  (match s.taskHerd pe t with | some h => decide (s.herdState h = .unbound) | none => false)

/-- A dispatch meets its own task running or pending (R95); a task that has issued its HALT or final RET no longer runs
(R96). -/
def State.dispatchOverrun (s : State) (pe t : Nat) : Bool :=
  s.bit F.ENG_TSTAT_PEND (pe / 32) (pe % 32) t || (decide ((s.eng pe).task = some t) && !(s.eng pe).ending)

/-- A dispatch of task `t` on engine `pe` with argument `arg` and source code `src` (R92 to R97): discarded and counted,
an overrun that raises ENG_OVR through `raise`, or accepted: PEND is set, and an idle engine with nothing pending starts
the task. -/
def State.dispatchWith (raise : State → Nat → Nat → State) (s : State) (pe t arg src : Nat) : State :=
  let d := pe / 32; let e := pe % 32
  if s.dispatchDiscarded pe t then s.incSat F.ENG_TSTAT_OVR_CNT d e t
  else if s.dispatchOverrun pe t then
    raise ((s.put F.ENG_STAT_OVERRUN 1 d e).incSat F.ENG_TSTAT_OVR_CNT d e t) d e
  else
    let free := s.engineFree pe && !s.anyTaskPend pe && (s.pendingSource pe 0).isNone
    let s := { s with pendArg := Store.set s.pendArg 0 (pe * 32 + t) (arg % 65536 * 8 + src) }
    let s := s.put F.ENG_TSTAT_PEND 1 d e t
    if free then s.startTask pe t else s

/-- An event of an edge source (R475, R477, R478, R486). The event of a source that dispatches may raise ENG_OVR, which may
dispatch again. An overrun changes no routing, so a chain longer than the 32 ENG_OVR sources of the die repeats itself: `fuel`
ends it there (log entry 7). -/
def State.raiseEdge : Nat → State → Nat → Nat → State
  | 0, s, _, _ => s
  | fuel + 1, s, d, src =>
    let s := s.hostPend d src
    if !s.bit F.IRQ_SRC_EN d src then s
    else if s.bit F.IRQ_SRC_MODE d src then
      s.dispatchWith (fun s d e => State.raiseEdge fuel s d e) (s.srcEngine d src) (s.get F.IRQ_SRC_TARGET d src % 32) src 2
    else if s.isPend d src then s.incSat F.IRQ_CNT_LOST_CNT d
    else s.setPend d src true

/-- An event of edge source `src` of die `d`. -/
def State.irqEdge (s : State) (d src : Nat) : State := s.raiseEdge 33 d src

/-- A dispatch of task `t` on engine `pe` (R92 to R97); an overrun raises ENG_OVR of the engine (R95). -/
def State.dispatch (s : State) (pe t arg src : Nat) : State :=
  s.dispatchWith (fun s d e => s.irqEdge d e) pe t arg src

/-- A level source of mode DISPATCH dispatches its task (R478), unless a task that it has dispatched has yet to end: until then it is
not sampled again, so that it never overruns its own task (R479). -/
def State.levelDispatch (s : State) (d src : Nat) : State :=
  if Store.get s.dispatched 0 (d * 512 + src) ≠ 0 then s
  else
    let pe := s.srcEngine d src; let t := s.get F.IRQ_SRC_TARGET d src % 32
    let out := if s.dispatchDiscarded pe t then 0 else pe * 32 + t + 1
    { s.dispatch pe t src 2 with dispatched := Store.set s.dispatched 0 (d * 512 + src) out }

/-- A level source whose line is active pends or dispatches, unless it is in service (R475, R478). -/
def State.levelPend (s : State) (d src : Nat) : State :=
  let s := s.hostPend d src
  if !s.bit F.IRQ_SRC_EN d src || s.bit F.IRQ_SRC_ACTIVE d src then s
  else if s.bit F.IRQ_SRC_MODE d src then s.levelDispatch d src
  else s.setPend d src true

/-- A level source is sampled (R475): it pends exactly while its line is active and it is not in service. -/
def State.sampleLevel (s : State) (d src : Nat) : State :=
  if s.lineOf d src then s.levelPend d src else s.setPend d src false

/-- The line of level source `src` of die `d` is sampled (R475): an activation pends it, a release takes its pending bit. -/
def State.syncLine (s : State) (d src : Nat) : State :=
  let now := s.lineOf d src
  if s.getBit F.IRQ_LINE_LINE (src % 32) d (src / 32) = now then s
  else
    let s := s.putBit F.IRQ_LINE_LINE (src % 32) now d (src / 32)
    s.sampleLevel d src

/-- A line that every die carries is sampled on every die. -/
def State.syncLineAll (s : State) (src : Nat) : State :=
  forEach (List.range s.dies) (fun s d => s.syncLine d src) s

/-- A transfer put on the die ring. -/
def State.sendXfer (s : State) (src dst : Nat) (who : Requester) (herd : Option Nat) (op : RingOp) : State :=
  { s with ring := s.ring ++ [⟨s.nextXfer, src, dst, who, herd, op, .request⟩], nextXfer := s.nextXfer + 1 }

/-! ### The recorder's intake -/

/-- The number of entries of the intake, REC_LOST records apart (R464). -/
def State.intakeCount (s : State) : Nat := (s.recorder.intake.filter fun e => !e.lost).length

/-- REC_STAT.INTAKE and the COUNT and WM of the intake queue follow the intake (R150). -/
def State.syncIntake (s : State) : State :=
  let n := s.intakeCount
  let s := s.put F.REC_STAT_INTAKE n
  match s.recQueue with
  | some q =>
    let w := s.get F.Q_SIZE_WMARK 0 q
    ((s.put F.Q_STAT_COUNT n 0 q).putB F.Q_STAT_WM (decide (w ≠ 0) && decide (w ≤ n)) 0 q).syncLine 0 200
  | none => s

/-- Two reports of the same fault (R465). -/
def RecEntry.same (a b : RecEntry) : Bool :=
  a.code == b.code && a.herd == b.herd && a.leg == b.leg && a.data0 == b.data0 && !a.lost

/-- The report merged into the first same-fault entry accepted less than or at 1 ms ago (R465), if there is one. -/
def mergeRecord (now : Nat) (r : RecEntry) : List RecEntry → Option (List RecEntry)
  | [] => none
  | e :: es =>
    if e.same r && decide (now ≤ e.tick + 100000) then some ({ e with repeats := min (e.repeats + 1) 0xFFFF } :: es)
    else (mergeRecord now r es).map (e :: ·)

/-- A loss noted behind the accepted entries: a new REC_LOST record, or one more in the one that stands last (R464). -/
def noteLoss (stamp : RecEntry) : List RecEntry → List RecEntry
  | [] => [{ stamp with code := 0x0811, herd := none, leg := 0xFF, data0 := 1, data1 := 0, data2 := 0, lost := true }]
  | [e] => if e.lost then [{ e with data0 := e.data0 + 1 }]
           else [e, { stamp with code := 0x0811, herd := none, leg := 0xFF, data0 := 1, data1 := 0, data2 := 0, lost := true }]
  | e :: es => e :: noteLoss stamp es

/-- A record request reaches the intake (R156, R463 to R465): a forbidden code, a merge, a loss, or acceptance with its
stamps. -/
def State.intakePush (s : State) (r : RecEntry) : State × Status :=
  match s.recQueue with
  | none => (s, .refused)
  | some q =>
    let now := s.tick 0
    let r := { r with secs := s.get F.AON_SECS_SECS, pcyc := s.get F.AON_PCYC_CNT, tick := now, repeats := 0,
                      aon := false, lost := false }
    if !s.memOn 0 || s.bit F.Q_STAT_BUSY 0 q then (s, .notReady)
    else if r.code = 0 ∨ r.code = 0xFFFF then (s.incSat F.REC_LOST_CNT, .refused)
    else
      match mergeRecord now r s.recorder.intake with
      | some es => ({ s with recorder := { s.recorder with intake := es } }.incSat F.REC_CNT_DEDUP_CNT, .ok)
      | none =>
        if s.get F.Q_SIZE_DEPTH 0 q ≤ s.intakeCount then
          let s := { s with recorder := { s.recorder with intake := noteLoss r s.recorder.intake } }
          ((s.incSat F.REC_LOST_CNT).incSat F.Q_STAT_FULL_CNT 0 q, .full)
        else
          ({ s with recorder := { s.recorder with intake := s.recorder.intake ++ [r] } }.syncIntake, .ok)

/-- A record of a hardware fault source of die `d` (R462, R598): code, herd, leg (0xFF: none) and data words. It is pushed to the
intake on D0, from another die by a ring request (R138). -/
def State.hwRecord (s : State) (d code : Nat) (herd : Option Nat) (leg d0 d1 d2 : Nat) : State :=
  let e : RecEntry := ⟨code, herd, leg, d, d0 % 2 ^ 24, d1 % 2 ^ 24, d2 % 2 ^ 24, 0, 0, 0, 0, false, false⟩
  if d = 0 then (s.intakePush e).1 else s.sendXfer d 0 .unit none (.record e)

/-- The die on which a record of a whole-package unit arises: D0. -/
def noLeg : Nat := 0xFF

/-! ### Signal points -/

/-- The point `p` (R136): its value, zero when nothing has written it. -/
def State.point (s : State) (p : Nat) : Word := Store.get s.points 0 p
/-- The point `p` as the units that work in one store cycle read it (R138): the value held at the start of the cycle. -/
def State.heldPoint (s : State) (p : Nat) : Word := match s.pointsHeld with | some m => Store.get m 0 p | none => s.point p
/-- `f` as the work of one store cycle (R138): every point that its units read is the one held at the start. -/
def State.oneCycle (s : State) (f : State → State) : State :=
  { f { s with pointsHeld := some s.points } with pointsHeld := s.pointsHeld }
/-- `f` as work of the store cycle in progress where there is one, and of a cycle of its own otherwise (R138). -/
def State.inCycle (s : State) (f : State → State) : State := if s.pointsHeld.isSome then f s else s.oneCycle f
/-- The die of a point (R9). -/
def pointDie (p : Nat) : Nat := p / 131072
/-- The point exists and its store answers (R142, R165). -/
def State.pointStatus (s : State) (p : Nat) : Status :=
  if s.dies ≤ pointDie p then .refused else if s.memOn (pointDie p) then .ok else .notReady

/-- Whether a write is by the intended writer of a command-point channel (R308): a package herd, the host or the chain. -/
def writerMatches (w : Nat) (who : Requester) (herd : Option Nat) : Bool :=
  match who with
  | .host | .debug => w == 64
  | .chain _ => w == 65
  | .engine _ => herd == some w
  | .unit => false

/-- Channel `j` of herd `h` sees a write of its point (R308, R309): its age starts again; the intended writer clears STALE,
any other sets FOREIGN and is counted. -/
def State.cpSeen (s : State) (who : Requester) (herd : Option Nat) (h j : Nat) : State :=
  let d := h / 8; let l := h % 8
  let s := { s with cpLast := Store.set s.cpLast 0 (h * 4 + j) (s.tick d + 1) }
  if writerMatches (s.get F.CP_CFG_WRITER d l j) who herd then s.put F.CP_STAT_STALE 0 d l j
  else (s.put F.CP_STAT_FOREIGN 1 d l j).incSat F.CP_STAT_FOREIGN_CNT d l j

/-- The command-point channels that watch point `p`: herd and channel numbers (R308). -/
def State.cpWatchers (s : State) (p : Nat) : List (Nat × Nat) :=
  (List.range 8).flatMap fun l => (List.range 4).filterMap fun j =>
    if s.bit F.CP_CFG_EN (pointDie p) l j && decide (s.get F.CP_CFG_POINT (pointDie p) l j = p)
    then some (pointDie p * 8 + l, j) else none

/-- A write of one point by `who`, from a task of `herd` (R137, R308). The caller has judged that the point answers. -/
def State.writePoint (s : State) (p : Nat) (v : Word) (who : Requester) (herd : Option Nat) : State :=
  let s := { s with points := Store.set s.points 0 p v }
  (s.cpWatchers p).foldl (fun s c => s.cpSeen who herd c.1 c.2) s

/-- A hardware destination write: lost where the point does not exist or its store does not answer (R138, R165). -/
def State.hwPoint (s : State) (p : Nat) (v : Word) : State :=
  if s.pointStatus p = .ok then s.writePoint p v .unit none else s

/-- The writes of a group commit, in ascending point order, all in one cycle (R139). -/
def State.writeGroup (s : State) (p : Nat) (vs : List Word) (who : Requester) (herd : Option Nat) : State :=
  match vs with
  | [] => s
  | v :: vs => State.writeGroup (s.writePoint p v who herd) (p + 1) vs who herd

/-! ### Queues -/

/-- Who pushes to a queue (R144, R147). -/
inductive Pusher where
  | engine (pe : Nat) | host | can (c : Nat) | pmbus | qmsg | fault | chain (u : Nat)
deriving DecidableEq, Repr

/-- The SRC code of a header (R147). -/
def Pusher.code : Pusher → Nat
  | .engine pe => pe | .host => 0x100 | .can c => 0x101 + c | .pmbus => 0x103 | .qmsg => 0x104 | .fault => 0x105
  | .chain u => 0x140 + u

/-- The header of an entry (R147). -/
def mkHdr (p : Pusher) (type : BitVec 7) : BitVec 16 := BitVec.ofNat 16 (p.code * 128 + type.toNat)

/-- The entries that queue `id` holds, oldest first. -/
def State.entries (s : State) (id : Nat) : List QEntry := Store.get s.queues [] id

/-- Queue `id` is a transmit queue among the CAN_MBOX queues: bit 1 of its OWNER (R510). -/
def State.isCanTx (s : State) (id : Nat) : Bool := s.getBit F.Q_CFG_OWNER 1 (id / 8192) (id % 8192)
/-- The CAN controller that owns queue `id`: bit 0 of its OWNER (R510). -/
def State.canOwner (s : State) (id : Nat) : Nat := s.get F.Q_CFG_OWNER (id / 8192) (id % 8192) % 2

/-- The kind of queue `id` lets this party push (R144, R510, R526). The table of R144 names no unit of the chain among its pushers: the
model lets one push to a general queue and to an inbox, and to no other kind (DESIGN CHOICE, log entry 61). -/
def State.pushAllowed (s : State) (id : Nat) (p : Pusher) : Bool :=
  match s.get F.Q_CFG_KIND (id / 8192) (id % 8192), p with
  | 0, .engine _ | 0, .host | 0, .qmsg | 0, .chain _ => true
  | 1, .engine _ | 1, .host | 1, .qmsg | 1, .chain _ => true
  | 2, .host => true
  | 3, .engine _ => true
  | 4, .engine _ | 4, .fault => true
  | 5, .engine pe => decide (pe / 32 = id / 8192)
  | 6, .engine _ => s.isCanTx id
  | 6, .can c => !s.isCanTx id && decide (s.canOwner id = c)
  | 7, .pmbus => true
  | _, _ => false

/-- The status with which a queue meets any push or pop before its kind is looked at (R145, R148, R165). -/
def State.queueStatus (s : State) (id : Nat) : Status :=
  let d := id / 8192; let q := id % 8192
  if s.dies ≤ d then .refused
  else if !s.memOn d then .notReady
  else if s.bit F.Q_STAT_BUSY d q then .notReady
  else if !s.bit F.Q_CFG_EN d q then .refused
  else .ok

/-- COUNT and WM of a queue follow its entries (R150); the QUEUE_WM line follows them. -/
def State.syncQueue (s : State) (id : Nat) : State :=
  let d := id / 8192; let q := id % 8192
  let n := (s.entries id).length
  let w := s.get F.Q_SIZE_WMARK d q
  (((s.put F.Q_STAT_COUNT n d q).putB F.Q_STAT_WM (decide (w ≠ 0) && decide (w ≤ n)) d q)).syncLine d 200

/-- The record that an engine asks for with a push to the intake (R462). -/
def recordOf (e : QEntry) (srcDie : Nat) : RecEntry :=
  let t := e.hdr.toNat % 128; let w0 := e.payload.w0.toNat
  ⟨w0 / 256, if t / 64 % 2 = 1 then some (t % 64) else none, w0 % 256, srcDie, e.payload.w1.toNat, e.payload.w2.toNat,
   e.payload.w3.toNat, 0, 0, 0, 0, false, false⟩

/-- A push to queue `id` on its own die (R144 to R150, R156). `counted`: FULL_CNT counts this answer (R148). -/
def State.queuePush (s : State) (id : Nat) (p : Pusher) (e : QEntry) (counted : Bool) : State × Status :=
  let d := id / 8192; let q := id % 8192
  match s.queueStatus id with
  | .ok =>
    if !s.pushAllowed id p || decide (s.get F.Q_SIZE_DEPTH d q = 0) then (s, .refused)
    else if s.get F.Q_CFG_KIND d q = 4 then
      s.intakePush (recordOf e (match p with | .engine pe => pe / 32 | _ => d))
    else if s.get F.Q_SIZE_DEPTH d q ≤ (s.entries id).length then
      (if counted then s.incSat F.Q_STAT_FULL_CNT d q else s, .full)
    else
      let s := { s with queues := Store.set s.queues [] id (s.entries id ++ [e]) }
      let s := s.syncQueue id
      let own := s.get F.Q_CFG_OWNER d q
      (if s.get F.Q_CFG_KIND d q = 1 then s.dispatch (d * 32 + own / 32 % 32) (own % 32) id 1 else s, .ok)
  | st => (s, st)

/-- Space notices to every die in the waiter mask of queue `id`, which is then cleared (R146, R154). -/
def State.notifyWaiters (s : State) (id : Nat) : State :=
  let mask := Store.get s.qWaiters 0 id
  let s := { s with qWaiters := Store.set s.qWaiters 0 id 0 }
  forEach (List.range s.dies)
    (fun s d => if mask.testBit d then s.sendXfer (id / 8192) d .unit none (.notice (BitVec.ofNat 16 id)) else s) s

/-- Who pops from a queue (R144). -/
inductive Popper where
  | engine (pe : Nat) | host | chain | can (c : Nat)
deriving DecidableEq, Repr

/-- The kind of queue `id` lets this party pop (R144, R510). -/
def State.popAllowed (s : State) (id : Nat) (p : Popper) : Bool :=
  let d := id / 8192
  let own := s.get F.Q_CFG_OWNER d (id % 8192)
  match s.get F.Q_CFG_KIND d (id % 8192), p with
  | 0, .engine pe | 2, .engine pe | 7, .engine pe => decide (pe / 32 = d)
  | 6, .engine pe => decide (pe / 32 = d) && !s.isCanTx id
  | 6, .can c => s.isCanTx id && decide (s.canOwner id = c)
  | 1, .engine pe => decide (pe = d * 32 + own / 32 % 32)
  | 0, .host | 3, .host => true
  | 5, .chain => true
  | _, _ => false

/-- A pop of queue `id` on its own die (R144, R145, R150, R151, R154). -/
def State.queuePop (s : State) (id : Nat) (p : Popper) : State × Status × Option QEntry :=
  match s.queueStatus id with
  | .ok =>
    if !s.popAllowed id p then (s, .refused, none)
    else
      match s.entries id with
      | [] => (s, .empty, none)
      | e :: es =>
        let s := { s with queues := Store.set s.queues [] id es }
        ((s.syncQueue id).notifyWaiters id, .ok, some e)
  | st => (s, st, none)

/-- Every entry of queue `id` discarded (R146): counted, WM and COUNT follow, waiters are notified. -/
def State.queueDiscard (s : State) (id : Nat) : State :=
  let d := id / 8192; let q := id % 8192
  let n := (s.entries id).length
  let s := s.put F.Q_FLUSH_DISCARD_CNT (min (s.get F.Q_FLUSH_DISCARD_CNT d q + n) 0xFFFF) d q
  let s := { s with queues := Store.set s.queues [] id [] }
  (s.syncQueue id).notifyWaiters id

/-! ### Refused writes -/

/-- A refused register write of die `d` is counted, with its requester and byte offset (R570). -/
def State.wrefDie (s : State) (q : Requester) (d off : Nat) : State :=
  let s := (s.incSat F.DIE_WREF_CNT d).put F.DIE_WLAST_OFFSET (off / 4) d
  match q with
  | .host | .debug => (s.put F.DIE_WLAST_KIND 0 d).put F.DIE_WLAST_INDEX 0 d
  | .engine pe => (s.put F.DIE_WLAST_KIND 1 d).put F.DIE_WLAST_INDEX (pe % 32) d
  | .chain u => (s.put F.DIE_WLAST_KIND 2 d).put F.DIE_WLAST_INDEX u d
  | .unit => (s.put F.DIE_WLAST_KIND 3 d).put F.DIE_WLAST_INDEX 0 d

/-- A refused write of a package register is counted (R570). -/
def State.wrefPkg (s : State) (q : Requester) (off : Nat) : State :=
  let s := (s.incSat F.PKG_WREF_CNT).put F.PKG_WLAST_OFFSET (off / 4)
  match q with
  | .host | .debug => (s.put F.PKG_WLAST_KIND 0).put F.PKG_WLAST_INDEX 0
  | .engine pe => (s.put F.PKG_WLAST_KIND 1).put F.PKG_WLAST_INDEX pe
  | .chain u => (s.put F.PKG_WLAST_KIND 2).put F.PKG_WLAST_INDEX u
  | .unit => (s.put F.PKG_WLAST_KIND 3).put F.PKG_WLAST_INDEX 0

/-- A refused write of the word that holds field `F` is counted where it lies (R570). -/
def State.wref (s : State) (q : Requester) (F : Fld) (d : Nat := 0) (i : Nat := 0) (j : Nat := 0) : State :=
  match F.space with
  | .pkg => s.wrefPkg q (F.off + i * F.s1 + j * F.s2)
  | .die | .bank => s.wrefDie q d (F.off + i * F.s1 + j * F.s2)

end Sys2Proof.Machine
end

