-- ==== Sys2Proof/Machine/LegOps.lean ====
section
/-!
DEFINITION. One leg: its carrier and edges (R220 to R222), dead times and the interlock (R223, R224), minimum pulses (R226),
the shadow, pending and active sets (R228 to R235), the priority of its output sources (R237), its gate edges and their
returns (R251 to R261), and the leg trip with its companion policy (R263 to R269).
-/
namespace Sys2Proof.Machine

/-! ### Herd units -/

/-- What herd `h` keeps beside its registers. -/
def State.herd (s : State) (h : Nat) : HerdRun := Store.get s.herds HerdRun.reset h
/-- Herd `h` changed. -/
def State.modHerdRun (s : State) (h : Nat) (f : HerdRun → HerdRun) : State :=
  { s with herds := Store.set s.herds HerdRun.reset h (f (s.herd h)) }

/-- Detector channel `c` of herd `h`. -/
def State.osc (s : State) (h c : Nat) : OscRun := Store.get s.oscs OscRun.reset (h * 4 + c)
/-- Detector channel `c` of herd `h` changed. -/
def State.modOsc (s : State) (h c : Nat) (f : OscRun → OscRun) : State :=
  { s with oscs := Store.set s.oscs OscRun.reset (h * 4 + c) (f (s.osc h c)) }

/-- The REGULATE manager of herd `h`. -/
def State.reg (s : State) (h : Nat) : RegRun := Store.get s.regs RegRun.reset h
/-- The REGULATE manager of herd `h` changed. -/
def State.modReg (s : State) (h : Nat) (f : RegRun → RegRun) : State :=
  { s with regs := Store.set s.regs RegRun.reset h (f (s.reg h)) }

/-- The DRIVE units of herd `h`. -/
def State.drv (s : State) (h : Nat) : DrvRun := Store.get s.drvs DrvRun.reset h
/-- The DRIVE units of herd `h` changed. -/
def State.modDrv (s : State) (h : Nat) (f : DrvRun → DrvRun) : State :=
  { s with drvs := Store.set s.drvs DrvRun.reset h (f (s.drv h)) }

/-- The chopper of herd `h`. -/
def State.chop (s : State) (h : Nat) : ChopRun := Store.get s.chops ChopRun.reset h
/-- The chopper of herd `h` changed. -/
def State.modChop (s : State) (h : Nat) (f : ChopRun → ChopRun) : State :=
  { s with chops := Store.set s.chops ChopRun.reset h (f (s.chop h)) }

/-- The grid monitor of herd `h`. -/
def State.grd (s : State) (h : Nat) : GrdRun := Store.get s.grds GrdRun.reset h
/-- The grid monitor of herd `h` changed. -/
def State.modGrd (s : State) (h : Nat) (f : GrdRun → GrdRun) : State :=
  { s with grds := Store.set s.grds GrdRun.reset h (f (s.grd h)) }

/-- The tracking unit of herd `h`. -/
def State.trk (s : State) (h : Nat) : TrkRun := Store.get s.trks TrkRun.reset h
/-- The tracking unit of herd `h` changed. -/
def State.modTrk (s : State) (h : Nat) (f : TrkRun → TrkRun) : State :=
  { s with trks := Store.set s.trks TrkRun.reset h (f (s.trk h)) }

/-! ### The carrier -/

/-- The distance from angle `a` to angle `v` in the direction of travel (R61). -/
def angleDist (fwd : Bool) (a v : BitVec 32) : Nat := if fwd then (v - a).toNat else (a - v).toNat

/-- The active duty of a leg (R220). -/
def State.duty (s : State) (d n : Nat) : Nat := s.get F.LEG_DUTY_DUTY d n

/-- The angles at which C rises and falls in forward travel (R220); none for D = 0 and D = 1. -/
def edgeAngles (wave duty : Nat) : Option (BitVec 32 × BitVec 32) :=
  if duty = 0 ∨ duty = 0xFFFFFF then none
  else match wave with
    | 0 => some (BitVec.ofNat 32 (2 ^ 31 - duty * 128), BitVec.ofNat 32 (2 ^ 31 + duty * 128))
    | 1 => some (0, BitVec.ofNat 32 (duty * 256))
    | _ => some (BitVec.ofNat 32 (2 ^ 32 - duty * 256), 0)

/-- The level of C at carrier angle θ (R220). -/
def levelAt (wave duty : Nat) (θ : BitVec 32) : Bool :=
  if duty = 0 then false
  else if duty = 0xFFFFFF then true
  else match wave with
    | 0 => decide (2 ^ 31 ≤ θ.toNat + duty * 128) && decide (θ.toNat < 2 ^ 31 + duty * 128)
    | 1 => decide (θ.toNat < duty * 256)
    | _ => decide (2 ^ 32 ≤ θ.toNat + duty * 256)

/-- The boundary angles of a leg (R222). -/
def boundaryAngles (wave bound : Nat) : List (BitVec 32) :=
  if wave = 0 then (match bound with | 0 => [0] | 1 => [0x80000000] | _ => [0, 0x80000000]) else [0]

/-- The carrier angle of leg `n` (R60, R220). -/
def State.theta (s : State) (d n : Nat) : BitVec 32 :=
  BitVec.ofNat 32 (s.get F.AB_ANGLE_ANGLE d (s.get F.LEG_MODE_BASE d n) + s.get F.LEG_PHASE_PHASE d n)

/-- The level that the present carrier angle gives (R220). -/
def State.levelNow (s : State) (d n : Nat) : Bool :=
  levelAt (s.get F.LEG_MODE_WAVE d n) (s.duty d n) (s.theta d n)

/-- The position within a tick at which an angle at distance `δ` is crossed by a step of magnitude `m` (R221). -/
def edgePos (δ m : Nat) : Nat := min (max ((128 * δ + m) / (2 * m)) 1) 64

/-! ### Output sources -/

/-- The outputs (GH, GL) of a hold (R266, R296). -/
def HoldMode.out : HoldMode → Bool × Bool
  | .highz => (false, false) | .ascLow => (false, true) | .ascHigh => (true, false)

/-- A hold mode from its field code (R310); a write of 3 is refused. -/
def HoldMode.ofCode : Nat → HoldMode
  | 1 => .ascLow | 2 => .ascHigh | _ => .highz

/-- The seal switches by which the channels are configured (R422, R424): as read at RESET exit. A later change is a fault, and no
change of configuration. -/
def State.sealed (s : State) : Nat :=
  match s.safety.sealExit with
  | some (a, _) => a
  | none => s.get F.SAFE_SEAL_SEAL_A

/-- Zone `d / 2` takes the winding short as its safe state (R418, R422). -/
def State.zoneWs (s : State) (d : Nat) : Bool := s.sealed.testBit (4 + d / 2)

/-- Priority 1 of R237: the safety hold in its DISABLE or SHORT form (R416, R419). -/
def State.safetyOut (s : State) (d n : Nat) : Option (Bool × Bool) :=
  if (s.leg d n).safeA || (s.leg d n).safeB then
    some (if s.zoneWs d && decide (n < 6) && !s.bit F.LEG_STAT_TRIP d n then (false, true) else (false, false))
  else none

/-- Priority 2 of R237: the leg trip, the wait after its clear, the companion action (R264, R266, R268, R272). -/
def State.tripOut (s : State) (d n : Nat) : Option (Bool × Bool) :=
  if s.bit F.LEG_STAT_TRIP d n || (s.leg d n).clearHold.isSome then some (false, false)
  else (s.leg d n).comp.map HoldMode.out

/-- The hold of herd `h` on leg `n` of die `d` by its state (R295, R296, R303), momentary cessation (R363), an
islanding declaration (R375) and a winding short (R346). -/
def State.herdOut (s : State) (d n h : Nat) : Option (Bool × Bool) :=
  let home := h / 8; let l := h % 8
  match s.herdStateAt d h with
  | .unbound => none
  | .bound =>
    if s.get F.HERD_CTL_ROLE home l = 0 then some (HoldMode.ofCode (s.get F.HERD_CTL_SAFE_MODE home l)).out
    else some (false, false)
  | .armed => some (false, false)
  | .running | .stopping =>
    match (s.leg d n).short with
    | some m => some m.out
    | none => if (s.leg d n).mcHold || (s.leg d n).runHold then some (false, false) else none
  | .faulted =>
    if (s.grd h).islandHold.testBit d then some (false, false) else some (HoldMode.ofCode (s.get F.HERD_CTL_FLT_MODE home l)).out
  | .safe => some (HoldMode.ofCode (s.get F.HERD_CTL_SAFE_MODE home l)).out

/-- Priority 3 of R237: the herd-state hold, otherwise LEG_MODE.EN = 0. -/
def State.holdOut (s : State) (d n : Nat) : Option (Bool × Bool) :=
  match (s.legHerd d n).bind (s.herdOut d n) with
  | some o => some o
  | none => if s.bit F.LEG_MODE_EN d n then none else some (false, false)

/-- Priority 4 of R237: a force on an F-leg (R241). -/
def State.forceOut (s : State) (d n : Nat) : Option (Bool × Bool) :=
  if n < 20 then none
  else match s.get F.LEG_FORCE_FORCE d n with
    | 0 => none | 1 => some (true, false) | 2 => some (false, true) | _ => some (false, false)

/-- The leg's bit of the effective mask of its group (R238). -/
def State.maskBit (s : State) (d n : Nat) : Bool :=
  s.getBit F.GRP_MASK_MASK (n % 6) d (n / 6) && s.getBit F.GRP_MASK_PORT (n % 6) d (n / 6)

/-- Priority 5 of R237: effective mask bit 0, or the phase masked by the REGULATE manager in its sleep (R328). -/
def State.maskOut (s : State) (d n : Nat) : Option (Bool × Bool) :=
  if !s.maskBit d n || (s.leg d n).burstMask then some (false, false) else none

/-- Priorities 6 and 7 of R237: the command C, held low by CBC (R240), else from the carrier. -/
def State.cmdOut (s : State) (d n : Nat) : Bool × Bool :=
  let c := (s.leg d n).car && !s.bit F.LEG_STAT_CBC_HOLD d n && !(s.leg d n).cbcWait
  (c, !c)

/-- The first source that applies (R237), by its priority, and what it asks of (GH, GL); with the LEG domain not ON, or the
clocks of the die gated, both are low by no source of the table (R489, R497). -/
def State.source (s : State) (d n : Nat) : Nat × Bool × Bool :=
  if !s.domOn d domLEG || (s.die d).gated then (0, false, false)
  else if let some o := s.safetyOut d n then (1, o)
  else if let some o := s.tripOut d n then (2, o)
  else if let some o := s.holdOut d n then (3, o)
  else if let some o := s.forceOut d n then (4, o)
  else if let some o := s.maskOut d n then (5, o)
  else (if s.bit F.LEG_STAT_CBC_HOLD d n || (s.leg d n).cbcWait then 6 else 7, s.cmdOut d n)

/-! ### Gate edges -/

/-- The code of edge kind `k` (0 HS_ON, 1 HS_OFF, 2 LS_ON, 3 LS_OFF) among four in the layout of GATE_STR (R274). -/
def codeOf (w k : Nat) : Nat := w / 2 ^ (4 * (3 - k)) % 16

/-- Four codes with that of edge kind `k` set. -/
def withCode (w k c : Nat) : Nat := w - codeOf w k * 2 ^ (4 * (3 - k)) + c % 16 * 2 ^ (4 * (3 - k))

/-- The strength code of edge kind `k` in GATE_STR. -/
def State.strength (s : State) (d n k : Nat) : Nat := codeOf (s.get F.GATE_STR_CODES d n) k

/-- The strength code of edge kind `k` set; the frames of that kind that have not started yet carry it (R262). -/
def State.setStrength (s : State) (d n k c : Nat) : State :=
  let now := s.tick d * 64
  (s.put F.GATE_STR_CODES (withCode (s.get F.GATE_STR_CODES d n) k c) d n).modLeg d n fun L =>
    { L with frames := L.frames.map fun f =>
        if f.kind = k ∧ now ≤ f.start ∧ !f.fixed then { f with code := c % 16 } else f }

/-- The code that the booster uses for an edge of kind `k` at position `pos` (R255): that of the latest frame of the kind that
ended 20 ns before, else the one held from earlier frames. A frame lasts 1,024 steps and the gap 128 (R250). -/
def Leg.codeUsed (L : Leg) (k pos : Nat) : Nat :=
  match (L.frames.filter fun f => decide (f.kind = k) && decide (f.start + 1152 ≤ pos)).getLast? with
  | some f => f.code
  | none => codeOf L.held k

/-- The position from which GS is free again, 20 ns after its latest frame (R250). -/
def Leg.gsFree (L : Leg) : Nat := L.frames.foldl (fun m f => max m (f.start + 1152)) 0

/-- Frames put on GS, at position `now`; those that the booster has applied by then are kept as its held codes only. -/
def Leg.sendFrames (L : Leg) (now : Nat) (fs : List Frame) : Leg :=
  let gone := L.frames.filter fun f => decide (f.start + 1152 ≤ now)
  { L with frames := (L.frames.filter fun f => decide (now < f.start + 1152)) ++ fs,
           held := gone.foldl (fun h f => withCode h f.kind f.code) L.held }

/-- A miss is counted (R259, R260): at the limit NORET is set, and is still to act. -/
def State.countMiss (s : State) (d n : Nat) : State :=
  let s := (s.incSat F.GATE_CNT_MISS_CNT d n).modLeg d n fun L => { L with missRun := L.missRun + 1 }
  if (s.leg d n).missRun = max (s.get F.GATE_CFG_MISS_LIM d n) 1 then
    (s.put F.GATE_STAT_NORET 1 d n).modLeg d n fun L => { L with noretDue := true }
  else s

/-- A gate edge of kind `k` produced at position `pos`: with GATE_CFG.EN = 1 it joins the return list, and pushes the oldest out
of a full one as a miss (R259); the leg's latest edge is noted (R306). -/
def State.gateEdge (s : State) (d n k pos : Nat) (framed : Bool) : State :=
  let L := s.leg d n
  let s := s.modLeg d n fun L => { L with lastEdge := pos, edgeLog := (pos :: L.edgeLog).take 4 }
  let e : RetEdge := ⟨k, L.codeUsed k pos, framed, pos⟩
  if !s.bit F.GATE_CFG_EN d n then s
  else if L.returns.length < 4 then s.modLeg d n fun L => { L with returns := L.returns ++ [e] }
  else (s.modLeg d n fun L => { L with returns := L.returns.tail ++ [e] }).countMiss d n

/-- GH set, with its readback (R247). -/
def State.setGh (s : State) (d n : Nat) (b : Bool) : State := (s.putB F.LEG_STAT_GH b d n).putB F.GATE_STAT_PGH b d n
/-- GL set, with its readback (R247). -/
def State.setGl (s : State) (d n : Nat) (b : Bool) : State := (s.putB F.LEG_STAT_GL b d n).putB F.GATE_STAT_PGL b d n

/-- FRAME_LATE where a framed edge of kind `k` at `pos` comes before its frame has ended (R252). -/
def State.frameLate (s : State) (d n k pos : Nat) (framed : Bool) : State :=
  if framed && (s.leg d n).frames.any (fun f => decide (f.kind = k) && decide (pos < f.start + 1024)) then
    s.put F.GATE_STAT_FRAME_LATE 1 d n
  else s

/-- The outputs of a leg follow source `src`, which asks `w` of them, from position `pos` on (R223, R224, R237): an output that
goes low drops at once, one that goes high is scheduled after its delay, which counts from a change of source (CBC only holds the carrier's
command low, so that a delay already running goes on: R240), and a scheduled rise that is no longer wanted is cancelled. `carrier`: the change is an edge of the carrier, whose frames govern it
(R253). -/
def State.driveTo (s : State) (d n pos : Nat) (carrier : Bool) (src : Nat) (w : Bool × Bool) : State :=
  let L := s.leg d n
  let same := decide (L.src = src) || (decide (6 ≤ src) && decide (6 ≤ L.src))
  let gh := s.bit F.LEG_STAT_GH d n
  let gl := s.bit F.LEG_STAT_GL d n
  let fr := carrier && L.framedOff
  let s := s.putB F.LEG_STAT_MASKED (!s.maskBit d n || L.burstMask) d n
  let s := if gh && !w.1 then ((s.setGh d n false).gateEdge d n 1 pos fr).frameLate d n 1 pos fr else s
  let s := if gl && !w.2 then ((s.setGl d n false).gateEdge d n 3 pos fr).frameLate d n 3 pos fr else s
  let rise := s.get F.LEG_CFG_RISE_DLY d n
  let fall := s.get F.LEG_CFG_FALL_DLY d n
  let old := fun (r : Option Nat) => if same then r else none
  let up := w.1 && !gh || w.2 && !gl
  let kept := (w.1 && !gh && (old L.riseH).isSome) || (w.2 && !gl && (old L.riseL).isSome)
  s.modLeg d n fun L =>
    { L with
      src := src,
      riseH := if w.1 && !gh then some ((old L.riseH).getD (pos + rise)) else none,
      riseL := if w.2 && !gl then some ((old L.riseL).getD (pos + fall)) else none,
      riseFramed := if kept then L.riseFramed else up && carrier && L.framedOn }

/-- The outputs of a leg follow their first source from position `pos` on. -/
def State.driveLeg (s : State) (d n pos : Nat) (carrier : Bool) : State :=
  let w := s.source d n
  s.driveTo d n pos carrier w.1 w.2

/-- The delayed rise of GH is driven when it is due by position `now` and GL is low (R223, R224). -/
def State.riseHigh (s : State) (d n now : Nat) : State :=
  let L := s.leg d n
  match L.riseH with
  | some r =>
    if r ≤ now ∧ s.bit F.LEG_STAT_GL d n = false then
      (((s.setGh d n true).gateEdge d n 0 r L.riseFramed).frameLate d n 0 r L.riseFramed).modLeg d n
        fun L => { L with riseH := none, riseFramed := false }
    else s
  | none => s

/-- The delayed rise of GL is driven when it is due by position `now` and GH is low (R223, R224). -/
def State.riseLow (s : State) (d n now : Nat) : State :=
  let L := s.leg d n
  match L.riseL with
  | some r =>
    if r ≤ now ∧ s.bit F.LEG_STAT_GH d n = false then
      (((s.setGl d n true).gateEdge d n 2 r L.riseFramed).frameLate d n 2 r L.riseFramed).modLeg d n
        fun L => { L with riseL := none, riseFramed := false }
    else s
  | none => s

/-- The delayed rises of a leg that are due by position `now`. -/
def State.deadTimeEnd (s : State) (d n now : Nat) : State := (s.riseHigh d n now).riseLow d n now

/-- The nearest boundary of a leg at a distance in (`lo`, `hi`] along a span (R222). -/
def State.nextBoundary (s : State) (d n : Nat) (fwd : Bool) (θ : BitVec 32) (lo hi : Nat) : Option Nat :=
  ((boundaryAngles (s.get F.LEG_MODE_WAVE d n) (s.get F.LEG_MODE_BOUND d n)).map (angleDist fwd θ)).foldl
    (fun o δ => if lo < δ ∧ δ ≤ hi then some (min δ (o.getD δ)) else o) none

/-- Every latch that holds leg `n` by CBC clears at the leg's next boundary (R204, R240). -/
def State.cbcEndsSoon (s : State) (d n : Nat) : Bool :=
  (s.legHerd d n).isSome && (List.range 48).all fun k =>
    !(s.bit F.CMP_STAT_LATCH d k && s.bit F.CMP_CFG_CBC d k && decide (s.get F.CMP_CFG_LEG d k = n)) || s.bit F.CMP_CFG_LMODE d k

/-- The next change of the command C by the present carrier angle and step (R221, R251): whether C rises, and its position. Under CBC
C is low until its next command rising edge (R240); while a latch holds it that does not clear at a boundary before, none is to come. -/
def State.nextEdge (s : State) (d n : Nat) : Option (Bool × Nat) :=
  let step := (s.base d (s.get F.LEG_MODE_BASE d n)).step
  if step = 0 then none
  else
    match edgeAngles (s.get F.LEG_MODE_WAVE d n) (s.duty d n) with
    | none => none
    | some (r, f) =>
      let fwd := decide (0 < step)
      let hold := s.bit F.LEG_STAT_CBC_HOLD d n
      let up := hold || (s.leg d n).cbcWait || !(s.leg d n).car
      let δ := angleDist fwd (s.theta d n) (if up = fwd then r else f)
      if hold && !(s.cbcEndsSoon d n && (s.nextBoundary d n fwd (s.theta d n) 0 δ).isSome) then none
      else some (up, s.tick d * 64 + (if δ ≤ step.natAbs then edgePos δ step.natAbs else 64 * δ / step.natAbs))

/-- R226 removes the interval of C that begins with a rising (`up`) or falling edge, as it would last `w` of angle at a step
of magnitude `m`. -/
def State.tooShort (s : State) (d n m w : Nat) (up : Bool) : Bool :=
  decide (m ≠ 0) &&
  (if up then decide (64 * w / m < s.get F.LEG_MIN_MIN_PULSE d n * 16 + s.get F.LEG_CFG_RISE_DLY d n)
   else decide (64 * w / m < s.get F.LEG_MIN_MIN_GAP d n * 16 + s.get F.LEG_CFG_FALL_DLY d n))

/-- The pair of the coming C edge is done with: the edge has come or has been removed. -/
def State.endPair (s : State) (d n : Nat) : State :=
  s.modLeg d n fun L => { L with paired := false, framedOff := false, framedOn := false }

/-- The width in angle of the interval of C that a rising (falling) carrier edge begins (R220). -/
def State.interval (s : State) (d n : Nat) (up : Bool) : Nat :=
  if up then s.duty d n * 256 else 2 ^ 32 - s.duty d n * 256

/-- What the carrier does before the PWM clock at position `c` at which another source takes over (R237): its next edge, by the
present step, and the rises that are due. -/
def State.beforeTake (s : State) (d n c : Nat) : State :=
  let s : State :=
    if (s.leg d n).src = 7 then
      match s.nextEdge d n with
      | some (up, p) =>
        let m := (s.base d (s.get F.LEG_MODE_BASE d n)).step.natAbs
        if p < c ∧ !s.tooShort d n m (s.interval d n up) up then
          (((s.deadTimeEnd d n (p - 1)).modLeg d n fun L => { L with car := up }).driveTo d n p true 7 (up, !up)).endPair d n
        else s
      | none => s
    else s
  s.deadTimeEnd d n (c - 1)

/-- A leg driven at the PWM clock at position `c`. -/
def State.takeOverAt (s : State) (d n c : Nat) : State :=
  (if (s.source d n).1 = (s.leg d n).src then s else s.beforeTake d n c).driveLeg d n c false

/-- A leg driven at the next PWM clock. -/
def State.takeOver (s : State) (d n : Nat) : State := s.takeOverAt d n (s.tick d * 64 + 16)

/-- The PWM clock after an event at position `p`, at which it acts on leg `n`: not before the leg's latest edge, which has been driven
already. -/
def State.clockAfter (s : State) (d n p : Nat) : Nat := max p (s.leg d n).lastEdge / 16 * 16 + 16

/-- Every leg of die `d` in the list driven at the next PWM clock. -/
def State.driveLegs (s : State) (d : Nat) (ns : List Nat) : State := forEach ns (fun s n => s.takeOver d n) s

/-! ### Trips -/

/-- The companion policy of herd `h` (R266). -/
def State.policy (s : State) (h : Nat) : Nat := s.get F.GATE_HPOL_POLICY (h / 8) (h % 8)

/-- The hold of a companion policy (R266). -/
def policyMode : Nat → Option HoldMode
  | 1 => some .highz | 2 => some .ascLow | 3 => some .ascHigh | _ => none

/-- The companion action on the legs of herd `h` on die `d` that have not tripped themselves (R266, R268). -/
def State.companionOn (s : State) (d h : Nat) (m : HoldMode) : State :=
  forEach ((s.herdLegsOn d h).filter fun n => !s.bit F.LEG_STAT_TRIP d n)
    (fun s n => (s.modLeg d n fun L => { L with comp := some m, compHerd := h, compRelease := false }).takeOver d n) s

/-- Every leg of the member, as (die, leg). -/
def State.allLegs (s : State) : List (Nat × Nat) :=
  (List.range s.dies).flatMap fun d => (List.range 24).map fun n => (d, n)

/-- A leg that tripped as one of herd `h` is still to be cleared (R269). -/
def State.tripsOf (s : State) (h : Nat) : Bool :=
  s.allLegs.any fun p => s.bit F.LEG_STAT_TRIP p.1 p.2 && decide ((s.leg p.1 p.2).tripHerd = some h)

/-- The companion action of herd `h` ends (R269): each leg under it is released at its next boundary, wherever it is bound since. -/
def State.companionEnd (s : State) (h : Nat) : State :=
  let under := s.allLegs.filter fun p => (s.leg p.1 p.2).comp.isSome && decide ((s.leg p.1 p.2).compHerd = h)
  let s := under.foldl (fun s p => s.modLeg p.1 p.2 fun L => { L with compRelease := true }) (s.put F.GATE_HPOL_ACTIVE 0 (h / 8) (h % 8))
  { s with mesh := s.mesh.filter fun m => m.short || decide (m.herd ≠ h) }

/-- A trip of leg `n` of die `d` applies its herd's companion policy: on this die at once, on the other dies of the herd
by the trip mesh (R266, R267). -/
def State.companion (s : State) (d h : Nat) : State :=
  match policyMode (s.policy h) with
  | none => s
  | some m =>
    let s := (s.companionOn d h m).put F.GATE_HPOL_ACTIVE 1 (h / 8) (h % 8)
    { s with mesh := s.mesh ++ ((List.range s.dies).filter fun k => decide (k ≠ d)).map fun k => ⟨k, h, m, false⟩ }

/-- A trip of leg `n` of die `d` from source bit `src` (0 CMP, 1 SC, 2 GF, 3 NORET; R263, R264) at the PWM clock at position `c`. A later
source before the clear is added and counted, and not recorded. -/
def State.legTripAt (s : State) (d n src c : Nat) : State :=
  let first := !s.bit F.LEG_STAT_TRIP d n
  let s := s.incSat F.GATE_TRIP_TRIP_CNT d n
  let s := match src with
    | 0 => s.put F.GATE_TRIP_CMP 1 d n | 1 => s.put F.GATE_TRIP_SC 1 d n
    | 2 => s.put F.GATE_TRIP_GF 1 d n | _ => s.put F.GATE_TRIP_NORET 1 d n
  if !first then s
  else
    let h := s.legHerd d n
    let s := ((s.put F.LEG_STAT_TRIP 1 d n).put F.GATE_TRIP_TRIP 1 d n).modLeg d n
      fun L => { L with clearHold := none, tripHerd := h }
    let s := ((s.takeOverAt d n c).endPair d n).modLeg d n
      fun L => { L with frames := L.frames.filter fun f => decide (f.start + 1024 ≤ c) }
    let s := s.syncLine d (176 + n)
    let s := s.hwRecord d 0x0303 h (d * 24 + n) (2 ^ src) (match h with | some h => s.policy h | none => 0) 0
    match h with
    | some h => s.companion d h
    | none => s

/-- A trip at the next PWM clock. -/
def State.legTrip (s : State) (d n src : Nat) : State := s.legTripAt d n src (s.tick d * 64 + 16)

/-- NORET acts (R260): recorded, and it may trip the leg. -/
def State.noretAct (s : State) (d n : Nat) : State :=
  if (s.leg d n).noretDue then
    let s := (s.modLeg d n fun L => { L with noretDue := false }).hwRecord d 0x0302 (s.legHerd d n) (d * 24 + n) 0 0 0
    if s.bit F.GATE_CFG_NORET_TRIP d n then s.legTrip d n 3 else s
  else s

/-- An edge leaves the return list as a miss (R259, R260). -/
def State.returnMiss (s : State) (d n : Nat) : State := (s.countMiss d n).noretAct d n

/-- The first PWM clock at or after position `p`. -/
def pwmClock (p : Nat) : Nat := (p + 15) / 16 * 16

/-- The preload frames of a leg (R254): its four codes are set to GATE_DEF and its integrators to 0. The frames take 700 ns from
when GS is free, and are sent where the gate port is on (R249). -/
def State.preload (s : State) (d n : Nat) : State :=
  let def_ := fun k => match k with
    | 0 => s.get F.GATE_DEF_HS_ON d n | 1 => s.get F.GATE_DEF_HS_OFF d n
    | 2 => s.get F.GATE_DEF_LS_ON d n | _ => s.get F.GATE_DEF_LS_OFF d n
  let code := def_ 0 * 4096 + def_ 1 * 256 + def_ 2 * 16 + def_ 3
  let now := s.tick d * 64
  let start := pwmClock (max now (s.leg d n).gsFree)
  let fs : List Frame := if s.bit F.GATE_CFG_EN d n then (List.range 4).map fun k => ⟨start + 1152 * k, k, def_ k, true⟩ else []
  (s.put F.GATE_STR_CODES code d n).modLeg d n fun L => { L.sendFrames now fs with integ := [] }

/-! ### Edges of one tick -/

/-- C changes to `b` by its carrier at position `pos` (R221, R223, R240). -/
def State.setCar (s : State) (d n pos : Nat) (b : Bool) (carrier : Bool) : State :=
  let cbc := s.bit F.LEG_STAT_CBC_HOLD d n
  let s := s.deadTimeEnd d n (pos - 1)
  let s := s.modLeg d n fun L => { L with car := b, cbcWait := if b && !cbc then false else L.cbcWait }
  ((s.driveLeg d n pos carrier).endPair d n).noretAct d n

/-- The interval of C that a rising (falling) edge would begin is removed and counted (R226). -/
def State.removeInterval (s : State) (d n : Nat) (up : Bool) : State :=
  (if up then s.incSat F.LEG_CNT_MINP_CNT d n else s.incSat F.LEG_CNT_MING_CNT d n).endPair d n

/-- An edge angle crossed by the increment (R221): the interval that would be shorter than MIN_PULSE or MIN_GAP is removed
(R226), any other changes C. `m` is the step's magnitude. -/
def State.carEdge (s : State) (d n pos m : Nat) (up : Bool) : State :=
  if (s.leg d n).car = up then s
  else if s.tooShort d n m (s.interval d n up) up then s.removeInterval d n up
  else s.setCar d n pos up true

/-- C takes level `b` at a boundary or after a jump, unless R226 removes the interval that begins: the estimate runs from angle
`θ` to the next opposite edge in the direction of travel, by a step of magnitude `m`. -/
def State.levelEdge (s : State) (d n pos m : Nat) (fwd : Bool) (θ : BitVec 32) (b carrier : Bool) : State :=
  if (s.leg d n).car = b then s
  else
    match edgeAngles (s.get F.LEG_MODE_WAVE d n) (s.duty d n) with
    | some (r, f) =>
      if s.tooShort d n m (angleDist fwd θ (if b = fwd then f else r)) b then s.removeInterval d n b else s.setCar d n pos b carrier
    | none => s.setCar d n pos b carrier

/-- The enabled legs in the list take the level of C that their present carrier angle gives, after a write that set the angle or
the wave (R220), unless R226 removes the interval that begins. The change acts at the next PWM clock (DESIGN CHOICE, log entry 52). -/
def State.reseat (s : State) (d : Nat) (ns : List Nat) : State :=
  forEach (ns.filter fun n => s.bit F.LEG_MODE_EN d n) (fun s n =>
    let step := (s.base d (s.get F.LEG_MODE_BASE d n)).step
    s.levelEdge d n (s.tick d * 64 + 16) step.natAbs (decide (0 ≤ step)) (s.theta d n) (s.levelNow d n) false) s

/-- The command edges between distances `lo` (excluded) and `hi` (excluded when `open_`) of a span, in order of position
(R221). -/
def State.spanEdges (s : State) (d n : Nat) (sp : LegSpan) (lo hi : Nat) : State :=
  match edgeAngles (s.get F.LEG_MODE_WAVE d n) (s.duty d n) with
  | none => s
  | some (r, f) =>
    let fwd := decide (0 ≤ sp.step)
    let m := sp.step.natAbs
    let dr := angleDist fwd sp.theta r
    let df := angleDist fwd sp.theta f
    let hit := fun δ => decide (lo < δ) && decide (δ ≤ hi)
    let one := fun (s : State) (δ : Nat) (up : Bool) => if hit δ then s.carEdge d n (sp.edge * 64 + edgePos δ m) m up else s
    if dr ≤ df then one (one s dr fwd) df (!fwd) else one (one s df (!fwd)) dr fwd

/-- The jump of a span crosses an edge angle (R221). -/
def State.jumpsEdge (s : State) (d n : Nat) (a1 : BitVec 32) (jump : Int) : Bool :=
  match edgeAngles (s.get F.LEG_MODE_WAVE d n) (s.duty d n) with
  | some (r, f) =>
    decide (angleDist (decide (0 < jump)) a1 r ≤ jump.natAbs) || decide (angleDist (decide (0 < jump)) a1 f ≤ jump.natAbs)
  | none => false

/-- The jump at the end of a tick (R221, R222): a boundary crossed in the direction of travel is reached and waits for its
handling, which also sets the level of C; else C takes the level of the new angle at tick edge k + 1. An edge that the jump passes has
had its frame pair (R251). -/
def State.legJump (s : State) (d n : Nat) (sp : LegSpan) : State :=
  let a1 := sp.theta + BitVec.ofInt 32 sp.step
  let a2 := a1 + BitVec.ofInt 32 sp.jump
  let s := if sp.jump ≠ 0 ∧ s.jumpsEdge d n a1 sp.jump then s.endPair d n else s
  if sp.jump = 0 then s
  else if decide (0 < sp.jump) = sp.fwd ∧ (s.nextBoundary d n sp.fwd a1 0 sp.jump.natAbs).isSome then
    s.modLeg d n fun L => { L with boundary := some { sp with theta := a2, jumping := true } }
  else if s.bit F.LEG_MODE_EN d n then
    s.levelEdge d n (sp.edge * 64 + 64) sp.step.natAbs sp.fwd a2 (levelAt (s.get F.LEG_MODE_WAVE d n) (s.duty d n) a2) false
  else s

/-- The movement of a leg's carrier from distance `sp.done` to the end of its tick: edges up to the first boundary, which
then waits for its handling (R230), or edges to the end and the jump. -/
def State.legSpan (s : State) (d n : Nat) (sp : LegSpan) : State :=
  if sp.jumping then s
  else
    let fwd := decide (0 ≤ sp.step)
    let m := sp.step.natAbs
    match s.nextBoundary d n fwd sp.theta sp.done m with
    | some δ =>
      let s := if s.bit F.LEG_MODE_EN d n then s.spanEdges d n sp sp.done (δ - 1) else s
      s.modLeg d n fun L => { L with boundary := some { sp with done := δ } }
    | none => (if s.bit F.LEG_MODE_EN d n then s.spanEdges d n sp sp.done m else s).legJump d n sp

/-! ### Thresholds -/

/-- The threshold node of comparator `k` of die `d`. -/
def State.cmp (s : State) (d k : Nat) : CmpRun := Store.get s.cmps CmpRun.reset (d * 64 + k)
/-- The threshold node of comparator `k` of die `d` changed. -/
def State.modCmp (s : State) (d k : Nat) (f : CmpRun → CmpRun) : State :=
  { s with cmps := Store.set s.cmps CmpRun.reset (d * 64 + k) (f (s.cmp d k)) }

/-- The threshold of comparator `k` as its member codes it (R207, R208). -/
def State.thrCode (s : State) (d k : Nat) : Nat := if s.dies = 8 then s.get F.CMP_THR_FRAC d k else s.get F.CMP_THR_CODE d k

/-- The time in ticks until a new threshold stands at the node (R207, R208). -/
def State.thrTime (s : State) : Nat := if s.dies = 8 then 10 else 50

/-- The steps of the threshold range of 1.8 V, and the accuracy of a threshold in thousandths of a step: 3 codes, or 0.2 % of the
ladder (R207, R208). -/
def State.thrScale (s : State) : Int × Int := if s.dies = 8 then (64, 128) else (1023, 3000)

/-- A new threshold of comparator `k` is still on its way to the node (R207, R208). -/
def State.thrSettling (s : State) (d k : Nat) : Bool :=
  decide ((s.cmp d k).since ≠ 0) && decide (s.tick d < (s.cmp d k).since - 1 + s.thrTime)

/-- The codes at which the node of comparator `k` may stand: the present one, and until it has settled those before it. -/
def State.thrCodes (s : State) (d k : Nat) : List Nat :=
  (if s.thrSettling d k then (s.cmp d k).before else []) ++ [s.thrCode d k]

/-- The values between which the node of comparator `k` lies as it is looked at: anywhere between the codes of its path (R207), or, on the
ladder of the EVH8, at one of its taps, the old or the new one (R208). -/
def State.thrRange (s : State) (d k : Nat) : (Nat × Nat) × State :=
  let cs := s.thrCodes d k
  let c := s.thrCode d k
  if cs.length ≤ 1 then ((c, c), s)
  else if s.dies = 8 then
    let x := cs.getD (Config.freeNat s.fresh % cs.length) c
    ((x, x), s.nextFresh)
  else ((cs.foldl min c, cs.foldl max c), s)

/-- The node leaves the codes of `old` for the one that stands now (R207, R208). -/
def State.thrMoves (s old : State) (d k : Nat) : State :=
  if s.thrCode d k = old.thrCode d k then s
  else
    let cs := (old.thrCodes d k).eraseDups
    let t := s.tick d
    s.modCmp d k fun _ => ⟨cs, t + 1⟩

/-! ### Shadow, pending and active sets -/

/-- The pending set as the shadow set gives it, with due tick `due` (R229, R231, R235); `inRun`: its load-all was issued in RUNNING. -/
def State.shadowSet (s : State) (d n due : Nat) (inRun : Bool) : PendSet :=
  let old := (s.leg d n).pend
  ⟨s.getSh F.LEG_DUTY_DUTY d n, s.getSh F.LEG_CFG_RISE_DLY d n, s.getSh F.LEG_CFG_FALL_DLY d n,
   s.getSh F.LEG_PHASE_PHASE d n, s.getSh F.LEG_PER_PERIOD d n,
   (s.leg d n).marked || (match old with | some p => p.marked | none => false),
   match old with | some p => max p.due due | none => due, (s.leg d n).shMask, (s.leg d n).shThr, inRun⟩

/-- PER_CONFLICT (R235): of the legs that carry different written PERIOD values for one base, the lowest number wins. -/
def State.periodConflicts (s : State) (d : Nat) (ns : List Nat) : State :=
  forEach ns (fun s n =>
    match (s.leg d n).pend with
    | some p =>
      if p.marked && ns.any (fun k => decide (k < n) && decide (s.get F.LEG_MODE_BASE d k = s.get F.LEG_MODE_BASE d n) &&
          (match (s.leg d k).pend with | some q => q.marked && decide (q.period ≠ p.period) | none => false)) then
        (s.put F.LEG_STAT_PER_CONFLICT 1 d n).modLeg d n fun L => { L with pend := some { p with marked := false } }
      else s
    | none => s) s

/-- A load-all of herd `h` reaches die `d` (R229, R231, R232): every leg's shadow set is copied to its pending set under
due tick `due`. Answers whether a full pending set was met. -/
def State.copyPend (s : State) (d : Nat) (ns : List Nat) (due : Nat) (inRun : Bool) : State × Bool :=
  let merged := ns.any fun n => (s.leg d n).pend.isSome
  let s := forEach ns (fun s n =>
    let p := s.shadowSet d n due inRun
    (s.put F.LEG_STAT_PEND 1 d n).modLeg d n fun L => { L with pend := some p, marked := false }) s
  (s.periodConflicts d ns, merged)

/-- Leg `n` of die `d` is a phase of an enabled manager (R311, R313). -/
def State.isPhase (s : State) (d n : Nat) : Bool :=
  match s.legHerd d n with
  | some h => s.bit F.REG_LCFG_PH d n && s.bit F.REG_CFG_EN (h / 8) (h % 8) &&
      decide (s.get F.HERD_CTL_ROLE (h / 8) (h % 8) = 4)
  | none => false

/-- The mask bit and the comparator threshold that the REGULATE manager sent with a pending set take effect (R316, R317) while the
manager runs (R312); a phase masked in burst sleep is released by a load-all issued after the wake (R329). -/
def State.activatePhase (s : State) (d n : Nat) (p : PendSet) : State :=
 if !s.isPhase d n then s
 else
  let s := match p.thr with
    | some c =>
      let k := s.get F.REG_LCFG_CMP d n
      (if s.dies = 8 then s.put F.CMP_THR_FRAC c d k else s.put F.CMP_THR_CODE c d k).thrMoves s d k
    | none => s
  match p.mask, s.legHerd d n with
  | some b, some h =>
    let awake := !s.bit F.REG_STAT_ASLEEP (h / 8) (h % 8) && decide ((s.reg h).wakeAt + 64 ≤ p.due)
    if (s.leg d n).burstMask && !awake then s
    else (s.putBit F.GRP_MASK_MASK (n % 6) b d (n / 6)).modLeg d n fun L => { L with burstMask := false }
  | some b, none => s.putBit F.GRP_MASK_MASK (n % 6) b d (n / 6)
  | none, _ => s

/-- What ends as pending set `p` becomes active, at the PWM clock after the boundary (R237): the hold until the first load-all of RUNNING
(R303), that of a momentary cessation (R363), and what the REGULATE manager sends with the set. -/
def State.activateHolds (s : State) (d n : Nat) (p : PendSet) : State :=
  (s.activatePhase d n p).modLeg d n fun L =>
    { L with runHold := if L.runHold && p.inRun && decide (L.runHoldFrom + 64 ≤ p.due) then false else L.runHold,
             mcHold := if L.mcRelease && decide (L.mcReleaseFrom + 64 ≤ p.due) then false else L.mcHold,
             mcRelease := L.mcRelease && !decide (L.mcReleaseFrom + 64 ≤ p.due) }

/-- A pending set becomes the active one (R230, R235): its PERIOD, where marked, waits for the base's next forward wrap or,
on a base that takes none, is ignored and counted. -/
def State.activate (s : State) (d n : Nat) (p : PendSet) : State :=
  let s := (((s.put F.LEG_DUTY_DUTY p.duty d n).put F.LEG_CFG_RISE_DLY p.rise d n).put F.LEG_CFG_FALL_DLY p.fall d n).put
    F.LEG_PHASE_PHASE p.phase d n
  let s := (s.put F.LEG_PER_PERIOD p.period d n).put F.LEG_STAT_PEND 0 d n
  let s := s.modLeg d n fun L => { L with pend := none }
  let b := s.get F.LEG_MODE_BASE d n
  if !p.marked then s
  else if s.get F.AB_CFG_TYPE d b = 0 ∨ s.get F.AB_CFG_TYPE d b = 4 then
    s.modBase d b fun B => { B with period := some (p.period, p.due), periodReached := B.wrapped && decide (p.due ≤ s.tick d) }
  else s.incSat F.LEG_CNT2_PER_IGN_CNT d n

end Sys2Proof.Machine
end

