-- ==== Sys2Proof/Machine/PowerOps.lean ====
section
/-!
DEFINITION. Requests to power domains (R497 to R501): the checks of a request, the transfers in flight that refuse it, and
the beginning of a transition. A domain that leaves ON stops as its transition begins; one that returns serves from the
transition's end (log entry 20).
-/
namespace Sys2Proof.Machine

/-! ### CRC-32 -/

/-- One bit of the reflected CRC-32 of IEEE 802.3. -/
def crcStep (c : Nat) (_ : Nat) : Nat := if c % 2 = 1 then (c / 2) ^^^ 0xEDB88320 else c / 2

/-- One byte of the CRC. -/
def crcByte (c b : Nat) : Nat := (List.range 8).foldl crcStep (c ^^^ b)

/-- CRC-32 (IEEE 802.3) over the low `n` bytes of a little-endian number (R455, R460). -/
def crc32 (n v : Nat) : Nat := ((List.range n).foldl (fun c k => crcByte c (v / 256 ^ k % 256)) 0xFFFFFFFF) ^^^ 0xFFFFFFFF

/-- The CRC of a row is that of its record (R460). -/
def rowValid (v : BitVec 256) : Bool := decide (v.toNat / 2 ^ 224 = crc32 28 (v.toNat % 2 ^ 224))

/-! ### Domains -/

/-- Domain `k` of die `d`. -/
def State.dom (s : State) (d k : Nat) : DomRun := Store.get s.doms DomRun.reset (d * 16 + k)
/-- Domain `k` of die `d` changed. -/
def State.modDom (s : State) (d k : Nat) (f : DomRun → DomRun) : State :=
  { s with doms := Store.set s.doms DomRun.reset (d * 16 + k) (f (s.dom d k)) }

/-- Converter `n` of die `d`. -/
def State.adc (s : State) (d n : Nat) : AdcRun := Store.get s.adcs AdcRun.reset (d * 8 + n)
/-- Converter `n` of die `d` changed. -/
def State.modAdc (s : State) (d n : Nat) (f : AdcRun → AdcRun) : State :=
  { s with adcs := Store.set s.adcs AdcRun.reset (d * 8 + n) (f (s.adc d n)) }

/-- The converter takes samples (R166): it is enabled, ANA is ON, and its clock runs (R490). -/
def State.adcRuns (s : State) (d n : Nat) : Bool := s.bit F.ADC_CFG_EN d n && s.domOn d domANA && s.clockOn d 2

/-- The last slot of a triggered run (R176). -/
def State.lastTriggered (s : State) (d n : Nat) : Nat :=
  if s.get F.ADC_CFG_MODE d n = 2 then min (s.get F.ADC_CFG_TLEN d n) (s.get F.ADC_CFG_LEN d n)
  else s.get F.ADC_CFG_LEN d n
/-- TRIG_BG with background slots (R176). -/
def State.hasBackground (s : State) (d n : Nat) : Bool :=
  decide (s.get F.ADC_CFG_MODE d n = 2) && decide (s.get F.ADC_CFG_TLEN d n < s.get F.ADC_CFG_LEN d n)

/-- Slot `k` as a background slot: outside the background loop, its first slot stands for it (R176). -/
def State.background (s : State) (d n k : Nat) : Nat :=
  if s.get F.ADC_CFG_TLEN d n < k ∧ k ≤ s.get F.ADC_CFG_LEN d n then k else s.get F.ADC_CFG_TLEN d n + 1

/-- The slot of converter `n` whose result is next, where one is running (R176). -/
def State.currentSlot (s : State) (d n : Nat) : Option Nat :=
  if !s.adcRuns d n then none
  else if s.get F.ADC_CFG_MODE d n = 0 then some (s.get F.ADC_STAT_CUR_SLOT d n)
  else if (s.adc d n).inRun then some (s.get F.ADC_STAT_CUR_SLOT d n)
  else if s.hasBackground d n then some (s.background d n (s.get F.ADC_STAT_CUR_SLOT d n))
  else none

/-- The sampling of the slot due next has ended; its result is in the pipeline (R174). A slot whose sampling ends between a trigger's
tick edge and the converter clock edge that starts the run counts as still in progress (DESIGN CHOICE, log entry 58). -/
def State.sampled (s : State) (d n : Nat) : Bool := decide ((s.adc d n).slotEnd ≤ s.tick d * 10)

/-- A slot of converter `n` is in its sampling phase (R174, ADC_STAT.BUSY). -/
def State.adcBusy (s : State) (d n : Nat) : Bool :=
  let A := s.adc d n
  s.adcRuns d n &&
  (decide (s.get F.ADC_CFG_MODE d n = 0) || decide (s.tick d * 10 < A.runEnd) || A.urgent.any (fun u => decide (s.tick d * 10 < u.stop)) || A.reference ||
   (decide (s.get F.ADC_CFG_MODE d n = 2) && decide (s.get F.ADC_CFG_TLEN d n < s.get F.ADC_CFG_LEN d n)))

/-- The die ring's direction from `a` to `b`: ascending where it has at most as many hops (R27). -/
def State.ringAscending (s : State) (a b : Nat) : Bool :=
  decide ((b + s.dies - a) % s.dies ≤ (a + s.dies - b) % s.dies)

/-- A refuser ID (R500). -/
def refuserId (kind index : Nat) : Nat := kind * 128 + index

/-- The refuser ID of a ring transfer (R500): the requesting die, and the channel on which it is. -/
def State.ringId (s : State) (x : Xfer) : Nat :=
  match x.stage with
  | .answered _ _ => refuserId 3 (x.src * 16 + (if s.ringAscending x.dst x.src then 1 else 3))
  | .request | .retry | .blocked => refuserId 3 (x.src * 16 + (if s.ringAscending x.src x.dst then 0 else 2))

/-- A ring transfer is awaited by an engine of cluster `c` of die `d` (R499). -/
def xferOfCluster (d c : Nat) (x : Xfer) : Bool :=
  match x.who, x.op with
  | .engine pe, .read _ | .engine pe, .push _ _ _ | .engine pe, .regRead _ _ => decide (pe / 4 = d * 8 + c)
  | _, _ => false

/-- A ring transfer is a request to the signal store or the queues of die `d` (R163). -/
def xferOfStore (d : Nat) (x : Xfer) : Bool :=
  decide (x.dst = d) && !decide (x.stage = .blocked) &&
  (match x.op with | .read _ | .write _ _ | .group _ _ | .push _ _ _ | .record _ => true | _ => false)

/-- The ring transfers in flight at a domain. -/
def State.xfersAt (s : State) (d k : Nat) : List Xfer :=
  s.ring.filter fun x => if k < 8 then xferOfCluster d k x else if k = domMEM then xferOfStore d x else false

/-- A capture-ring write of converter `n` is not yet done (R499): a slot has been sampled whose result goes to its ring. -/
def State.ringDue (s : State) (d n : Nat) : Bool :=
  s.bit F.CAP_CFG_EN d n && !s.bit F.CAP_STAT_FROZEN d n && s.adcRuns d n &&
  ((s.adc d n).late ++ (if s.sampled d n then (s.currentSlot d n).toList else [])).any fun k => s.bit F.SLOT_A_RING d n k

/-- The converters of die `d` that sample, or whose capture-ring writes are not yet done. -/
def State.samplingAdcs (s : State) (d : Nat) : List Nat := (List.range 8).filter fun n => s.adcBusy d n || s.ringDue d n
/-- The converters of die `d` whose destination writes wait (R183). -/
def State.waitingAdcs (s : State) (d : Nat) : List Nat := (List.range 8).filter fun n => !(s.adc d n).destWait.isEmpty
/-- The enabled queues of die `d` that hold entries, the intake among them on D0 (R464). -/
def State.fullQueues (s : State) (d : Nat) : List Nat :=
  (s.queues.filter fun p => decide (p.1 / 8192 = d) && !p.2.isEmpty && s.bit F.Q_CFG_EN d (p.1 % 8192)).map (·.1) ++
  (if d = 0 ∧ !s.recorder.intake.isEmpty then s.recQueue.toList else [])

/-- The recorder's flash work in progress on die `d` (R499, R500): on D0 a commit (0) or a write of the AON path (2), on D1 a mirror
copy (1). -/
def State.flashIds (s : State) (d : Nat) : List Nat :=
  (match s.recorder.committing with
    | some (e, _, _) => if d = 0 then [refuserId 4 (if e.aon then 2 else 0)] else []
    | none => []) ++
  (if d = 1 ∧ s.recorder.mirroring.isSome then [refuserId 4 1] else [])

/-- MIRROR_LAG: the records that D1 still lacks (R471). -/
def State.syncLag (s : State) : State :=
  s.put F.REC_MIR2_MIRROR_LAG
    (min (s.recorder.mirrorDue.length + s.recorder.mirrorLack.length + s.recorder.mirroring.toList.length) 0xFFFF)

/-- Every entry that queue `id` holds discarded and counted (R146): those of REC_INTAKE lie in the recorder. -/
def State.discardEntries (s : State) (id : Nat) : State :=
  if s.recQueue = some id then
    let n := s.intakeCount
    let s := s.put F.Q_FLUSH_DISCARD_CNT (min (s.get F.Q_FLUSH_DISCARD_CNT 0 id + n) 0xFFFF) 0 id
    ({ s with recorder := { s.recorder with intake := [] } }.syncIntake).notifyWaiters id
  else s.queueDiscard id

/-- The refuser IDs of what is in flight at domain `k` of die `d`, for a request to `target` (R499). -/
def State.inFlight (s : State) (d k target : Nat) : List Nat :=
  (s.xfersAt d k).map s.ringId ++
  (if k = domANA then (s.samplingAdcs d).map (refuserId 2) else []) ++
  (if k = domMEM then (s.waitingAdcs d).map (refuserId 2) else []) ++
  (if k = domMEM ∧ target = 2 ∧ !(s.fullQueues d).isEmpty then [refuserId 1 0] else []) ++
  (if k = domFLASH then s.flashIds d else [])

/-- The lowest number of a list, 0 of the empty list. -/
def lowest (xs : List Nat) : Nat := xs.foldl min (xs.headD 0)

/-- A herd that owns a resource on die `d` is ARMED, RUNNING or STOPPING (R498). -/
def State.dieLocked (s : State) (d : Nat) : Bool :=
  (List.range (8 * s.dies)).any fun h => (s.herdState h).locked && s.herdOnDie d h

/-- A list without the last of its elements that `p` picks. -/
def dropLast {α : Type} (p : α → Bool) : List α → List α
  | [] => []
  | x :: xs => if p x && !xs.any p then xs else x :: dropLast p xs

/-- A push that has been served, but whose answer has not landed, is undone: its entry is not in the queue (R164). -/
def State.unpush (s : State) (x : Xfer) : State :=
  match x.op, x.stage with
  | .record e, .answered .ok _ =>
    { s with recorder := { s.recorder with intake := dropLast (fun r => r.same e) s.recorder.intake } }.syncIntake
  | .push id e _, .answered .ok _ =>
    if s.get F.Q_CFG_KIND (id.toNat / 8192) (id.toNat % 8192) = 4 then
      { s with recorder := { s.recorder with intake := dropLast (fun r => r.same (recordOf e x.src)) s.recorder.intake } }.syncIntake
    else { s with queues := Store.set s.queues [] id.toNat (dropLast (fun y => y == e) (s.entries id.toNat)) }.syncQueue id.toNat
  | _, _ => s

/-- The ring transfers `xs` are answered ABORTED (R164). -/
def State.abortXfers (s : State) (xs : List Xfer) : State :=
  let s := xs.foldl (fun s x => s.unpush x) s
  { s with ring := s.ring.map fun x => if xs.any (fun y => decide (y.id = x.id)) then { x with stage := .answered .aborted 0 } else x }

/-- The cells whose register lies in [`lo`, `hi`) of die `d`'s block space return to reset. -/
def State.clearBlock (s : State) (d lo hi : Nat) : State :=
  let keep : Nat × Nat → Bool := fun p =>
    let a := p.1 / 32
    !(decide (Space.die.base d + lo ≤ a) && decide (a < Space.die.base d + hi))
  { s with cells := s.cells.filter keep, shadow := s.shadow.filter keep }

/-- Row `r` of die `d`'s flash: all ones where nothing has been programmed. -/
def State.flashRow (s : State) (d r : Nat) : BitVec 256 := Store.get s.flash (BitVec.allOnes 256) (d * 131072 + r)
/-- The 32-bit word `k` of die `d`'s flash, little-endian (R455). -/
def State.flashWord (s : State) (d k : Nat) : Nat := (s.flashRow d (k / 8)).toNat / 2 ^ (32 * (k % 8)) % 2 ^ 32

/-- CRC-32 (IEEE 802.3) of a list of bytes. -/
def crcBytes (bytes : List Nat) : Nat := (bytes.foldl crcByte 0xFFFFFFFF) ^^^ 0xFFFFFFFF

/-- The first word of die `d`'s gate record (R455). -/
def gateRecord : Nat := (0x3C4000 + 0x100) / 4

/-- GATE_DEF of the legs of die `d`, and the strength codes with it, from the gate record (R254, R455). -/
def State.loadGateDef (s : State) (d : Nat) : State :=
  let ws := (List.range 24).map fun n => s.flashWord d (gateRecord + n)
  let good := decide (crcBytes (ws.flatMap fun w => [w % 256, w / 256 % 256, w / 65536 % 256, w / 2 ^ 24]) = s.flashWord d (gateRecord + 24))
  forEach (List.range 24) (fun s n =>
    let w := ws.getD n 0
    let v := if good && decide (w / 65536 = 0x47 * 256 + n) then w % 65536 else 0x8888
    let s := (s.put F.GATE_DEF_HS_ON (v / 4096) d n).put F.GATE_DEF_HS_OFF (v / 256 % 16) d n
    ((s.put F.GATE_DEF_LS_ON (v / 16 % 16) d n).put F.GATE_DEF_LS_OFF (v % 16) d n).put F.GATE_STR_CODES v d n) s

/-- No task that a level source has dispatched on engine `pe` is still to end. -/
def State.forgetDispatched (s : State) (pe : Nat) : State :=
  { s with dispatched := s.dispatched.filter fun p => !decide ((p.2 - 1) / 32 = pe) }

/-- The level sources routed to engine `pe` are sampled (R475). -/
def State.sampleLevels (s : State) (pe : Nat) : State :=
  let d := pe / 32
  forEach ((List.range 256).filter fun src => isLevel src && decide (s.srcEngine d src = pe)) (fun s src => s.sampleLevel d src) s

/-- Engine `pe` reset by ENG_CTL.RST (R103, R485): registers, windows, the resume state, all PEND bits and DFAULT; its
stack and the ACTIVE bits of its sources, of which the level sources are then sampled again (R475). ENG_CTL.STOP holds on. The STK of the running, idle and fast contexts are registers that
it resets, although R72 lets nothing but CLRSTK clear a sticky flag; those saved for tasks stay (log entry 54). -/
def State.engineReset (s : State) (pe : Nat) : State :=
  let d := pe / 32; let e := pe % 32
  let s := s.resetWindows pe
  let s := forEach (List.range 32) (fun s t =>
    { (s.put F.ENG_TSTAT_PEND 0 d e t).put F.ENG_TSTAT_RUN 0 d e t with pendArg := Store.set s.pendArg 0 (pe * 32 + t) 0 }) s
  let s := forEach (List.range 512) (fun s src =>
    if s.bit F.IRQ_SRC_ACTIVE d src && decide (s.get F.IRQ_SRC_ENGINE d src = e) then s.put F.IRQ_SRC_ACTIVE 0 d src else s) s
  let s := (((s.put F.IRQ_STK_FROZEN 0 d e).put F.IRQ_STK_DEPTH 0 d e).put F.IRQ_STK_LOWER 0x1FF d e).put F.IRQ_STK_UPPER 0x1FF d e
  let stop := s.bit F.ENG_CTL_STOP d e
  let s := { s with taskStk := Store.set s.taskStk 0 (idleStk pe) 0 }.modEng pe fun _ => { Engine.reset with stopped := stop }
  (s.forgetDispatched pe).sampleLevels pe

/-- The engines of cluster `c` of die `d`, by package number. -/
def clusterEngines (d c : Nat) : List Nat := (List.range 4).map fun i => d * 32 + c * 4 + i

/-- What OFF of domain `k` of die `d` loses as the transition begins (R136, R497, R565): the points of MEM, whose queues hold no
entries then (`State.enter`), the registers of LEG and GATE, of which the gate codes return to those of the flash record (R274) and SAFE_OFF shows the hold that goes
on (R416), the memories of a cluster. A trip whose leg returns to reset is cleared with it, and the companion action of its herd ends with
the last one (R269). -/
def State.loseDomain (s : State) (d k : Nat) : State :=
  if k = domMEM then
    { s with points := s.points.filter fun p => !decide (p.1 / 131072 = d) }
  else if k = domANA then forEach (List.range 8) (fun s n => s.modAdc d n fun A => { A with anaOff := true }) s
  else if k = domLEG then
    let hs := ((List.range 24).filterMap fun n => (s.leg d n).tripHerd).eraseDups
    let s := (s.clearBlock d 0x20000 0x40000).loadGateDef d
    let s := forEach (List.range 24) (fun s n =>
      (s.putB F.LEG_STAT_SAFE_OFF ((s.leg d n).safeA || (s.leg d n).safeB) d n).modLeg d n fun L =>
        { Leg.reset with safeA := L.safeA, safeB := L.safeB }) s
    let s := hs.foldl (fun s h => if s.tripsOf h then s else s.companionEnd h) s
    forEach (List.range 24) (fun s n => s.syncLine d (176 + n)) s
  else if k < 8 then
    let mine := fun (p : Nat × Word) => decide (p.1 / 8192 = d * 8 + k)
    { s with priv := s.priv.filter fun p => !mine p, shared := s.shared.filter fun p => !decide (p.1 / 16384 = d * 8 + k),
             program := s.program.filter fun p => !decide (p.1 / 32768 = d * 8 + k) }
  else s

/-- What a domain that leaves ON stops at once: conversions in progress end without a result (ANA, R501), the leg outputs
go low (LEG, R497). -/
def State.stopDomain (s : State) (d k : Nat) : State :=
  if k = domANA then
    forEach (List.range 8) (fun s n => s.modAdc d n fun A =>
      { A with runEnd := 0, inRun := false, gap := 0, late := [], urgent := [], reference := false }) s
  else if k = domLEG then s.driveLegs d (List.range 24)
  else s

/-- A row left torn by a program of `v` that was cut (R459, R501): some of its bits programmed (log entry 2). -/
def tornRow (v : BitVec 256) (free : Nat) : BitVec 256 :=
  let w := v ||| BitVec.ofNat 256 free
  if w = BitVec.allOnes 256 ∨ rowValid w = true then BitVec.allOnes 256 - 1 else w

/-- The first row of the permanent area (R454). -/
def permBase : Nat := 128 * 512
/-- The first row of the circulating area (R454). -/
def circBase : Nat := 144 * 512

/-- Row `r` of die `d` is left torn by a cut program of `v`, and noted as such (R459). -/
def State.tear (s : State) (d r : Nat) (v : BitVec 256) : State :=
  { s.nextFresh with
    flash := Store.set s.flash (BitVec.allOnes 256) (d * 131072 + r) (tornRow v (Config.freeNat s.fresh)),
    recorder := { s.recorder with torn := s.recorder.torn ++ [d * 131072 + r] } }

/-- A mirror copy in progress on die `d` is cut: its row is torn. -/
def State.cutMirror (s : State) (d : Nat) : State :=
  match s.recorder.mirroring, (s.flashRun d).busy with
  | some r, some (.program _ v) =>
    if d ≠ 1 then s
    else
      let s := (s.tear 1 r v).modFlash 1 fun U => { U with busy := none }
      { s with recorder := { s.recorder with mirroring := none } }.syncLag
  | _, _ => s

/-- The recorder's row program in progress on die `d` is cut by a forced exit of FLASH (R501): its row is torn, and a record of D0 waits to be
committed again with its SEQ: at the head of the intake, or of the AON buffer, or as the COMMISSIONED record. A torn row of D1 is not
written again, since no copy ever is (R472; log entry 57). -/
def State.cutCommit (s : State) (d : Nat) : State :=
  match s.recorder.committing, s.recorder.mirroring, (s.flashRun d).busy with
  | some (e, seq, r), _, some (.program _ v) =>
    if d ≠ 0 then s.cutMirror d
    else
      let s := ((s.tear 0 r v).modFlash 0 fun U => { U with busy := none }).put F.REC_NEXT_SEQ seq
      let s := { s with recorder := { s.recorder with committing := none } }
      if e.aon then { s with aonRun := { s.aonRun with buffer := e :: s.aonRun.buffer } }
      else if e.code = 0x0810 ∧ permBase ≤ r ∧ r < circBase ∧ s.get F.REC_PFIRST_SEQ = seq then { s with recorder := { s.recorder with first := some e } }
      else { s with recorder := { s.recorder with intake := e :: s.recorder.intake } }.syncIntake
  | _, _, _ => s.cutMirror d

/-- The entry into `target` begins (R497): the domain is not ON from here on; the transition is in progress. -/
def State.beginEntry (s : State) (d k target : Nat) (force : Bool) : State :=
  let s := (s.put F.PWR_DOM_STATE target d k).put F.PWR_DOM_BUSY 1 d k
  let s := s.modDom d k fun D => { D with moving := true, target := target, waiting := false, force := force }
  let s := s.stopDomain d k
  if target = 2 then s.loseDomain d k else s

/-- What a forced exit of the store of die `d` ends beside the transfers (R501): destination writes that wait for an entry, and, for
OFF, the queue entries held. -/
def State.dropWaiting (s : State) (d target : Nat) : State :=
  let s := forEach (s.waitingAdcs d) (fun s n => s.modAdc d n fun A => { A with destWait := [] }) s
  if target = 2 then (s.fullQueues d).foldl (fun s q => s.discardEntries q) s else s

/-- The PWR_FORCED record of a forced exit (R501). That of D0's store is the last that its intake accepts, and is not among the entries
that the exit loses (DESIGN CHOICE, log entry 20). -/
def State.forcedRecord (s : State) (d k ended low : Nat) : State :=
  let s := if d = 0 ∧ k = domMEM then s.put F.PWR_DOM_STATE 0 d k else s
  s.hwRecord d 0x0A02 none noLeg k ended low

/-- A checked entry (R499, R501): refused and counted where something is in flight and FORCE is 0; otherwise everything in
flight ends ABORTED and the transition begins. -/
def State.enter (s : State) (d k target : Nat) (force : Bool) : State × Status :=
  let ids := s.inFlight d k target
  let note := fun (s : State) =>
    (s.put F.PWR_DLAST_ID (lowest ids) d k).put F.PWR_DLAST_QUEUE
      (if lowest ids / 128 = 1 then lowest (s.fullQueues d) % 8192 else 0) d k
  if ids.isEmpty then (s.beginEntry d k target force, .ok)
  else if !force then
    ((note (s.incSat F.PWR_DCNT_REF_CNT d k)).irqEdge d 218, .refused)
  else
    let s := note (s.incSat F.PWR_DCNT_ABT_CNT d k)
    let s := s.abortXfers (s.xfersAt d k)
    let s := if k = domFLASH then s.cutCommit d else s
    let s := if k = domMEM then s.dropWaiting d target else s
    ((s.forcedRecord d k ids.length (lowest ids)).beginEntry d k target force, .ok)

/-- Every engine of cluster `c` of die `d` is IDLE, HALTED or in DFAULT (R498). -/
def State.clusterQuiet (s : State) (d c : Nat) : Bool :=
  (List.range 4).all fun i =>
    let E := s.eng (d * 32 + c * 4 + i)
    E.stopped || E.frozen || E.dfault || (E.task.isNone && !E.normal && !E.fast && !E.trap)

/-- A request of domain `k` of die `d` for `target` (0 ON, 1 RETAIN, 2 OFF), with its result (R161, R497 to R499). -/
def State.requestDomain (s : State) (d k target : Nat) (force : Bool) : State × Status :=
  let D := s.dom d k
  if s.bit F.PWR_DOM_BUSY d k then
    if target = 0 then (s.modDom d k fun D => { D with heldOn := true }, .ok) else (s, .refused)
  else if s.get F.PWR_DOM_STATE d k = target then (s, .ok)
  else if target = 0 then
    ((s.put F.PWR_DOM_BUSY 1 d k).modDom d k fun D => { D with moving := true, target := 0, waiting := false }, .ok)
  else if (k = domLINK ∧ s.ready) ∨ ((k = domLEG ∨ k = domANA) ∧ s.domOn d k ∧ s.dieLocked d) then (s, .refused)
  else if k < 8 ∧ s.domOn d k ∧ !s.clusterQuiet d k then
    ((s.put F.PWR_DOM_BUSY 1 d k).modDom d k fun _ => { D with waiting := true, target := target, force := force }, .ok)
  else s.enter d k target force

/-- A request through PWR_DOM.REQ or from a hardware unit, with its result in RES (R498). -/
def State.pwrRequest (s : State) (d k target : Nat) (force : Bool) : State :=
  let r := s.requestDomain d k target force
  r.1.put F.PWR_DOM_RES r.2.code d k

end Sys2Proof.Machine
end

