-- ==== Sys2Proof/Machine/HerdOps.lean ====
section
/-!
DEFINITION. Herd states (R295 to R303): a change of state with what each unit of the herd does as it leaves RUNNING or
STOPPING (R330, R348, R350, R384), the trip mesh that carries the state to member dies (R297), fault causes (R300), and the
FAULT command that hardware units issue.
-/
namespace Sys2Proof.Machine

/-- The legs of herd `h` on die `d` driven by their present first source. -/
def State.driveHerdOn (s : State) (d h : Nat) : State := s.driveLegs d (s.herdLegsOn d h)
/-- The legs of herd `h` on every die driven by their present first source. -/
def State.driveHerd (s : State) (h : Nat) : State := forEach (List.range s.dies) (fun s d => s.driveHerdOn d h) s
/-- Every leg of herd `h` changed. -/
def State.modHerdLegs (s : State) (h : Nat) (f : Leg → Leg) : State :=
  (s.herdLegs h).foldl (fun s p => s.modLeg p.1 p.2 f) s

/-- A herd state is RUNNING or STOPPING. -/
def HState.active : HState → Bool
  | .running | .stopping => true
  | .unbound | .bound | .armed | .faulted | .safe => false

/-- The herd is RUNNING or STOPPING on its home die. -/
def State.herdActive (s : State) (h : Nat) : Bool := (s.herdState h).active

/-- The phase legs of a DRIVE herd (R333), as (die, leg). -/
def State.drvLegs (s : State) (h : Nat) : List (Nat × Nat) :=
  (s.herdLegs h).filter fun p => s.bit F.DRV_LCFG_PH p.1 p.2
/-- The phases of a REGULATE herd (R311), as (die, leg). -/
def State.regLegs (s : State) (h : Nat) : List (Nat × Nat) :=
  (s.herdLegs h).filter fun p => s.bit F.REG_LCFG_PH p.1 p.2

/-- The manager's wake (R329): ASLEEP clears, the clusters it put into RETAIN are requested ON, the slots it disarmed are
armed again. -/
def State.burstWake (s : State) (h : Nat) : State :=
  let d := h / 8; let l := h % 8
  let R := s.reg h
  if !s.bit F.REG_STAT_ASLEEP d l then s
  else
    let s := s.put F.REG_STAT_ASLEEP 0 d l
    let s := forEach R.retained (fun s c => s.pwrRequest d c 0 false) s
    let s := forEach R.disarmed (fun s k => s.put F.AEV_CFG_ARMED 1 d k) s
    let t := s.tick d
    s.modReg h fun R => { R with retained := [], disarmed := [], wakeAt := t, burstWait := true }

/-- Burst mode ends (R330): BURST clears and the dwell of R318 starts again. -/
def State.burstEnd (s : State) (h : Nat) : State :=
  let t := s.tick (h / 8)
  (s.put F.REG_STAT_BURST 0 (h / 8) (h % 8)).modReg h fun R =>
    { R with burstSince := none, addSince := none, shedSince := none, lastChange := t, burstLeft := 0, burstWait := false }

/-- The herd leaves RUNNING and STOPPING in burst mode or in its sleep (R330): the wake, and the end of burst mode. -/
def State.burstLeave (s : State) (h : Nat) : State :=
  if s.bit F.REG_STAT_BURST (h / 8) (h % 8) || s.bit F.REG_STAT_ASLEEP (h / 8) (h % 8) then (s.burstWake h).burstEnd h else s

/-- LEG_FORCE of leg `n` of die `d` takes a value: it acts at the next PWM clock (R241). -/
def State.setForce (s : State) (d n v : Nat) : State :=
  let s := s.put F.LEG_FORCE_FORCE v d n
  (s.putB F.LEG_STAT_FORCED (decide (v % 4 ≠ 0)) d n).driveLegs d [n]

/-- The section legs of a chopper (R349): package leg of section `k`. -/
def State.sectionLeg (s : State) (h k : Nat) : Nat := s.get F.CH_SCFG_LEG (h / 8) (h % 8) k
/-- Section `k` released (R350): OFF is written to its leg. -/
def State.releaseSection (s : State) (h k : Nat) : State :=
  let p := s.sectionLeg h k
  (s.setForce (p / 24) (p % 24) 3).putBit F.CH_STAT_ENG k false (h / 8) (h % 8)
/-- Section `k` engaged (R350): its ON level is written to its leg. -/
def State.engageSection (s : State) (h k : Nat) : State :=
  let p := s.sectionLeg h k
  (s.setForce (p / 24) (p % 24) (s.get F.CH_SCFG_ON (h / 8) (h % 8) k)).putBit F.CH_STAT_ENG k true (h / 8) (h % 8)
/-- The chopper writes OFF to every engaged section on leaving RUNNING or STOPPING (R350). -/
def State.chopLeave (s : State) (h : Nat) : State :=
  forEach ((List.range 8).filter fun k => s.getBit F.CH_STAT_ENG k (h / 8) (h % 8)) (fun s k => s.releaseSection h k) s

/-- A sweep in progress ends without result as the herd leaves RUNNING or STOPPING (R384). -/
def State.trackLeave (s : State) (h : Nat) : State :=
  (s.put F.TRK_STAT_SWEEPING 0 (h / 8) (h % 8)).put F.TRK_STAT_WAIT_GMP 0 (h / 8) (h % 8)

/-- The messages of a short that are still on the mesh are overtaken by its end. -/
def State.dropShortMsgs (s : State) (h : Nat) : State :=
  { s with mesh := s.mesh.filter fun m => !(m.short && decide (m.herd = h)) }

/-- A winding short ends as the herd leaves RUNNING (R348). Its legs follow with the state on their die. -/
def State.shortLeave (s : State) (h : Nat) : State := (s.put F.DRV_STAT_WS_ACTIVE 0 (h / 8) (h % 8)).dropShortMsgs h

/-- A leg as the state of its herd on its die goes from `old` to `new`: a winding short ends with RUNNING (R348), in STOPPING at the
leg's next boundary; the holds and masks that last only in RUNNING and STOPPING end with them (R303, R328, R345, R363). -/
def Leg.leave (L : Leg) (old new : HState) : Leg :=
  let L := if old = .running ∧ new = .stopping then { L with shortRelease := L.short.isSome } else L
  if old.active ∧ !new.active then
    { L with runHold := false, mcHold := false, mcRelease := false, short := none, shortRelease := false, burstMask := false }
  else L

/-- The herd's state on die `d` has gone from `old` to `new` (R297): its legs there follow, and a hold of an islanding declaration
ends with FAULTED (R375). -/
def State.stateOn (s : State) (d h : Nat) (old new : HState) : State :=
  let s := (s.herdLegsOn d h).foldl (fun s n => s.modLeg d n fun L => L.leave old new) s
  let s := if new ≠ .faulted then s.modGrd h fun G =>
      { G with islandHold := if G.islandHold.testBit d then G.islandHold - 2 ^ d else G.islandHold } else s
  s.driveHerdOn d h

/-- A probe of herd `h` is abandoned without a result (R370, R373), and with it a suspicion that waits for its probe. -/
def State.probeDrop (s : State) (h : Nat) : State :=
  (s.put F.GRD_STAT_PROBING 0 (h / 8) (h % 8)).modGrd h fun G => { G with probeLeft := 0, probeSum := 0, probeN := 0, suspAt := none }

/-- What the herd's units do as it goes from `old` to `new`. -/
def State.leaveState (s : State) (h : Nat) (old new : HState) : State :=
  let s := if old = .running ∧ new ≠ .running then s.shortLeave h else s
  if old.active ∧ !new.active then
    let s := ((s.burstLeave h).chopLeave h).trackLeave h
    (((s.put F.GRD_STAT_MC_NOW 0 (h / 8) (h % 8)).modGrd h fun G => { G with mcEp := false, mcEndAt := none }).probeDrop h)
  else s

/-- The herd enters `new` on its home die (R295, R296): its units leave the old state, and the legs of the home die follow. Member
dies follow by their copies (R297). -/
def State.enterState (s : State) (h : Nat) (new : HState) : State :=
  let old := s.herdState h
  ((s.leaveState h old new).put F.HERD_STAT_STATE new.code (h / 8) (h % 8)).stateOn (h / 8) h old new

/-- The copy of herd `h`'s state on die `d` follows the home die's (R297). -/
def State.copyState (s : State) (d h : Nat) : State :=
  if d = h / 8 then s
  else
    let old := s.herdStateAt d h
    let s := { s with herdCopies := Store.set s.herdCopies 0 (d * 64 + h) (s.get F.HERD_STAT_STATE (h / 8) (h % 8)) }
    s.stateOn d h old (s.herdState h)

/-- The ARM checks of a herd end: CHECKING clears (R299). -/
def State.endChecks (s : State) (h : Nat) : State :=
  (s.put F.HERD_STAT_CHECKING 0 (h / 8) (h % 8)).modHerdRun h fun H => { H with check := none }

/-- The bit of a cause in FAULT_CAUSE (R310). -/
def Cause.bit : Cause → Nat
  | .prog => 6 | .engine => 5 | .tick => 4 | .osc => 3 | .plaus => 2 | .check => 1 | .hshort => 0

/-- The herd has accepted BIND or RECOVER on this tick (R299): SAFE and fault causes of the same tick come before that command, so
they found it UNBOUND, FAULTED or SAFE, and what they did there the command has overtaken (log entry 10). -/
def State.justBound (s : State) (h : Nat) : Bool := decide ((s.herd h).freshAt = s.tick (h / 8) + 1)

/-- A fault cause that is a failed check belongs to an ARM, which comes after the BIND of its tick. -/
def Cause.ofCheck : Cause → Bool
  | .check | .hshort => true
  | .prog | .engine | .tick | .osc | .plaus => false

/-- A fault cause acts on herd `h` (R298, R300): the herd enters FAULTED and one record is written, or, in FAULTED and SAFE, the cause
is added. An UNBOUND herd takes none. -/
def State.herdFaulted (s : State) (h : Nat) (c : Cause) : State :=
  let d := h / 8; let l := h % 8
  let st := s.herdState h
  if st = .unbound ∨ (s.justBound h ∧ !c.ofCheck) then s
  else
    let s := s.putBit F.HERD_STAT_FAULT_CAUSE c.bit true d l
    if st = .faulted ∨ st = .safe then s
    else
      let s := (s.endChecks h).enterState h .faulted
      s.hwRecord d 0x0405 (some h) noLeg (s.get F.HERD_STAT_FAULT_CAUSE d l) 0 0

/-! ### Commands that need none of the role's units -/

/-- The phase comparator of a phase is tied to its leg with CBC = 1 and LMODE = 1 (R312). -/
def State.phaseCmpOk (s : State) (p : Nat × Nat) : Bool :=
  let k := s.get F.REG_LCFG_CMP p.1 p.2
  decide (k < 48) && decide (s.get F.CMP_CFG_LEG p.1 k = p.2) && s.bit F.CMP_CFG_CBC p.1 k && s.bit F.CMP_CFG_LMODE p.1 k

/-- N_MIN, where 0 counts as 1 (R312). -/
def State.regNMin (s : State) (h : Nat) : Nat := max (s.get F.REG_CFG_N_MIN (h / 8) (h % 8)) 1

/-- The conditions of R312. A source point counts as enabled when its source is selected or has CP_EN = 1 (log entry 22). -/
def State.regOk (s : State) (h : Nat) : Bool :=
  let d := h / 8; let l := h % 8
  let ps := s.regLegs h
  let n := ps.length
  let home : Nat → Bool := fun p => decide (pointDie p = d)
  decide (s.get F.HERD_CTL_ROLE d l = 4) && decide (1 ≤ n) && decide (n ≤ 48) &&
  decide (s.regNMin h ≤ s.get F.REG_CFG_N_MAX d l) && decide (s.get F.REG_CFG_N_MAX d l ≤ n) &&
  ps.all s.phaseCmpOk &&
  decide (s.getI F.REG_ISHED_I_SHED d l < s.getI F.REG_IADD_I_ADD d l) &&
  decide (s.getI F.REG_IBURST_I_BURST d l < s.getI F.REG_IBEXIT_I_BEXIT d l) &&
  home (s.get F.REG_IPK_POINT d l) && home (s.get F.REG_VREF_POINT d l) &&
  ps.all (fun p => home (s.get F.REG_LIPT_POINT p.1 p.2)) &&
  (List.range 3).all fun k =>
    !(s.bit F.SRC_CFG_CP_EN d l k || decide (s.get F.REG_VSEL_SRC d l = k)) || home (s.get F.SRC_CFG_POINT d l k)

/-- BIND may be accepted (R294): the herd owns a leg, and its home die holds an enabled task of it. -/
def State.bindable (s : State) (h : Nat) : Bool :=
  !(s.herdLegs h).isEmpty && (List.range 32).any fun e => (s.engineHerds (h / 8 * 32 + e)).contains h

/-- A command's status in HERD_STAT.CMD_RES (R298). -/
def State.cmdRes (s : State) (h : Nat) (st : Status) : State := s.put F.HERD_STAT_CMD_RES st.code (h / 8) (h % 8)

/-- The checks of ARM run (R299). -/
def State.checking (s : State) (h : Nat) : Bool := s.bit F.HERD_STAT_CHECKING (h / 8) (h % 8)

/-- Owner entry `n` of one table of die `d` cleared where it names `h` (R294). -/
def State.freeEntry (s : State) (h : Nat) (en herd : Fld) (d n : Nat) : State :=
  if s.ownerOf en herd d n = some h then (s.put en 0 d n).put herd 0 d n else s

/-- Every owner entry of die `d` that names herd `h` cleared (R294). -/
def State.freeDie (s : State) (d h : Nat) : State :=
  let ns := s.herdLegsOn d h
  let s := forEach (List.range 24) (fun s n =>
    (s.freeEntry h F.OWN_LEG_EN F.OWN_LEG_HERD d n).freeEntry h F.OWN_MOD_EN F.OWN_MOD_HERD d n) s
  let s := forEach (List.range 8) (fun s n => s.freeEntry h F.OWN_ADC_EN F.OWN_ADC_HERD d n) s
  let s := forEach (List.range 16) (fun s n => s.freeEntry h F.OWN_AB_EN F.OWN_AB_HERD d n) s
  s.driveLegs d ns

/-- The herd enters BOUND by BIND or RECOVER, which is noted for the tick (R299). -/
def State.enterBound (s : State) (h : Nat) : State :=
  let t := s.tick (h / 8)
  (s.enterState h .bound).modHerdRun h fun H => { H with freshAt := t + 1 }

/-- BIND (R294, R298). -/
def State.herdBind (s : State) (h : Nat) : State :=
  if s.herdState h = .unbound ∧ s.bindable h = true then (s.enterBound h).cmdRes h .ok else s.cmdRes h .refused

/-- UNBIND (R294, R298). -/
def State.herdUnbind (s : State) (h : Nat) : State :=
  if s.herdState h = .bound ∧ s.checking h = false then
    (forEach (List.range s.dies) (fun s d => s.freeDie d h) (s.enterState h .unbound)).cmdRes h .ok
  else s.cmdRes h .refused

/-! ### ARM, STOP, STOPPED, RECOVER -/

/-- The status with which ARM is met (R305, R558). -/
def State.armStatus (s : State) (h : Nat) : Status :=
  let d := h / 8; let l := h % 8
  if !s.ready || (s.herd h).roleAt.isSome then .notReady
  else if s.herdState h ≠ .bound ∨ s.checking h = true ∨ s.get F.HERD_CTL_ROLE d l ≤ 1 ∨
      (s.herdLegs h).any (fun p => !s.bit F.LEG_MODE_EN p.1 p.2) = true ∨
      (s.get F.HERD_CTL_ROLE d l = 4 ∧ s.bit F.REG_CFG_EN d l = true ∧ s.regOk h = false) then .refused
  else .ok

/-- ARM accepted (R305): the check results clear and the first check is in progress. -/
def State.armAccept (s : State) (h : Nat) : State :=
  let d := h / 8; let l := h % 8
  let t := s.tick d
  let s := ((s.put F.HERD_CHK_FAILED 0 d l).put F.HERD_CHK_FAIL_LEG 0 d l).put F.HERD_CHK_FAIL_PLB 0 d l
  (s.put F.HERD_STAT_CHECKING 1 d l).modHerdRun h fun H => { H with check := some 0, armAt := t, checkFrom := t, hss := [] }

/-- ARM (R298, R305). -/
def State.herdArm (s : State) (h : Nat) : State :=
  if s.armStatus h = .ok then (s.armAccept h).cmdRes h .ok else s.cmdRes h (s.armStatus h)

/-- STOP (R298, R299). -/
def State.stop (s : State) (h : Nat) : State :=
  let t := s.tick (h / 8)
  match s.herdState h with
  | .armed => (s.enterState h .bound).cmdRes h .ok
  | .running => ((s.enterState h .stopping).modHerdRun h fun H => { H with stopAt := t }).cmdRes h .ok
  | .bound => if s.checking h then (s.endChecks h).cmdRes h .ok else s.cmdRes h .refused
  | .unbound | .stopping | .faulted | .safe => s.cmdRes h .refused

/-- STOPPED (R298): from a task of the herd, `task`. -/
def State.herdStopped (s : State) (h : Nat) (task : Bool) : State :=
  if s.herdState h = .stopping ∧ task = true then (s.enterState h .bound).cmdRes h .ok else s.cmdRes h .refused

/-- Some engine that carries a task of herd `h` is in DFAULT (R301). -/
def State.herdDfault (s : State) (h : Nat) : Bool :=
  (List.range 32).any fun e =>
    (s.engineHerds (h / 8 * 32 + e)).contains h && (s.eng (h / 8 * 32 + e)).dfault

/-- RECOVER (R298, R301). -/
def State.herdRecover (s : State) (h : Nat) : State :=
  match s.herdState h with
  | .faulted | .safe =>
    if s.herdDfault h then s.cmdRes h .refused
    else ((s.put F.HERD_STAT_FAULT_CAUSE 0 (h / 8) (h % 8)).enterBound h).cmdRes h .ok
  | .unbound | .bound | .armed | .running | .stopping => s.cmdRes h .refused

/-! ### The events of one tick -/

/-- The order of R299: SAFE, fault causes, commands. -/
def HerdEvent.rank : HerdEvent → Nat
  | .safe _ => 0
  | .fault _ _ => 1
  | .command _ _ => 2

/-- The address of a register field's key lies in the herd's registers on its home die, or in an owner table (R310). -/
def State.herdField (s : State) (h k : Nat) : Bool :=
  let a := k / 32
  let home := F.HERD_CTL_ROLE.addr (h / 8) (h % 8) 0
  (decide (home ≤ a) && decide (a < home + 0x1000)) ||
    (List.range s.dies).any fun d => decide (F.OWN_LEG_EN.addr d 0 0 ≤ a) && decide (a < F.LEG_HSS_EN.addr d 0 0)

/-- The fields of the herd in which `t` differs from `s`, as `s` has them. -/
def State.herdChanges (s t : State) (h : Nat) : List (Nat × Option Nat) :=
  let ks := ((s.cells ++ t.cells).map (·.1)).filter fun k => s.herdField h k && decide (Store.find s.cells k ≠ Store.find t.cells k)
  ks.dedup.map fun k => (k, Store.find s.cells k)

/-- The points to which the heels of the herd write. -/
def State.herdPoints (s : State) (h : Nat) : List Nat :=
  (List.range 4).map fun j => s.get F.HEEL_OUT_POINT (h / 8) (h % 8) j

/-- The event `e` has taken the herd from `s` to `t`: it is noted among those of its tick, with what it has changed (R299). -/
def State.noted (s t : State) (h : Nat) (e : HerdEvent) : State :=
  let now := s.tick (h / 8) + 1
  let T := (s.herd h).tick
  let T : HerdTick := if T.at_ = now then T else ⟨now, (s.herdState h).code, s.nextXfer, [], [], []⟩
  let fs := (s.herdChanges t h).filter fun c => !(T.fields.any fun o => decide (o.1 = c.1))
  let ps := (((s.herdPoints h).filter fun p => decide (s.point p ≠ t.point p)).map fun p => (p, s.point p)).filter
    fun c => !(T.points.any fun o => decide (o.1 = c.1))
  t.modHerdRun h fun H => { H with tick := { T with fields := T.fields ++ fs, points := T.points ++ ps, events := T.events ++ [e] } }

/-- An event of rank `r` comes late for the order of R299: an event of the same tick that comes after it has already been taken, in a
state that the earlier one would have left. -/
def State.overtaken (s : State) (h r : Nat) : Bool :=
  let T := (s.herd h).tick
  decide (T.at_ = s.tick (h / 8) + 1) && decide (1 ≤ T.state) && decide (T.state ≤ 4) && T.events.any fun e => decide (r < e.rank)

/-- A record of a transition of herd `h`. -/
def RecEntry.ofHerd (e : RecEntry) (h : Nat) : Bool :=
  decide (e.herd = some h) && (decide (e.code = 0x0405) || decide (e.code = 0x0406) || decide (e.code = 0x0407))

/-- A register field as it was, listed or not. -/
def putBack (m : Store Nat) (c : Nat × Option Nat) : Store Nat :=
  match c.2 with
  | some v => Store.insert (Store.erase m c.1) c.1 v
  | none => Store.erase m c.1

/-- What the events of this tick have done to the herd is undone (R299): its fields, its points and its state are as they were, and
their records that have not left are not written. -/
def State.undoTick (s : State) (h : Nat) : State :=
  let T := (s.herd h).tick
  let s := T.points.foldl (fun s p => { s with points := Store.set s.points 0 p.1 p.2 }) s
  let s := { s with cells := T.fields.foldl putBack s.cells }
  let now := s.tick 0
  let s := { s with
    recorder := { s.recorder with intake := s.recorder.intake.filter fun e => !(e.ofHerd h && decide (e.tick = now)) }
    ring := s.ring.filter fun x => match x.op with | .record e => !(e.ofHerd h && decide (T.xfer ≤ x.id)) | _ => true }
  let s := (s.syncIntake).modHerdRun h fun H => { H with check := none, freshAt := 0, tick := { H.tick with fields := [], points := [], events := [] } }
  s.driveHerd h

/-- SAFE acts (R298). `told`: as a command. -/
def State.safeTaken (s : State) (h : Nat) (told : Bool) : State :=
  match s.herdState h with
  | .unbound | .safe => if told then s.cmdRes h .refused else s
  | .bound | .armed | .running | .stopping | .faulted =>
    if s.justBound h then s
    else
      let s := (s.endChecks h).enterState h .safe
      if told then s.cmdRes h .ok else s

/-- A fault cause acts (R300). `told`: as the FAULT command, which a herd that is not UNBOUND accepts (R298). -/
def State.faultTaken (s : State) (h : Nat) (c : Cause) (told : Bool) : State :=
  if !told then s.herdFaulted h c
  else if s.herdState h = .unbound then s.cmdRes h .refused
  else if s.justBound h then s
  else (s.herdFaulted h c).cmdRes h .ok

/-- An event that is taken again after one that comes before it (R299). RUN finds no ARMED herd then, and the end of the checks or of
STOP_TMO (0) finds them ended. -/
def State.takenAgain (s : State) (h : Nat) : HerdEvent → State
  | .safe told => s.safeTaken h told
  | .fault c told => s.faultTaken h c told
  | .command 1 _ => s.herdBind h
  | .command 2 _ => s.herdUnbind h
  | .command 3 _ => s.herdArm h
  | .command 5 _ => s.stop h
  | .command 6 task => s.herdStopped h task
  | .command 8 _ => s.herdRecover h
  | .command 0 _ => s
  | .command _ _ => s.cmdRes h .refused

/-- The herd meets the event `e`, whose effect is `f` (R299). Where events of the same tick that come after it have been taken, they
are undone and taken again behind it. -/
def State.meet (s : State) (h : Nat) (e : HerdEvent) (f : State → State) : State :=
  if s.overtaken h e.rank then
    let es := (s.herd h).tick.events
    let take := fun s e => State.noted s (s.takenAgain h e) h e
    (es.filter fun x => decide (e.rank < x.rank)).foldl take (take ((es.filter fun x => decide (x.rank ≤ e.rank)).foldl take (s.undoTick h)) e)
  else s.noted (f s) h e

/-- A fault cause reaches herd `h` (R298, R300), in its place on the tick (R299). A cause of the checks belongs to the ARM that
runs them, after the tick's other causes. -/
def State.herdFault (s : State) (h : Nat) (c : Cause) : State :=
  if c.ofCheck then s.herdFaulted h c
  else if s.herdState h = .unbound ∧ s.overtaken h 1 = false then s
  else s.meet h (.fault c false) fun s => s.herdFaulted h c

/-- SAFE reaches herd `h` (R298), in its place on the tick (R299). -/
def State.meetSafe (s : State) (h : Nat) (told : Bool) : State := s.meet h (.safe told) fun s => s.safeTaken h told

/-- Every herd that has legs on die `d` and on some other die faults with cause TICK (R43). -/
def State.faultSpanning (s : State) (d : Nat) : State :=
  forEach ((List.range (8 * s.dies)).filter fun h =>
      !(s.herdLegsOn d h).isEmpty && (s.herdLegs h).any fun p => decide (p.1 ≠ d))
    (fun s h => s.herdFault h .tick) s

end Sys2Proof.Machine
end

