-- ==== Sys2Proof/Machine/Acquire.lean ====
section
/-!
DEFINITION. Acquisition (R166 to R199): converters with their slots, triggers and urgent requests, churn, the data registers,
destinations, capture rings, window comparators, and the modulator inputs with their short-circuit path. Converter codes and
filter outputs come with the commands.
-/
namespace Sys2Proof.Machine

/-! ### Slots -/

/-- The window W of a WIN field (R173): 0 to 6 act as 7. -/
def windowOf (win : Nat) : Nat := max win 7 + 1
/-- The averaging count A of an AVG field (R173): 9 to 15 act as 8. -/
def averageOf (avg : Nat) : Nat := 2 ^ min avg 8
/-- The sampling phase of slot `k`, in converter clocks (R174). -/
def State.slotClocks (s : State) (d n k : Nat) : Nat :=
  windowOf (s.get F.SLOT_A_WIN d n k) + averageOf (s.get F.SLOT_A_AVG d n k) - 1
/-- The delay in ns from tick edge `k` to the next converter clock edge (R169). -/
def clockDelay (k : Nat) : Nat := (8 - 2 * (k % 4)) % 8

/-- The slot that follows slot `k` (R176): in the loop of CONT, in a run or after its end, in the background loop. -/
def State.slotAfter (s : State) (d n k : Nat) : Option Nat :=
  let len := s.get F.ADC_CFG_LEN d n
  if s.get F.ADC_CFG_MODE d n = 0 then some (if k < len then k + 1 else 0)
  else if (s.adc d n).inRun then
    if k < s.lastTriggered d n then some (k + 1)
    else if s.hasBackground d n then some (s.background d n (s.adc d n).bgSlot)
    else none
  else if s.hasBackground d n then some (s.background d n (k + 1))
  else none

/-- ADC_STAT.CUR_SLOT (R189): the slot in progress, which is the one after a slot whose result is still in the pipeline, or the last
one run. -/
def State.slotShown (s : State) (d n : Nat) : Nat :=
  match s.currentSlot d n with
  | none => s.get F.ADC_STAT_CUR_SLOT d n
  | some k => if (s.adc d n).slotEnd + (s.adc d n).gap ≤ s.tick d * 10 then (s.slotAfter d n k).getD k else k

/-- A trigger starts slot 0 of converter `n` (R177): a background or reference slot in progress is abandoned and is taken up again
after the run; results of slots sampled before that are still in the pipeline come first (R174). An urgent window in progress is
kept (DESIGN CHOICE, log entry 58). -/
def State.startRun (s : State) (d n : Nat) : State :=
  let A := s.adc d n
  let start := s.tick d * 10 + clockDelay (s.tick d)
  let last := s.lastTriggered d n
  let len := (List.range (last + 1)).foldl (fun a k => a + s.slotClocks d n k) 0
  let cur := (s.currentSlot d n).getD 0
  let done := s.sampled d n
  let bg := if A.inRun then A.bgSlot else if done then (s.slotAfter d n cur).getD cur else cur
  let late := if A.inRun then (List.range (last + 1 - cur)).map (cur + ·)
    else if s.hasBackground d n && done then [cur] else []
  (s.put F.ADC_STAT_CUR_SLOT 0 d n).modAdc d n fun A =>
    { A with runEnd := start + 8 * len, inRun := true, slotEnd := start + 8 * s.slotClocks d n 0, gap := 0,
             late := A.late ++ late, bgSlot := bg, reference := false }

/-- A trigger reaches converter `n` (R177, R178): ignored in CONT, lost in the sampling phases of a run; two triggers on one tick count
as one. -/
def State.trigger (s : State) (d n : Nat) : State :=
  let t := s.tick d
  let A := s.adc d n
  if !s.adcRuns d n || decide (s.get F.ADC_CFG_MODE d n = 0) || decide (s.get F.ADC_CFG_MODE d n = 3) || decide (A.trigAt = t + 1) then s
  else
    (if t * 10 < A.runEnd then (s.put F.ADC_STAT_TRIG_LOST 1 d n).incSat F.ADC_CNT_TRIG_LOST_CNT d n else s.startRun d n).modAdc d n
      fun A => { A with trigAt := t + 1 }

/-- The sequence of an enabled converter starts anew: at its enable, with a write of MODE, LEN or TLEN, and with the return of ANA or of
its clock (DESIGN CHOICE, log entry 58). -/
def State.adcRestart (s : State) (d n : Nat) : State :=
  let s := (s.put F.ADC_STAT_CUR_SLOT 0 d n).modAdc d n fun A =>
    { A with inRun := false, gap := 0, late := [], runEnd := 0, bgSlot := 0, urgent := [], reference := false }
  let stop := s.tick d * 10 + clockDelay (s.tick d) + 8 * s.slotClocks d n ((s.currentSlot d n).getD 0)
  s.modAdc d n fun A => { A with slotEnd := stop }

/-- The sequences of the enabled converters of die `d` start anew. -/
def State.adcsRestart (s : State) (d : Nat) : State :=
  forEach ((List.range 8).filter fun n => s.adcRuns d n) (fun s n => s.adcRestart d n) s

/-- ADC_CFG.EN of converter `n` has changed: the sequence starts anew. The first enable after an OFF of ANA sets CAL_PENDING and a churn
round is due (R171). -/
def State.adcSwitched (s : State) (d n : Nat) : State :=
  let s := s.adcRestart d n
  if !s.bit F.ADC_CFG_EN d n then s
  else
    let s := if (s.adc d n).anaOff then s.put F.ADC_STAT_CAL_PENDING 1 d n else s
    s.modAdc d n fun A => { A with churnLeft := if A.anaOff then 11 else A.churnLeft, anaOff := false }

/-- The slot whose result is next, and whether it was sampled before the present run. -/
def State.dueSlot (s : State) (d n : Nat) : Option (Nat × Bool) :=
  match (s.adc d n).late with
  | [] => (s.currentSlot d n).map fun k => (k, false)
  | k :: _ =>
    if s.adcRuns d n && decide (s.get F.ADC_CFG_MODE d n ≠ 0) then some (k, true) else (s.currentSlot d n).map fun k => (k, false)

/-- The result of slot `k` has come: the slot after it is due next (R176), its sampling starts where that of slot `k` ended, or later
by what has been put between (R180, R188); a run ends with its last slot. -/
def State.nextSlot (s : State) (d n k : Nat) : State :=
  let ends := decide (s.lastTriggered d n ≤ k)
  match s.slotAfter d n k with
  | some j =>
    let c := 8 * s.slotClocks d n j
    (s.put F.ADC_STAT_CUR_SLOT j d n).modAdc d n fun A =>
      { A with slotEnd := A.slotEnd + A.gap + c, gap := 0, inRun := A.inRun && !ends }
  | none => s.modAdc d n fun A => { A with gap := 0, inRun := A.inRun && !ends }

/-- A code limited to the converter's range (R167). -/
def limitCode (c : Int) : Int := min (max c (-8192)) 8191
/-- A code that was limited (R167). -/
def codeClips (c : Int) : Bool := decide (limitCode c ≠ c)
/-- The result of a slot of codes (R175): the sum of the limited codes times 2^(10 − AVG). -/
def slotValue (avg : Nat) (codes : List Int) : Word :=
  BitVec.ofInt 24 ((codes.map limitCode).sum * 2 ^ (10 - min avg 8))

/-! ### The self-check multiplexer -/

/-- The codes that converter `n` can read at the node selected by CMP_SCK (R209), presented as node − 0.9 V: of a threshold node, within
its accuracy; of the analog ground, which every other value of SEL names; within the 2 mV of the converter. The spec gives no voltage
of the AON reference on D0 (0x30): none. -/
def State.nodeCodes (s : State) (d n : Nat) : Option (Int × Int) × State :=
  let sel := s.get F.CMP_SCK_SEL d n
  let code := fun (lo hi : Int) => some ((lo - 902000) * 8192 / 1000000, -(-((hi - 898000) * 8192) / 1000000))
  if sel < 48 then
    let r := s.thrRange d sel
    (code (((r.1.1 : Int) * 1000 - s.thrScale.2) * 1800 / s.thrScale.1) (-(-(((r.1.2 : Int) * 1000 + s.thrScale.2) * 1800) / s.thrScale.1)), r.2)
  else if sel = 0x30 ∧ d = 0 then (none, s)
  else (code 0 0, s)

/-- The codes that a conversion of input `inp` takes (R173, R209): at the self-check multiplexer, those that its node can give. -/
def State.takenCodes (s : State) (d n inp : Nat) (codes : List Int) : List Int × State :=
  match (if 6 ≤ inp then s.nodeCodes d n else (none, s)) with
  | (some r, t) => (codes.map fun c => min (max c r.1) r.2, t)
  | (none, t) => (codes, t)

/-! ### Urgent requests -/

/-- An urgent request for converter `n` (R187): one is kept pending, a further one is counted. -/
def State.urgentRequest (s : State) (d n : Nat) : State :=
  if s.bit F.ADC_STAT_URG_PEND d n then s.incSat F.ADC_CNT2_URG_FULL_CNT d n else s.put F.ADC_STAT_URG_PEND 1 d n

/-- A pending urgent request starts its window (R188), unless one is in its sampling phase: what remains of the sequence or run shifts by
its own. -/
def State.urgentStart (s : State) (d n : Nat) : State :=
  let now := s.tick d * 10
  if s.bit F.ADC_STAT_URG_PEND d n && s.adcRuns d n && (s.adc d n).urgent.all (fun u => decide (u.stop ≤ now)) then
    let a := averageOf (s.get F.ADC_URG_AVG d n)
    let len := windowOf (s.get F.ADC_URG_WIN d n) + a - 1
    let u : UrgentRun := ⟨a, s.get F.ADC_URG_INP d n, now + clockDelay (s.tick d) + 8 * len⟩
    (s.put F.ADC_STAT_URG_PEND 0 d n).modAdc d n fun A =>
      { A with urgent := A.urgent ++ [u], runEnd := if now < A.runEnd then A.runEnd + 8 * len else A.runEnd, gap := A.gap + 8 * len }
  else s

/-- The oldest urgent result is ready (R188): of as many codes as its window took, it goes to ADC_UDATA and raises the urgent-done
source. A limited one sets ADC_STAT.CLIP (R189). -/
def State.urgentResult (s : State) (d n : Nat) (codes : List Int) : State :=
  match (s.adc d n).urgent with
  | [] => s
  | u :: us =>
    if u.count ≠ codes.length then s
    else
    let taken := s.takenCodes d n u.inp codes
    let codes := taken.1
    let s := taken.2
    let v := slotValue (Nat.log2 codes.length) codes
    let s := if codes.any codeClips then s.put F.ADC_STAT_CLIP 1 d n else s
    let s := ((s.put F.ADC_UDATA_NEW 1 d n).putB F.ADC_UDATA_CLIP (codes.any codeClips) d n).put F.ADC_UDATA_VALUE v.toNat d n
    (s.modAdc d n fun A => { A with urgent := us }).irqEdge d (144 + n)

/-! ### Window comparators -/

/-- The winding-short watch (R347): an exit of a watch comparator while the short is in force. -/
def State.windingTrip (s : State) (h c : Nat) : State :=
  let d := h / 8; let l := h % 8
  let w := s.get F.DRV_WSCFG_WC0 d l
  if s.bit F.DRV_STAT_WS_ACTIVE d l && decide (w ≤ c) && decide (c < w + s.get F.DRV_WSCFG_NWC d l) then
    let D := s.drv h
    let s := s.put F.DRV_STAT_WS_TRIP 1 d l
    (s.hwRecord d 0x0512 (some h) noLeg c D.wsCmd (s.tick d - D.wsAt)).herdFault h .prog
  else s

/-- The wake of a sleeping REGULATE herd (R329, R330): a sleep shorter than SLEEP_MIN µs ends burst mode. -/
def State.burstWakeNow (s : State) (h : Nat) : State :=
  if s.bit F.REG_STAT_ASLEEP (h / 8) (h % 8) then
    let short := decide (s.tick (h / 8) - (s.reg h).sleepAt < s.get F.REG_BURST_SLEEP_MIN (h / 8) (h % 8) * 100)
    let s := s.burstWake h
    if short then s.burstEnd h else s
  else s

/-- An exit of window comparator `c` of die `d` (R191): its event flag, its interrupt, its urgent request, and the herds of
the die that watch it (R329, R347). -/
def State.windowExit (s : State) (d c : Nat) (low : Bool) : State :=
  let s := if low then s.put F.WC_CFG_EVT_LOW 1 d c else s.put F.WC_CFG_EVT_HIGH 1 d c
  let s := if s.bit F.WC_CFG_IRQ d c then s.irqEdge d (32 + c) else s
  let s := if s.bit F.WC_CFG_URG d c then s.urgentRequest d (s.get F.WC_CFG_URG_CONV d c) else s
  forEach (List.range 8) (fun s l =>
    let s := s.windingTrip (d * 8 + l) c
    if low && decide (s.get F.REG_BURST_WC d l = c) then s.burstWakeNow (d * 8 + l) else s) s

/-- A new value of the source of window comparator `c` (R190, R191). -/
def State.windowValue (s : State) (d c : Nat) (v : Int) : State :=
  let lo := s.getI F.WC_LO_LO d c
  let hi := s.getI F.WC_HI_HI d c
  let hys := s.get F.WC_HYS_HYS d c
  let st := s.get F.WC_CFG_STATE d c
  if v < lo then (if st = 1 then s else (s.put F.WC_CFG_STATE 1 d c).windowExit d c true)
  else if hi < v then (if st = 2 then s else (s.put F.WC_CFG_STATE 2 d c).windowExit d c false)
  else if st ≠ 0 ∧ lo + hys ≤ v ∧ v ≤ hi - hys then s.put F.WC_CFG_STATE 0 d c
  else s

/-- The source that a selector of eight bits names (R56): bit 7 and bits 4 to 0 for a modulator input. -/
def sourceOf (v : Nat) : Nat := if 128 ≤ v then 128 + v % 32 else v

/-- The legs of die `d` whose high-side check awaits source `src` (R306): their herd is in that check, nothing is taken yet,
and the leg has had no edge for SETTLE ms. -/
def State.hssAwaits (s : State) (d src : Nat) : List (Nat × Nat) :=
  (List.range 24).filterMap fun n =>
    match s.legHerd d n with
    | some h =>
      if decide ((s.herd h).check = some 4) && s.bit F.LEG_HSS_EN d n && decide (sourceOf (s.get F.LEG_HSS_SRC d n) = src) &&
         (Store.find (s.herd h).hss (d * 24 + n)).isNone &&
         decide ((s.leg d n).lastEdge + s.get F.HSS_CFG_SETTLE (h / 8) (h % 8) * 6400000 ≤ s.tick d * 64)
      then some (h, n) else none
    | none => none

/-- A new value of channel selector `src` of die `d` (MT_SRC encoding): the window comparators that watch it (R190) and the
high-side checks that await it (R306). -/
def State.sourceValue (s : State) (d src : Nat) (v : Word) : State :=
  let s := (s.hssAwaits d src).foldl (fun s p =>
    s.modHerdRun p.1 fun H => { H with hss := Store.insert H.hss (d * 24 + p.2) v }) s
  forEach ((List.range 64).filter fun c => s.bit F.WC_CFG_EN d c && decide (sourceOf (s.get F.WC_CFG_SRC d c) = src))
    (fun s c => s.windowValue d c v.toInt) s

/-! ### Results -/

/-- A result goes to ADC_DATA (R181). -/
def State.dataRegister (s : State) (d n k : Nat) (v : Word) (clip : Bool) : State :=
  let s := if s.bit F.ADC_DATA_NEW d n then
      ((s.put F.ADC_DATA_OVR 1 d n).put F.ADC_STAT_OVR 1 d n).incSat F.ADC_CNT_OVR_CNT d n
    else s
  let s := (((s.put F.ADC_DATA_NEW 1 d n).put F.ADC_DATA_SLOT k d n).putB F.ADC_DATA_CLIP clip d n).put
    F.ADC_DATA_CAL_PENDING (s.get F.ADC_STAT_CAL_PENDING d n) d n
  let s := s.put F.ADC_DATA_VALUE v.toNat d n
  if clip then s.put F.ADC_STAT_CLIP 1 d n else s

/-- One word into the capture ring (R184, R185): a full tracked ring discards its oldest word; the index advances; the words
after a marker are counted down to FROZEN (R186). -/
def State.ringWrite (s : State) (d n : Nat) (v : Word) : State :=
  let i := s.get F.CAP_WIDX_IDX d n
  let s := if s.bit F.CAP_CFG_RDTRK d n && decide ((i + 1) % 8192 = s.get F.CAP_RD_RD d n) then
      ((s.put F.CAP_RD_RD (s.get F.CAP_RD_RD d n + 1) d n).put F.CAP_STAT_ROVR 1 d n).incSat F.CAP_STAT_ROVR_CNT d n
    else s
  let s := { s with capture := Store.set s.capture 0 (d * 65536 + n * 8192 + i) v }
  let s := s.put F.CAP_WIDX_IDX (i + 1) d n
  let s := if i = 8191 then s.incMod F.CAP_WIDX_WRAP d n else s
  match (s.adc d n).post with
  | some p =>
    if p ≤ 1 then (s.put F.CAP_STAT_FROZEN 1 d n).modAdc d n fun A => { A with post := none }
    else s.modAdc d n fun A => { A with post := some (p - 1) }
  | none => s

/-- A result of a slot with RING = 1 (R184): the first of every DEC + 1 is kept, while the ring runs. The count stands while it does not
run, and goes on through a write of CAP_CFG (DESIGN CHOICE, log entry 58). -/
def State.ringResult (s : State) (d n : Nat) (v : Word) : State :=
  if s.bit F.CAP_CFG_EN d n && !s.bit F.CAP_STAT_FROZEN d n then
    let k := (s.adc d n).dec
    let s := s.modAdc d n fun A => { A with dec := if k < s.get F.CAP_CFG_DEC d n then k + 1 else 0 }
    if k = 0 then s.ringWrite d n v else s
  else s

/-- A marker (R186): {CODE, IDX} joins the FIFO of eight; with STOPMK = 1 the count to FROZEN begins, which a
further marker does not start again (DESIGN CHOICE, log entry 58). -/
def State.mark (s : State) (d n code : Nat) : State :=
  let A := s.adc d n
  let full := decide (8 ≤ A.markers.length)
  let i := s.get F.CAP_WIDX_IDX d n
  let s := if full then s.incSat F.CAP_STAT_MK_LOST_CNT d n else s
  let s := s.modAdc d n fun A => { A with markers := (if full then A.markers.tail else A.markers) ++ [(code % 256, i)] }
  if s.bit F.CAP_CFG_STOPMK d n && !s.bit F.CAP_STAT_FROZEN d n && A.post.isNone then
    let p := s.get F.CAP_POST_POST d n
    if p = 0 then s.put F.CAP_STAT_FROZEN 1 d n else s.modAdc d n fun A => { A with post := some p }
  else s

/-- A hardware destination write of die `d` (R138): on this die at once, on another over the ring. -/
def State.hwDest (s : State) (d p : Nat) (v : Word) : State :=
  if pointDie p = d then s.hwPoint p v
  else if s.dies ≤ pointDie p then s
  else s.sendXfer d (pointDie p) .unit none (.write p v)

/-- A converter's destination write (R183): sixteen may be in flight over the ring; a further result for a point that waits
replaces the waiting value. -/
def State.adcDest (s : State) (d n p : Nat) (v : Word) : State :=
  let A := s.adc d n
  if pointDie p = d ∨ s.dies ≤ pointDie p then s.hwPoint p v
  else if A.destOut.length < 16 ∧ A.destWait.isEmpty then
    (s.modAdc d n fun A => { A with destOut := A.destOut ++ [s.nextXfer] }).sendXfer d (pointDie p) .unit none (.write p v)
  else if A.destWait.any fun w => decide (w.1 = p) then
    (s.modAdc d n fun A => { A with destWait := A.destWait.map fun w => if w.1 = p then (p, v) else w }).incSat
      F.ADC_CNT2_DEST_COAL_CNT d n
  else s.modAdc d n fun A => { A with destWait := A.destWait ++ [(p, v)] }

/-- The answer to a destination write frees its entry, and a write that waits goes out (R183). -/
def State.destAnswered (s : State) (d id : Nat) : State :=
  forEach (List.range 8) (fun s n =>
    if (s.adc d n).destOut.contains id then
      let s := s.modAdc d n fun A => { A with destOut := A.destOut.erase id }
      match (s.adc d n).destWait with
      | [] => s
      | (p, v) :: ws =>
        let s := s.modAdc d n fun A => { A with destOut := A.destOut ++ [s.nextXfer], destWait := ws }
        s.sendXfer d (pointDie p) .unit none (.write p v)
    else s) s

/-- A slot result is ready (R174, R181, R183, R184, R190): the codes are those of the slot in progress. -/
def State.slotResult (s : State) (d n : Nat) (codes : List Int) : State :=
  match s.dueSlot d n with
  | none => s
  | some (k, late) =>
    if codes.length ≠ averageOf (s.get F.SLOT_A_AVG d n k) then s
    else
      let taken := s.takenCodes d n (s.get F.SLOT_A_INP d n k) codes
      let codes := taken.1
      let s := taken.2
      let v := slotValue (s.get F.SLOT_A_AVG d n k) codes
      let s := (if late then s else s.put F.ADC_STAT_CUR_SLOT k d n).dataRegister d n k v (codes.any codeClips)
      let s := if s.bit F.SLOT_A_RING d n k then s.ringResult d n v else s
      let s := if s.bit F.SLOT_B_PT_EN d n k then s.adcDest d n (s.get F.SLOT_B_POINT d n k) v else s
      let s := if late then s.modAdc d n fun A => { A with late := A.late.tail } else s.nextSlot d n k
      s.sourceValue d (n * 16 + k) v

/-- A churn exchange (R170 to R172): the stage returns, the next goes out of service, a full round is counted, and the first
eleven exchanges after a start, whichever stage they begin with, end CAL_PENDING (DESIGN CHOICE, log entry 58). -/
def State.churn (s : State) (d n : Nat) (inRange : Bool) : State :=
  if !s.adcRuns d n then s
  else
    let k := s.get F.ADC_STAT_CHURN_STAGE d n
    let s := if inRange then s
      else (s.put F.ADC_STAT_CAL_FAULT 1 d n).hwRecord d 0x0201 none noLeg d n k
    let s := s.put F.ADC_STAT_CHURN_STAGE (if k < 10 then k + 1 else 0) d n
    let s := if k < 10 then s else s.incMod F.ADC_CHURN_ROUNDS d n
    let left := (s.adc d n).churnLeft
    let s := s.modAdc d n fun A => { A with churnLeft := left - 1 }
    if left = 1 then s.put F.ADC_STAT_CAL_PENDING 0 d n else s

/-! ### Modulator inputs -/

/-- Modulator input `m` of die `d`. -/
def State.modIn (s : State) (d m : Nat) : ModRun := Store.get s.mods ModRun.reset (d * 24 + m)
/-- Modulator input `m` of die `d` changed. -/
def State.modModIn (s : State) (d m : Nat) (f : ModRun → ModRun) : State :=
  { s with mods := Store.set s.mods ModRun.reset (d * 24 + m) (f (s.modIn d m)) }

/-- The input filters its bitstream: it and its clocks are enabled, and ANA is ON (R193, R490). -/
def State.modRuns (s : State) (d m : Nat) : Bool :=
  s.bit F.MOD_CFG_EN d m && s.bit F.MOD_CLK_EN d (s.get F.MOD_CFG_CLK d m) && s.domOn d domANA && s.clockOn d 3

/-- One bit of a bitstream through the integrators of a filter: each adds what the one before it holds now. -/
def integrate : List (BitVec 64) → BitVec 64 → List (BitVec 64)
  | [], _ => []
  | a :: as, x => (a + x) :: integrate as (a + x)

/-- One output through the differences of a filter: each takes what came at the output before. -/
def differences : List (BitVec 64) → BitVec 64 → List (BitVec 64) × BitVec 64
  | [], x => ([], x)
  | c :: cs, x => (x :: (differences cs (x - c)).1, (differences cs (x - c)).2)

/-- A sinc filter of order `N` takes the bits of one output, a 1 as +1 and a 0 as −1 (R193), and gives its raw sum. A filter of another
order starts from nothing. -/
def Sinc.take (S : Sinc) (N : Nat) (bits : List Bool) : Sinc × Int :=
  let S : Sinc := if S.acc.length = N ∧ S.comb.length = N then S else ⟨List.replicate N 0, List.replicate N 0⟩
  let acc := bits.foldl (fun a b => integrate a (if b then 1 else -1)) S.acc
  let r := differences S.comb (acc.getLastD 0)
  (⟨acc, r.1⟩, r.2.toInt)

/-- Q1.23 of a raw sum of a filter of full scale 2^e: rounded half away from zero and saturated (R194). -/
def scaleRaw (e : Nat) (raw : Int) : Int :=
  let v := if e ≤ 23 then raw * 2 ^ (23 - e)
           else (if raw < 0 then -1 else 1) * ((2 * raw.natAbs + 2 ^ (e - 23)) / (2 * 2 ^ (e - 23)) : Nat)
  min (max v (-8388608)) 8388607

/-- The order N of the main filter (R194). -/
def State.mainOrder (s : State) (d m : Nat) : Nat := s.get F.MOD_CFG_ORD d m + 3

/-- The main path of input `m` takes the `bits` of one output (R194): the filter, and the scaled output. -/
def State.mainFilter (s : State) (d m : Nat) (bits : List Bool) : Sinc × Word :=
  let r := (s.modIn d m).main.take (s.mainOrder d m) bits
  (r.1, BitVec.ofInt 24 (scaleRaw (s.mainOrder d m * (s.get F.MOD_CFG_OSR d m + 4)) r.2))

/-- The short-circuit path of input `m` takes the `bits` of one output (R197). -/
def State.shortFilter (s : State) (d m : Nat) (bits : List Bool) : Sinc × Int :=
  let N := s.get F.MOD_CFG_SC_ORD d m + 1
  let r := (s.modIn d m).short.take N bits
  (r.1, scaleRaw (N * (s.get F.MOD_CFG_SC_OSR d m + 3)) r.2)

/-- A main output completes (R194) with the R bits that the input has taken since the last one, each on a rising edge of its MCLK
delayed by DLY × 5 ns (R193). What metrology takes from it comes with METER_SAMPLE. -/
def State.modOutput (s : State) (d m : Nat) (bits : List Bool) : State :=
  if !s.modRuns d m || !decide (bits.length = 2 ^ (s.get F.MOD_CFG_OSR d m + 4)) then s
  else
    let N := s.mainOrder d m
    let r := s.mainFilter d m bits
    let v := r.2
    let k := (s.modIn d m).outs + 1
    let t := s.tick d
    let s := s.modModIn d m fun M => { M with main := r.1, outs := min k N, lastTick := t, last := v, total := M.total + 1, hist := (v :: M.hist).take 8 }
    let s := if N ≤ k then (s.put F.MOD_DATA_VALID 1 d m).put F.MOD_DATA_VALUE v.toNat d m else s
    let s := if s.bit F.MOD_CFG_PT_EN d m then s.hwDest d (s.get F.MOD_PT_POINT d m) v else s
    s.sourceValue d (128 + m) v

/-- A short-circuit output completes (R197) with the bits taken since the last one: it arms the path after N_sc outputs; above THR it
trips the leg of its number. -/
def State.scOutput (s : State) (d m : Nat) (bits : List Bool) : State :=
  if !s.modRuns d m || !s.bit F.MOD_CFG_SC_EN d m || !decide (bits.length = 2 ^ (s.get F.MOD_CFG_SC_OSR d m + 3)) then s
  else
    let N := s.get F.MOD_CFG_SC_ORD d m + 1
    let r := s.shortFilter d m bits
    let v := r.2
    let k := (s.modIn d m).scOuts + 1
    let s := s.modModIn d m fun M => { M with short := r.1, scOuts := min k N }
    if k < N then s
    else
      let s := s.put F.MOD_STAT_SC_ARMED 1 d m
      let thr := s.get F.MOD_SC_THR d m
      if thr ≠ 0 ∧ thr < v.natAbs then
        ((s.put F.MOD_STAT_SC_HIT 1 d m).incSat F.MOD_STAT_SC_CNT d m).legTrip d m 1
      else s

/-- A bitstream holds one value for 128 clocks (R198). -/
def State.modStuck (s : State) (d m : Nat) : State :=
  if s.modRuns d m then (s.put F.MOD_STAT_STUCK 1 d m).syncLine d (152 + m) else s

/-- The latch of modulator input `m` at a sample-group trigger (R196): the last completed output and its age in modulator
clocks. -/
def State.modLatch (s : State) (d m : Nat) : State :=
  let M := s.modIn d m
  let age := (s.tick d - M.lastTick) / (s.get F.MOD_CLK_DIV d (s.get F.MOD_CFG_CLK d m) + 1)
  (s.put F.MOD_LAT_VALUE M.last.toNat d m).put F.MOD_LAT_AGE (min age 255) d m

/-- A SAMPLE action triggers group `g` (R178). -/
def State.sampleGroup (s : State) (d g : Nat) : State :=
  let s := forEach ((List.range 8).filter fun n => s.getBit F.SG_CONV_CONV n d g) (fun s n => s.trigger d n) s
  forEach ((List.range 24).filter fun m => s.getBit F.SG_MOD_MOD m d g) (fun s m => s.modLatch d m) s

/-! ### Meanings -/

/-- SLOT_RESULT (R181). A slot result becomes ready and goes to ADC_DATA, the capture ring, its point destination and
window comparators. -/
def execSlotResult (d : Nat) (n : Nat) (codes : List Int) (s : State) : Host.Outcome State Fault Refusal :=
  guarded (decide (d < s.dies) && decide (n < 8)) s <|
    s.slotResult d n codes


/-- CHURN_ROTATE (R170). After 4,096 conversions the out-of-service stage returns and the next is calibrated, ending
CAL_PENDING after a round. -/
def execChurnRotate (d : Nat) (n : Nat) (inRange : Bool) (s : State) : Host.Outcome State Fault Refusal :=
  guarded (decide (d < s.dies) && decide (n < 8)) s <|
    s.churn d n inRange


/-- URGENT_START (R188). A pending urgent request starts its window when the converter is idle or its current slot's
sampling ends. -/
def execUrgentStart (d : Nat) (n : Nat) (s : State) : Host.Outcome State Fault Refusal :=
  guarded (decide (d < s.dies) && decide (n < 8)) s <|
    s.urgentStart d n


/-- URGENT_RESULT (R188). The urgent result goes to ADC_UDATA and raises the urgent-done source. -/
def execUrgentResult (d : Nat) (n : Nat) (codes : List Int) (s : State) : Host.Outcome State Fault Refusal :=
  guarded (decide (d < s.dies) && decide (n < 8)) s <|
    s.urgentResult d n codes


/-- MOD_OUTPUT (R194). A modulator main filter completes an output, written to MOD_DATA, MOD_PT, metrology,
comparators and trackers. -/
def execModOutput (d : Nat) (m : Nat) (bits : List Bool) (s : State) : Host.Outcome State Fault Refusal :=
  guarded (decide (d < s.dies) && decide (m < 24)) s <|
    s.modOutput d m bits


/-- MOD_SC_OUTPUT (R197). A short-circuit filter output is compared with THR and arms the path after N_sc outputs. -/
def execModScOutput (d : Nat) (m : Nat) (bits : List Bool) (s : State) : Host.Outcome State Fault Refusal :=
  guarded (decide (d < s.dies) && decide (m < 24)) s <|
    s.scOutput d m bits


/-- MOD_STUCK (R198). A bitstream holding one value for 128 clocks sets STUCK and raises the stuck source. -/
def execModStuck (d : Nat) (m : Nat) (s : State) : Host.Outcome State Fault Refusal :=
  guarded (decide (d < s.dies) && decide (m < 24)) s <|
    s.modStuck d m


/-- The word that a read answered, for the requester. -/
def State.answerWord (s : State) (v : Nat) : State := { s with answer := [BitVec.ofNat 32 v] }

/-- The word of ADC_DATA (R181). -/
def State.adcDataWord (s : State) (d n : Nat) : Nat :=
  s.get F.ADC_DATA_NEW d n * 2 ^ 31 + s.get F.ADC_DATA_OVR d n * 2 ^ 30 + s.get F.ADC_DATA_CAL_PENDING d n * 2 ^ 29 +
  s.get F.ADC_DATA_CLIP d n * 2 ^ 28 + s.get F.ADC_DATA_SLOT d n * 2 ^ 24 + s.get F.ADC_DATA_VALUE d n

/-- The side effect of a read of ADC_DATA (R182). -/
def State.adcDataTaken (s : State) (d n : Nat) : State := (s.put F.ADC_DATA_NEW 0 d n).put F.ADC_DATA_OVR 0 d n


/-- The word of CAP_MK: the oldest marker (R186). -/
def State.capMkWord (s : State) (d n : Nat) : Nat :=
  match (s.adc d n).markers with
  | [] => 0
  | (c, i) :: _ => 2 ^ 31 + c * 2 ^ 16 + i

/-- The side effect of a read of CAP_MK: the oldest marker leaves (R186). -/
def State.capMkTaken (s : State) (d n : Nat) : State := s.modAdc d n fun A => { A with markers := A.markers.tail }


/-- A word of a capture ring (R184). -/
def State.captureWord (s : State) (d n i : Nat) : Word := Store.get s.capture 0 (d * 65536 + n * 8192 + i % 8192)

/-- The side effect of a read of CAP_DATA: PTR advances (R184). -/
def State.capDataTaken (s : State) (d n : Nat) : State := s.put F.CAP_PTR_PTR (s.get F.CAP_PTR_PTR d n + 1) d n


/-- FROZEN cleared (R186): the ring runs on from its index. -/
def State.unfreezeRing (s : State) (d n : Nat) : State := s.put F.CAP_STAT_FROZEN 0 d n



end Sys2Proof.Machine
end

