-- ==== Sys2Proof/Machine/Flags.lean ====
section
/-!
DEFINITION. Exact arithmetic, its rounding and saturation, and the sticky flags that each operation raises (R68 to R73, R109
to R117, R122, R124, R127). Values are computed in integers and narrowed at the end; a flag result is a mask of STK [6:0].
-/
namespace Sys2Proof.Machine

/-- SAT_ADD in STK (R72). -/
def flagAdd : Nat := 1
/-- SAT_MUL in STK. -/
def flagMul : Nat := 2
/-- SAT_ACC in STK. -/
def flagAcc : Nat := 4
/-- SAT_SHIFT in STK. -/
def flagShift : Nat := 8
/-- SAT_CVT in STK. -/
def flagCvt : Nat := 16
/-- DIV0 in STK. -/
def flagDiv0 : Nat := 32
/-- LEASH in STK. -/
def flagLeash : Nat := 64

/-- `v` limited to [`lo`, `hi`], the lower limit first. -/
def clampInt (v lo hi : Int) : Int := min (max v lo) hi
/-- An integer saturated to 24 bits (R68). -/
def sat24 (v : Int) : Int := min (max v (-8388608)) 8388607
/-- An integer saturated to 56 bits (R69). -/
def sat56 (v : Int) : Int := min (max v (-(2 ^ 55))) (2 ^ 55 - 1)

/-- A 24-bit result: saturated, with flag `f` where the limit was passed. -/
def narrow24 (f : Nat) (v : Int) : Word × Nat := (BitVec.ofInt 24 (sat24 v), if sat24 v = v then 0 else f)
/-- An accumulator result: saturated, with SAT_ACC where the limit was passed. -/
def narrow56 (v : Int) : Acc × Nat := (BitVec.ofInt 56 (sat56 v), if sat56 v = v then 0 else flagAcc)

/-- `n / d` rounded to nearest, ties away from zero (R70, R114). -/
def roundAway (n : Int) (d : Nat) : Int :=
  if 0 ≤ n then (2 * n + d) / (2 * d) else -((2 * -n + d) / (2 * d))

/-- The Q1.23 view of an accumulator value scaled by 2^`sh` (R70, R115, R122). -/
def viewQ23 (a : Int) (sh : Nat) : Word × Nat := narrow24 flagCvt (roundAway (a * 2 ^ sh) (2 ^ 23))
/-- The Q8.16 view of an accumulator value scaled by 2^`sh` (R115, R122). -/
def viewQ16 (a : Int) (sh : Nat) : Word × Nat := narrow24 flagCvt (roundAway (a * 2 ^ sh) (2 ^ 16))

/-! ### Saturating ALU (R112) -/

/-- ADD. -/
def aluAdd (a b : Word) : Word × Nat := narrow24 flagAdd (a.toInt + b.toInt)
/-- SUB. -/
def aluSub (a b : Word) : Word × Nat := narrow24 flagAdd (a.toInt - b.toInt)
/-- NEG. -/
def aluNeg (a : Word) : Word × Nat := narrow24 flagAdd (-a.toInt)
/-- ABS. -/
def aluAbs (a : Word) : Word × Nat := narrow24 flagAdd (a.toInt.natAbs : Int)
/-- MIN, signed. -/
def aluMin (a b : Word) : Word × Nat := (if a.toInt ≤ b.toInt then a else b, 0)
/-- MAX, signed. -/
def aluMax (a b : Word) : Word × Nat := (if a.toInt ≤ b.toInt then b else a, 0)
/-- CLAMP of `c` between `a` and `b`: SAT_ADD when the result differs. -/
def aluClamp (c a b : Word) : Word × Nat :=
  let r := clampInt c.toInt a.toInt b.toInt
  (BitVec.ofInt 24 r, if r = c.toInt then 0 else flagAdd)

/-! ### Shifts (R113) -/

/-- SHL. -/
def shiftLeftSat (a : Word) (n : Nat) : Word × Nat := narrow24 flagShift (a.toInt * 2 ^ n)
/-- SHR: arithmetic, towards −∞. -/
def shiftRight (a : Word) (n : Nat) : Word × Nat := (BitVec.ofInt 24 (a.toInt / 2 ^ n), 0)
/-- SHRR: to nearest, ties upwards; n = 0 as MOV. -/
def shiftRightRound (a : Word) (n : Nat) : Word × Nat :=
  (if n = 0 then a else BitVec.ofInt 24 ((a.toInt + 2 ^ (n - 1)) / 2 ^ n), 0)
/-- LSR. -/
def shiftRightLogical (a : Word) (n : Nat) : Word × Nat := (a >>> n, 0)
/-- LSL. -/
def shiftLeftLogical (a : Word) (n : Nat) : Word × Nat := (a <<< n, 0)
/-- NORM: the number of bits below bit 23 that equal it, counted down to the first that differs. -/
def normCount (a : Word) : Word × Nat :=
  (BitVec.ofNat 24 (((List.range 23).map fun k => a.getLsbD (22 - k)).takeWhile fun b => b == a.getLsbD 23).length, 0)

/-! ### Multiply, divide and accumulators (R114, R115) -/

/-- MUL: Q1.23 × Q1.23. -/
def mulQ23 (a b : Int) : Int := roundAway (a * b) (2 ^ 23)
/-- MUL. -/
def aluMul (a b : Word) : Word × Nat := narrow24 flagMul (mulQ23 a.toInt b.toInt)
/-- MULQ8: Q8.16 × Q8.16. -/
def aluMulQ8 (a b : Word) : Word × Nat := narrow24 flagMul (roundAway (a.toInt * b.toInt) (2 ^ 16))
/-- An accumulator plus a product. -/
def accMac (a : Acc) (x y : Word) : Acc × Nat := narrow56 (a.toInt + x.toInt * y.toInt)
/-- An accumulator minus a product. -/
def accMsu (a : Acc) (x y : Word) : Acc × Nat := narrow56 (a.toInt - x.toInt * y.toInt)
/-- DIV. -/
def aluDiv (a b : Word) : Word × Nat :=
  if b = 0 then (if a = 0 then 0 else if 0 < a.toInt then 0x7FFFFF else 0x800000, flagDiv0)
  else
    let n := a.toInt * 2 ^ 23
    narrow24 flagCvt (if b.toInt < 0 then roundAway (-n) b.toInt.natAbs else roundAway n b.toInt.natAbs)

/-- The condition flags CN, CZ and CU of a compare, in their places in STK (R72, R117). -/
def compareFlags (a b : Word) : Nat :=
  (if a.toInt < b.toInt then 256 else 0) + (if a = b then 512 else 0) + (if a.toNat < b.toNat then 1024 else 0)

/-- STK with its condition flags replaced. -/
def stkWithConds (stk : Word) (c : Nat) : Word := BitVec.ofNat 24 (stk.toNat % 128 + c)
/-- STK with sticky flags raised (R72). -/
def stkRaise (stk : Word) (m : Nat) : Word := stk ||| BitVec.ofNat 24 (m % 128)
/-- A write of `v` to STK (R73): condition flags replaced, sticky flags ORed. -/
def stkWrite (stk v : Word) : Word := BitVec.ofNat 24 ((stk.toNat % 128 ||| v.toNat % 128) + v.toNat / 256 % 8 * 256)

/-- A branch condition below 13 holds (R118), with `ra` as the value read. -/
def branchHolds (cond : Nat) (stk ra : Word) : Bool :=
  let cn := stk.getLsbD 8
  let cz := stk.getLsbD 9
  let cu := stk.getLsbD 10
  match cond with
  | 0 => true | 1 => cz | 2 => !cz | 3 => cn | 4 => !cn | 5 => cn || cz | 6 => !cn && !cz | 7 => cu | 8 => !cu
  | 9 => ra == 0 | 10 => ra != 0 | 11 => ra.getLsbD 23 | 12 => !ra.getLsbD 23
  | 13 => (stk &&& ra).toNat % 128 != 0 | 14 => (stk &&& ra).toNat % 128 == 0 | _ => false

/-! ### Long instructions (R122, R124) -/

/-- The exact sum of products of two lists of words. -/
def dot (xs ys : List Word) : Int := ((xs.zip ys).map fun p => p.1.toInt * p.2.toInt).sum

/-- One row of MVM and MVA: the aligned addend (0 for MVM), the exact sum, NEG, the view. -/
def matrixRow (fmt neg : Bool) (osh : Nat) (addend : Int) (t : Int) : Word × Nat :=
  let a := addend * (if fmt then 2 ^ 16 else 2 ^ 23)
  let r := narrow56 (if neg then a - t else a + t)
  let v := if fmt then viewQ16 r.1.toInt osh else viewQ23 r.1.toInt osh
  (v.1, r.2 ||| v.2)

/-! ### Transforms (R127) -/

/-- π/2 × 2⁶⁴. -/
def halfPi64 : Nat := 28976077832308491369

/-- A factor 1 − x² acc / n of a Taylor series in Horner form, in 2⁻⁶⁴. -/
def taylorStep (x2 : Int) (acc : Int) (n : Nat) : Int := 2 ^ 64 - x2 * acc / 2 ^ 64 / n

/-- sin of `r` / 2³⁰ quarter turns, 0 ≤ r ≤ 2³⁰, in 2⁻⁶⁴: exactly 1 of a whole one. -/
def sinQuarter (r : Nat) : Int :=
  if r = 2 ^ 30 then 2 ^ 64 else
  let x : Int := (r * halfPi64 / 2 ^ 30 : Nat)
  let x2 := x * x / 2 ^ 64
  x * ([23 * 22, 21 * 20, 19 * 18, 17 * 16, 15 * 14, 13 * 12, 11 * 10, 9 * 8, 7 * 6, 5 * 4, 3 * 2].foldl (taylorStep x2) (2 ^ 64)) /
    2 ^ 64

/-- cos of `r` / 2³⁰ quarter turns, 0 ≤ r ≤ 2³⁰, in 2⁻⁶⁴. -/
def cosQuarter (r : Nat) : Int := sinQuarter (2 ^ 30 - r)

/-- sin of a 32-bit angle, in 2⁻⁶⁴. -/
def sinTurn (a : BitVec 32) : Int :=
  let r := a.toNat % 2 ^ 30
  match a.toNat / 2 ^ 30 with
  | 0 => sinQuarter r | 1 => cosQuarter r | 2 => -sinQuarter r | _ => -cosQuarter r

/-- cos of a 32-bit angle, in 2⁻⁶⁴. -/
def cosTurn (a : BitVec 32) : Int := sinTurn (a + 0x40000000)

/-- The integers within `tol` of `e` × 2⁻⁶⁴, least first: the least one and how many there are. -/
def within (e : Int) (tol : Nat) : Int × Nat :=
  let lo := -((tol * 2 ^ 64 - e) / 2 ^ 64)
  let hi := (e + tol * 2 ^ 64) / 2 ^ 64
  (lo, (hi - lo + 1).toNat)

/-- The integer square root, bit by bit. -/
def isqrt (m : Nat) : Nat :=
  ((List.range 28).map fun k => 2 ^ (27 - k)).foldl (fun r b => if (r + b) * (r + b) ≤ m then r + b else r) 0

/-- The non-negative integers within 1 of √`m`: the least and how many there are. -/
def withinRoot (m : Nat) : Int × Nat :=
  let r := isqrt m
  if r * r = m then ((r - 1 : Nat), if r = 0 then 2 else 3) else (r, 2)

/-- The angle of (`x`, `y`), both non-negative and not both 0, in 2⁻³² turn, rounded down: bit by bit. -/
def atanQuarter (x y : Nat) : Nat :=
  if x = 0 then 2 ^ 30
  else ((List.range 31).map fun k => 2 ^ (30 - k)).foldl (fun a b =>
    if a + b ≤ 2 ^ 30 ∧ sinQuarter (a + b) * x ≤ cosQuarter (a + b) * y then a + b else a) 0

/-- The angle of the vector (`x`, `y`) where its first-quadrant image has angle `a` (R127). -/
def quadrant (x y a : Int) : Int :=
  if 0 ≤ x then (if 0 ≤ y then a else -a) else if 0 ≤ y then 2 ^ 31 - a else 2 ^ 31 + a

/-- 1/√3 × 2⁶⁴. -/
def invSqrt3 : Int := 10650232656628343401

end Sys2Proof.Machine
end

