-- ==== Sys2Proof/Machine/Compare.lean ====
section
/-!
DEFINITION. Trip comparators (R200 to R209) and reference supervision (R212 to R217), with the billing validity that hangs on
it (R410, R412). The level of a comparator's input comes with the events; inside the stated accuracy of a threshold, and while
it settles, the outcome of a comparison is a free value (log entry 21).
-/
namespace Sys2Proof.Machine

/-- A free bit: its value and the state with the draw counted (log entry 2). -/
def State.freeBit (s : State) : Bool × State := (decide (Config.freeNat s.fresh % 2 = 1), s.nextFresh)

/-- A quotient whose rounding the spec leaves open: the floor, or one more where it is not exact. -/
def State.freeRound (s : State) (num : Int) (den : Nat) : Int × State :=
  if num % den = 0 then (num / den, s)
  else (num / den + (if s.freeBit.1 then 1 else 0), s.freeBit.2)

/-- A quotient rounded to the nearest integer where the spec does not say which way a tie goes: of a tie, either neighbour. -/
def State.nearest (s : State) (num : Int) (den : Nat) : Int × State :=
  let r := 2 * (num % den)
  if r < den then (num / den, s)
  else if (den : Int) < r then (num / den + 1, s)
  else (num / den + (if s.freeBit.1 then 1 else 0), s.freeBit.2)

/-! ### Billing validity -/

/-- The condition REF_OK of R410. -/
def State.refOk (s : State) (d : Nat) : Bool :=
  let R := Store.get s.refs RefRun.reset d
  R.formed && !s.bit F.REF_STAT_SUSPECT d && (!s.bit F.REF_STAT_BILL_LOST d || s.bit F.REF_STAT_USING d || R.ignoreD)

/-- The condition CHURN_OK of R410. -/
def State.churnOk (s : State) (d : Nat) : Bool := !s.bit F.ADC_STAT_CAL_PENDING d (s.get F.ADC_REF_CONV d)

/-- The condition CH_OK of R410. -/
def State.chOk (s : State) (d u : Nat) : Bool :=
  (List.range 8).all fun c =>
    !s.getBit F.MU_CFG_CH_EN c d u ||
    (let m := s.get F.MC_SRC_MOD d u c; s.bit F.MOD_DATA_VALID d m && !s.bit F.MOD_STAT_STUCK d m)

/-- Metrology unit `u` of die `d`. -/
def State.meter (s : State) (d u : Nat) : MeterRun := Store.get s.meters MeterRun.reset (d * 2 + u)
/-- Metrology unit `u` of die `d` changed. -/
def State.modMeter (s : State) (d u : Nat) (f : MeterRun → MeterRun) : State :=
  { s with meters := Store.set s.meters MeterRun.reset (d * 2 + u) (f (s.meter d u)) }

/-- The ticks up to now that unit `u` has been enabled and not valid and that MU_INVAL does not show yet (R412). -/
def State.invalidTicks (s : State) (d u : Nat) : Nat :=
  let M := s.meter d u
  if s.bit F.MU_STAT_VALID_BILL d u then M.inval else M.inval + (s.tick d - M.sampleAt)

/-- MU_INVAL of an enabled unit (R412): whole seconds. -/
def State.invalidSecs (s : State) (d u : Nat) : Nat :=
  min (s.get F.MU_INVAL_SECS d u + s.invalidTicks d u / 100000000) (2 ^ 32 - 1)

/-- The invalid time of an enabled unit counted up to now. -/
def State.countInvalid (s : State) (d u : Nat) : State :=
  let t := s.tick d
  let x := s.invalidTicks d u
  (s.put F.MU_INVAL_SECS (s.invalidSecs d u) d u).modMeter d u fun M => { M with inval := x % 100000000, sampleAt := t }

/-- VALID_BILL and its conditions evaluated (R410, R412): a fall sets BILL_LOSS and is recorded, a rise is recorded. -/
def State.syncValid (s : State) (d u : Nat) : State :=
  let en := s.bit F.MU_CFG_EN d u
  let s := if en then s.countInvalid d u else s
  let a := s.refOk d
  let b := s.churnOk d
  let c := s.bit F.MU_STAT_CAL_OK d u
  let e := s.chOk d u
  let was := s.bit F.MU_STAT_VALID_BILL d u
  let v := en && a && b && c && e
  let bits := (if en then 16 else 0) + (if a then 8 else 0) + (if b then 4 else 0) + (if c then 2 else 0) + (if e then 1 else 0)
  let s := ((s.putB F.MU_STAT_REF_OK a d u).putB F.MU_STAT_CHURN_OK b d u).putB F.MU_STAT_CH_OK e d u
  let s := s.putB F.MU_STAT_VALID_BILL v d u
  if was && !v then
    ((s.put F.MU_STAT_BILL_LOSS 1 d u).modMeter d u fun M => { M with billHeld := false }).hwRecord d 0x0602 none noLeg bits u 0
  else if !was && v then s.hwRecord d 0x0603 none noLeg bits u 0
  else s

/-! ### Comparators -/

/-- The leg to which comparator `n` is tied, if any (R202). -/
def State.tiedLeg (s : State) (d n : Nat) : Option Nat :=
  if s.get F.CMP_CFG_LEG d n < 24 then some (s.get F.CMP_CFG_LEG d n) else none

/-- The comparator runs: enabled, ANA ON. -/
def State.cmpRuns (s : State) (d n : Nat) : Bool := s.bit F.CMP_CFG_EN d n && s.domOn d domANA

/-- The comparator is blanked at position `p`: BLANK × 2.5 ns since an edge of the tied leg have not passed (R203). -/
def State.cmpBlanked (s : State) (d n p : Nat) : Bool :=
  match s.tiedLeg d n with
  | some l =>
    let b := min (s.get F.CMP_BLK_BLANK d n) 400
    (s.leg d l).edgeLog.any fun e => decide (e ≤ p) && decide (p < e + b * 16)
  | none => false

/-- Whether level `y` lies above a threshold between `lo` and `hi`: a free value inside the range. -/
def State.above (s : State) (y lo hi : Int) : Bool × State :=
  if hi < y then (true, s) else if y ≤ lo then (false, s) else s.freeBit

/-- The hysteresis of CMP_CFG.HYS in mV (R217). -/
def hysOf : Nat → Int
  | 0 => 0 | 1 => 5 | 2 => 10 | _ => 20

/-- The output of comparator `n` as its input stands at `level` µV (R200, R201, R207, R208): a monitor compares V_diff + 0.9 V. An
output that is active returns to inactive only HYS back past the threshold. Everything is scaled by 1,000 times the steps
of the threshold; its accuracy is 3 codes, or 0.2 % of the ladder. -/
def State.cmpOut (s : State) (d n : Nat) (level : Int) : Bool × State :=
  let steps := s.thrScale.1
  let tol := s.thrScale.2
  let r := (s.thrRange d n).1
  let s := (s.thrRange d n).2
  let lo := ((r.1 : Int) * 1000 - tol) * 1800000
  let hi := ((r.2 : Int) * 1000 + tol) * 1800000
  let x := (level + (if n < 24 then 0 else 900000)) * steps * 1000
  let back := if s.bit F.CMP_STAT_RAW d n then hysOf (s.get F.CMP_CFG_HYS d n) * 1000 * steps * 1000 else 0
  if s.bit F.CMP_CFG_POL d n then s.above (-x) (-hi - back) (-lo - back) else s.above x (lo - back) (hi - back)

/-- CBC_HOLD of leg `l`: some comparator tied to it with CBC = 1 is latched (R240). -/
def State.cbcHeld (s : State) (d l : Nat) : Bool :=
  (List.range 48).any fun n =>
    s.bit F.CMP_STAT_LATCH d n && s.bit F.CMP_CFG_CBC d n && decide (s.tiedLeg d n = some l)

/-- The CBC action on leg `l` (R240), by an event at position `p`: C is held low while a latch stays; afterwards it waits for its next
rising edge. -/
def State.syncCbc (s : State) (d l p : Nat) : State :=
  let held := s.cbcHeld d l
  let was := s.bit F.LEG_STAT_CBC_HOLD d l
  if held = was then s
  else
    let s := (s.putB F.LEG_STAT_CBC_HOLD held d l).modLeg d l fun L => { L with cbcWait := L.car }
    s.takeOverAt d l (s.clockAfter d l p)

/-- The rising edge of LATCH at position `p` starts the enabled actions (R206). -/
def State.cmpActions (s : State) (d n p : Nat) : State :=
  let s := match s.tiedLeg d n with
    | some l =>
      let s := if s.bit F.CMP_CFG_TRIP d n then s.legTripAt d l 0 (s.clockAfter d l p) else s
      s.syncCbc d l p
    | none => s
  let s := if s.bit F.CMP_CFG_URG d n then s.urgentRequest d (s.get F.CMP_CFG_URG_CONV d n) else s
  s.syncLine d (96 + n)

/-- An active output latches at position `p` (R204): LATCH sets, CNT counts, the actions start. A latch that is set stays so. -/
def State.cmpLatch (s : State) (d n p : Nat) : State :=
  if s.bit F.CMP_STAT_LATCH d n then s
  else ((s.put F.CMP_STAT_LATCH 1 d n).incSat F.CMP_STAT_CNT d n).cmpActions d n p

/-- A clear of LATCH at position `p` (R204, R205): while the output is active and not blanked then, LATCH stays set. CNT does not count
again, and no action starts again: nothing has risen (DESIGN CHOICE, log entry 21). -/
def State.clearLatch (s : State) (d n p : Nat) : State :=
  if !s.bit F.CMP_STAT_LATCH d n then s
  else
    if s.cmpRuns d n && s.bit F.CMP_STAT_RAW d n && !s.cmpBlanked d n p then s
    else
      let s := s.put F.CMP_STAT_LATCH 0 d n
      let s := match s.tiedLeg d n with | some l => s.syncCbc d l p | none => s
      s.syncLine d (96 + n)

/-- The latches of LMODE = 1 that clear at a boundary of leg `l`, reached at position `p` (R204, R222): of comparators tied to it, where the leg is
bound to a herd. -/
def State.boundaryLatches (s : State) (d l p : Nat) : State :=
  if (s.legHerd d l).isNone then s
  else forEach ((List.range 48).filter fun n => s.bit F.CMP_CFG_LMODE d n && decide (s.tiedLeg d n = some l))
    (fun s n => s.clearLatch d n p) s

/-- The input of comparator `n` stands at `level` µV, at position `p` (R200 to R204): a monitor sees the converter input that
CMP_CFG.INP selects, and no other. An active output that is not blanked latches. -/
def State.cmpLevel (s : State) (d n inp : Nat) (level : Int) (p : Nat) : State :=
  if !s.cmpRuns d n || (decide (24 ≤ n) && !decide (s.get F.CMP_CFG_INP d n = inp)) then s
  else
    let r := s.cmpOut d n level
    let s := r.2.putB F.CMP_STAT_RAW r.1 d n
    if r.1 && !s.cmpBlanked d n p then s.cmpLatch d n p else s

/-- The end of a blanking time at position `p` (R203): an output that is still active latches. -/
def State.blankingEnd (s : State) (d n p : Nat) : State :=
  if s.cmpRuns d n && s.bit F.CMP_STAT_RAW d n && !s.cmpBlanked d n p then s.cmpLatch d n p else s

/-- COMPARATOR_LATCH (R204). An active unblanked comparator output sets LATCH, counts it and starts its TRIP, CBC, URG
and IRQ actions. -/
def execComparatorLatch (d : Nat) (e : CmpInput) (s : State) : Host.Outcome State Fault Refusal :=
  guarded (decide (d < s.dies) && decide (e.n < 48)) s <|
    s.cmpLevel d e.n e.inp.toNat e.level ((s.tick d - 1) * 64 + 1 + e.pos.toNat)


/-- BLANKING_END (R203). At the end of blanking an output still active latches. -/
def execBlankingEnd (d : Nat) (n : Nat) (pos : BitVec 6) (s : State) : Host.Outcome State Fault Refusal :=
  guarded (decide (d < s.dies) && decide (n < 48)) s <|
    s.blankingEnd d n ((s.tick d - 1) * 64 + 1 + pos.toNat)


/-! ### References -/

/-- Reference supervision of die `d`. -/
def State.ref (s : State) (d : Nat) : RefRun := Store.get s.refs RefRun.reset d
/-- Reference supervision of die `d` changed. -/
def State.modRef (s : State) (d : Nat) (f : RefRun → RefRun) : State :=
  { s with refs := Store.set s.refs RefRun.reset d (f (s.ref d)) }

/-- A reference mark (R180): a slot that is still due is counted as skipped and replaced. -/
def State.refMark (s : State) (d : Nat) : State :=
  let s := if (s.ref d).refDue then s.incSat F.ADC_REF_SKIP_CNT d else s
  let s := s.modAdc d (s.get F.ADC_REF_CONV d) fun A => { A with reference := false }
  s.modRef d fun R => { R with refDue := true, marks := R.marks + 1 }

/-- REFERENCE_SLOT (R180). Every 100 µs a converter takes a reserved reference slot at its next free boundary. -/
def execReferenceSlot (d : Nat) (s : State) : Host.Outcome State Fault Refusal :=
  guarded (decide (d < s.dies)) s <|
    let n := s.get F.ADC_REF_CONV d
    if (s.ref d).refDue && s.adcRuns d n && !decide (s.tick d * 10 < (s.adc d n).runEnd) then
      s.modAdc d n fun A => { A with reference := true, gap := A.gap + 512 }
    else s


/-- A completed reference slot contributes its deviations of check and VREF_EXT from main, in 0.001 % (R212). With EXT_EN = 0 it
contributes 0 to E, also to the average of a window in which EXT_EN is set later; a slot in progress as ADC_REF.CONV is rewritten is
dropped, its mark stays (DESIGN CHOICE, log entry 58). -/
def State.refSlotDone (s : State) (d : Nat) (chk ext : Int) : State :=
  let n := s.get F.ADC_REF_CONV d
  if (s.adc d n).reference then
    let e := if s.bit F.REF_CFG_EXT_EN d then ext else 0
    (s.modAdc d n fun A => { A with reference := false }).modRef d fun R =>
      { R with refDue := false, slots := R.slots + 1, dSum := R.dSum + chk, eSum := R.eSum + e }
  else s

/-- REFERENCE_SLOT_DONE (R212). A completed reference slot contributes check and external reference ratios to
supervision. -/
def execReferenceSlotDone (d : Nat) (chk : Int) (ext : Int) (s : State) : Host.Outcome State Fault Refusal :=
  guarded (decide (d < s.dies)) s <|
    s.refSlotDone d chk ext


/-- REF_SUSPECT is raised (R215): once, it sets SUSPECT and is recorded. -/
def State.suspect (s : State) (d : Nat) : State :=
  if s.bit F.REF_STAT_SUSPECT d then s
  else (s.put F.REF_STAT_SUSPECT 1 d).hwRecord d 0x0206 none noLeg 0 0 0

/-- The moment BILL_LOST is set (R213, R214): the units of the die lose validity, then arbitration between the references. -/
def State.billLost (s : State) (d : Nat) (slots : Nat) (dSum eSum : Int) : State :=
  let s := s.put F.REF_STAT_BILL_LOST 1 d
  let s := forEach [0, 1] (fun s u => s.syncValid d u) s
  let ext := s.bit F.REF_CFG_EXT_EN d && !s.bit F.REF_STAT_EXT_FAIL d
  let big : Int → Bool := fun v => decide ((250 * slots : Nat) < v.natAbs)
  if ext && big eSum && !big (dSum - eSum) then s.modRef d fun R => { R with switchDue := 1 }
  else if ext && !big eSum then
    (s.modRef d fun R => { R with ignoreD := true, cSole := 0 }).hwRecord d 0x0205 none noLeg 0 0 0
  else s.suspect d

/-- The persistence of a condition (R213): consecutive averages that meet it. -/
def persist (c : Nat) (b : Bool) : Nat := if b then min (c + 1) 200 else 0

/-- An average is judged (R213, R214, R216). -/
def State.judgeRef (s : State) (d : Nat) (slots : Nat) (dSum eSum : Int) : State :=
  let above : Int → Nat → Bool := fun v k => decide (k * slots < v.natAbs)
  let R := s.ref d
  if s.bit F.REF_STAT_USING d || R.ignoreD then
    let c := persist R.cSole (above eSum 500)
    let s := s.modRef d fun R => { R with cSole := c }
    if c = 200 then s.suspect d else s
  else
    let s := s.modRef d fun R =>
      { R with cDrift := persist R.cDrift (above dSum 250), cCalm := persist R.cCalm (!above dSum 200),
               cBill := persist R.cBill (above dSum 500), cExt := persist R.cExt (above eSum 500 && !above dSum 250) }
    let R := s.ref d
    let s := if R.cDrift = 200 ∧ !s.bit F.REF_STAT_DRIFT_NOW d then
        ((s.put F.REF_STAT_DRIFT_NOW 1 d).put F.REF_STAT_DRIFT 1 d).hwRecord d 0x0203 none noLeg 0 0 0
      else s
    let s := if R.cCalm = 200 then s.put F.REF_STAT_DRIFT_NOW 0 d else s
    let s := if R.cExt = 200 ∧ !s.bit F.REF_STAT_EXT_FAIL d then
        (s.put F.REF_STAT_EXT_FAIL 1 d).hwRecord d 0x0207 none noLeg 0 0 0
      else s
    if R.cBill = 200 ∧ !s.bit F.REF_STAT_BILL_LOST d then s.billLost d slots dSum eSum else s

/-- The average over 50 reference marks (R212): from fewer than 25 completed slots none is formed. The rounding of the shown
values is left open. -/
def State.refAverage (s : State) (d : Nat) : State :=
  let R := s.ref d
  if R.marks < 50 then s
  else
    let s := s.modRef d fun R => { R with marks := 0, slots := 0, dSum := 0, eSum := 0 }
    if R.slots < 25 then s
    else
      let a := s.freeRound R.dSum R.slots
      let b := a.2.freeRound R.eSum R.slots
      let s := ((b.2.putI F.REF_DEV_D a.1 d).putI F.REF_EDEV_E b.1 d).modRef d fun R => { R with formed := true }
      s.judgeRef d R.slots R.dSum R.eSum

/-- REF_AVERAGE (R213). Every 50 reference marks the die forms averages of D and E and updates the persistence counts.
-/
def execRefAverage (d : Nat) (s : State) : Host.Outcome State Fault Refusal :=
  guarded (decide (d < s.dies)) s <|
    s.refAverage d


/-- The switch to the check reference at the whistle after arbitration (R214). -/
def State.refSwitch (s : State) (d : Nat) : State :=
  if (s.ref d).switchDue = 2 then
    ((s.put F.REF_STAT_USING 1 d).modRef d fun R => { R with switchDue := 0, cSole := 0 }).hwRecord d 0x0204 none noLeg 0 0 0
  else s

/-- REF_SWITCH (R214). At the whistle after arbitration finds main wrong, the die moves to the check reference and
records REF_SWITCH. -/
def execRefSwitch (d : Nat) (s : State) : Host.Outcome State Fault Refusal :=
  guarded (decide (d < s.dies)) s <|
    s.refSwitch d


/-- REF_SUSPECT of a die affects herd `h` (R215): the herd has a converter, a modulator input or a comparator bound there;
in EVH8 also, for D0, any comparator in use. -/
def State.suspectAffects (s : State) (h : Nat) : Bool :=
  let cmpOf : Nat → Bool := fun k =>
    (List.range 48).any fun n => s.bit F.CMP_CFG_EN k n && decide ((s.tiedLeg k n).bind (s.legHerd k) = some h)
  (List.range s.dies).any fun k =>
    s.bit F.REF_STAT_SUSPECT k &&
    ((List.range 8).any (fun n => decide (s.adcHerd k n = some h)) ||
     (List.range 24).any (fun m => decide (s.modHerd k m = some h)) || cmpOf k ||
     (decide (s.dies = 8) && decide (k = 0) && (List.range 8).any cmpOf))

end Sys2Proof.Machine
end

