-- ==== Sys2Proof/Machine/Law.lean ====
section
/-!
DEFINITION. The hardware around a herd's law (R279 to R291): the leash, VSAT episodes, heel generators, the oscillation
detector and its form under COMPAT.
-/
namespace Sys2Proof.Machine

/-- The value of a point as a signed number. -/
def State.pointI (s : State) (p : Nat) : Int := (s.point p).toInt
/-- The value of a point as a signed number, as the units of one store cycle read it (R138). -/
def State.heldI (s : State) (p : Nat) : Int := (s.heldPoint p).toInt
/-- A hardware destination write of a signed number (R138). -/
def State.hwPointI (s : State) (p : Nat) (v : Int) : State := s.hwPoint p (BitVec.ofInt 24 v)

/-! ### The leash -/

/-- A limit under derating (R281): LO or HI × DERATE / 256, rounded towards zero. -/
def State.effLimit (s : State) (h : Nat) (v : Int) : Int :=
  if s.bit F.LAW_STAT_DERATED (h / 8) (h % 8) then (v * s.get F.LAW_CFG_DERATE (h / 8) (h % 8)).tdiv 256 else v

/-- A limited VEC entry (R283): VSAT and VSAT_NOW set; a new episode starts its time and is counted. -/
def State.vsatHit (s : State) (h k : Nat) : State :=
  let d := h / 8; let l := h % 8
  let start := !s.bit F.LAW_STAT_VSAT_NOW d l
  let t := s.tick d
  let s := ((s.put F.LAW_STAT_VSAT 1 d l).put F.LAW_STAT_VSAT_NOW 1 d l).modHerdRun h fun H =>
    if start then { H with vecLimited := true, vsatAt := t, vsatRecorded := false, vsatEntry := k }
    else { H with vecLimited := true }
  if start then (s.put F.VSAT_TIME_TICKS 0 d l).incSat F.LAW_CNT_VSAT_CNT d l else s

/-- LSH on entry `k` of herd `h` (R116, R280 to R283): the clamped value and the state; LAST takes the value and is set. -/
def State.leashClamp (s : State) (h k : Nat) (ra : Int) : Int × State :=
  let d := h / 8; let l := h % 8
  let v := clampInt ra (s.effLimit h (s.getI F.LEASH_LO_LO d l k)) (s.effLimit h (s.getI F.LEASH_HI_HI d l k))
  let rate := s.get F.LEASH_RATE_RATE d l k
  let last := s.getI F.LEASH_LAST_LAST d l k
  let v := if rate ≠ 0 ∧ s.bit F.LEASH_LAST_SET d l k then clampInt v (sat24 (last - rate)) (sat24 (last + rate)) else v
  let s := (s.putI F.LEASH_LAST_LAST v d l k).put F.LEASH_LAST_SET 1 d l k
  (v, if v ≠ ra ∧ s.get F.LEASH_RATE_KIND d l k = 1 then s.vsatHit h k else s)

/-- Entry `k`'s shadow values become active (R280). -/
def State.leashTake (s : State) (h k : Nat) : State :=
  let d := h / 8; let l := h % 8
  (((s.loadSh F.LEASH_LO_LO d l k).loadSh F.LEASH_HI_HI d l k).loadSh F.LEASH_RATE_KIND d l k).loadSh F.LEASH_RATE_RATE d l k

/-- The shadow value of a field as a signed number. -/
def State.getShI (s : State) (F : Fld) (d i j : Nat) : Int := (BitVec.ofNat F.width (s.getSh F d i j)).toInt

/-- A load-all changes entry `k` unless its LO would exceed its HI (R280). -/
def State.leashLoad (s : State) (h k : Nat) : State :=
  let d := h / 8; let l := h % 8
  if s.getShI F.LEASH_HI_HI d l k < s.getShI F.LEASH_LO_LO d l k then
    (s.put F.LAW_STAT_LEASH_BAD 1 d l).wref .unit F.LEASH_LO_LO d l k
  else s.leashTake h k

/-- Entry into ARMED: the leash is active with LAST unset (R280). -/
def State.leashArm (s : State) (h : Nat) : State :=
  forEach (List.range 16) (fun s k => (s.leashTake h k).put F.LEASH_LAST_SET 0 (h / 8) (h % 8) k) s

/-- The end of a VSAT episode at a load-all without a limited VEC entry since the last one (R283). -/
def State.vsatLoad (s : State) (h : Nat) : State :=
  let d := h / 8; let l := h % 8
  let H := s.herd h
  let s := if s.bit F.LAW_STAT_VSAT_NOW d l ∧ !H.vecLimited then
      (s.put F.LAW_STAT_VSAT_NOW 0 d l).put F.VSAT_TIME_TICKS (min (s.tick d - H.vsatAt) (2 ^ 32 - 1)) d l
    else s
  s.modHerdRun h fun H => { H with vecLimited := false }

/-- A VSAT episode reaches 10 ms (R283): one HEADROOM or VSAT_LONG record. -/
def State.vsatLong (s : State) (h : Nat) : State :=
  let d := h / 8; let l := h % 8
  let H := s.herd h
  if s.bit F.LAW_STAT_VSAT_NOW d l && !H.vsatRecorded && decide (H.vsatAt + 1000000 ≤ s.tick d) then
    (s.modHerdRun h fun H => { H with vsatRecorded := true }).hwRecord d
      (if s.get F.HERD_CTL_ROLE d l = 4 then 0x0401 else 0x0402) (some h) noLeg H.vsatEntry 0 0
  else s

/-- VSAT_LONG (R283). A VSAT episode reaching 10 ms writes one HEADROOM or VSAT_LONG record. -/
def execVsatLong (h : Nat) (s : State) : Host.Outcome State Fault Refusal :=
  guarded (decide (h < 8 * s.dies)) s <|
    s.vsatLong h


/-! ### Heels -/

/-- HEEL_ACT (R286): bit `j` shows OUT ≠ TGT of an enabled generator. -/
def State.heelAct (s : State) (h : Nat) : Nat :=
  let d := h / 8; let l := h % 8
  ((List.range 4).filter fun j => s.bit F.HEEL_SRC_EN d l j &&
    decide (s.point (s.get F.HEEL_OUT_POINT d l j) ≠ s.point (s.get F.HEEL_TGT_POINT d l j))).foldl (fun a j => a + 2 ^ j) 0

/-- A start of heel `j` (R285): OUT takes the value of SRC. -/
def State.heelStart (s : State) (h j : Nat) : State :=
  let d := h / 8; let l := h % 8
  if s.bit F.HEEL_SRC_EN d l j then
    let t := s.tick d
    let s := s.hwPoint (s.get F.HEEL_OUT_POINT d l j) (s.heldPoint (s.get F.HEEL_SRC_POINT d l j))
    s.modHerdRun h fun H => { H with heelAt := Store.set H.heelAt 0 j (t + 1) }
  else s

/-- The step of heel `j` at a load-all (R286), none on the tick of a start. -/
def State.heelStep (s : State) (h j : Nat) : State :=
  let d := h / 8; let l := h % 8
  if s.bit F.HEEL_SRC_EN d l j && decide (Store.get (s.herd h).heelAt 0 j ≠ s.tick d + 1) then
    let o := s.get F.HEEL_OUT_POINT d l j
    let diff := s.heldI (s.get F.HEEL_TGT_POINT d l j) - s.heldI o
    let w : Int := s.get F.HEEL_SLEW_SLEW d l j
    let step := if w = 0 then diff else clampInt diff (-w) w
    s.hwPointI o (sat24 (s.heldI o + step))
  else s


/-- HEEL_SRC.EN written from 0 to 1 (R285). -/
def State.heelEnable (s : State) (h j : Nat) : State :=
  if s.bit F.HEEL_SRC_EN (h / 8) (h % 8) j then s
  else
    let s := s.put F.HEEL_SRC_EN 1 (h / 8) (h % 8) j
    if s.herdState h = .running then s.oneCycle fun s => s.heelStart h j else s


/-! ### The oscillation detector -/

/-- COMPAT acts on herd `h` (R290): its CMPT bit or the COMPAT strap. -/
def State.compat (s : State) (h : Nat) : Bool := s.bit F.HERD_CTL_CMPT (h / 8) (h % 8) || s.bit F.PKG_STRAP_COMPAT

/-- A start of channel `c` resets its variables (R289). -/
def State.oscStart (s : State) (h c : Nat) : State :=
  let t := s.tick (h / 8)
  (s.putBit F.LAW_STAT_OSC_ARMED c false (h / 8) (h % 8)).modOsc h c fun _ => { OscRun.reset with at_ := t }

/-- The sign of a number. -/
def signOf (x : Int) : Int := if x < 0 then -1 else if 0 < x then 1 else 0

/-- The variables of a channel after one sample, before the window's end (R288). -/
def OscRun.sample (O : OscRun) (x : Int) (msh hys : Nat) : OscRun :=
  let m := if O.first then x else O.m
  let m := m + (x - m) / 2 ^ msh
  let d := x - m
  let amp := max O.amp d.natAbs
  let O := { O with first := false, m := m, amp := amp, n := O.n + 1 }
  if O.s = 0 then (if hys < d.natAbs then { O with s := signOf d } else O)
  else if O.s = 1 ∧ d < -(hys : Int) then { O with s := -1, xcnt := min (O.xcnt + 1) 0x1FFF }
  else if O.s = -1 ∧ (hys : Int) < d then { O with s := 1, xcnt := min (O.xcnt + 1) 0x1FFF }
  else O

/-- A declared oscillation (R289). -/
def State.oscDeclare (s : State) (h c amp xcnt : Nat) : State :=
  let d := h / 8; let l := h % 8
  let s := ((s.put F.LAW_STAT_OSC 1 d l).incSat F.LAW_CNT_OSC_CNT d l).hwRecord d 0x0403 (some h) noLeg c amp xcnt
  if s.bit F.LAW_CFG_OSC_FLT d l then s.herdFault h .osc else s

/-- The end of a window of channel `c` (R288). -/
def State.oscWindow (s : State) (h c : Nat) : State :=
  let d := h / 8; let l := h % 8
  let O := s.osc h c
  let wins := min (O.wins + 1) 255
  let hit := decide (s.get F.OSC_ATHR_ATHR d l c < O.amp) && decide (s.get F.OSC_FWIN_FMIN d l c ≤ O.xcnt) &&
    decide (O.xcnt ≤ s.get F.OSC_FWIN_FMAX d l c)
  let run := if 4 < wins ∧ hit then O.run + 1 else 0
  let fire := decide (max (s.get F.OSC_PAR_NWIN d l c) 1 ≤ run)
  let s := ((s.put F.OSC_MEAS_AMP O.amp d l c).put F.OSC_MEAS2_RUN (min run 255) d l c).put F.OSC_MEAS2_XCNT O.xcnt d l c
  let s := s.modOsc h c fun O => { O with wins := wins, run := if fire then 0 else run, n := 0, amp := 0, xcnt := 0 }
  let s := if wins = 4 then s.putBit F.LAW_STAT_OSC_ARMED c true d l else s
  if fire then s.oscDeclare h c O.amp O.xcnt else s

/-- One sample of channel `c` (R288). -/
def State.oscSample (s : State) (h c : Nat) : State :=
  let d := h / 8; let l := h % 8
  let x := s.pointI (s.get F.OSC_CFG_POINT d l c)
  let t := s.tick d
  let s := s.modOsc h c fun O =>
    { O.sample x (s.get F.OSC_PAR_MSH d l c) (s.get F.OSC_HYS_HYS d l c) with at_ := t }
  if (s.osc h c).n = 2 ^ (s.get F.OSC_PAR_WLEN d l c + 6) then s.oscWindow h c else s

/-- The channels of herd `h` whose sample is due (R288): enabled, the herd RUNNING, SPER ticks passed, not under COMPAT. -/
def State.oscDue (s : State) (h : Nat) : List Nat :=
  let d := h / 8; let l := h % 8
  if decide (s.herdState h = .running) && !s.compat h then
    (List.range 4).filter fun c =>
      s.bit F.OSC_CFG_EN d l c && decide ((s.osc h c).at_ + max (s.get F.OSC_SPER_SPER d l) 1 ≤ s.tick d)
  else []

/-- OSC_SAMPLE (R288). Every SPER ticks each enabled detector channel samples its point and ends windows. -/
def execOscSample (h : Nat) (s : State) : Host.Outcome State Fault Refusal :=
  guarded (decide (h < 8 * s.dies)) s <|
    forEach (s.oscDue h) (fun s c => s.oscSample h c) s


/-- OSC_CFG.EN written from 0 to 1 (R289, R291): an RWL field. -/
def State.oscEnable (s : State) (q : Requester) (h c : Nat) : State :=
  if s.bit F.OSC_CFG_EN (h / 8) (h % 8) c then s
  else if (s.herdState h).locked then s.wref q F.OSC_CFG_EN (h / 8) (h % 8) c
  else (s.put F.OSC_CFG_EN 1 (h / 8) (h % 8) c).oscStart h c


/-- The residual check of channel `c` at a load-all in RUNNING under COMPAT (R290). -/
def State.plausLoad (s : State) (h c : Nat) : State :=
  let d := h / 8; let l := h % 8
  if s.bit F.OSC_CFG_EN d l c then
    let a := (s.heldI (s.get F.OSC_CFG_POINT d l c)).natAbs
    let run := if s.get F.OSC_ATHR_ATHR d l c < a then (s.osc h c).run + 1 else 0
    let s := ((s.put F.OSC_MEAS_AMP a d l c).put F.OSC_MEAS2_XCNT 0 d l c).put F.OSC_MEAS2_RUN (min run 255) d l c
    let s := (s.putBit F.LAW_STAT_OSC_ARMED c true d l).modOsc h c fun O => { O with run := run }
    if run = max (s.get F.OSC_PAR_NWIN d l c) 1 then
      (((s.put F.LAW_STAT_PLAUS 1 d l).incSat F.LAW_CNT_OSC_CNT d l).hwRecord d 0x0404 (some h) noLeg c a 0).herdFault h .plaus
    else s
  else s

/-- The steps of the heels of herds `hs` at their load-alls of one tick (R286), in the order of R138: by generator, then by herd. -/
def State.heelsLoad (s : State) (hs : List Nat) : State :=
  forEach (List.range 4) (fun s j => forEach hs (fun s h => s.heelStep h j) s) s

/-- What a load-all of herd `h` does to the rest of its law on the home die (R280, R281, R283, R287, R290). -/
def State.lawLoad (s : State) (h : Nat) : State :=
  let d := h / 8; let l := h % 8
  let run := decide (s.herdState h = .running)
  let s := if s.suspectAffects h then s.put F.LAW_STAT_DERATED 1 d l else s
  let s := forEach (List.range 16) (fun s k => s.leashLoad h k) s
  let s := s.vsatLoad h
  let s := s.put F.LAW_STAT_COLD 0 d l
  if run && s.compat h then forEach (List.range 4) (fun s c => s.plausLoad h c) s else s

/-- The starts of RUNNING and of a release (R303, R345): every enabled heel and detector channel. -/
def State.lawStart (s : State) (h : Nat) : State :=
  let s := s.oneCycle fun s => forEach (List.range 4) (fun s j => s.heelStart h j) s
  forEach ((List.range 4).filter fun c => s.bit F.OSC_CFG_EN (h / 8) (h % 8) c) (fun s c => s.oscStart h c) s

end Sys2Proof.Machine
end

