-- ==== Sys2Proof/Machine/Regulate.lean ====
section
/-!
DEFINITION. Multiphase regulation (R311 to R332): phases and their numbering, the enable conditions, the phase manager at a
load-all with its command stage, overload, lost phases, adding and shedding, and burst mode.
-/
namespace Sys2Proof.Machine

/-! ### Phases -/

/-- The phases of herd `h` by index (R311): ascending ORDER, ties by package leg. -/
def State.numberPhases (s : State) (h : Nat) : List (Nat × Nat) :=
  let ps := s.regLegs h
  (List.range 64).flatMap fun o => ps.filter fun p => decide (s.get F.REG_LCFG_ORDER p.1 p.2 = o)

/-- REG_CFG.EN written from 0 to 1 (R312). -/
def State.regEnable (s : State) (q : Requester) (h : Nat) : State :=
  let d := h / 8; let l := h % 8
  if s.bit F.REG_CFG_EN d l then s
  else if (s.herdState h).locked then s.wref q F.REG_CFG_EN d l
  else if s.regOk h then
    ((s.put F.REG_CFG_EN 1 d l).put F.REG_STAT_CFG_RES 0 d l).put F.REG_STAT_N_PH (s.regLegs h).length d l
  else s.put F.REG_STAT_CFG_RES Status.refused.code d l


/-- A phase is available (R315, R320): it is neither LOST nor tripped. LOST follows the trip at each load-all. -/
def State.phaseFree (s : State) (p : Nat × Nat) : Bool := !s.bit F.LEG_STAT_TRIP p.1 p.2 && !s.bit F.REG_LCFG_LOST p.1 p.2

/-- The sum of IF over phases (R318). -/
def State.phaseSum (s : State) (ps : List (Nat × Nat)) : Int :=
  (ps.map fun p => s.getI F.REG_LIF_IF p.1 p.2).sum

/-- The phases that ACT marks. -/
def State.markedPhases (s : State) (h : Nat) : List (Nat × Nat) :=
  (s.reg h).phases.filter fun p => s.bit F.REG_LCFG_ACT p.1 p.2

/-- The phases available, by index. -/
def State.freePhases (s : State) (h : Nat) : List (Nat × Nat) := (s.reg h).phases.filter s.phaseFree

/-- Entry into ARMED (R311, R317, R324): the phases are numbered, every ρ is 0, VREF takes the active source's clamped
value. -/
def State.regArm (s : State) (h : Nat) : State :=
  let d := h / 8; let l := h % 8
  if s.get F.HERD_CTL_ROLE d l ≠ 4 then s
  else
    let k := s.get F.REG_VSEL_SRC d l
    let v := clampInt (s.pointI (s.get F.SRC_CFG_POINT d l k)) (s.getI F.SRC_LO_LO d l k) (s.getI F.SRC_HI_HI d l k)
    let ps := s.numberPhases h
    (s.put F.REG_STAT_N_PH ps.length d l).modReg h fun R =>
      { R with phases := ps, rho := [], vref := if k = 3 then R.vref else v }

/-- Entry into RUNNING (R319). -/
def State.regRun (s : State) (h : Nat) : State :=
  let d := h / 8; let l := h % 8
  if !s.bit F.REG_CFG_EN d l then s
  else
    let t := s.tick d
    let ps := s.freePhases h
    let n := min (s.get F.REG_CFG_N_MAX d l) ps.length
    let s := (s.put F.REG_STAT_N_AVAIL ps.length d l).put F.REG_STAT_N_ACT n d l
    let s := (s.reg h).phases.foldl (fun s p =>
      (s.put F.REG_LIF_IF (s.point (s.get F.REG_LIPT_POINT p.1 p.2)).toNat p.1 p.2).putB F.REG_LCFG_ACT
        ((ps.take n).contains p) p.1 p.2) s
    s.modReg h fun R =>
      { R with lastChange := t, addSince := none, shedSince := none, burstSince := none, burstLeft := 0, burstWait := false }

/-! ### The command stage -/

/-- The clamp of the command stage (R323 step 1): the value within the leash; an episode is counted and recorded once. -/
def State.vcmdClamp (s : State) (h k : Nat) (v : Int) : Int × State :=
  let d := h / 8; let l := h % 8
  let lo := s.getI F.SRC_LO_LO d l k
  let hi := s.getI F.SRC_HI_HI d l k
  let w := clampInt v lo hi
  let was := (s.reg h).clampEp.testBit k
  if lo ≤ v ∧ v ≤ hi then
    (v, if was then s.modReg h fun R => { R with clampEp := R.clampEp - 2 ^ k } else s)
  else
    let s := s.putBit F.REG_VSEL_CLAMP k true d l
    if was then (w, s)
    else
      let s := match k with
        | 0 => s.incSat F.REG_CCNT_CNT0 d l | 1 => s.incSat F.REG_CCNT_CNT1 d l | _ => s.incSat F.REG_CCNT_CNT2 d l
      let s := s.hwRecord d 0x0501 (some h) noLeg k (BitVec.ofInt 24 v).toNat (BitVec.ofInt 24 w).toNat
      (w, s.modReg h fun R => { R with clampEp := R.clampEp + 2 ^ k })

/-- The command stage (R323, R324): source 3 holds VREF. -/
def State.commandStage (s : State) (h : Nat) : State :=
  let d := h / 8; let l := h % 8
  let k := s.get F.REG_VSEL_SRC d l
  if k = 3 then s
  else
    let r := s.vcmdClamp h k (s.heldI (s.get F.SRC_CFG_POINT d l k))
    let s := r.2
    if s.bit F.SRC_CFG_CP_EN d l k && s.bit F.SRC_CFG_STALE_HOLD d l k &&
       s.bit F.CP_STAT_STALE d l (s.get F.SRC_CFG_CP d l k) then s.put F.REG_VSEL_CMD_STALE 1 d l
    else
      let w : Int := s.get F.SRC_SLEW_SLEW d l k
      let diff := r.1 - (s.reg h).vref
      let v := (s.reg h).vref + (if w = 0 then diff else clampInt diff (-w) w)
      ((s.modReg h fun R => { R with vref := v }).put F.REG_VSEL_CMD_STALE 0 d l).hwPointI (s.get F.REG_VREF_POINT d l) v

/-! ### The manager's steps -/

/-- Step 1 of R315: the phase-current filters. -/
def State.phaseFilters (s : State) (h : Nat) : State :=
  (s.reg h).phases.foldl (fun s p =>
    let i := s.getI F.REG_LIF_IF p.1 p.2
    let x := s.heldI (s.get F.REG_LIPT_POINT p.1 p.2)
    s.putI F.REG_LIF_IF (i + (x - i) / 2 ^ s.get F.REG_CFG_OVL_SH (h / 8) (h % 8)) p.1 p.2) s

/-- Step 3 of R315: the overload state (R326). -/
def State.overload (s : State) (h : Nat) : State :=
  let d := h / 8; let l := h % 8
  let lim := s.getI F.REG_IOVL_I_OVL d l
  let is := (s.markedPhases h).map fun p => s.getI F.REG_LIF_IF p.1 p.2
  let t := s.tick d
  if s.bit F.REG_STAT_OVL d l then
    if is.all fun i => decide (i ≤ lim - lim / 16) then s.put F.REG_STAT_OVL 0 d l else s
  else if is.any fun i => decide (lim < i) then
    ((s.put F.REG_STAT_OVL 1 d l).incSat F.REG_CNT2_OVL_CNT d l).modReg h fun R => { R with ovlSince := t }
  else s

/-- The index of the phase with the highest IF, the lowest index among equals (R326). -/
def State.highestPhase (s : State) (ps : List (Nat × Nat)) : Option (Nat × Nat) :=
  ps.foldl (fun o p => match o with
    | none => some p
    | some q => if s.getI F.REG_LIF_IF q.1 q.2 < s.getI F.REG_LIF_IF p.1 p.2 then some p else o) none

/-- The overload time is reached (R326): OVL_TRIP, a record, and the herd's FAULT command. -/
def State.regOverload (s : State) (h : Nat) : State :=
  let d := h / 8; let l := h % 8
  let tovl := max (s.get F.REG_TIME_TOVL d l) 1 * 100000
  if s.bit F.REG_CFG_EN d l && s.herdActive h && s.bit F.REG_STAT_OVL d l && decide ((s.reg h).ovlSince + tovl ≤ s.tick d) then
    let p := (s.highestPhase (s.markedPhases h)).getD (0, 0)
    let ix := (s.reg h).phases.idxOf p
    let s := (s.put F.REG_STAT_OVL_TRIP 1 d l).hwRecord d 0x0502 (some h) (p.1 * 24 + p.2) ix
      (s.get F.REG_LIF_IF p.1 p.2) (s.get F.REG_STAT_N_ACT d l)
    s.herdFault h .prog
  else s

/-- REG_OVERLOAD (R326). Overload lasting TOVL sets OVL_TRIP, records REG_OVERLOAD and faults the herd. -/
def execRegOverload (h : Nat) (s : State) : Host.Outcome State Fault Refusal :=
  guarded (decide (h < 8 * s.dies)) s <|
    s.regOverload h


/-- Bits of the lost phases with indices `lo` to `lo + 23` (R331). -/
def State.lostBits (s : State) (h lo : Nat) : Nat :=
  (List.range 24).foldl (fun a k =>
    match (s.reg h).phases[lo + k]? with
    | some p => if s.bit F.REG_LCFG_LOST p.1 p.2 then a + 2 ^ k else a
    | none => a) 0

/-- Step 4 of R315: lost phases (R320, R321). A phase newly lost from the active set counts as a change. -/
def State.lostPhases (s : State) (h : Nat) : State :=
  let d := h / 8; let l := h % 8
  let t := s.tick d
  let newly := (s.reg h).phases.filter fun p => s.bit F.LEG_STAT_TRIP p.1 p.2 && !s.bit F.REG_LCFG_LOST p.1 p.2
  let lostActive := newly.any fun p => s.bit F.REG_LCFG_ACT p.1 p.2
  let s := (s.reg h).phases.foldl (fun s p => s.putB F.REG_LCFG_LOST (s.bit F.LEG_STAT_TRIP p.1 p.2) p.1 p.2) s
  let s : State := match newly.getLast? with | some p => s.modReg h fun R => { R with lastLost := some p } | none => s
  let n := (s.freePhases h).length
  let s := (s.put F.REG_STAT_N_AVAIL n d l).put F.REG_STAT_N_ACT (min (s.get F.REG_STAT_N_ACT d l) n) d l
  let s := if lostActive then s.modReg h fun R => { R with lastChange := t } else s
  if n < s.regNMin h then
    let leg := match (s.reg h).lastLost with
      | some p => p.1 * 24 + p.2
      | none => noLeg
    let s := (s.put F.REG_STAT_UNDER 1 d l).hwRecord d 0x0503 (some h) leg n (s.lostBits h 0) (s.lostBits h 24)
    s.herdFault h .prog
  else s

/-- The tick since which a condition has held at every load-all. -/
def since (o : Option Nat) (b : Bool) (t : Nat) : Option Nat := if b then some (o.getD t) else none

/-- A condition has held for `n` ticks. -/
def heldFor (o : Option Nat) (n t : Nat) : Bool := match o with | some x => decide (x + n ≤ t) | none => false

/-- N_ACT changes to `n` (R318). -/
def State.changeNAct (s : State) (h n : Nat) (G : Fld) : State :=
  let t := s.tick (h / 8)
  ((s.put F.REG_STAT_N_ACT n (h / 8) (h % 8)).incSat G (h / 8) (h % 8)).modReg h fun R => { R with lastChange := t }

/-- Step 5 of R315: adding and shedding (R318), or the burst machine (R328, R330). -/
def State.addShed (s : State) (h : Nat) : State :=
  let d := h / 8; let l := h % 8
  let t := s.tick d
  let n := s.get F.REG_STAT_N_ACT d l
  let free := s.freePhases h
  let tot := s.phaseSum (free.take n)
  let ovl := s.bit F.REG_STAT_OVL d l
  if s.bit F.REG_STAT_BURST d l then
    if !s.bit F.REG_STAT_ASLEEP d l && (decide (s.getI F.REG_IBEXIT_I_BEXIT d l ≤ tot) || ovl) then s.burstEnd h else s
  else
    let add := decide (n * s.getI F.REG_IADD_I_ADD d l < tot) && decide (n < min (s.get F.REG_CFG_N_MAX d l) free.length)
    let shed := s.bit F.REG_CFG_SHED_EN d l && decide (tot < ((n : Int) - 1) * s.getI F.REG_ISHED_I_SHED d l) &&
      decide (s.regNMin h < n) && !ovl
    let burst := s.bit F.REG_CFG_BURST_EN d l && decide (n = s.regNMin h) && !ovl &&
      decide (tot < s.getI F.REG_IBURST_I_BURST d l)
    let s := s.modReg h fun R =>
      { R with addSince := since R.addSince add t, shedSince := since R.shedSince shed t, burstSince := since R.burstSince burst t }
    let R := s.reg h
    let dwell := s.get F.REG_TIME_DWELL d l * 100000
    let rested := decide (R.lastChange + dwell ≤ t)
    if rested && heldFor R.addSince dwell t then s.changeNAct h (n + 1) F.REG_CNT_ADD_CNT
    else if rested && heldFor R.shedSince dwell t then s.changeNAct h (n - 1) F.REG_CNT_SHED_CNT
    else if heldFor R.burstSince 100000 t then
      (s.put F.REG_STAT_BURST 1 d l).modReg h fun R =>
        { R with burstLeft := max (s.get F.REG_BURST_BURST_N d l) 1, burstWait := true, wakeAt := t }
    else s

/-- The offset of position `k` of `n` (R316): round(2³² × k / n), rounded half up. -/
def interleave (k n : Nat) : Nat := (2 * 2 ^ 32 * k + n) / (2 * n)

/-- The threshold of a phase (R317): the code, and ρ of the EVH8. -/
def phaseCode (dies : Nat) (t : Int) (rho : Nat) : Nat × Nat :=
  if dies = 8 then
    let y := (max t 0).toNat / 512 + rho
    let frac := min (y / 256) 63
    (frac, if frac < 63 then y - 256 * frac else 0)
  else ((min (max ((t * 1023 + 4194304) / 8388608) 0) 1023).toNat, 0)

/-- Step 6 of R315 for the active phase in position `k` of `n` (R316, R317): offset, mask bit and threshold into the shadow
set. -/
def State.setPhase (s : State) (h : Nat) (p : Nat × Nat) (k n : Nat) : State :=
  let raw := s.heldI (s.get F.REG_IPK_POINT (h / 8) (h % 8)) + s.getI F.REG_LCFG_TRIM p.1 p.2 * 8192
  let ilim := s.getI F.REG_LILIM_ILIM p.1 p.2
  let r := phaseCode s.dies (min raw ilim) (Store.get (s.reg h).rho 0 (p.1 * 24 + p.2))
  let s := if ilim < raw then s.put F.REG_LCFG_LIM 1 p.1 p.2 else s
  let s := s.modReg h fun R => { R with rho := Store.set R.rho 0 (p.1 * 24 + p.2) r.2 }
  ((s.putSh F.LEG_PHASE_PHASE (interleave k n) p.1 p.2).put F.REG_LCFG_ACT 1 p.1 p.2).modLeg p.1 p.2
    fun L => { L with shMask := some true, shThr := some r.1 }

/-- Step 6 of R315: every phase is told its place (R316). -/
def State.setPhases (s : State) (h : Nat) : State :=
  let n := s.get F.REG_STAT_N_ACT (h / 8) (h % 8)
  let act := (s.freePhases h).take n
  (s.reg h).phases.foldl (fun s p =>
    if act.contains p then s.setPhase h p (act.idxOf p) n
    else (s.put F.REG_LCFG_ACT 0 p.1 p.2).modLeg p.1 p.2 fun L => { L with shMask := some false, shThr := none }) s

/-- The phase manager at a load-all (R315): only in RUNNING or STOPPING with EN = 1. A fault it declares ends its work. -/
def State.manager (s : State) (h : Nat) : State :=
  if s.bit F.REG_CFG_EN (h / 8) (h % 8) && s.herdActive h then
    let s := (((s.phaseFilters h).commandStage h).overload h).lostPhases h
    if s.herdActive h then (s.addShed h).setPhases h else s
  else s

/-! ### Burst sleep -/

/-- The lowest-indexed active phase of herd `h` (R328). -/
def State.leadPhase (s : State) (h : Nat) : Option (Nat × Nat) := (s.markedPhases h).head?

/-- A boundary of leg `n` of die `d`, at which a pending set of due tick `due` (if any) became active, counts for the burst of its herd
(R328, R329): from the boundary of the load-all that set BURST, or of the first one after a wake. -/
def State.burstBoundary (s : State) (d n : Nat) (due : Option Nat) : State :=
  match s.legHerd d n with
  | none => s
  | some h =>
    if s.bit F.REG_STAT_BURST (h / 8) (h % 8) && !s.bit F.REG_STAT_ASLEEP (h / 8) (h % 8) &&
       decide (s.leadPhase h = some (d, n)) then
      if (s.reg h).burstWait then
        (if due.any fun x => decide ((s.reg h).wakeAt + 64 ≤ x) then s.modReg h fun R =>
          { R with burstWait := false, burstLeft := max (s.get F.REG_BURST_BURST_N (h / 8) (h % 8)) 1 } else s)
      else s.modReg h fun R => { R with burstLeft := R.burstLeft - 1 }
    else s

/-- The clusters of the home die with a task of herd `h` and none of another herd (R328). -/
def State.soleClusters (s : State) (h : Nat) : List Nat :=
  (List.range 8).filter fun c =>
    let hs := (List.range 4).flatMap fun i => s.engineHerds (h / 8 * 32 + c * 4 + i)
    hs.contains h && hs.all fun k => decide (k = h)

/-- Disarms slot `k` in sleep, where it is armed. -/
def State.disarmSlot (s : State) (h k : Nat) : State :=
  if s.bit F.AEV_CFG_ARMED (h / 8) k then
    (s.put F.AEV_CFG_ARMED 0 (h / 8) k).modReg h fun R => { R with disarmed := R.disarmed ++ [k] }
  else s

/-- RETAIN is requested for cluster `c` (R328): the manager remembers it where the request was accepted. -/
def State.retainCluster (s : State) (h c : Nat) : State :=
  let on := s.domOn (h / 8) c
  let s := s.pwrRequest (h / 8) c 1 false
  if on ∧ s.get F.PWR_DOM_RES (h / 8) c = 0 then s.modReg h fun R => { R with retained := R.retained ++ [c] } else s

/-- The last boundary of a burst (R328, R329): every phase is masked, slots are disarmed, the wake comparator's event flag
clears, the herd sleeps; a comparator that is in OUT_LOW already wakes it at once. -/
def State.burstSleep (s : State) (h : Nat) : State :=
  let d := h / 8; let l := h % 8
  let R := s.reg h
  if s.bit F.REG_STAT_BURST d l && !s.bit F.REG_STAT_ASLEEP d l && !R.burstWait && decide (R.burstLeft = 0) && s.herdActive h then
    let t := s.tick d
    let s := R.phases.foldl (fun s p =>
      ((s.putBit F.GRP_MASK_MASK (p.2 % 6) false p.1 (p.2 / 6)).modLeg p.1 p.2 fun L => { L with burstMask := true }).driveLegs
        p.1 [p.2]) s
    let s := if s.bit F.REG_BSLOT_DS0_EN d l then s.disarmSlot h (s.get F.REG_BSLOT_DSLOT0 d l) else s
    let s := if s.bit F.REG_BSLOT_DS1_EN d l then s.disarmSlot h (s.get F.REG_BSLOT_DSLOT1 d l) else s
    let wc := s.get F.REG_BURST_WC d l
    let s := s.put F.WC_CFG_EVT_LOW 0 d wc
    let s := ((s.put F.REG_STAT_ASLEEP 1 d l).incSat F.REG_CNT2_SLEEP_CNT d l).modReg h fun R => { R with sleepAt := t }
    let s := if s.bit F.REG_CFG_RET d l then forEach (s.soleClusters h) (fun s c => s.retainCluster h c) s else s
    if s.get F.WC_CFG_STATE d wc = 1 then s.burstWakeNow h else s
  else s

/-- BURST_SLEEP (R328). After BURST_N boundaries the manager masks the phases, disarms slots, may request RETAIN and
sets ASLEEP. -/
def execBurstSleep (h : Nat) (s : State) : Host.Outcome State Fault Refusal :=
  guarded (decide (h < 8 * s.dies)) s <|
    s.burstSleep h


/-- REG_CFG.BURST_EN written 0 (R330). -/
def State.burstDisable (s : State) (h : Nat) : State :=
  let s := s.put F.REG_CFG_BURST_EN 0 (h / 8) (h % 8)
  if s.bit F.REG_STAT_BURST (h / 8) (h % 8) then s.burstEnd h else s


end Sys2Proof.Machine
end

