-- ==== Sys2Proof/Machine/Drive.lean ====
section
/-!
DEFINITION. DRIVE herds (R333 to R348): the enable conditions, the catch of a flying start, and the winding short. Quiet
groups are evaluated at the load-all.
-/
namespace Sys2Proof.Machine

/-- The conditions of R334. -/
def State.driveOk (s : State) (h : Nat) : Bool :=
  let d := h / 8; let l := h % 8
  let base : Nat → Nat → Bool := fun b ty => decide (s.abHerd d b = some h) && decide (s.get F.AB_CFG_TYPE d b = ty)
  let pos := s.get F.DRV_CFG_POS d l
  let posOk := if pos = 0 then base (s.get F.DRV_CFG_SHAFT d l) 2
    else base (s.get F.DRV_CFG_PBASE d l) 3 && decide (s.get F.AB_CFG_PMODE d (s.get F.DRV_CFG_PBASE d l) = if pos = 1 then 0 else 2)
  let qs := (s.drvLegs h).filter fun p => s.bit F.DRV_LCFG_QG_EN p.1 p.2
  decide (s.get F.HERD_CTL_ROLE d l = 2) && posOk &&
  qs.all (fun p => decide (s.get F.LEG_MODE_WAVE p.1 p.2 = 0) &&
    (decide (s.get F.DRV_CFG_STAGE d l = 2) ||
     qs.all fun q => decide (s.get F.DRV_LCFG_QG p.1 p.2 ≠ s.get F.DRV_LCFG_QG q.1 q.2) || decide (p.1 = q.1))) &&
  (!s.bit F.DRV_FLY_EN d l ||
    decide (pointDie (s.get F.DRV_FAMP_POINT d l) = d) && decide (pointDie (s.get F.DRV_FVDC_POINT d l) = d))

/-- DRV_CFG.EN written from 0 to 1 (R334). -/
def State.driveEnable (s : State) (q : Requester) (h : Nat) : State :=
  let d := h / 8; let l := h % 8
  if s.bit F.DRV_CFG_EN d l then s
  else if (s.herdState h).locked then s.wref q F.DRV_CFG_EN d l
  else if s.driveOk h then (s.put F.DRV_CFG_EN 1 d l).put F.DRV_STAT_CFG_RES 0 d l
  else s.put F.DRV_STAT_CFG_RES Status.refused.code d l


/-- Entry into ARMED: the member dies take their copies of DRV_QW, DRV_QG and DRV_LCFG (R355). -/
def State.driveArm (s : State) (h : Nat) : State :=
  let d := h / 8; let l := h % 8
  let qg := (List.range 4).map fun g =>
    (s.bit F.DRV_QG_EN d l g, s.bit F.DRV_QG_PT_EN d l g, s.get F.DRV_QG_POINT d l g)
  let lcfg := ((s.drvLegs h).filter fun p => s.bit F.DRV_LCFG_QG_EN p.1 p.2).map fun p =>
    (p.1 * 24 + p.2, s.get F.DRV_LCFG_QG p.1 p.2)
  s.modDrv h fun D =>
    { D with qw := (s.get F.DRV_QW_PRE d l, s.get F.DRV_QW_POST d l, s.get F.DRV_QW_SAT d l), qg := qg, lcfg := lcfg }

/-! ### The winding short -/

/-- The event flags of the watch comparators clear (R347). -/
def State.clearWatch (s : State) (h : Nat) : State :=
  let d := h / 8; let l := h % 8
  forEach ((List.range (s.get F.DRV_WSCFG_NWC d l)).filter fun k => decide (s.get F.DRV_WSCFG_WC0 d l + k < 64))
    (fun s k => (s.put F.WC_CFG_EVT_LOW 0 d (s.get F.DRV_WSCFG_WC0 d l + k)).put F.WC_CFG_EVT_HIGH 0 d
      (s.get F.DRV_WSCFG_WC0 d l + k)) s

/-- The phase legs of herd `h` on die `d` take the short (R346). -/
def State.shortOn (s : State) (d h : Nat) (m : HoldMode) : State :=
  let ns := (s.herdLegsOn d h).filter fun n => s.bit F.DRV_LCFG_PH d n
  (forEach ns (fun s n => s.modLeg d n fun L => { L with short := some m, shortRelease := false }) s).driveLegs d ns

/-- A winding short comes into force (R346, R347): on the home die at the next PWM clock, on the other dies by the trip mesh. -/
def State.shortStart (s : State) (h cmd : Nat) : State :=
  let d := h / 8; let l := h % 8
  let m := HoldMode.ofCode cmd
  let t := s.tick d
  let s := (s.shortOn d h m).put F.DRV_STAT_WS_ACTIVE 1 d l
  let s := { s with mesh := s.mesh ++ ((List.range s.dies).filter fun k => decide (k ≠ d)).map fun k => MeshMsg.mk k h m true }
  (s.clearWatch h).modDrv h fun D => { D with wsCmd := cmd, wsAt := t }

/-- The conditions of R346. -/
def State.shortOk (s : State) (h : Nat) : Bool :=
  let d := h / 8; let l := h % 8
  let n := s.get F.DRV_WSCFG_NWC d l
  decide (s.herdState h = .running) && s.bit F.DRV_CFG_EN d l && decide (s.get F.DRV_CFG_STAGE d l ≠ 2) &&
  decide (1 ≤ n) && decide (n ≤ 8)

/-- DRV_WSCMD.CMD = 1 or 2 (R346). -/
def State.shortCommand (s : State) (h cmd : Nat) : State :=
  let d := h / 8; let l := h % 8
  if s.shortOk h then ((s.put F.DRV_STAT_WS_RES 0 d l).incSat F.DRV_CNT_WS_CNT d l).shortStart h cmd
  else s.put F.DRV_STAT_WS_RES Status.refused.code d l

/-- DRV_WSCMD.CMD = 3 (R348): each leg resumes at its next boundary. -/
def State.shortRelease (s : State) (h : Nat) : State :=
  let d := h / 8; let l := h % 8
  let s := s.put F.DRV_STAT_WS_RES 0 d l
  if s.bit F.DRV_STAT_WS_ACTIVE d l then
    ((s.put F.DRV_STAT_WS_ACTIVE 0 d l).dropShortMsgs h).modHerdLegs h fun L => { L with shortRelease := L.short.isSome }
  else s




/-! ### The flying start -/

/-- A tick that no load-all reaches: a hold that starts here is ended by a release alone. -/
def never : Nat := 2 ^ 80

/-- Entry into RUNNING with a catch (R342): the first window starts, and the phase legs stay held until a release. A run without a
catch has no catch state left from an earlier one. -/
def State.catchStart (s : State) (h : Nat) : State :=
  let d := h / 8; let l := h % 8
  if s.bit F.DRV_CFG_EN d l && s.bit F.DRV_FLY_EN d l then
    let t := s.tick d
    let s := ((s.put F.DRV_STAT_FSTATE 1 d l).put F.DRV_STAT_FTRIES 1 d l).modDrv h fun D => { D with winAt := t, seeded := false }
    (s.drvLegs h).foldl (fun s p => s.modLeg p.1 p.2 fun L => { L with runHoldFrom := never }) s
  else s.put F.DRV_STAT_FSTATE 0 d l

/-- A new window would start (R344): with FTRIES = TRIES the catch has failed instead. -/
def State.newWindow (s : State) (h : Nat) : State :=
  let d := h / 8; let l := h % 8
  let n := s.get F.DRV_STAT_FTRIES d l
  if max (s.get F.DRV_FLY_TRIES d l) 1 ≤ n then
    (((s.put F.DRV_STAT_FLY_FAIL 1 d l).put F.DRV_STAT_FSTATE 0 d l).hwRecord d 0x0511 (some h) noLeg n
      (s.point (s.get F.DRV_FAMP_POINT d l)).toNat (s.point (s.get F.DRV_FVDC_POINT d l)).toNat).herdFault h .prog
  else
    let t := s.tick d
    ((s.put F.DRV_STAT_FTRIES (n + 1) d l).put F.DRV_STAT_FSTATE 1 d l).modDrv h fun D => { D with winAt := t, seeded := false }

/-- A release (R345): heels and detector channels start; the holds end with the first load-all issued from now on. -/
def State.catchRelease (s : State) (h : Nat) : State :=
  let t := s.tick (h / 8)
  let s := (s.put F.DRV_STAT_FSTATE 3 (h / 8) (h % 8)).lawStart h
  (s.drvLegs h).foldl (fun s p => s.modLeg p.1 p.2 fun L => { L with runHoldFrom := t }) s

/-- The ASC period begins (R344): a winding short low. -/
def State.ascStart (s : State) (h : Nat) : State :=
  let t := s.tick (h / 8)
  ((s.put F.DRV_STAT_FSTATE 2 (h / 8) (h % 8)).shortStart h 1).modDrv h fun D => { D with winAt := t }

/-- The herd is RUNNING in state `k` of the catch and `ms` milliseconds have passed. -/
def State.catchDue (s : State) (h k ms : Nat) : Bool :=
  decide (s.herdState h = .running) && decide (s.get F.DRV_STAT_FSTATE (h / 8) (h % 8) = k) &&
  decide ((s.drv h).winAt + ms * 100000 ≤ s.tick (h / 8))

/-- The end of a catch window (R344). -/
def State.catchWindowEnd (s : State) (h : Nat) : State :=
  let d := h / 8; let l := h % 8
  if s.catchDue h 1 (s.get F.DRV_FLY_FLY_T d l) then
    let a := s.pointI (s.get F.DRV_FAMP_POINT d l)
    let lim := (aluMul (s.point (s.get F.DRV_FVDC_POINT d l)) (BitVec.ofNat 24 (s.get F.DRV_FLIM_KMAX d l))).1.toInt
    if a < s.getI F.DRV_FAMIN_AMIN d l then s.catchRelease h
    else if lim < a then (if s.bit F.DRV_FLY_HI_ACT d l then s.ascStart h else s.newWindow h)
    else if (s.drv h).seeded then s.catchRelease h
    else s.newWindow h
  else s

/-- CATCH_WINDOW_END (R344). At the end of a catch window the sequencer releases, waits, shorts or fails by the
measured amplitude. -/
def execCatchWindowEnd (h : Nat) (s : State) : Host.Outcome State Fault Refusal :=
  guarded (decide (h < 8 * s.dies)) s <|
    s.catchWindowEnd h


/-- The short of an ASC period ends (R344): the legs return to their hold with both outputs low. -/
def State.ascEnd (s : State) (h : Nat) : State :=
  let s := ((s.put F.DRV_STAT_WS_ACTIVE 0 (h / 8) (h % 8)).dropShortMsgs h).modHerdLegs h fun L =>
    { L with short := none, shortRelease := false }
  (s.driveHerd h).newWindow h

/-- ASC_PERIOD_END (R344). The end of an ASC period of a catch starts a new window. -/
def execAscPeriodEnd (h : Nat) (s : State) : Host.Outcome State Fault Refusal :=
  guarded (decide (h < 8 * s.dies)) s <|
    if s.catchDue h 2 (max (s.get F.DRV_FLY_ASC_T (h / 8) (h % 8)) 1) then s.ascEnd h else s



end Sys2Proof.Machine
end

