-- ==== Sys2Proof/Machine/Chop.lean ====
section
/-!
DEFINITION. CHOP herds (R349 to R353): the enable conditions and the sample of the chopper unit. A sample first brings energy,
temperature and locks up to date with the sections as they were engaged until then, and then decides (log entry 23).
-/
namespace Sys2Proof.Machine

/-- The sections of the chopper of herd `h`. -/
def State.sections (s : State) (h : Nat) : List Nat := List.range (s.get F.CH_CFG_NSEC (h / 8) (h % 8))

/-- The conditions of R349. -/
def State.chopOk (s : State) (h : Nat) : Bool :=
  let d := h / 8; let l := h % 8
  let n := s.get F.CH_CFG_NSEC d l
  let legs := (s.sections h).map (s.sectionLeg h)
  decide (s.get F.HERD_CTL_ROLE d l = 3) && decide (1 ≤ n) && decide (n ≤ 8) &&
  legs.all (fun p => decide (20 ≤ p % 24) && decide (s.legHerd (p / 24) (p % 24) = some h)) && decide (legs.eraseDups = legs) &&
  (s.sections h).all (fun k =>
    (decide (s.get F.CH_SCFG_ON d l k = 1) || decide (s.get F.CH_SCFG_ON d l k = 2)) &&
    s.bit F.CH_RTH_RTH d l k && s.bit F.CH_CTH_CTH d l k) &&
  decide (s.getI F.CH_VOFF_VOFF d l < s.getI F.CH_VON_VON d l) && decide (pointDie (s.get F.CH_VDC_POINT d l) = d) &&
  (!s.bit F.CH_AVPT_EN d l || decide (pointDie (s.get F.CH_AVPT_POINT d l) = d))

/-- CH_CFG.EN written from 0 to 1 (R349). -/
def State.chopEnable (s : State) (q : Requester) (h : Nat) : State :=
  let d := h / 8; let l := h % 8
  if s.bit F.CH_CFG_EN d l then s
  else if (s.herdState h).locked then s.wref q F.CH_CFG_EN d l
  else if s.chopOk h then
    let t := s.tick d
    let s := ((s.put F.CH_CFG_EN 1 d l).put F.CH_STAT_CFG_RES 0 d l).modChop h fun C => { C with at_ := t, rise := [] }
    let s := forEach (s.sections h) (fun s k => s.releaseSection h k) s
    forEach (s.sections h) (fun s k => s.putI F.CH_TEST_TEST (s.getI F.CH_TAMB_TAMB d l * 256) d l k) s
  else s.put F.CH_STAT_CFG_RES Status.refused.code d l


/-- The square of a voltage times a section's K, in 2⁻⁴⁶ W (R351, R353). -/
def State.sectionPower (s : State) (h k : Nat) (v : Int) : Nat :=
  v.natAbs ^ 2 * s.get F.CH_K_K (h / 8) (h % 8) k

/-- Energy and temperature of section `k` over one sample (R351): whole kJ go to CH_EKJ, the rest is kept. The rounding of the
rise to 2⁻¹⁶ °C and of what is shown is left open (log entry 24). -/
def State.sectionUpdate (s : State) (h k : Nat) (v : Int) : State :=
  let d := h / 8; let l := h % 8
  let dt := max (s.get F.CH_CFG_SPER d l) 1
  let p := if s.getBit F.CH_STAT_ENG k d l then s.sectionPower h k (max v 0) else 0
  let kj := 10 ^ 11 * 2 ^ 46
  let e := Store.get (s.chop h).resid 0 k + p * dt
  let r := Store.get (s.chop h).rise 0 k
  let rth := s.get F.CH_RTH_RTH d l k
  let x := s.freeRound ((((p * 65536 * rth : Nat) : Int) - r * 1000000 * 2 ^ 46) * dt)
    (2 ^ 46 * rth * 100000000 * s.get F.CH_CTH_CTH d l k)
  let y := x.2.freeRound (r + x.1) 256
  let s := y.2.modChop h fun C => { C with resid := Store.set C.resid 0 k (e % kj), rise := Store.set C.rise 0 k (r + x.1) }
  (s.put F.CH_EKJ_KJ (s.get F.CH_EKJ_KJ d l k + e / kj) d l k).putI F.CH_TEST_TEST (s.getI F.CH_TAMB_TAMB d l * 256 + y.1) d l k

/-- The measured temperature of section `k`, where it has one (R352). -/
def State.sectionMeasured (s : State) (h k : Nat) : Option Int :=
  if s.bit F.CH_TMEAS_EN (h / 8) (h % 8) k then some (s.pointI (s.get F.CH_TMEAS_POINT (h / 8) (h % 8) k)) else none

/-- The lock of section `k` (R352). -/
def State.sectionLock (s : State) (h k : Nat) : State :=
  let d := h / 8; let l := h % 8
  let t := s.getI F.CH_TEST_TEST d l k
  let m := s.sectionMeasured h k
  let hot : Int := s.get F.CH_TLIM_TLIM d l k * 256
  let cool : Int := (s.get F.CH_TLIM_TLIM d l k - s.get F.CH_TLIM_THYS d l k : Int) * 256
  if !s.getBit F.CH_STAT_LOCK k d l then
    if decide (hot ≤ t) || (match m with | some x => decide (hot ≤ x) | none => false) then
      ((s.putBit F.CH_STAT_LOCK k true d l).put F.CH_STAT_OT 1 d l).hwRecord d 0x0513 (some h) (s.sectionLeg h k) k
        (BitVec.ofInt 24 t).toNat (match m with | some x => (BitVec.ofInt 24 x).toNat | none => 0)
    else s
  else if decide (t ≤ cool) && (match m with | some x => decide (x ≤ cool) | none => true) then s.putBit F.CH_STAT_LOCK k false d l
  else s

/-- The section with the least (greatest, when `high`) estimate; ties go to the lowest number, or the highest when `high`. -/
def State.pickSection (s : State) (h : Nat) (high : Bool) (ks : List Nat) : Option Nat :=
  ks.foldl (fun o k => match o with
    | none => some k
    | some j =>
      let a := s.getI F.CH_TEST_TEST (h / 8) (h % 8) j
      let b := s.getI F.CH_TEST_TEST (h / 8) (h % 8) k
      if high then (if a ≤ b then some k else some j) else if b < a then some k else some j) none

/-- The decisions of a sample (R350). -/
def State.chopDecide (s : State) (h : Nat) (v : Int) : State :=
  let d := h / 8; let l := h % 8
  let eng := fun (s : State) (k : Nat) => s.getBit F.CH_STAT_ENG k d l
  let lock := fun (s : State) (k : Nat) => s.getBit F.CH_STAT_LOCK k d l
  let s := forEach ((s.sections h).filter fun k => eng s k && lock s k) (fun s k => s.releaseSection h k) s
  let on := (s.sections h).filter (eng s)
  let free := (s.sections h).filter fun k => !eng s k && !lock s k
  let m : Int := on.length
  let step := s.getI F.CH_VSTEP_VSTEP d l
  match (if s.getI F.CH_VON_VON d l + m * step < v then s.pickSection h false free else none) with
  | some k => s.engageSection h k
  | none =>
    if 0 < m ∧ v < s.getI F.CH_VOFF_VOFF d l + (m - 1) * step then
      match s.pickSection h true on with
      | some k => s.releaseSection h k
      | none => s
    else s

/-- The saturation episode (R352). -/
def State.chopSaturated (s : State) (h : Nat) (v : Int) : State :=
  let d := h / 8; let l := h % 8
  let sat := (s.sections h).all (fun k => s.getBit F.CH_STAT_LOCK k d l) && decide (s.getI F.CH_VON_VON d l < v)
  let was := (s.chop h).satEp
  let s := s.modChop h fun C => { C with satEp := sat }
  if sat && !was then
    (s.put F.CH_STAT_ALL_LOCK 1 d l).hwRecord d 0x0514 (some h) noLeg (BitVec.ofInt 24 v).toNat (s.get F.CH_CFG_NSEC d l)
      (s.get F.CH_STAT_LOCK d l)
  else s

/-- The available power (R353), in kW; its rounding is left open. -/
def State.chopAvail (s : State) (h : Nat) : State :=
  let d := h / 8; let l := h % 8
  if s.bit F.CH_AVPT_EN d l then
    let w := (((s.sections h).filter fun k => !s.getBit F.CH_STAT_LOCK k d l).map fun k =>
      s.sectionPower h k (s.getI F.CH_VON_VON d l)).sum
    let x := s.freeRound w (2 ^ 46 * 1000)
    x.2.hwPoint (s.get F.CH_AVPT_POINT d l) (BitVec.ofNat 24 (min x.1.toNat 0xFFFFFF))
  else s

/-- A sample of the chopper unit (R350 to R353). -/
def State.chopSample (s : State) (h : Nat) : State :=
  let d := h / 8; let l := h % 8
  let t := s.tick d
  if s.bit F.CH_CFG_EN d l && decide ((s.chop h).at_ + max (s.get F.CH_CFG_SPER d l) 1 ≤ t) then
    let v := s.pointI (s.get F.CH_VDC_POINT d l)
    let s := s.modChop h fun C => { C with at_ := t }
    let s := forEach (s.sections h) (fun s k => s.sectionUpdate h k v) s
    let s := forEach (s.sections h) (fun s k => s.sectionLock h k) s
    let s := if s.herdActive h then s.chopDecide h v else s
    (s.chopSaturated h v).chopAvail h
  else s

/-- CHOP_SAMPLE (R350). Every SPER ticks the chopper reads the link, engages or releases a section and updates energy
and temperature. -/
def execChopSample (h : Nat) (s : State) : Host.Outcome State Fault Refusal :=
  guarded (decide (h < 8 * s.dies)) s <|
    s.chopSample h


end Sys2Proof.Machine
end

