-- ==== Sys2Proof/Machine/Grid.lean ====
section
/-!
DEFINITION. GRID herds (R356 to R377): the enable conditions, the evaluation of the grid monitor at each half mains cycle
(ride-through and trip entries, islanding detectors, momentary cessation, baseline, output group), probes, and entering
service. Frequencies are in 2⁻¹⁶ Hz, voltages in 2.14 per unit, points in Q1.23. Where the spec gives a real number and no
rounding, either neighbour may result (log entry 24).
-/
namespace Sys2Proof.Machine

/-- The tracker of the MAINS base that the monitor of herd `h` names (R54, R356). -/
def State.grdTracker (s : State) (h : Nat) : Nat := s.get F.AB_CFG_SRC (h / 8) (s.get F.GRD_CFG_BASE (h / 8) (h % 8)) % 2

/-- The conditions of R356. -/
def State.gridOk (s : State) (h : Nat) : Bool :=
  let d := h / 8; let l := h % 8
  let b := s.get F.GRD_CFG_BASE d l
  let home : Nat → Bool := fun p => decide (pointDie p = d)
  decide (s.get F.HERD_CTL_ROLE d l = 6) && decide (s.abHerd d b = some h) && decide (s.get F.AB_CFG_TYPE d b = 1) &&
  s.bit F.MT_CFG_EN d (s.grdTracker h) && s.bit F.GRD_VNOM_V_NOM d l &&
  home (s.get F.GRD_OUT_POINT d l) && home (s.get F.GRD_PMEAS_POINT d l) && home (s.get F.GRD_QSP_POINT d l)

/-- GRD_CFG.EN written from 0 to 1 (R356). -/
def State.gridEnable (s : State) (q : Requester) (h : Nat) : State :=
  let d := h / 8; let l := h % 8
  if s.bit F.GRD_CFG_EN d l then s
  else if (s.herdState h).locked then s.wref q F.GRD_CFG_EN d l
  else if s.gridOk h then (s.put F.GRD_CFG_EN 1 d l).put F.GRD_STAT_CFG_RES 0 d l
  else s.put F.GRD_STAT_CFG_RES Status.refused.code d l


/-! ### Measurements -/

/-- The tracker frequency of the monitor, in 2⁻¹⁶ Hz. -/
def State.grdFreq (s : State) (h : Nat) : Int := s.get F.MT_FREQ_FREQ (h / 8) (s.grdTracker h)
/-- The nominal frequency in Hz (R360). -/
def State.grdNom (s : State) (h : Nat) : Nat := if s.bit F.MT_CFG_NOM (h / 8) (s.grdTracker h) then 60 else 50
/-- The deviation from nominal, in 2⁻¹⁶ Hz. -/
def State.grdDev (s : State) (h : Nat) : Int := s.grdFreq h - s.grdNom h * 65536
/-- The tracker is in holdover (R364). -/
def State.grdHold (s : State) (h : Nat) : Bool := s.bit F.MT_STAT_HOLD (h / 8) (s.grdTracker h)
/-- The tracker is locked. -/
def State.grdLock (s : State) (h : Nat) : Bool := s.bit F.MT_STAT_LOCK (h / 8) (s.grdTracker h)
/-- An amplitude divided by V_NOM (R357), in 2.14 per unit: its rounding is left open, and so is the result where V_NOM is 0. -/
def State.perUnit (s : State) (h : Nat) (x : Int) : Int × State :=
  let v := s.get F.GRD_VNOM_V_NOM (h / 8) (h % 8)
  if v = 0 then (Config.freeNat s.fresh % 65536, s.nextFresh) else s.freeRound (x * 16384) v
/-- The same as a register of 16 bits shows it, with saturation (R10). -/
def State.perUnit16 (s : State) (h : Nat) (x : Int) : Nat × State :=
  let r := s.perUnit h x
  (min r.1.toNat 65535, r.2)
/-- V1 (R357), in 2.14 per unit. -/
def State.grdV1 (s : State) (h : Nat) : Int × State := s.perUnit h (s.getI F.MT_AMP_AMP (h / 8) (s.grdTracker h))

/-- The times of the monitor's registers: of the trip entries (0 to 11) and RESTORE (12) and LOL_T (13) in ms, ES_T (14) in s. -/
def State.timeField (s : State) (h i : Nat) : Nat :=
  let d := h / 8; let l := h % 8
  if i < 8 then s.get F.GRD_VRT_T_TIME d l i
  else if i < 12 then s.get F.GRD_FRT_T_TIME d l (i - 8)
  else if i = 12 then s.get F.GRD_TIME_RESTORE d l
  else if i = 13 then s.get F.GRD_TIME_LOL_T d l
  else s.get F.GRD_ES2_ES_T d l

/-- Time `i` in effect (R388): a write takes effect at the next evaluation. -/
def State.timeNow (s : State) (h i : Nat) : Nat := (s.grd h).times.getD i (s.timeField h i)

/-- Voltage entry `i` holds (R359). -/
def State.vrtHolds (s : State) (h i : Nat) : Bool :=
  let d := h / 8; let l := h % 8
  s.bit F.GRD_VRT_EN d l i &&
  (if s.bit F.GRD_VRT_DIR d l i then decide (s.get F.GRD_VRT_LEVEL d l i < s.get F.GRD_MEAS_VHIGH d l)
   else decide (s.get F.GRD_MEAS_VLOW d l < s.get F.GRD_VRT_LEVEL d l i))

/-- Frequency entry `j` holds (R360). -/
def State.frtHolds (s : State) (h j : Nat) : Bool :=
  let d := h / 8; let l := h % 8
  let dev : Int := s.get F.GRD_FRT_DEV d l j * 256
  s.bit F.GRD_FRT_EN d l j && (if s.bit F.GRD_FRT_DIR d l j then decide (dev < s.grdDev h) else decide (s.grdDev h < -dev))

/-- Some voltage entry of action `a` holds. -/
def State.vrtAny (s : State) (h a : Nat) : Option Nat :=
  (List.range 8).find? fun i => decide (s.get F.GRD_VRT_ACT (h / 8) (h % 8) i = a) && s.vrtHolds h i

/-! ### Trips -/

/-- Trip entry `i` (0 to 7 voltage, 8 to 11 frequency) holds. -/
def State.tripHolds (s : State) (h i : Nat) : Bool :=
  if i < 8 then decide (s.get F.GRD_VRT_ACT (h / 8) (h % 8) i = 0) && s.vrtHolds h i else s.frtHolds h (i - 8)

/-- The trip time of entry `i` in ticks. -/
def State.tripTime (s : State) (h i : Nat) : Nat := s.timeNow h i * 100000

/-- The timer of entry `i` at tick `t`: the ticks counted, where its condition holds. In holdover a frequency timer stands
(R364). -/
def State.tripTimer (s : State) (h i t : Nat) : Option Nat :=
  match Store.find (s.grd h).timers i with
  | some n => some (n - 1 + (if i < 8 then t - (s.grd h).evalAt else if s.grdHold h then 0 else t - (s.grd h).freqFrom))
  | none => none

/-- Timer `i` becomes `v`. -/
def GrdRun.setTimer (G : GrdRun) (i : Nat) (v : Option Nat) : GrdRun :=
  { G with timers := Store.set G.timers 0 i (match v with | some x => x + 1 | none => 0) }

/-- The timers at an evaluation on tick `t` (R359, R360, R364). -/
def State.stepTimers (s : State) (h t : Nat) : State :=
  let step := fun (s : State) i =>
    let n := s.tripTimer h i t
    let keep := decide (8 ≤ i) && s.grdHold h
    s.modGrd h fun G => G.setTimer i (if keep then n else if s.tripHolds h i then some (n.getD 0) else none)
  (forEach (List.range 12) step s).modGrd h fun G => { G with evalAt := t, freqFrom := t }

/-- The value that a GRID_TRIP record shows (R387). -/
def State.tripValue (s : State) (h i : Nat) : Nat :=
  let d := h / 8; let l := h % 8
  if i < 8 then (if s.bit F.GRD_VRT_DIR d l i then s.get F.GRD_MEAS_VHIGH d l else s.get F.GRD_MEAS_VLOW d l)
  else (BitVec.ofInt 24 (s.grdDev h / 256)).toNat

/-- A trip of entry `i` (R362). -/
def State.gridTrip (s : State) (h i ticks : Nat) : State :=
  let d := h / 8; let l := h % 8
  ((((s.put F.GRD_STAT_TRIPPED 1 d l).put F.GRD_STAT_TRIP_ENT i d l).hwRecord d 0x0521 (some h) noLeg i (s.tripValue h i)
    (ticks / 100000)).modGrd h fun G => { G with timers := [] }).herdFault h .prog

/-- Entry `i` has reached its time (R359), in RUNNING or STOPPING. -/
def State.tripDue (s : State) (h i t : Nat) : Option Nat :=
  match s.tripTimer h i t with
  | some n => if s.tripTime h i ≤ n then some n else none
  | none => none

/-- The monitor acts: it is enabled and the herd is RUNNING or STOPPING (R357). -/
def State.gridActs (s : State) (h : Nat) : Bool := s.bit F.GRD_CFG_EN (h / 8) (h % 8) && s.herdActive h

/-- GRID_TRIP (R362). A trip entry's timer reaching TIME sets TRIPPED, records GRID_TRIP and faults the herd. -/
def execGridTrip (h : Nat) (n : Nat) (s : State) : Host.Outcome State Fault Refusal :=
  guarded (decide (h < 8 * s.dies) && decide (n < 12)) s <|
    match (if s.gridActs h then s.tripDue h n (s.tick (h / 8)) else none) with
    | some v => s.gridTrip h n v
    | none => s


/-! ### Islanding -/

/-- A declaration of islanding with the causes of mask `m` (bit 0 LOL, 1 ZC, 2 PRB, 3 VS, 4 ROCOF; R375). Its hold is that of R363 on
every leg at once; where a die's copy of the state reads FAULTED, `islandHold` stands in place of FLT_MODE. -/
def State.declareIsland (s : State) (h m : Nat) : State :=
  let d := h / 8; let l := h % 8
  let df := (s.grdFreq h - (s.grd h).fbase) / 256
  let s := (s.put F.GRD_STAT_ISLAND 1 d l).put F.GRD_STAT_ICAUSE m d l
  let s := s.hwRecord d 0x0523 (some h) noLeg m (s.get F.GRD_ZM_Z d l) (BitVec.ofInt 24 df).toNat
  let s := s.modGrd h fun G => { G with islandHold := 2 ^ s.dies - 1 }
  ((s.modHerdLegs h fun L => { L with mcHold := true, mcRelease := false }).herdFault h .prog).driveHerd h

/-- The frequency `W` ms before tick `t`, from the history. -/
def freqBefore (hist : List (Nat × Int)) (t : Nat) : Option Int :=
  (hist.filter fun p => decide (p.1 ≤ t)).getLast?.map (·.2)

/-- The history without what no window reaches any more. -/
def trimHist (hist : List (Nat × Int)) (t : Nat) : List (Nat × Int) :=
  let old := (hist.filter fun p => decide (p.1 ≤ t)).getLast?
  (match old with | some p => [p] | none => []) ++ hist.filter fun p => decide (t < p.1)

/-- ROCOF at an evaluation on tick `t` (R371): whether it declares. -/
def State.rocof (s : State) (h t : Nat) : Bool × State :=
  let d := h / 8; let l := h % 8
  let w := max (s.get F.GRD_ROCOF_W d l) 1
  let f := s.grdFreq h
  let beyond := match freqBefore (s.grd h).fHist (t - w * 100000) with
    | some g => decide (s.get F.GRD_ROCOF_LIM d l * w * 65536 < (f - g).natAbs * 1000 * 256) && decide (w * 100000 ≤ t)
    | none => false
  let since := if beyond && s.bit F.GRD_STAT_AI_ARMED d l && !s.grdHold h then some ((s.grd h).rocofSince.getD t) else none
  let s := s.modGrd h fun G => { G with rocofSince := since }
  (s.bit F.GRD_AI_ROCOF_EN d l && (match since with | some x => decide (x + w * 100000 ≤ t) | none => false), s)

/-- An angle difference in 2⁻³² turn, within half a turn. -/
def wrapAngle (x : Int) : Int := (BitVec.ofInt 32 x).toInt

/-- Vector shift at an evaluation (R371): whether it declares. The phase one cycle earlier is that of two evaluations before. -/
def State.vectorShift (s : State) (h : Nat) : Bool :=
  let d := h / 8; let l := h % 8
  let hit := match (s.grd h).phHist with
    | [p, _, phase] => decide (s.get F.GRD_AI_VS_LIM d l * 2 ^ 32 < (wrapAngle (phase - p)).natAbs * 360)
    | _ => false
  hit && s.bit F.GRD_STAT_AI_ARMED d l && s.bit F.GRD_AI_VS_EN d l && !s.grdHold h

/-- The histories take the frequency, the phase and V1 of an evaluation on tick `t`, which is in any herd state (R357): as far back as
ROCOF's window, one cycle, and twice the longest probe reach. -/
def State.measured (s : State) (h t : Nat) (phase v1 : Int) : State :=
  let w := max (s.get F.GRD_ROCOF_W (h / 8) (h % 8)) 1
  let f := s.grdFreq h
  s.modGrd h fun G =>
    let ph := G.phHist ++ [phase]
    { G with fHist := trimHist G.fHist (t - w * 100000) ++ [(t, f)],
             phHist := if 3 < ph.length then ph.tail else ph,
             v1Hist := (v1.toNat :: G.v1Hist).take 62 }

/-- The zero-crossing timeout of any of channels 0 to 2 stands (R374). -/
def State.zcIsland (s : State) (h : Nat) : Bool :=
  let d := h / 8; let l := h % 8
  s.bit F.GRD_AI_ZC_EN d l && decide (s.get F.GRD_STAT_VREG d l ≠ 2) &&
  decide (s.get F.MU_STAT_ZC_TO d (s.get F.GRD_CFG_MU d l) % 8 ≠ 0)

/-- Holdover has lasted LOL_T ms, outside the MC region all the time (R364): since the tracker's HOLD rose, in whatever state the herd
was, and since the latest evaluation that left that region. -/
def State.lolDue (s : State) (h t : Nat) : Bool :=
  let d := h / 8; let l := h % 8
  s.bit F.GRD_AI_LOL_EN d l && s.grdHold h && decide (s.get F.GRD_STAT_VREG d l ≠ 2) &&
  decide (max (s.tracker d (s.grdTracker h)).holdAt (s.grd h).mcTill + s.timeNow h 13 * 100000 ≤ t)

/-- The drift's suspicion (R372). -/
def State.suspicion (s : State) (h t : Nat) : State :=
  let d := h / 8; let l := h % 8
  let beyond := decide (s.get F.GRD_AI_FD_LIM d l * 256 < (s.grdFreq h - (s.grd h).fbase).natAbs)
  if !s.bit F.GRD_STAT_AI_ARMED d l || !s.bit F.GRD_AI_SFS_EN d l then s
  else if beyond && !(s.grd h).suspOn then
    let probing := s.bit F.GRD_STAT_PROBING d l
    (s.incSat F.GRD_CNT_SUSP_CNT d l).modGrd h fun G => { G with suspOn := true, suspAt := if probing then G.suspAt else some t }
  else if beyond then s
  else s.modGrd h fun G => { G with suspOn := false }

/-- A running probe takes V1 (R373); one that meets cessation or holdover is abandoned. -/
def State.probeStep (s : State) (h : Nat) (v1 : Int) : State :=
  let d := h / 8; let l := h % 8
  if !s.bit F.GRD_STAT_PROBING d l then s
  else if s.grdHold h || decide (s.get F.GRD_STAT_VREG d l = 2) then
    let susp := (s.grd h).suspAt
    (s.probeDrop h).modGrd h fun G => { G with suspAt := susp }
  else s.modGrd h fun G =>
    if G.probeLeft = 0 then G
    else { G with probeLeft := G.probeLeft - 1, probeSum := G.probeSum + v1.toNat, probeN := G.probeN + 1 }

/-- The point of PRB (R365). -/
def State.grdPrb (s : State) (h : Nat) : Nat := s.get F.GRD_OUT_POINT (h / 8) (h % 8) + 3

/-- The first instant after tick `t` of a schedule that has `due` among its instants and the period `per`. -/
def nextDue (due per t : Nat) : Nat := due + per * ((t - due) / per + 1)

/-- A probe starts (R373) on the tick of an evaluation after the suspicion, or when its schedule is due. -/
def State.probeStart (s : State) (h : Nat) : State :=
  let d := h / 8; let l := h % 8
  let t := s.tick d
  let G := s.grd h
  let susp := match G.suspAt with | some x => decide (x < t) | none => false
  let sched := decide (G.probeDue ≤ t)
  if s.gridActs h && s.bit F.GRD_STAT_AI_ARMED d l && !s.bit F.GRD_STAT_PROBING d l && !s.grdHold h &&
     decide (s.get F.GRD_STAT_VREG d l ≠ 2) && decide (G.evalAt = t) && (susp || sched) then
    let n := 2 * max (s.get F.GRD_PRB_CYC d l) 1
    let s := (s.put F.GRD_STAT_PROBING 1 d l).modGrd h fun G =>
      { G with probeLeft := n, probeSum := 0, probeN := 0, suspAt := none,
               probeDue := if sched then nextDue G.probeDue (max (s.get F.GRD_PRB_PER d l) 1 * 100000) t else G.probeDue }
    s.hwPoint (s.grdPrb h) (BitVec.ofNat 24 (s.get F.GRD_PRBA_PRB_AMP d l))
  else s

/-- PROBE_START (R373). A scheduled or suspected probe sets PRB to PRB_AMP for CYC cycles. -/
def execProbeStart (h : Nat) (s : State) : Host.Outcome State Fault Refusal :=
  guarded (decide (h < 8 * s.dies)) s <|
    s.probeStart h


/-- The impedance at a probe's end (R373), in 2.14: the mean of V1 over the probe's evaluations against as many before it. It
saturates (R10), and is a free value where PRB_AMP is 0. -/
def State.probeZ (s : State) (h : Nat) : Nat × State :=
  let G := s.grd h
  let n := max G.probeN 1
  let past := (G.v1Hist.drop G.probeN).take n
  let before := past.sum
  let m := max past.length 1
  let amp := (s.getI F.GRD_PRBA_PRB_AMP (h / 8) (h % 8)).natAbs
  if amp = 0 then (Config.freeNat s.fresh % 65536, s.nextFresh)
  else
    let r := s.freeRound ((((G.probeSum * m : Nat) : Int) - (before * n : Nat)).natAbs * 2 ^ 23) (n * m * amp)
    (min r.1.toNat 65535, r.2)

/-- A probe whose cycles are over ends with its result (R373): whether it declares islanding. -/
def State.probeDone (s : State) (h : Nat) : Bool × State :=
  let d := h / 8; let l := h % 8
  if s.bit F.GRD_STAT_PROBING d l && decide ((s.grd h).probeLeft = 0) then
    let z := s.probeZ h
    let s := ((z.2.put F.GRD_STAT_PROBING 0 d l).put F.GRD_ZM_Z z.1 d l).incSat F.GRD_ZM_PRB_CNT d l
    let s := (s.hwPoint (s.grdPrb h) 0).modGrd h fun G => { G with probeSum := 0, probeN := 0 }
    (s.gridActs h && s.bit F.GRD_AI_PRB_EN d l && decide (s.get F.GRD_PRB_ZLIM d l ≤ z.1), s)
  else (false, s)

/-- The end of a probe as an event of its own. An evaluation ends its probe itself, so that its declaration falls with the others of
that evaluation (R358); this is for one that still stands. -/
def State.probeEnd (s : State) (h : Nat) : State :=
  let r := s.probeDone h
  if r.1 then r.2.declareIsland h 4 else r.2

/-- PROBE_END (R373). At probe end the monitor forms Z and declares islanding when Z reaches ZLIM. -/
def execProbeEnd (h : Nat) (s : State) : Host.Outcome State Fault Refusal :=
  guarded (decide (h < 8 * s.dies)) s <|
    s.probeEnd h


/-- HOLDOVER_TIMEOUT (R364). Holdover lasting LOL_T outside MC declares islanding with cause LOL. -/
def execHoldoverTimeout (h : Nat) (s : State) : Host.Outcome State Fault Refusal :=
  guarded (decide (h < 8 * s.dies)) s <|
    if s.gridActs h && s.lolDue h (s.tick (h / 8)) then s.declareIsland h 1 else s


/-! ### Momentary cessation -/

/-- Momentary cessation at an evaluation (R363). -/
def State.cessation (s : State) (h t : Nat) : State :=
  let d := h / 8; let l := h % 8
  match s.vrtAny h 1 with
  | some i =>
    if (s.grd h).mcEp then s
    else
      let s := ((s.put F.GRD_STAT_MC_NOW 1 d l).put F.GRD_STAT_MC 1 d l).incSat F.GRD_CNT_MC_CNT d l
      let s := s.hwRecord d 0x0522 (some h) noLeg i (s.get F.GRD_MEAS_VLOW d l) (s.get F.GRD_MEAS_VHIGH d l)
      let s := s.modGrd h fun G => { G with mcEp := true, mcEndAt := none }
      (s.modHerdLegs h fun L => { L with mcHold := true, mcRelease := false }).driveHerd h
  | none =>
    if (s.grd h).mcEp then (s.put F.GRD_STAT_MC_NOW 0 d l).modGrd h fun G => { G with mcEp := false, mcEndAt := some t }
    else s

/-- MC_RESTORE (R363). RESTORE ms after a cessation episode the hold ends at the boundary of the next load-all. -/
def execMcRestore (h : Nat) (s : State) : Host.Outcome State Fault Refusal :=
  guarded (decide (h < 8 * s.dies)) s <|
    let t := s.tick (h / 8)
    match (s.grd h).mcEndAt with
    | some x =>
      if x + s.timeNow h 12 * 100000 ≤ t then
        (s.modHerdLegs h fun L => { L with mcRelease := L.mcHold, mcReleaseFrom := t }).modGrd h fun G => { G with mcEndAt := none }
      else s
    | none => s


/-! ### Baseline -/

/-- Entry into RUNNING (R370). -/
def State.gridRun (s : State) (h : Nat) : State :=
  let d := h / 8; let l := h % 8
  if s.bit F.GRD_CFG_EN d l then
    (((s.put F.GRD_STAT_BASELINE 1 d l).put F.GRD_STAT_AI_ARMED 0 d l).probeDrop h).modGrd h fun G =>
      { G with timers := [], count := 0, fsum := 0, lockSeen := false, rocofSince := none, suspOn := false, phi := 0 }
  else s

/-- Baseline counting and the update of f_base at a forward crossing of 0 (R364, R370). -/
def State.baseline (s : State) (h t : Nat) (zero : Bool) : State :=
  let d := h / 8; let l := h % 8
  let s := if s.grdLock h then s.modGrd h fun G => { G with lockSeen := true } else s
  if !zero || s.grdHold h then s
  else if s.bit F.GRD_STAT_BASELINE d l then
    if !s.grdLock h then s
    else
      let f := s.grdFreq h
      let s := s.modGrd h fun G => { G with count := G.count + 1, fsum := G.fsum + f }
      if (s.grd h).count < 10 then s
      else
        let r := s.freeRound (s.grd h).fsum 10
        ((r.2.put F.GRD_STAT_BASELINE 0 d l).put F.GRD_STAT_AI_ARMED 1 d l).modGrd h fun G =>
          { G with fbase := r.1, probeDue := t + max (s.get F.GRD_PRB_PER d l) 1 * 100000 }
  else
    let r := s.freeRound (s.grdFreq h - (s.grd h).fbase) 512
    r.2.modGrd h fun G => { G with fbase := G.fbase + r.1 }

/-! ### The output group -/

/-- 0.1 to the power `n` / `d`, in 2⁻⁶⁴: e^(−x) of the 256th part of x = ln 10 × n / d, squared eight times. -/
def powTenth (n d : Nat) : Int :=
  let x : Int := (n * 42475197918399869019 / d / 256 : Nat)
  if 19 * d < n then 0
  else
    let y := [14, 13, 12, 11, 10, 9, 8, 7, 6, 5, 4, 3, 2, 1].foldl
      (fun (a : Int) (k : Nat) => 2 ^ 64 - x * a / 2 ^ 64 / k) (2 ^ 64)
    (List.range 8).foldl (fun a _ => a * a / 2 ^ 64) y

/-- The 90 % filter of R366 from `v` towards `target` over `dt` ticks with the time of `ms` milliseconds. -/
def State.filter90 (s : State) (v target : Int) (dt ms : Nat) : Int × State :=
  let r := s.freeRound ((target - v) * (2 ^ 64 - powTenth dt (max ms 1 * 100000))) (2 ^ 64)
  (v + r.1, r.2)

/-- The frequency-watt target (R364, R366). -/
def State.fwStep (s : State) (h : Nat) : State :=
  let d := h / 8; let l := h % 8
  if s.grdHold h then s
  else
    let beyond := s.grdDev h * 1000 - s.get F.GRD_FW_DB d l * 65536
    if s.bit F.GRD_CFG_FW_EN d l && decide (0 < beyond) then
      let s := if s.bit F.GRD_STAT_FW_NOW d l then s
        else (s.put F.GRD_STAT_FW_NOW 1 d l).modGrd h fun G => { G with ppre := s.pointI (s.get F.GRD_PMEAS_POINT d l) }
      let r := s.freeRound (beyond * 2 ^ 23) (65536 * max (s.get F.GRD_FW_K d l) 1 * s.grdNom h)
      r.2.modGrd h fun G => { G with fwTarget := max (G.ppre - r.1) 0 }
    else (s.put F.GRD_STAT_FW_NOW 0 d l).modGrd h fun G => { G with fwTarget := s.getI F.GRD_PMAX_PMAX d l }

/-- The volt-var curve at V1 (R367). -/
def State.voltVar (s : State) (h : Nat) (v1 : Int) : Int × State :=
  let d := h / 8; let l := h % 8
  let a : Int := s.get F.GRD_VV_V1 d l
  let b : Int := s.get F.GRD_VV_V2 d l
  let c : Int := s.get F.GRD_VV2_V3 d l
  let e : Int := s.get F.GRD_VV2_V4 d l
  let q1 := s.getI F.GRD_VVQ1_Q1 d l
  let q4 := s.getI F.GRD_VVQ4_Q4 d l
  if v1 ≤ a then (q1, s)
  else if v1 < b then s.freeRound (q1 * (b - v1)) (b - a).toNat
  else if v1 ≤ c then (0, s)
  else if v1 < e then s.freeRound (q4 * (v1 - c)) (e - c).toNat
  else (q4, s)

/-- Q_REF before the unit circle (R367). -/
def State.qRef (s : State) (h dt : Nat) (v1 : Int) : Int × State :=
  let d := h / 8; let l := h % 8
  let cap := s.getI F.GRD_QCAP_QCAP d l
  match s.get F.GRD_CFG_QMODE d l with
  | 0 => (0, s)
  | 1 => (clampInt (s.pointI (s.get F.GRD_QSP_POINT d l)) (-cap) cap, s)
  | 2 =>
    let r := s.freeRound (s.pointI (s.get F.GRD_PMEAS_POINT d l) * s.getI F.GRD_KPF_KPF d l) (2 ^ 23)
    (clampInt r.1 (-cap) cap, r.2)
  | _ =>
    let c := s.voltVar h v1
    let r := c.2.filter90 (s.grd h).qf c.1 dt (s.get F.GRD_FWT_VV_T d l)
    (clampInt r.1 (-cap) cap, r.2.modGrd h fun G => { G with qf := r.1 })

/-- The circle of R368: the root of 1 − x², with its rounding left open. -/
def State.circle (s : State) (x : Int) : Int × State :=
  let m := 2 ^ 46 - x.natAbs ^ 2
  let r := isqrt m
  if r * r = m then (r, s) else (r + (if s.freeBit.1 then 1 else 0), s.freeBit.2)

/-- PHI (R364, R370, R372), Q1.23 of a half turn. -/
def State.phiStep (s : State) (h : Nat) : State :=
  let d := h / 8; let l := h % 8
  if !s.bit F.GRD_STAT_AI_ARMED d l || !s.bit F.GRD_AI_SFS_EN d l then s.modGrd h fun G => { G with phi := 0 }
  else if s.grdHold h then s
  else
    let m : Int := s.get F.GRD_SFS_MAX d l * 65536
    let x := clampInt (s.get F.GRD_SFS_K d l * (s.grdFreq h - (s.grd h).fbase)) (-m) m
    let r := s.freeRound (x * 2 ^ 23) (18000 * 65536)
    r.2.modGrd h fun G => { G with phi := r.1 }

/-- P_LIM before the unit circle (R363, R366, R370). -/
def State.pLim (s : State) (h : Nat) : Int :=
  let d := h / 8; let l := h % 8
  let p := min (s.grd h).fw (s.getI F.GRD_PMAX_PMAX d l)
  if (s.grd h).mcEp || (s.bit F.GRD_STAT_BASELINE d l && !(s.grd h).lockSeen) then 0
  else if s.bit F.GRD_STAT_BASELINE d l then min p (s.getI F.GRD_START_START_LIMIT d l) else p

/-- The output group (R365). -/
def State.outputGroup (s : State) (h dt : Nat) (v1 : Int) : State :=
  let d := h / 8; let l := h % 8
  let s := s.fwStep h
  let f := s.filter90 (s.grd h).fw (s.grd h).fwTarget dt (s.get F.GRD_FWT_FW_T d l)
  let s := f.2.modGrd h fun G => { G with fw := f.1 }
  let q := s.qRef h dt v1
  let s := q.2
  let zero := (s.grd h).mcEp || (s.bit F.GRD_STAT_BASELINE d l && !(s.grd h).lockSeen)
  let p := s.pLim h
  let q := if zero then 0 else q.1
  let out := decide (2 ^ 46 < p ^ 2 + q ^ 2)
  let c := s.circle (if s.bit F.GRD_CFG_QPRI d l then q else p)
  let s := if out then c.2 else s
  let p' := if out && s.bit F.GRD_CFG_QPRI d l then c.1 else p
  let q' := if out && !s.bit F.GRD_CFG_QPRI d l then (if q < 0 then -c.1 else c.1) else q
  let s := s.phiStep h
  let prb := if s.bit F.GRD_STAT_PROBING d l then s.getI F.GRD_PRBA_PRB_AMP d l else 0
  let o := s.get F.GRD_OUT_POINT d l
  if s.pointStatus o = .ok then
    s.writeGroup o ([p', q', (s.grd h).phi, prb].map fun v => BitVec.ofInt 24 (sat24 v)) .unit none
  else s

/-! ### The evaluation -/

/-- ES_OK's conditions at an evaluation (R377). -/
def State.enterConditions (s : State) (h t : Nat) : State :=
  let d := h / 8; let l := h % 8
  let ok := decide (s.get F.GRD_ES_VLO d l ≤ s.get F.GRD_MEAS_VLOW d l) && decide (s.get F.GRD_MEAS_VHIGH d l ≤ s.get F.GRD_ES_VHI d l) &&
    decide (s.getI F.GRD_ES2_FLO d l * 256 ≤ s.grdDev h) && decide (s.grdDev h ≤ s.getI F.GRD_ES2_FHI d l * 256)
  if ok then s.modGrd h fun G => { G with esSince := some (G.esSince.getD t) }
  else (s.put F.GRD_STAT_ES_OK 0 d l).modGrd h fun G => { G with esSince := none }

/-- ENTER_SERVICE (R377). Conditions held for ES_T seconds set ES_OK. -/
def execEnterService (h : Nat) (s : State) : Host.Outcome State Fault Refusal :=
  guarded (decide (h < 8 * s.dies)) s <|
    match (s.grd h).esSince with
    | some x =>
      if s.bit F.GRD_CFG_EN (h / 8) (h % 8) && decide (x + s.timeNow h 14 * 100000000 ≤ s.tick (h / 8)) then
        s.put F.GRD_STAT_ES_OK 1 (h / 8) (h % 8)
      else s
    | none => s


/-- The trips and detectors of an evaluation (R358 items 1 and 2), a probe's end among them: both kinds may fall on it. -/
def State.evalProtect (s : State) (h t : Nat) (v1 : Int) : State :=
  let s := s.stepTimers h t
  let trip := (List.range 12).findSome? fun i => (s.tripDue h i t).map fun n => (i, n)
  let r := s.rocof h t
  let p := ((r.2.suspicion h t).probeStep h v1).probeDone h
  let s := p.2
  let m := (if s.lolDue h t then 1 else 0) + (if s.zcIsland h then 2 else 0) + (if p.1 then 4 else 0) +
    (if s.vectorShift h then 8 else 0) + (if r.1 then 16 else 0)
  let s := match trip with | some p => s.gridTrip h p.1 p.2 | none => s
  if m ≠ 0 then s.declareIsland h m else s

/-- An evaluation of the monitor of herd `h` (R357, R358); `zero`: the base angle crosses 0. -/
def State.gridEval (s : State) (h : Nat) (g : GridMeasure) (zero : Bool) : State :=
  let d := h / 8; let l := h % 8
  let t := s.tick d
  let dt := t - (s.grd h).evalAt
  let lo := s.perUnit16 h (min g.a.toNat (min g.b.toNat g.c.toNat) : Nat)
  let hi := lo.2.perUnit16 h (max g.a.toNat (max g.b.toNat g.c.toNat) : Nat)
  let v1 := hi.2.grdV1 h
  let s := ((v1.2.put F.GRD_MEAS_VLOW lo.1 d l).put F.GRD_MEAS_VHIGH hi.1 d l).measured h t g.phase v1.1
  let s := s.modGrd h fun G => { G with times := (List.range 15).map (s.timeField h) }
  let s := s.enterConditions h t
  if !s.herdActive h then s.modGrd h fun G => { G with evalAt := t, freqFrom := t, timers := [] }
  else
    let reg := if (s.vrtAny h 1).isSome then 2 else if (s.vrtAny h 2).isSome then 1 else 0
    let was := s.get F.GRD_STAT_VREG d l
    let s := s.put F.GRD_STAT_VREG reg d l
    let s := if was = 2 ∧ reg ≠ 2 then s.modGrd h fun G => { G with mcTill := t } else s
    let s := s.evalProtect h t v1.1
    if !s.herdActive h then s
    else ((s.cessation h t).baseline h t zero).outputGroup h dt v1.1

/-- The herds of die `d` whose monitors are on tracker `m`. -/
def State.gridHerds (s : State) (d m : Nat) : List Nat :=
  ((List.range 8).map fun l => d * 8 + l).filter fun h => decide (s.grdTracker h = m)

/-- Holdover of tracker `m` of die `d` begins (R364): the tick is noted, and the frequency timers of the monitors on it stop at what
they have counted. -/
def State.gridHoldover (s : State) (d m : Nat) : State :=
  let t := s.tick d
  forEach (s.gridHerds d m) (fun s h => s.modGrd h fun G =>
    let G := [8, 9, 10, 11].foldl (fun G i => G.setTimer i ((Store.find G.timers i).map fun n => n - 1 + (t - G.freqFrom))) G
    { G with freqFrom := t }) (s.modTracker d m fun T => { T with holdAt := t })

/-- Holdover ends on tracker `m` (R364): its frequency timers go on from here. -/
def State.gridLocked (s : State) (d m : Nat) : State :=
  let t := s.tick d
  forEach (s.gridHerds d m) (fun s h => s.modGrd h fun G => { G with freqFrom := t }) s

end Sys2Proof.Machine
end

