-- ==== Sys2Proof/Machine/Track.lean ====
section
/-!
DEFINITION. TRACK herds (R378 to R384): the enable conditions, the tracking step, and sweeps.
-/
namespace Sys2Proof.Machine

/-- The conditions of R378. -/
def State.trackOk (s : State) (h : Nat) : Bool :=
  let d := h / 8; let l := h % 8
  let home : Nat → Bool := fun p => decide (pointDie p = d)
  let lo := s.getI F.TRK_SMIN_SMIN d l
  decide (s.get F.HERD_CTL_ROLE d l = 5) && home (s.get F.TRK_VPT_POINT d l) && home (s.get F.TRK_IPT_POINT d l) &&
  home (s.get F.TRK_OUT_POINT d l) && home (s.get F.TRK_BUS_POINT d l) &&
  decide (0 < lo) && decide (lo ≤ s.getI F.TRK_SMAX_SMAX d l) &&
  decide (s.getI F.TRK_VMIN_VMIN d l < s.getI F.TRK_VMAX_VMAX d l) && s.bit F.TRK_CFG_SWEEP_MIN d l

/-- TRK_CFG.EN written from 0 to 1 (R378). -/
def State.trackEnable (s : State) (q : Requester) (h : Nat) : State :=
  let d := h / 8; let l := h % 8
  if s.bit F.TRK_CFG_EN d l then s
  else if (s.herdState h).locked then s.wref q F.TRK_CFG_EN d l
  else if s.trackOk h then (s.put F.TRK_CFG_EN 1 d l).put F.TRK_STAT_CFG_RES 0 d l
  else s.put F.TRK_STAT_CFG_RES Status.refused.code d l


/-- The unit works: enabled, the herd RUNNING or STOPPING (R379). -/
def State.trackActs (s : State) (h : Nat) : Bool := s.bit F.TRK_CFG_EN (h / 8) (h % 8) && s.herdActive h

/-- The settings that act between periods: VMIN, VMAX, SW_T, SW_TMO, SW_EN and SWEEP_MIN. -/
def State.trkLive (s : State) (h : Nat) : List Int :=
  let d := h / 8; let l := h % 8
  [s.getI F.TRK_VMIN_VMIN d l, s.getI F.TRK_VMAX_VMAX d l, s.get F.TRK_SW_SW_T d l, s.get F.TRK_SW_SW_TMO d l,
   s.get F.TRK_CFG_SW_EN d l, s.get F.TRK_CFG_SWEEP_MIN d l]

/-- The settings of `trkLive` in effect (R388): those that a write replaced stay until the period after that write. -/
def State.trkNow (s : State) (h : Nat) : List Int :=
  match (s.trk h).held with
  | some (w, old) =>
    if nextDue (s.trk h).at_ (max (s.get F.TRK_PER_TPER (h / 8) (h % 8)) 1) w ≤ s.tick (h / 8) then s.trkLive h else old
  | none => s.trkLive h
/-- VMIN in effect. -/
def State.trkVmin (s : State) (h : Nat) : Int := (s.trkNow h).getD 0 0
/-- VMAX in effect. -/
def State.trkVmax (s : State) (h : Nat) : Int := (s.trkNow h).getD 1 0
/-- SW_EN in effect. -/
def State.trkSweeps (s : State) (h : Nat) : Bool := decide ((s.trkNow h).getD 4 0 ≠ 0)
/-- The time between two sweeps in ticks (R382). -/
def State.sweepTicks (s : State) (h : Nat) : Nat := ((s.trkNow h).getD 5 0).toNat * 6000000000

/-- A write to the unit's settings between two periods; `old` is the state before it. -/
def State.trackHold (s old : State) (h : Nat) : State :=
  if s.trackActs h && !decide (s.trkNow h = old.trkNow h) then
    s.modTrk h fun T => { T with held := some (s.tick (h / 8), old.trkNow h) }
  else s

/-- Entry into RUNNING (R382). -/
def State.trackRun (s : State) (h : Nat) : State :=
  let d := h / 8; let l := h % 8
  if s.bit F.TRK_CFG_EN d l then
    let t := s.tick d
    (s.put F.TRK_VREF_VREF (s.point (s.get F.TRK_VPT_POINT d l)).toNat d l).modTrk h fun T =>
      { T with havePrev := false, first := true, sweepAt := t, at_ := t, held := none }
  else s

/-- VREF written to the OUT point (R378). -/
def State.trackOut (s : State) (h : Nat) : State :=
  s.hwPoint (s.get F.TRK_OUT_POINT (h / 8) (h % 8)) (BitVec.ofNat 24 (s.get F.TRK_VREF_VREF (h / 8) (h % 8)))

/-- VREF set. -/
def State.setVref (s : State) (h : Nat) (v : Int) : State := s.putI F.TRK_VREF_VREF (sat24 v) (h / 8) (h % 8)
/-- VREF. -/
def State.vref (s : State) (h : Nat) : Int := s.getI F.TRK_VREF_VREF (h / 8) (h % 8)
/-- A voltage within VMIN to VMAX. -/
def State.vrefLimit (s : State) (h : Nat) (v : Int) : Int :=
  clampInt v (s.trkVmin h) (s.trkVmax h)

/-- The move of a tracking step by the slope dP/dV (R379); the rounding of the product with KSTEP is left open. -/
def State.trackMove (s : State) (h : Nat) (v i : Int) : Int × State :=
  let d := h / 8; let l := h % 8
  let T := s.trk h
  let lo := s.getI F.TRK_SMIN_SMIN d l
  let dv := v - T.vPrev
  let di := i - T.iPrev
  if dv.natAbs < lo then (if di ≠ 0 then signOf di * lo else 0, s)
  else
    let p := v * i - T.vPrev * T.iPrev
    if s.getI F.TRK_SDB_SDB d l * dv.natAbs < p.natAbs then
      let r := s.freeRound (p.natAbs * s.getI F.TRK_KSTEP_KSTEP d l) (dv.natAbs * 65536)
      (signOf p * signOf dv * clampInt (sat24 r.1) lo (s.getI F.TRK_SMAX_SMAX d l), r.2)
    else (0, s)

/-- The reference of a tracking step (R379 to R381). -/
def State.trackRef (s : State) (h : Nat) (v i bus : Int) : State :=
  let d := h / 8; let l := h % 8
  let curt := s.getI F.TRK_CURT_CURT d l
  if s.bit F.LAW_STAT_VSAT_NOW d l then s.put F.TRK_STAT_HOLD 1 d l
  else
    let s := s.put F.TRK_STAT_HOLD 0 d l
    if curt < bus then
      let s := if s.bit F.TRK_STAT_CURT_NOW d l then s else (s.put F.TRK_STAT_CURT_NOW 1 d l).put F.TRK_STAT_CURT 1 d l
      s.setVref h (min (s.vref h + s.getI F.TRK_SMAX_SMAX d l) (s.getI F.TRK_VMAX_VMAX d l))
    else if s.bit F.TRK_STAT_CURT_NOW d l && decide (curt - s.getI F.TRK_CHYS_CHYS d l < bus) then s
    else
      let s := s.put F.TRK_STAT_CURT_NOW 0 d l
      let m := if (s.trk h).havePrev then s.trackMove h v i else (0, s)
      m.2.setVref h (s.vrefLimit h (s.vref h + m.1))

/-- A step of the tracking unit (R379). -/
def State.trackStep (s : State) (h : Nat) : State :=
  let d := h / 8; let l := h % 8
  let t := s.tick d
  if s.trackActs h && !s.bit F.TRK_STAT_SWEEPING d l && decide ((s.trk h).at_ + max (s.get F.TRK_PER_TPER d l) 1 ≤ t) then
    let v := s.pointI (s.get F.TRK_VPT_POINT d l)
    let i := s.pointI (s.get F.TRK_IPT_POINT d l)
    let s := (s.modTrk h fun T => { T with held := none }).trackRef h v i (s.pointI (s.get F.TRK_BUS_POINT d l))
    (s.modTrk h fun T => { T with vPrev := v, iPrev := i, havePrev := true, at_ := t }).trackOut h
  else s

/-- TRACK_STEP (R379). Every TPER ticks the tracking unit steps the string voltage reference or curtails. -/
def execTrackStep (h : Nat) (s : State) : Host.Outcome State Fault Refusal :=
  guarded (decide (h < 8 * s.dies)) s <|
    s.trackStep h


/-! ### Sweeps -/

/-- The ramp time in ticks (R383). -/
def State.rampTicks (s : State) (h : Nat) : Nat := max ((s.trkNow h).getD 2 0).toNat 1 * 100000
/-- The result timeout in ticks (R384). -/
def State.resultTicks (s : State) (h : Nat) : Nat := max ((s.trkNow h).getD 3 0).toNat 1 * 100000

/-- The tick on which the next sweep is due (R382), by the SWEEP_MIN in effect. -/
def State.sweepDue (s : State) (h : Nat) : Nat :=
  (s.trk h).sweepAt + if (s.trk h).first then 100000000 else s.sweepTicks h

/-- The ramp of the sweep in progress has ended (R383). -/
def State.rampOver (s : State) (h : Nat) : Bool := decide ((s.trk h).sweepAt + s.rampTicks h ≤ (s.trk h).rampAt)

/-- A due sweep starts (R381 to R383). -/
def State.sweepStart (s : State) (h : Nat) : State :=
  let d := h / 8; let l := h % 8
  let t := s.tick d
  if s.trackActs h && s.trkSweeps h && !s.bit F.TRK_STAT_SWEEPING d l && decide (s.sweepDue h ≤ t) &&
     !s.bit F.TRK_STAT_CURT_NOW d l && !s.bit F.LAW_STAT_VSAT_NOW d l then
    let cv := s.get F.TRK_CFG_CV d l
    let ci := s.get F.TRK_CFG_CI d l
    let v0 := s.get F.TRK_VREF_VREF d l
    let s := (s.put F.TRK_STAT_SWEEPING 1 d l).modTrk h fun T =>
      { T with vref0 := v0, sweepAt := t, rampAt := t, first := false }
    let s := s.mark d cv 0x5B
    let s := if ci = cv then s else s.mark d ci 0x5B
    (s.setVref h (s.trkVmax h)).trackOut h
  else s

/-- SWEEP_START (R383). A due sweep saves VREF, marks both rings and starts the voltage ramp. -/
def execSweepStart (h : Nat) (s : State) : Host.Outcome State Fault Refusal :=
  guarded (decide (h < 8 * s.dies)) s <|
    s.sweepStart h


/-- A step of the ramp (R383); the rounding along the line is left open. -/
def State.rampStep (s : State) (h : Nat) : State :=
  let d := h / 8; let l := h % 8
  let T := s.trk h
  if s.trackActs h && s.bit F.TRK_STAT_SWEEPING d l && !s.bit F.TRK_STAT_WAIT_GMP d l && decide (T.rampAt + 10000 ≤ s.tick d) &&
     !s.rampOver h then
    let hi := s.trkVmax h
    let k := T.rampAt + 10000 - T.sweepAt
    let r := s.freeRound (hi * s.rampTicks h - (hi - s.trkVmin h) * k) (s.rampTicks h)
    ((r.2.setVref h r.1).modTrk h fun T => { T with rampAt := T.rampAt + 10000 }).trackOut h
  else s

/-- SWEEP_RAMP_STEP (R383). Every 10,000 ticks during a sweep the reference ramp is written to the OUT point. -/
def execSweepRampStep (h : Nat) (s : State) : Host.Outcome State Fault Refusal :=
  guarded (decide (h < 8 * s.dies)) s <|
    s.rampStep h


/-- Both rings are FROZEN once the ramp has ended (R383): WAIT_GMP, and the task of TRK_DISP. The steps of R383 are taken in their
order: rings that freeze earlier wait for the ramp's end (DEDUCED, log entry 62). The argument that the task receives is left
open. -/
def State.sweepFrozen (s : State) (h : Nat) : State :=
  let d := h / 8; let l := h % 8
  if s.trackActs h && s.bit F.TRK_STAT_SWEEPING d l && !s.bit F.TRK_STAT_WAIT_GMP d l && s.rampOver h &&
     s.bit F.CAP_STAT_FROZEN d (s.get F.TRK_CFG_CV d l) && s.bit F.CAP_STAT_FROZEN d (s.get F.TRK_CFG_CI d l) then
    let t := s.tick d
    let s := (s.put F.TRK_STAT_WAIT_GMP 1 d l).modTrk h fun T => { T with gmpAt := t }
    if s.bit F.TRK_DISP_EN d l then
      let w := s.get F.TRK_DISP_ENGTASK d l
      s.nextFresh.dispatch (d * 32 + w / 32) (w % 32) (Config.freeNat s.fresh % 65536) 0
    else s
  else s

/-- SWEEP_FROZEN (R383). When both rings are frozen the unit sets WAIT_GMP and dispatches the sweep task. -/
def execSweepFrozen (h : Nat) (s : State) : Host.Outcome State Fault Refusal :=
  guarded (decide (h < 8 * s.dies)) s <|
    s.sweepFrozen h


/-- A write of TRK_GMP (R384). -/
def State.trackGmp (s : State) (q : Requester) (h : Nat) (v : Word) : State :=
  let d := h / 8; let l := h % 8
  if s.bit F.TRK_STAT_WAIT_GMP d l then
    let s := s.setVref h (s.vrefLimit h v.toInt)
    let s := ((s.put F.TRK_STAT_SWEEPING 0 d l).put F.TRK_STAT_WAIT_GMP 0 d l).modTrk h fun T => { T with havePrev := false }
    (s.put F.TRK_STAT_SW_DONE 1 d l).incSat F.TRK_CNT_SWEEP_CNT d l
  else s.wref q F.TRK_GMP_VOLT d l


/-- A sweep that times out fails (R384). -/
def State.sweepFail (s : State) (h : Nat) : State :=
  let d := h / 8; let l := h % 8
  let T := s.trk h
  let wait := s.bit F.TRK_STAT_WAIT_GMP d l
  let due := if wait then T.gmpAt + s.resultTicks h else T.sweepAt + s.rampTicks h + s.resultTicks h
  if s.trackActs h && s.bit F.TRK_STAT_SWEEPING d l && decide (due ≤ s.tick d) then
    let s := ((s.put F.TRK_VREF_VREF T.vref0 d l).put F.TRK_STAT_SWEEPING 0 d l).put F.TRK_STAT_WAIT_GMP 0 d l
    let s := (s.put F.TRK_STAT_SW_FAIL 1 d l).incSat F.TRK_CNT_SWFAIL_CNT d l
    s.hwRecord d 0x0524 (some h) noLeg (if wait then 1 else 0) T.vref0 (s.get F.TRK_CNT_SWEEP_CNT d l)
  else s

/-- SWEEP_FAIL (R384). A sweep timing out restores VREF0, sets SW_FAIL and records it. -/
def execSweepFail (h : Nat) (s : State) : Host.Outcome State Fault Refusal :=
  guarded (decide (h < 8 * s.dies)) s <|
    s.sweepFail h


end Sys2Proof.Machine
end

