-- ==== Sys2Proof/Machine/LoadAll.lean ====
section
/-!
DEFINITION. The load-all (R229 to R232): its issue on the home die, its arrival on a member die, and the quiet-group
evaluation that goes with each copy (R337 to R339).
-/
namespace Sys2Proof.Machine

/-! ### Quiet groups -/

/-- The window settings that die `d` holds of herd `h` (R355): PRE, POST and SAT. -/
def State.quietWindow (s : State) (d h : Nat) : Nat × Nat × Nat :=
  if d = h / 8 then (s.get F.DRV_QW_PRE d (h % 8), s.get F.DRV_QW_POST d (h % 8), s.get F.DRV_QW_SAT d (h % 8)) else (s.drv h).qw

/-- Group `g` as die `d` holds it: enabled, published, point. -/
def State.quietGroup (s : State) (d h g : Nat) : Bool × Bool × Nat :=
  if d = h / 8 then (s.bit F.DRV_QG_EN d (h % 8) g, s.bit F.DRV_QG_PT_EN d (h % 8) g, s.get F.DRV_QG_POINT d (h % 8) g)
  else (s.drv h).qg.getD g (false, false, 0)

/-- The legs of quiet group `g` of herd `h` on die `d`: on a member die, by its copy of DRV_LCFG (R355). -/
def State.quietLegs (s : State) (d h g : Nat) : List Nat :=
  (s.herdLegsOn d h).filter fun n =>
    if d = h / 8 then s.bit F.DRV_LCFG_PH d n && s.bit F.DRV_LCFG_QG_EN d n && decide (s.get F.DRV_LCFG_QG d n = g)
    else (s.drv h).lcfg.contains (d * 24 + n, g)

/-- The largest of a list, 0 of the empty list. -/
def largest (xs : List Nat) : Nat := xs.foldl max 0

/-- The quiet time nq of a group (R337), in 156.25 ps steps. -/
def quietSteps (w : Nat × Nat × Nat) (rise fall : Nat) : Nat :=
  let valley := max (64 * w.2.1) (64 * w.1 + fall)
  let peak := max (64 * w.1 + rise) (64 * w.2.1)
  match w.2.2 with | 0 => valley | 1 => peak | _ => max valley peak

/-- The permitted excursion emax (R337). -/
def quietMax (nq step : Nat) : Nat := 8388608 - (nq * step + 8191) / 8192

/-- The requested excursion (R338), none where no duty remains. -/
def quietRequest (sat : Nat) (duties : List Nat) : Option Int :=
  let ds := duties.filter fun x => decide (x ≠ 0) && decide (x ≠ 0xFFFFFF)
  if ds.isEmpty then none
  else
    let valley : Int := (largest ds : Int) - 8388608
    let peak : Int := 8388608 - (lowest ds : Int)
    some (match sat with | 0 => valley | 1 => peak | _ => max valley peak)

/-- A duty of a rescaled group (R338). -/
def quietScale (k duty : Nat) : Nat :=
  if 8388608 ≤ duty then 8388608 + (duty - 8388608) * k / 8388608 else 8388608 - (8388608 - duty) * k / 8388608

/-- Group `g` of herd `h` is evaluated on die `d` (R337 to R339) once its pending sets are filled: they are rescaled where the
request exceeds the limit. -/
def State.quietEval (s : State) (d h g : Nat) : State :=
  let ns := s.quietLegs d h g
  let q : Bool × Bool × Nat := s.quietGroup d h g
  if !q.1 || ns.isEmpty then s
  else
    let w := s.quietWindow d h
    let step := (s.base d (s.get F.LEG_MODE_BASE d (ns.headD 0))).step.natAbs
    let nq := quietSteps w (largest (ns.map fun n => s.getSh F.LEG_CFG_RISE_DLY d n)) (largest (ns.map fun n => s.getSh F.LEG_CFG_FALL_DLY d n))
    let emax := quietMax nq step
    let hit := match quietRequest w.2.2 (ns.map fun n => s.getSh F.LEG_DUTY_DUTY d n) with
      | some e => if (emax : Int) < e then some e.toNat else none
      | none => none
    let k := match hit with | some e => emax * 8388608 / e | none => 0x7FFFFF
    let s : State := if hit.isSome then
        let s := ns.foldl (fun s n => s.modLeg d n fun L =>
          { L with pend := L.pend.map fun p => { p with duty := quietScale k p.duty } }) s
        ((s.put F.DRV_STAT_MDLIM 1 (h / 8) (h % 8)).put F.DRV_STAT_MDLIM_NOW 1 (h / 8) (h % 8)).incSat F.DRV_CNT_MDLIM_CNT (h / 8) (h % 8)
      else s
    if q.2.1 then
      let vs := [BitVec.ofNat 24 emax, BitVec.ofNat 24 k]
      if pointDie q.2.2 = d then (if s.pointStatus q.2.2 = .ok then s.writeGroup q.2.2 vs .unit none else s)
      else if s.dies ≤ pointDie q.2.2 then s
      else s.sendXfer d (pointDie q.2.2) .unit none (.group q.2.2 vs)
    else s

/-- The quiet groups of herd `h` on die `d` (R337), while the DRIVE units run. -/
def State.quietGroups (s : State) (d h : Nat) : State :=
  if s.bit F.DRV_CFG_EN (h / 8) (h % 8) then forEach (List.range 4) (fun s g => s.quietEval d h g) s else s

/-! ### Boundaries -/

/-- What waits for a boundary of the leg ends with the next PWM clock (R237, R269, R272, R348). -/
def State.boundaryReleases (s : State) (d n pos : Nat) : State :=
  s.modLeg d n fun L =>
    { L with comp := if L.compRelease then none else L.comp, compRelease := false,
             short := if L.shortRelease then none else L.short, shortRelease := false,
             clearHold := match L.clearHold with | some p => if p ≤ pos then none else some p | none => none }

/-- A boundary of a leg (R230, R234): the pending set becomes active when it is due, the latches that clear here do (R204), C takes
its level, what waits for the boundary ends with the next PWM clock (R237), and the rest of the tick's movement runs. The level at a
boundary reached by the increment is that beyond it in the direction of travel. -/
def State.legBoundary (s : State) (d n : Nat) (sp : LegSpan) : State :=
  let t := s.tick d
  let m := sp.step.natAbs
  let fwd := if sp.jumping then sp.fwd else decide (0 ≤ sp.step)
  let pos := sp.edge * 64 + (if sp.jumping then 64 else edgePos sp.done m)
  let s := s.modLeg d n fun L => { L with boundary := none, lastBoundary := some t }
  let old := s.get F.LEG_PHASE_PHASE d n
  let due := match (s.leg d n).pend with | some p => if p.due ≤ t then some p else none | none => none
  let s := match due with | some p => s.activate d n p | none => s
  let s := s.boundaryLatches d n pos
  let before := sp.theta
  let sp := { sp with theta := sp.theta + BitVec.ofNat 32 (s.get F.LEG_PHASE_PHASE d n) - BitVec.ofNat 32 old }
  let θ := if sp.jumping then sp.theta else sp.theta + BitVec.ofInt 32 (if fwd then sp.done else -(sp.done : Int))
  let s :=
    if s.bit F.LEG_MODE_EN d n then
      if due.isSome || sp.jumping then
        s.levelEdge d n pos m fwd θ (levelAt (s.get F.LEG_MODE_WAVE d n) (s.duty d n) (if sp.jumping || fwd then θ else θ - 1)) (!sp.jumping && decide (sp.theta = before))
      else s.spanEdges d n sp (sp.done - 1) sp.done
    else s
  let s := match due with | some p => s.activateHolds d n p | none => s
  let s := s.boundaryReleases d n pos
  let s := (s.driveLeg d n (pos / 16 * 16 + 16) false).burstBoundary d n (due.map (·.due))
  if sp.jumping then s else s.legSpan d n sp

/-- The boundaries of leg `n` that wait are handled. -/
def State.settleLeg (s : State) (d n : Nat) : State :=
  forEach (List.range 4) (fun (s : State) (_ : Nat) =>
    match (s.leg d n).boundary with | some sp => s.legBoundary d n sp | none => s) s

/-! ### Issue and arrival -/

/-- The shadow values of AB_PHASE of the bases that `p` picks become active (R59); the change is a jump on the next
tick, unless the base has been reloaded on this tick, from the new value. -/
def State.loadPhases (s : State) (d : Nat) (p : Nat → Bool) : State :=
  forEach ((List.range 16).filter p) (fun s b =>
    let old := s.get F.AB_PHASE_PHASE d b
    let new := s.getSh F.AB_PHASE_PHASE d b
    if old = new then s
    else (s.loadSh F.AB_PHASE_PHASE d b).modBase d b fun B =>
      if B.reloaded then B else { B with jumpIn := B.jumpIn + ((new : Int) - old) }) s

/-- The copy on die `d` (R229 to R231) with the quiet groups; a full pending set is counted as a merge. -/
def State.copyOn (s : State) (d h due : Nat) (ns : List Nat) (inRun : Bool) : State :=
  let r := s.copyPend d ns due inRun
  let s := r.1.quietGroups d h
  if r.2 then s.incSat F.LA_STAT_MERGE_CNT (h / 8) (h % 8) else s

/-- What the units of the herds `hs` of a die write at their load-alls of one tick, in the order of R138: first the heels, then
the REGULATE managers. The boundaries that the herds' legs have reached are dealt with before. -/
def State.loadUnits (s : State) (d : Nat) (hs : List Nat) : State :=
  let ns := (List.range 24).filter fun n => match s.legHerd d n with | some h => hs.contains h | none => false
  forEach hs (fun s h => s.manager h) ((forEach ns (fun s n => s.settleLeg d n) s).heelsLoad hs)

/-- The rest of a load-all of herd `h` on its home die (R229), behind `State.loadUnits`. `loose`: by LA_CMD, which also takes the legs
and bases of the die that no herd owns (R246). -/
def State.loadRest (s : State) (h : Nat) (loose : Bool) : State :=
  let d := h / 8; let l := h % 8
  let due := s.tick d + 64
  let inRun := decide (s.herdState h = .running)
  let ns := (List.range 24).filter fun n => decide (s.legHerd d n = some h) || (loose && (s.legHerd d n).isNone)
  let s := if loose then forEach ns (fun s n => s.settleLeg d n) s else s
  let s := s.put F.DRV_STAT_MDLIM_NOW 0 d l
  let s := (s.copyOn d h due ns inRun).incMod F.LA_STAT_LA_CNT d l
  let s := s.lawLoad h
  let s := s.loadPhases d fun b => decide (s.abHerd d b = some h) || (loose && (s.abHerd d b).isNone)
  forEach ((List.range s.dies).filter fun k => decide (k ≠ d) && s.herdOnDie k h)
    (fun s k => s.sendXfer d k .unit none (.loadAll h due inRun)) s

/-- A load-all of herd `h` is issued on its home die (R229): the work of one store cycle (R138). -/
def State.loadAllWith (s : State) (h : Nat) (loose : Bool) : State :=
  s.inCycle fun s => (s.loadUnits (h / 8) [h]).loadRest h loose

/-- A load-all of herd `h` by LOADALL (R133). -/
def State.loadAll (s : State) (h : Nat) : State := s.loadAllWith h false


/-- A load-all arrives on member die `d` (R229, R232): a leg that has already reached a boundary at or after the due tick is
late. -/
def State.loadAllArrives (s : State) (d h due : Nat) (inRun : Bool) : State :=
  let ns := s.herdLegsOn d h
  let s := forEach ns (fun s n => s.settleLeg d n) s
  let late := ns.filter fun n => match (s.leg d n).lastBoundary with | some t => decide (due ≤ t) | none => false
  let s := s.copyOn d h due ns inRun
  let s := s.loadPhases d fun b => decide (s.abHerd d b = some h)
  let s := forEach late (fun s n => (s.put F.LEG_STAT_LATE 1 d n).incSat F.LEG_CNT2_LATE_CNT d n) s
  if late.isEmpty then s else s.hwRecord d 0x0301 (some h) noLeg d 0 0

end Sys2Proof.Machine
end

