-- ==== Sys2Proof/Machine/LegCmd.lean ====
section
/-!
DEFINITION. Commands and events of legs and gate ports: dead times, boundaries (R230 to R236), forces and masks (R238 to R241,
R313, R349), strength frames (R250 to R254), edge-time returns and the adaptive law (R257 to R262), trips, the trip mesh and
clears (R263 to R272).
-/
namespace Sys2Proof.Machine

/-! ### Edges -/

/-- DEAD_TIME_END (R223). The delayed rising edge of GH or GL is driven when RISE_DLY or FALL_DLY has elapsed, subject
to the interlock. -/
def execDeadTimeEnd (d : Nat) (n : Nat) (s : State) : Host.Outcome State Fault Refusal :=
  guarded (decide (d < s.dies) && decide (n < 24)) s <|
    s.deadTimeEnd d n (s.tick d * 64 + 64)


/-- LEG_BOUNDARY (R230). A leg reaching its carrier boundary at or after the due tick moves its pending set to active,
applies phase changes, clears LMODE=1 latches and ends holds awaiting the boundary. -/
def execLegBoundary (d : Nat) (n : Nat) (s : State) : Host.Outcome State Fault Refusal :=
  guarded (decide (d < s.dies) && decide (n < 24)) s <|
    match (s.leg d n).boundary with | some sp => s.legBoundary d n sp | none => s


/-- A written PERIOD is applied to its base at the forward wrap (R235). -/
def State.periodApply (s : State) (d b : Nat) : State :=
  match (s.base d b).period with
  | some (v, _) =>
    if (s.base d b).periodReached then
      let s := s.modBase d b fun B => { B with period := none, periodReached := false }
      if s.get F.AB_CFG_TYPE d b = 0 then s.put F.AB_INC_INC v d b
      else if s.get F.AB_CFG_TYPE d b = 4 then s.put F.AB_MULT_MULT v d b else s
    else s
  | none => s

/-- PERIOD_APPLY (R235). A written PERIOD is applied to the leg's base at the first forward wrap at or after the due
tick. -/
def execPeriodApply (d : Nat) (b : Nat) (s : State) : Host.Outcome State Fault Refusal :=
  guarded (decide (d < s.dies) && decide (b < 16)) s <|
    s.periodApply d b


/-- The state of the herd of leg `n` of die `d` locks its RWL fields (R12, R246). -/
def State.legLocked (s : State) (d n : Nat) : Bool :=
  match s.legHerd d n with | some h => (s.herdStateAt d h).locked | none => false

/-- LEG_MODE.EN goes from 0 to 1 (R236): the shadow set becomes active and the leg starts from its present carrier angle. -/
def State.legStart (s : State) (d n : Nat) : State :=
  let s := ((((s.loadSh F.LEG_DUTY_DUTY d n).loadSh F.LEG_CFG_RISE_DLY d n).loadSh F.LEG_CFG_FALL_DLY d n).loadSh
    F.LEG_PHASE_PHASE d n).loadSh F.LEG_PER_PERIOD d n
  let s := (s.put F.LEG_MODE_EN 1 d n).put F.LEG_STAT_PEND 0 d n
  let c := s.levelNow d n
  ((s.modLeg d n fun L => { L with pend := none, car := c }).endPair d n).driveLegs d [n]

/-- LEG_MODE.EN written 1: an RWL field. -/
def State.legEnable (s : State) (q : Requester) (d n : Nat) : State :=
  if s.bit F.LEG_MODE_EN d n then s
  else if s.legLocked d n then s.wref q F.LEG_MODE_EN d n
  else s.legStart d n


/-- Leg `n` of die `d` is a section leg of an enabled chopper (R349). -/
def State.isSection (s : State) (d n : Nat) : Bool :=
  (List.range (8 * s.dies)).any fun h =>
    s.bit F.CH_CFG_EN (h / 8) (h % 8) && (s.sections h).any fun k => decide (s.sectionLeg h k = d * 24 + n)

/-- A write of LEG_FORCE (R241, R246, R349): its status. On L0 to L19 every write is refused; on an F-leg a write of the value held
changes nothing (R566). -/
def State.writeForce (s : State) (q : Requester) (d n v : Nat) : State × Status :=
  if n < 20 then (s.wref q F.LEG_FORCE_FORCE d n, .refused)
  else if s.get F.LEG_FORCE_FORCE d n = v % 4 then (s, .ok)
  else if s.isSection d n then (s.wref q F.LEG_FORCE_FORCE d n, .refused) else (s.setForce d n (v % 4), .ok)


/-- The legs of group `g` driven by their present mask. -/
def State.driveGroup (s : State) (d g : Nat) : State := s.driveLegs d ((List.range 6).map fun i => 6 * g + i)

/-- A write of GRP_MASK.MASK (R238, R313): the bits of phase legs keep their values, and a write that would change one is
refused for it. -/
def State.writeMask (s : State) (q : Requester) (d g mask : Nat) : State :=
  let bad := (List.range 6).filter fun i => s.isPhase d (6 * g + i) && decide (mask.testBit i ≠ s.getBit F.GRP_MASK_MASK i d g)
  let s' := forEach ((List.range 6).filter fun i => !s.isPhase d (6 * g + i))
    (fun s i => s.putBit F.GRP_MASK_MASK i (mask.testBit i) d g) s
  (if bad.isEmpty then s' else s'.wref q F.GRP_MASK_MASK d g).driveGroup d g


/-! ### Strength frames -/

/-- The frame pair of the next C edge (R251, R252): within 400 ns of it, while gate port, leg and carrier run. A frame that would
start less than 200 ns before its edge, or while GS is busy, is skipped and counted; either way the edge has had its pair. -/
def State.framePair (s : State) (d n : Nat) : State :=
  let L := s.leg d n
  let now := s.tick d * 64
  if !s.bit F.GATE_CFG_EN d n || !s.bit F.LEG_MODE_EN d n || s.bit F.LEG_STAT_TRIP d n || L.paired then s
  else
    match s.nextEdge d n with
    | none => s
    | some (up, p) =>
      if now + 64 + 2560 < p then s
      else
        let start := pwmClock (max (p - 2560) now)
        let dly := if up then s.get F.LEG_CFG_RISE_DLY d n else s.get F.LEG_CFG_FALL_DLY d n
        let kOff := if up then 3 else 1
        let kOn := if up then 0 else 2
        let a := decide (start + 1280 ≤ p) && decide (L.gsFree ≤ start)
        let b := decide (start + 1152 + 1280 ≤ p + dly) && decide (L.gsFree ≤ start + 1152)
        let s := if a then s else s.incSat F.GATE_CNT_SKIP_CNT d n
        let s := if b then s else s.incSat F.GATE_CNT_SKIP_CNT d n
        let fs : List Frame := (if a then [⟨start, kOff, s.strength d n kOff, false⟩] else []) ++
          (if b then [⟨start + 1152, kOn, s.strength d n kOn, false⟩] else [])
        s.modLeg d n fun L => { L.sendFrames now fs with paired := true, framedOff := a, framedOn := b }

/-- STRENGTH_FRAME (R251). When a command edge is predicted within 400 ns, the leg sends a strength frame for the
coming edge, or skips it. -/
def execStrengthFrame (d : Nat) (n : Nat) (s : State) : Host.Outcome State Fault Refusal :=
  guarded (decide (d < s.dies) && decide (n < 24)) s <|
    s.framePair d n


/-- Bit `k` of a strength frame of edge kind `kind` with code `c` (R250). -/
def frameBit (kind c k : Nat) : Bool :=
  let side := decide (2 ≤ kind)
  let turnOn := decide (kind % 2 = 0)
  let bits := [side, turnOn, c.testBit 3, c.testBit 2, c.testBit 1, c.testBit 0]
  match k with
  | 0 => false
  | 7 => (bits.filter id).length % 2 == 1
  | k => bits.getD (k - 1) true

/-- The level of GS at position `p` (R249, R250): idle high, or the bit of the frame that is being sent; low in RESET (R577, R578), with the
LEG domain not ON, or the clocks gated (R489, R497). -/
def State.gsLevel (s : State) (d n p : Nat) : Bool :=
  if s.pkgState = 0 ∨ !s.domOn d domLEG ∨ (s.die d).gated then false
  else if !s.bit F.GATE_CFG_EN d n then true
  else
    match (s.leg d n).frames.find? fun f => decide (f.start ≤ p) && decide (p < f.start + 1024) with
    | some f => frameBit f.kind f.code ((p - f.start) / 128)
    | none => true

/-- GATE_CFG.EN goes from 0 to 1 (R254): a preload event. -/
def State.gateEnable (s : State) (q : Requester) (d n : Nat) : State :=
  if s.bit F.GATE_CFG_EN d n then s
  else if s.legLocked d n then s.wref q F.GATE_CFG_EN d n
  else (s.put F.GATE_CFG_EN 1 d n).preload d n

/-- GATE_CFG.EN goes from 1 to 0 (R249): the frames that have not ended are not sent, and no edge waits for its return any more. -/
def State.gateDisable (s : State) (d n : Nat) : State :=
  let now := s.tick d * 64
  (s.endPair d n).modLeg d n fun L =>
    { L with frames := L.frames.filter fun f => decide (f.start + 1024 ≤ now), returns := [] }


/-! ### Returns -/

/-- The adaptive law (R262) for a measurement of `w` counts of a framed edge of kind `k`. -/
def State.adapt (s : State) (d n k w : Nat) : State :=
  let lo := s.get F.GATE_CFG_STR_MIN d n
  let hi := s.get F.GATE_CFG_STR_MAX d n
  let tgt := min (max (if k % 2 = 0 then s.get F.GATE_TGT_T_ON d n else s.get F.GATE_TGT_T_OFF d n) 20) 800
  let e : Int := 10 * w - 128 * tgt
  let e := if e.natAbs ≤ 128 * s.get F.GATE_LAW_DBAND d n then 0 else e
  let i := min (max (Store.get (s.leg d n).integ 0 k + e) (-32768)) 32767
  let lim : Int := 128 * max (s.get F.GATE_LAW_ILIM d n) 1
  let c := min (max (s.strength d n k) lo) hi
  let r := if lim ≤ i then (min (c + 1) hi, 0) else if i ≤ -lim then (max (c - 1) lo, 0) else (c, i)
  (s.setStrength d n k r.1).modLeg d n fun L => { L with integ := Store.set L.integ 0 k r.2 }

/-- The latest result of an edge kind (R261). -/
def State.edgeResult (s : State) (d n : Nat) (e : RetEdge) (notr : Bool) (w : Nat) : State :=
  (((s.put F.GATE_EDGE_CODE e.code d n e.kind).putB F.GATE_EDGE_NOTR notr d n e.kind).putB F.GATE_EDGE_FRAMED e.framed d n e.kind).put
    F.GATE_EDGE_W w d n e.kind

/-- A low pulse that starts meets the oldest edge that waits (R258, R259, R262): one of at most 2.5 µs gives its result. -/
def State.returnPulse (s : State) (d n w : Nat) : State :=
  match (s.leg d n).returns with
  | [] => s.incSat F.GATE_CNT2_STRAY_CNT d n
  | e :: es =>
    let s := s.modLeg d n fun L => { L with returns := es, missRun := 0 }
    if 16000 < w then s
    else if w < 128 then (s.edgeResult d n e true w).incSat F.GATE_CNT2_NOTR_CNT d n
    else
      let s := s.edgeResult d n e false w
      if s.bit F.GATE_CFG_ADAPT d n && e.framed then s.adapt d n e.kind w else s

/-- The gate port of leg `n` measures GF (R249). -/
def State.gfOn (s : State) (d n : Nat) : Bool := s.bit F.GATE_CFG_EN d n && s.domOn d domLEG

/-- A low pulse on GF of `w` counts starts (R258, R259). One of at most 2.5 µs comes with its whole width, and GF counts as high
again with its result (log entry 52). A longer one leaves GF low; where GF is low already, the command is the end of that low. -/
def State.gfPulse (s : State) (d n w : Nat) : State :=
  let t := s.tick d
  let high := fun (s : State) =>
    ((s.put F.GATE_STAT_GF 1 d n).put F.GATE_STAT_GF_FLT 0 d n).modLeg d n fun L => { L with gfHighSince := some t }
  let back := decide (16000 < w) && !s.bit F.GATE_STAT_GF d n
  let s := if !back && s.gfOn d n then s.returnPulse d n w else s
  if back || decide (w ≤ 16000) then high s
  else (s.put F.GATE_STAT_GF 0 d n).modLeg d n fun L => { L with gfHighSince := none }

/-- GF_PULSE (R258). A low pulse on GF is measured and attributed to the oldest waiting edge or counted as stray. -/
def execGfPulse (d : Nat) (n : Nat) (w : Nat) (s : State) : Host.Outcome State Fault Refusal :=
  guarded (decide (d < s.dies) && decide (n < 24)) s <|
    s.gfPulse d n w


/-- RETURN_MISS (R259). An edge waiting 2 µs without a pulse leaves the return list as a miss. -/
def execReturnMiss (d : Nat) (n : Nat) (s : State) : Host.Outcome State Fault Refusal :=
  guarded (decide (d < s.dies) && decide (n < 24)) s <|
    match (s.leg d n).returns with
    | e :: es =>
      if e.at64 + 12800 ≤ s.tick d * 64 + 64 then (s.modLeg d n fun L => { L with returns := es }).returnMiss d n else s
    | [] => s


/-- GF has been low for 2.5 µs (R258, R263): the leg trips where gate port and leg are enabled. A low whose start no GF_PULSE
has brought takes its edge here; a fault that has tripped the leg already changes nothing. -/
def State.gfFault (s : State) (d n : Nat) : State :=
  let s := if s.bit F.GATE_STAT_GF d n && s.gfOn d n then s.returnPulse d n 16001 else s
  let s := (s.put F.GATE_STAT_GF 0 d n).modLeg d n fun L => { L with gfHighSince := none }
  if s.gfOn d n then
    let s := s.put F.GATE_STAT_GF_FLT 1 d n
    if s.bit F.LEG_MODE_EN d n && !s.bit F.GATE_TRIP_GF d n then s.legTrip d n 2 else s
  else s

/-- GF_FAULT (R263). GF low continuously for 2.5 µs trips the leg with source GF. -/
def execGfFault (d : Nat) (n : Nat) (s : State) : Host.Outcome State Fault Refusal :=
  guarded (decide (d < s.dies) && decide (n < 24)) s <|
    s.gfFault d n


/-! ### The trip mesh and clears -/

/-- A message of the mesh acts on die `d` (R267, R346). -/
def State.meshApply (s : State) (d : Nat) (m : MeshMsg) : State :=
  if !m.short then s.companionOn d m.herd m.mode
  else if s.bit F.DRV_STAT_WS_ACTIVE (m.herd / 8) (m.herd % 8) then s.shortOn d m.herd m.mode
  else s

/-- TRIP_MESH (R267). A companion action reaching a member die over the trip mesh acts on the herd's legs there. -/
def execTripMesh (d : Nat) (s : State) : Host.Outcome State Fault Refusal :=
  guarded (decide (d < s.dies)) s <|
    let ms := s.mesh.filter fun m => decide (m.die = d)
    ms.foldl (fun s m => s.meshApply d m) { s with mesh := s.mesh.filter fun m => decide (m.die ≠ d) }


/-- Every source of the leg's trip is inactive (R270); GF is no source where the gate port is off (R249). -/
def State.tripSourcesClear (s : State) (d n : Nat) : Bool :=
  (List.range 48).all (fun k =>
    !(s.bit F.CMP_STAT_LATCH d k && s.bit F.CMP_CFG_TRIP d k && decide (s.tiedLeg d k = some n))) &&
  !s.bit F.MOD_STAT_SC_HIT d n && (!s.bit F.GATE_CFG_EN d n || s.bit F.GATE_STAT_GF d n) && !s.bit F.GATE_STAT_NORET d n

/-- The companion action of herd `h` ends with the last leg that tripped as one of the herd (R269), wherever that leg is bound
since; until then a cleared leg of the herd is under it. -/
def State.companionClear (s : State) (d n h : Nat) : State :=
  if !s.tripsOf h then s.companionEnd h
  else if s.bit F.GATE_HPOL_ACTIVE (h / 8) (h % 8) && decide (s.legHerd d n = some h) then
    s.modLeg d n fun L => { L with comp := policyMode (s.policy h), compHerd := h, compRelease := false }
  else s

/-- A clear request (R270 to R272). -/
def State.tripClear (s : State) (d n : Nat) : State :=
  if !s.bit F.LEG_STAT_TRIP d n then s
  else if !s.tripSourcesClear d n then s.incSat F.GATE_TCLR_CLR_REF_CNT d n
  else
    let s := ((s.put F.LEG_STAT_TRIP 0 d n).put F.GATE_TRIP_TRIP 0 d n).put F.GATE_TRIP_CMP 0 d n
    let s := ((s.put F.GATE_TRIP_SC 0 d n).put F.GATE_TRIP_GF 0 d n).put F.GATE_TRIP_NORET 0 d n
    let h := (s.leg d n).tripHerd
    let s := s.preload d n
    let p := max (s.tick d * 64) ((s.leg d n).gsFree - 128)
    let s := s.modLeg d n fun L => { L with clearHold := some p, tripHerd := none }
    let s := match h with | some h => s.companionClear d n h | none => s
    (s.driveLegs d [n]).syncLine d (176 + n)


end Sys2Proof.Machine
end

