-- ==== Sys2Proof/Machine/HerdCmd.lean ====
section
/-!
DEFINITION. Commands and events of herds (chapter 11): binding and owner entries (R292 to R294), the transitions (R298 to
R303), roles (R304, R558), the arming checks (R305 to R307), member copies (R297) and command points (R308, R309).
-/
namespace Sys2Proof.Machine

/-! ### Commands -/

/-- A command in its place on the tick (R299). `task`: it comes from a task of the herd. -/
def State.meetCommand (s : State) (h code : Nat) (task : Bool) (f : State → State) : State := s.meet h (.command code task) f


/-- The dies on which herd `h` owns a resource, as HERD_STAT.DIES shows them (R294). -/
def State.herdDies (s : State) (h : Nat) : Nat :=
  (((List.range s.dies).filter fun d => s.herdOnDie d h).map fun d => 2 ^ d).sum



/-- A herd's resources may be bound and freed on die `d` (R293). -/
def State.bindingOpen (s : State) (d h : Nat) : Bool :=
  match s.herdStateAt d h with
  | .unbound | .bound => true
  | .armed | .running | .stopping | .faulted | .safe => false

/-- The fields EN and HERD of an owner table (R292), and its number of entries. -/
def ownFields : OwnKind → Fld × Fld × Nat
  | .leg => (F.OWN_LEG_EN, F.OWN_LEG_HERD, 24)
  | .adc => (F.OWN_ADC_EN, F.OWN_ADC_HERD, 8)
  | .mod => (F.OWN_MOD_EN, F.OWN_MOD_HERD, 24)
  | .ab => (F.OWN_AB_EN, F.OWN_AB_HERD, 16)

/-- A write of an owner entry (R293). An entry beyond the table's end does not exist (R563); a write of what the entry holds
changes nothing and is not refused (R566). -/
def State.ownerWrite (s : State) (q : Requester) (d : Nat) (kind : OwnKind) (n : Nat) (en : Bool) (herd : Nat) : State × Status :=
  let f := ownFields kind
  let now := s.ownerOf f.1 f.2.1 d n
  let openNow := match now with | some h => s.bindingOpen d h | none => true
  let openNew := !en || (decide (herd / 8 < s.dies) && s.bindingOpen d herd)
  if f.2.2 ≤ n ∨ (s.get f.1 d n = en.toNat ∧ s.get f.2.1 d n = herd) then (s, .ok)
  else if openNow && openNew then
    let s := (s.putB f.1 en d n).put f.2.1 herd d n
    (if kind = .leg then s.driveLegs d [n] else s, .ok)
  else (s.wref q f.1 d n, .refused)


/-! ### Roles -/

/-- What the REGULATE manager had put into the shadow sets of the herd's legs is forgotten once it no longer runs (R312). -/
def State.forgetPhases (s : State) (h : Nat) : State :=
  if s.bit F.REG_CFG_EN (h / 8) (h % 8) then s
  else s.modHerdLegs h fun L => { L with shMask := none, shThr := none }

/-- The enables of the role units other than role `r` clear (R558). -/
def State.stopOtherRoles (s : State) (h r : Nat) : State :=
  let d := h / 8; let l := h % 8
  let s := if r = 2 then s else s.put F.DRV_CFG_EN 0 d l
  let s := if r = 3 then s else s.put F.CH_CFG_EN 0 d l
  let s := if r = 4 then s else s.put F.REG_CFG_EN 0 d l
  let s := if r = 5 then s else s.put F.TRK_CFG_EN 0 d l
  if r = 6 then s else s.put F.GRD_CFG_EN 0 d l

/-- A write of HERD_CTL.ROLE (R304): its status. The units of a role that it leaves lose their enable (R312, R334, R356). The legs of
a BOUND herd follow the role's hold (R295); a write of the present role changes nothing (R566). -/
def State.roleWrite (s : State) (q : Requester) (h r : Nat) : State × Status :=
  if s.get F.HERD_CTL_ROLE (h / 8) (h % 8) = r then (s, .ok)
  else match s.herdState h with
  | .unbound | .bound =>
    let t := s.tick (h / 8)
    let s := ((s.put F.HERD_CTL_ROLE r (h / 8) (h % 8)).stopOtherRoles h r).forgetPhases h
    ((s.modHerdRun h fun H => { H with roleAt := some t }).driveHerd h, .ok)
  | .armed | .running | .stopping | .faulted | .safe => (s.wref q F.HERD_CTL_ROLE (h / 8) (h % 8), .refused)


/-- ROLE_CHANGE_DONE (R558). A role change completes within 10 ms, old units stopped and new units ready. -/
def execRoleChangeDone (h : Nat) (s : State) : Host.Outcome State Fault Refusal :=
  guarded (decide (h < 8 * s.dies)) s <|
    if (s.herd h).roleAt.isSome then
      (s.stopOtherRoles h (s.get F.HERD_CTL_ROLE (h / 8) (h % 8))).modHerdRun h fun H => { H with roleAt := none }
    else s


/-! ### The arming checks -/


/-- How a check stands: it waits, it has passed, or it has failed with the package leg or the entry concerned. -/
inductive CheckResult where
  | waits | passes | fails (at_ : Option Nat)
deriving DecidableEq, Repr

/-- The legs of the herd with an enabled gate port, by package number. -/
def State.gateLegs (s : State) (h : Nat) : List Nat :=
  ((s.herdLegs h).filter fun p => s.bit F.GATE_CFG_EN p.1 p.2).map fun p => p.1 * 24 + p.2

/-- The first of a list that `p` picks, as a failure; otherwise `r`. -/
def failFirst (ks : List Nat) (p : Nat → Bool) (r : CheckResult) : CheckResult :=
  match ks.find? p with | some k => .fails (some k) | none => r

/-- Check TRIP (R305). -/
def State.checkTrip (s : State) (h : Nat) : CheckResult :=
  failFirst ((s.herdLegs h).map fun p => p.1 * 24 + p.2) (fun k => s.bit F.LEG_STAT_TRIP (k / 24) (k % 24)) .passes

/-- The test frames of check LOOP (R305): each leg with an enabled gate port sends one frame that carries GATE_DEF.HS_ON, when its
GS is free. -/
def State.startLoop (s : State) (h : Nat) : State :=
  (s.gateLegs h).foldl (fun s k =>
    let now := s.tick (k / 24) * 64
    let c := s.get F.GATE_DEF_HS_ON (k / 24) (k % 24)
    s.modLeg (k / 24) (k % 24) fun L => L.sendFrames now [⟨pwmClock (max now L.gsFree), 0, c, true⟩]) s

/-- Check LOOP (R305), which lasts until its test frames of 160 ns have ended: `mismatch` names the legs whose GS did not
follow. -/
def State.checkLoop (s : State) (h : Nat) (mismatch : List Nat) : CheckResult :=
  let ks := s.gateLegs h
  if ks.any fun k => decide (s.tick (k / 24) * 64 + 128 < (s.leg (k / 24) (k % 24)).gsFree) then .waits
  else failFirst ks (fun k => s.bit F.GATE_STAT_PGH (k / 24) (k % 24) || s.bit F.GATE_STAT_PGL (k / 24) (k % 24) || mismatch.contains k) .passes

/-- GF of package leg `k` has been high for 10 µs (R305). -/
def State.gfReady (s : State) (k : Nat) : Bool :=
  match (s.leg (k / 24) (k % 24)).gfHighSince with
  | some t => s.bit F.GATE_STAT_GF (k / 24) (k % 24) && decide (t + 1000 ≤ s.tick (k / 24))
  | none => false

/-- Check READY (R305): it waits until GF of every such leg has been high for 10 µs. -/
def State.checkReady (s : State) (h : Nat) : CheckResult := if (s.gateLegs h).all s.gfReady then .passes else .waits

/-- Check REF of die `d` (R305). -/
def State.refChecked (s : State) (d h : Nat) : Bool :=
  let adcs := (List.range 8).filter fun n => decide (s.adcHerd d n = some h)
  let mods := (List.range 24).filter fun m => decide (s.modHerd d m = some h)
  adcs.all (fun n => !s.bit F.ADC_STAT_CAL_PENDING d n && !s.bit F.ADC_STAT_CAL_FAULT d n) &&
  ((adcs.isEmpty && mods.isEmpty) || (s.ref d).formed)

/-- Check REF (R305): it waits until it passes. -/
def State.checkRef (s : State) (h : Nat) : CheckResult :=
  if (List.range s.dies).all fun d => s.refChecked d h then .passes else .waits

/-- The legs of the herd that the high-side check tests, by package number (R306). -/
def State.hssLegs (s : State) (h : Nat) : List Nat :=
  ((s.herdLegs h).filter fun p => s.bit F.LEG_HSS_EN p.1 p.2).map fun p => p.1 * 24 + p.2

/-- The rail of the high-side check is too low to decide (R306). -/
def State.railLow (s : State) (h : Nat) : Bool := decide (s.pointI (s.get F.HSS_RAIL_POINT (h / 8) (h % 8)) < 0x0CCCCD)

/-- Package leg `k` has a shorted high side by its node result (R306). -/
def State.highShort (s : State) (h k : Nat) : Bool :=
  match Store.find (s.herd h).hss k with
  | some n => !s.railLow h && decide ((aluMul (s.point (s.get F.HSS_RAIL_POINT (h / 8) (h % 8))) 0x733333).1.toInt < n.toInt)
  | none => false

/-- Check HSS (R306): it waits for the node results. -/
def State.checkHss (s : State) (h : Nat) : CheckResult :=
  failFirst (s.hssLegs h) (s.highShort h)
    (if (s.hssLegs h).all fun k => (Store.find (s.herd h).hss k).isSome then .passes else .waits)

/-- Check PLB (R305). -/
def State.checkPlb (s : State) (h : Nat) : CheckResult :=
  let d := h / 8; let l := h % 8
  failFirst ((List.range 8).filter fun i => s.bit F.HERD_PLB_EN d l i)
    (fun i => let v := s.pointI (s.get F.HERD_PLB_POINT d l i)
              decide (v < s.getI F.HERD_PLB_LO_LO d l i) || decide (s.getI F.HERD_PLB_HI_HI d l i < v)) .passes

/-- Check `k` of R305, in its order from 0. -/
def State.check (s : State) (h : Nat) (mismatch : List Nat) : Nat → CheckResult
  | 0 => s.checkTrip h
  | 1 => s.checkLoop h mismatch
  | 2 => s.checkReady h
  | 3 => s.checkRef h
  | 4 => s.checkHss h
  | _ => s.checkPlb h

/-- Check `k` fails (R305): its bit, the leg or entry, a record, and FAULTED. -/
def State.checkFail (s : State) (h k : Nat) (at_ : Option Nat) : State :=
  let d := h / 8; let l := h % 8
  let s := s.put F.HERD_CHK_FAILED (2 ^ (5 - k)) d l
  let s := match at_ with
    | some x => if k = 5 then s.put F.HERD_CHK_FAIL_PLB x d l else s.put F.HERD_CHK_FAIL_LEG x d l
    | none => s
  let leg := match at_ with | some x => if k = 5 then noLeg else x | none => noLeg
  ((s.hwRecord d 0x0407 (some h) leg (2 ^ (5 - k)) (at_.getD 0) 0).endChecks h).herdFault h (if k = 4 then .hshort else .check)

/-- Every check has passed (R307): ARMED, with what entry into ARMED does (R254, R280, R311, R355). -/
def State.armed (s : State) (h : Nat) : State :=
  let s := (s.endChecks h).enterState h .armed
  let s := ((s.leashArm h).regArm h).driveArm h
  (s.herdLegs h).foldl (fun s p => s.preload p.1 p.2) s

/-- The checks go on from the one in progress until one waits, one fails, or all have passed. -/
def State.runChecks (h : Nat) (mismatch : List Nat) : Nat → State → State
  | 0, s => s
  | fuel + 1, s =>
    match (s.herd h).check with
    | none => s
    | some k =>
      match s.check h mismatch k with
      | .waits => s
      | .fails x => s.checkFail h k x
      | .passes =>
        let t := s.tick (h / 8)
        let s := if k = 4 ∧ !(s.hssLegs h).isEmpty ∧ s.railLow h then s.put F.HERD_STAT_HSS_SKIP 1 (h / 8) (h % 8) else s
        if 5 ≤ k then s.armed h
        else
          let s := s.modHerdRun h fun H => { H with check := some (k + 1), checkFrom := t }
          State.runChecks h mismatch fuel (if k = 0 then s.startLoop h else s)

/-- The checks or a wait of the herd end, which is noted for the tick: a SAFE or a fault cause of the same tick comes first and ends
them (R299). -/
def State.ended (s : State) (h : Nat) (f : State → State) : State := s.meet h (.command 0 false) f

/-- ARM_CHECK_COMPLETE (R305). An arming check completes after its wait, leading to the next check, ARMED or FAULTED.
-/
def execArmCheckComplete (h : Nat) (mismatch : List Nat) (s : State) : Host.Outcome State Fault Refusal :=
  guarded (decide (h < 8 * s.dies)) s <|
    s.ended h fun s => s.runChecks h mismatch 6


/-- Of a check that has not completed, the first leg for which it waits. -/
def State.checkStuck (s : State) (h : Nat) : Nat → Option Nat
  | 1 => (s.gateLegs h).head?
  | 2 => (s.gateLegs h).find? fun k => !s.gfReady k
  | 4 => (s.hssLegs h).find? fun k => (Store.find (s.herd h).hss k).isNone
  | _ => none

/-- ARM_CHECK_TIMEOUT (R305). A check not completed within CHK_TMO fails. -/
def execArmCheckTimeout (h : Nat) (s : State) : Host.Outcome State Fault Refusal :=
  guarded (decide (h < 8 * s.dies)) s <|
    match (s.herd h).check with
    | some k =>
      if (s.herd h).armAt + (s.get F.HERD_CTL_CHK_TMO (h / 8) (h % 8) + 1) * 100000 ≤ s.tick (h / 8) then
        s.ended h fun s => s.checkFail h k (s.checkStuck h k)
      else s
    | none => s


/-! ### Transitions -/

/-- Entry into RUNNING (R303): COLD, heels and detector channels start, and every leg stays held until the first load-all
issued in RUNNING takes effect on it; the role's units start. -/
def State.runEntry (s : State) (h : Nat) : State :=
  let t := s.tick (h / 8)
  let s := s.modHerdLegs h fun L => { L with runHold := true, runHoldFrom := t, mcHold := false, mcRelease := false, short := none,
                                             shortRelease := false, burstMask := false }
  let s := (s.enterState h .running).put F.LAW_STAT_COLD 1 (h / 8) (h % 8)
  ((((s.lawStart h).regRun h).catchStart h).gridRun h).trackRun h

/-- RUN (R298). -/
def State.herdRunCmd (s : State) (h : Nat) : State :=
  if s.herdState h = .armed then (s.runEntry h).cmdRes h .ok else s.cmdRes h .refused



/-- The requester is an engine that runs a task of herd `h` (R298). -/
def State.fromTask (s : State) (q : Requester) (h : Nat) : Bool :=
  match q with
  | .engine pe => decide (s.runningHerd pe = some h)
  | .host | .debug | .chain _ | .unit => false




/-- The FAULT command, in its place on the tick (R299, R300). -/
def State.meetFault (s : State) (h : Nat) : State := s.meet h (.fault .prog true) fun s => s.faultTaken h .prog true


/-- A write of HERD_CMD.CMD (R298): codes other than 1 to 9 are refused; 0 does nothing (R569). -/
def State.herdCommand (s : State) (q : Requester) (h cmd : Nat) : State :=
  match cmd with
  | 0 => s
  | 1 => s.meetCommand h 1 false fun s => s.herdBind h
  | 2 => s.meetCommand h 2 false fun s => s.herdUnbind h
  | 3 => s.meetCommand h 3 false fun s => s.herdArm h
  | 4 => s.meetCommand h 4 false fun s => s.herdRunCmd h
  | 5 => s.meetCommand h 5 false fun s => s.stop h
  | 6 => s.meetCommand h 6 (s.fromTask q h) fun s => s.herdStopped h (s.fromTask q h)
  | 7 => s.meetSafe h true
  | 8 => s.meetCommand h 8 false fun s => s.herdRecover h
  | 9 => s.meetFault h
  | _ => s.meetCommand h 10 false fun s => s.cmdRes h .refused

/-- STOP_TIMEOUT (R302). STOP_TMO expiring in STOPPING moves the herd to BOUND and records it. -/
def execStopTimeout (h : Nat) (s : State) : Host.Outcome State Fault Refusal :=
  guarded (decide (h < 8 * s.dies)) s <|
    if s.herdState h = .stopping ∧
        (s.herd h).stopAt + (s.get F.HERD_CTL_STOP_TMO (h / 8) (h % 8) + 1) * 100000 ≤ s.tick (h / 8) then
      s.ended h fun s => (s.enterState h .bound).hwRecord (h / 8) 0x0406 (some h) noLeg 0 0 0
    else s


/-- HERD_STATE_COPY (R297). A herd state change reaches a member die's copy over the trip mesh and its holds take
effect. -/
def execHerdStateCopy (d : Nat) (h : Nat) (s : State) : Host.Outcome State Fault Refusal :=
  guarded (decide (d < s.dies) && decide (h < 8 * s.dies)) s <|
    s.copyState d h


/-! ### Command points -/

/-- CP_AGE of channel `j` of herd `h` (R309): ticks since the last write of its point, saturating; all ones before the first. -/
def State.cpAge (s : State) (h j : Nat) : Nat :=
  match Store.find s.cpLast (h * 4 + j) with
  | some t => min (s.tick (h / 8) + 1 - t) 0xFFFFFFFF
  | none => 0xFFFFFFFF

/-- COMMAND_POINT_STALE (R309). A command point unwritten for longer than TMO sets STALE. -/
def execCommandPointStale (h : Nat) (j : Nat) (s : State) : Host.Outcome State Fault Refusal :=
  guarded (decide (h < 8 * s.dies) && decide (j < 4)) s <|
    if s.bit F.CP_CFG_EN (h / 8) (h % 8) j && decide (s.get F.CP_TMO_TMO (h / 8) (h % 8) j ≠ 0) &&
        decide (s.get F.CP_TMO_TMO (h / 8) (h % 8) j * 1000 < s.cpAge h j) then s.put F.CP_STAT_STALE 1 (h / 8) (h % 8) j
    else s


end Sys2Proof.Machine
end

