-- ==== Sys2Proof/Machine/Recorder.lean ====
section
/-!
DEFINITION. Flash and the event recorder (chapter 18): rows and sectors (R454 to R459, R474), records and their CRC (R460,
R461), commits (R466, R467), the mirror (R471, R472), freezing and reading (R469, R470).
-/
namespace Sys2Proof.Machine

/-! ### Rows and sectors -/

/-- Row `r` of die `d` set. -/
def State.setRow (s : State) (d r : Nat) (v : BitVec 256) : State :=
  { s with flash := Store.set s.flash (BitVec.allOnes 256) (d * 131072 + r) v }
/-- The header of sector `c` of die `d` (R456). -/
def State.sector (s : State) (d c : Nat) : SectorHdr := Store.get s.sectors SectorHdr.reset (d * 256 + c)
/-- The header of sector `c` of die `d` changed. -/
def State.modSector (s : State) (d c : Nat) (f : SectorHdr → SectorHdr) : State :=
  { s with sectors := Store.set s.sectors SectorHdr.reset (d * 256 + c) (f (s.sector d c)) }
/-- The factory sector (R454). -/
def factorySector : Nat := 240
/-- The LOCK of a sector; the factory sector is locked at production (R454). -/
def State.sectorLock (s : State) (d c : Nat) : Bool := (s.sector d c).lock || decide (c = factorySector)
/-- A sector of the recorder areas (R454). -/
def recorderSector (d c : Nat) : Bool := decide (d < 2) && decide (128 ≤ c) && decide (c < 240)
/-- The rows of a sector hold nothing any more: no content, no torn row, and on D0 no record whose mirror copy is to come (R457,
R459). -/
def State.dropRows (s : State) (d c : Nat) : State :=
  let k := d * 256 + c
  let out := fun (r : Nat) => !decide (r / 512 = k)
  { s with flash := s.flash.filter fun p => out p.1,
           recorder := { s.recorder with torn := s.recorder.torn.filter out, mirrorDue := s.recorder.mirrorDue.filter out,
                                         mirrorLack := s.recorder.mirrorLack.filter out } }

/-- The rows of a sector erased, and its header returned to ERASED (R457). -/
def State.eraseSector (s : State) (d c : Nat) : State := ((s.dropRows d c).modSector d c fun H => { H with state := 0xFF }).syncLag

/-- Bits that can only fall: a row programmed over its present contents. -/
def State.programRow (s : State) (d r : Nat) (v : BitVec 256) : State := s.setRow d r (s.flashRow d r &&& v)

/-! ### The flash unit -/

/-- Die `d`'s flash may begin an erase of sector `c`: it is ON (R497), and the recorder areas are not frozen (R470). -/
def State.mayErase (s : State) (d c : Nat) : Bool := s.domOn d domFLASH && !(s.bit F.REC_FLG_FROZEN && recorderSector d c)

/-- An erase of sector `c` of die `d` begins (R457): STATE is ERASING; it waits where an operation is in progress, or where the flash
may not begin it. -/
def State.startErase (s : State) (d c : Nat) : State :=
  let s := s.modSector d c fun H => { H with state := 0x1F }
  let s := if recorderSector d c && decide (d = 0) then s.put F.REC_FLG_ERASING 1 else s
  let may := s.mayErase d c
  s.modFlash d fun U =>
    if may && U.busy.isNone && U.suspended.isNone then { U with busy := some (.erase c) } else { U with waiting := U.waiting ++ [.erase c] }

/-- An erase in progress on die `d` is suspended for a higher priority (R458). -/
def State.suspendErase (s : State) (d : Nat) : State :=
  match (s.flashRun d).busy with
  | some (.erase c) =>
    ((s.modFlash d fun U => { U with busy := none, suspended := some c }).put F.FL_STAT_SUSP 1 d).incSat F.FL_CNT_SUSP_CNT d
  | _ => s

/-- A read or a row program is in progress on die `d`. -/
def State.flashBusy (s : State) (d : Nat) : Bool :=
  match (s.flashRun d).busy with
  | some (.read _) | some (.program _ _) => true
  | some (.erase _) | none => false

/-- REC_FLG.ERASING follows the erases of D0's recorder areas. -/
def State.syncErasing (s : State) : State :=
  let U := s.flashRun 0
  let ers := (match U.busy with | some (.erase c) => [c] | _ => []) ++ U.suspended.toList ++
    U.waiting.filterMap fun o => match o with | .erase c => some c | _ => none
  s.putB F.REC_FLG_ERASING (ers.any (recorderSector 0)) 0

/-- FL_DATA of die `d` takes a row. -/
def State.showRow (s : State) (d : Nat) (v : BitVec 256) : State :=
  forEach (List.range 8) (fun s k => s.put F.FL_DATA (v.toNat / 2 ^ (32 * k)) d k) s

/-- The row that FL_DATA of die `d` holds. -/
def State.dataRow (s : State) (d : Nat) : BitVec 256 :=
  BitVec.ofNat 256 ((List.range 8).foldl (fun v k => v + s.get F.FL_DATA d k * 2 ^ (32 * k)) 0)

/-- Row `r` of die `d` may hold a record: it is not torn, and its sector is not being erased (R456, R459). -/
def State.rowHolds (s : State) (d r : Nat) : Bool :=
  !s.recorder.torn.contains (d * 131072 + r) && !decide ((s.sector d (r / 512)).state = 0x1F)

/-- REC_OLD: the oldest SEQ in the circulating area of D0, all ones when it is empty. -/
def State.oldestSeq (s : State) : Nat :=
  let rows := s.flash.filter fun p =>
    decide (circBase ≤ p.1) && decide (p.1 < circBase + 49152) && s.rowHolds 0 p.1
  rows.foldl (fun m p => min m (p.2.toNat % 2 ^ 32)) 0xFFFFFFFF

/-- ERASE_RESUME (R458). A suspended erase resumes when no higher-priority operation waits. -/
def execEraseResume (d : Nat) (s : State) : Host.Outcome State Fault Refusal :=
  guarded (decide (d < s.dies)) s <|
    match (s.flashRun d).busy, (s.flashRun d).suspended with
    | none, some c =>
      if s.bit F.REC_FLG_FROZEN && recorderSector d c || !s.domOn d domFLASH then s
      else (s.modFlash d fun U => { U with busy := some (.erase c), suspended := none }).put F.FL_STAT_SUSP 0 d
    | _, _ => s


/-- A sector that FL_CMD may program or erase (R474, R555): not one of the slot that is booted, if one is. -/
def State.sectorOpen (s : State) (d c : Nat) : Bool :=
  !s.sectorLock d c && !recorderSector d c && !(decide (c < 128) && (decide (s.boot.slot = some (c / 64)) || s.bit F.PKG_BOOT_TRIAL))

/-- A read or row program of FL_CMD on die `d` (R458): it suspends an erase in progress; while a read or a row program is in
progress, or the flash is not ON (R497), it waits, ahead of the erases. -/
def State.takeOp (s : State) (d : Nat) (op : FlashOp) : State :=
  if s.flashBusy d || !s.domOn d domFLASH then s.modFlash d fun U => { U with waiting := op :: U.waiting }
  else (s.suspendErase d).modFlash d fun U => { U with busy := some op }

/-- An FL_CMD command (R474): its status in FL_STAT.RES, and BUSY while it runs. -/
def State.flashCommand (s : State) (d cmd : Nat) : State × Status :=
  let row := s.get F.FL_ADDR_ROW d
  let c := row / 512
  let res := fun (s : State) (st : Status) => (s.put F.FL_STAT_RES st.code d, st)
  if s.bit F.FL_STAT_BUSY d then res s .refused
  else match cmd with
    | 1 => res ((s.takeOp d (.read row)).put F.FL_STAT_BUSY 1 d) .ok
    | 2 =>
      if !s.sectorOpen d c then res s .refused
      else res ((s.takeOp d (.program row (s.dataRow d))).put F.FL_STAT_BUSY 1 d) .ok
    | 3 => if !s.sectorOpen d c then res s .refused else res ((s.startErase d c).put F.FL_STAT_BUSY 1 d) .ok
    | _ => res s .refused




/-! ### Commits -/

/-- A record as its row (R460). -/
def recordRow (seq : Nat) (e : RecEntry) : BitVec 256 :=
  let herd := match e.herd with | some h => 128 + h % 64 | none => 0
  let body := seq % 2 ^ 32 + e.secs % 2 ^ 32 * 2 ^ 32 + e.pcyc % 2 ^ 24 * 2 ^ 64 + e.srcDie % 8 * 2 ^ 88 +
    e.code % 2 ^ 16 * 2 ^ 96 + herd * 2 ^ 112 + e.leg % 256 * 2 ^ 120 + e.repeats % 2 ^ 16 * 2 ^ 128 +
    (if e.aon then 1 else 0) * 2 ^ 144 + e.data0 % 2 ^ 24 * 2 ^ 152 + e.data1 % 2 ^ 24 * 2 ^ 176 + e.data2 % 2 ^ 24 * 2 ^ 200
  BitVec.ofNat 256 (body + crc32 28 body * 2 ^ 224)

/-- The recorder changed. -/
def State.modRec (s : State) (f : Recorder → Recorder) : State := { s with recorder := f s.recorder }

/-- The next record goes to the permanent area (R467): its first row has been taken, and one is left. -/
def State.toPermanent (s : State) : Bool := decide (0 < s.recorder.permRow) && decide (s.recorder.permRow < 8192)

/-- The row that the next record takes (R467), in the permanent area where `perm`. -/
def State.nextRow (s : State) (perm : Bool) : Nat :=
  if perm then permBase + s.recorder.permRow else circBase + s.recorder.circRow

/-- STATE of the sector of row `r` as a record's program begins there (R456): its bits only fall. -/
def State.rowStarted (s : State) (d r : Nat) : State := s.modSector d (r / 512) fun H => { H with state := H.state &&& 0x7F }

/-- The header of the sector of row `r` after a record is written there (R456, R467): the 512th row fills it, and locks a sector of the
permanent area. -/
def State.rowWritten (s : State) (d r : Nat) : State :=
  s.modSector d (r / 512) fun H =>
    if r % 512 = 511 then ⟨H.state &&& 0x3F, H.lock || decide (r < circBase)⟩ else { H with state := H.state &&& 0x7F }

/-- The circulating area goes on in row `r`, whose sector must be erased first (R466). -/
def State.needsErase (s : State) (d r : Nat) : Bool :=
  decide (circBase ≤ r) && decide (r % 512 = 0) && !decide ((s.sector d (r / 512)).state = 0xFF) &&
  !decide ((s.sector d (r / 512)).state = 0x1F)

/-- The sector of row `r` is erased where the area goes on there (R466). -/
def State.readySector (s : State) (d r : Nat) : State := if s.needsErase d r then s.startErase d (r / 512) else s

/-- The area's next row moves past the one that a record has taken (R467). -/
def State.passRow (s : State) (perm : Bool) : State :=
  s.modRec fun R =>
    if perm then { R with permRow := R.permRow + 1 } else { R with circRow := (R.circRow + 1) % 49152 }

/-- A row program of a record begins in row `r` of die `d` (R456, R458). -/
def State.beginRow (s : State) (d r : Nat) (v : BitVec 256) : State :=
  ((s.suspendErase d).rowStarted d r).modFlash d fun U => { U with busy := some (.program r v) }

/-- D0's flash serves no read and no row program, and is ON (R466, R497). -/
def State.flashFree (s : State) (d : Nat) : Bool := s.domOn d domFLASH && !s.flashBusy d

/-- The commit of entry `e` begins (R461, R466, R467): its SEQ, its row, the next row. -/
def State.startCommit (s : State) (e : RecEntry) (perm : Bool) : State :=
  let seq := s.get F.REC_NEXT_SEQ
  let r := s.nextRow perm
  let s := ((s.incMod F.REC_NEXT_SEQ).passRow perm).modRec fun R => { R with committing := some (e, seq, r) }
  s.beginRow 0 r (recordRow seq e)

/-- A commit into the next row, where the flash is free for it: the sector of a row that the area goes on in is erased first. `take` takes
the entry from where it waits. -/
def State.commitInto (s : State) (e : RecEntry) (perm : Bool) (take : State → State) : State :=
  let r := s.nextRow perm
  if !s.flashFree 0 || s.recorder.committing.isSome || decide ((s.sector 0 (r / 512)).state = 0x1F) then s
  else if s.needsErase 0 r then s.startErase 0 (r / 512)
  else (take s).startCommit e perm

/-- The record that is due is committed (R466, R467): the COMMISSIONED record, or the oldest entry of the intake from 1 ms after its
acceptance. -/
def State.commitNext (s : State) : State :=
  if s.bit F.REC_FLG_FROZEN then s
  else
    match s.recorder.first, s.recorder.intake with
    | some e, _ => s.commitInto e true fun s => (s.modRec fun R => { R with first := none }).put F.REC_PFIRST_SEQ (s.get F.REC_NEXT_SEQ)
    | none, e :: es =>
      if e.tick + 100000 ≤ s.tick 0 then
        s.commitInto e s.toPermanent fun s => (s.modRec fun R => { R with intake := es }).syncIntake
      else s
    | none, [] => s

/-- The mirror copy of row `r` becomes due (R471). -/
def State.mirrorWanted (s : State) (r : Nat) : State :=
  (s.modRec fun R => { R with mirrorDue := R.mirrorDue ++ [r] }).syncLag

/-- A record of the AON path has landed in row `r`: D1 lacks it, and what was due before it with it (R471). -/
def State.mirrorLacks (s : State) (r : Nat) : State :=
  (s.modRec fun R => { R with mirrorLack := R.mirrorLack ++ R.mirrorDue ++ [r], mirrorDue := [] }).syncLag

/-- The next sector of D0's circulating area is made ready after a commit (R466), unless the recorder is frozen (R470) and the commit was
not one of the AON path. -/
def State.prepareSector (s : State) (aon : Bool) : State :=
  if s.bit F.REC_FLG_FROZEN && !aon then s else s.readySector 0 (s.nextRow false)

/-- A record lands in row `r` (R466, R467): the row, its sector's header, PERM_FULL with the last row of the permanent area, and the next
sector made ready. -/
def State.landRecord (s : State) (aon : Bool) (r : Nat) (v : BitVec 256) : State :=
  let s := (s.setRow 0 r v).rowWritten 0 r
  let s := if r + 1 = circBase then s.put F.REC_FLG_PERM_FULL 1 else s
  let s := s.prepareSector aon
  if r < circBase then s else s.put F.REC_OLD_SEQ s.oldestSeq

/-! ### The mirror copies -/

/-- The bits of bytes 0 to 27 of a record that belong to defined fields (R460). -/
def definedBits : Nat := 2 ^ 224 - 1 - (0xF8 * 2 ^ 88 + 0x40 * 2 ^ 112 + 0xFE * 2 ^ 144)

/-- The first of bytes 0 to 27 in which two records differ. -/
def firstDiff (a b : Nat) : Nat := ((List.range 28).find? fun k => decide (a / 256 ^ k % 256 ≠ b / 256 ^ k % 256)).getD 0

/-- The two copies of row `r` are compared (R472): a torn row of D1 is no copy (R459). -/
def State.compareRow (s : State) (r : Nat) : State :=
  let a := s.flashRow 0 r
  let b := s.flashRow 1 r
  if s.recorder.torn.contains (131072 + r) then s
  else
  let s := if rowValid a then s else s.incSat F.REC_MIR2_BADCRC_CNT
  let s := if rowValid b then s else s.incSat F.REC_MIR2_BADCRC_CNT
  if !rowValid a || !rowValid b then s
  else
    let x := a.toNat % 2 ^ 224
    let y := b.toNat % 2 ^ 224
    if x = y then s
    else if x &&& definedBits = y &&& definedBits then s.incSat F.REC_MIR_MIRROR_COSMETIC
    else (s.incSat F.REC_MIR_MIRROR_MISMATCH).hwRecord 0 0x0812 none noLeg (x % 2 ^ 24) (firstDiff x y) 0

/-- The mirror copy of row `r` begins on D1 (R471), as a row program there; a locked sector takes none (R457). -/
def State.startMirror (s : State) (r : Nat) (take : Recorder → Recorder) : State :=
  if s.sectorLock 1 (r / 512) then (s.modRec take).syncLag
  else if (s.sector 1 (r / 512)).state = 0x1F then s
  else if s.needsErase 1 r then s.startErase 1 (r / 512)
  else ((s.modRec fun R => { take R with mirroring := some r }).beginRow 1 r (s.flashRow 0 r)).syncLag

/-- The oldest row that D1 lacks is copied (R471): those of the time before READY first, once the package is READY, then those that
become due with their commits. -/
def State.mirrorNext (s : State) : State :=
  if s.bit F.REC_FLG_FROZEN || !s.flashFree 1 || s.recorder.mirroring.isSome then s
  else
    match s.recorder.mirrorLack, s.recorder.mirrorDue with
    | r :: rs, _ => if s.ready then s.startMirror r fun R => { R with mirrorLack := rs } else s
    | [], r :: rs => s.startMirror r fun R => { R with mirrorDue := rs }
    | [], [] => s

/-- The mirror copy of row `r` lands (R471, R472): the row, its sector's header, the comparison, and the next sector of the circulating
area made ready. -/
def State.landMirror (s : State) (r : Nat) (v : BitVec 256) : State :=
  let s := (((s.modRec fun R => { R with mirroring := none }).setRow 1 r v).rowWritten 1 r).compareRow r
  let s := if r < circBase ∨ s.bit F.REC_FLG_FROZEN then s else s.readySector 1 (circBase + (r + 1 - circBase) % 49152)
  s.syncLag

/-! ### Operations end -/

/-- A row program ends: a record's lands, and its mirror copy becomes due (R466, R471); a mirror copy lands; FL_CMD's changes its row
(R474). -/
def State.programDone (s : State) (d r : Nat) (v : BitVec 256) : State :=
  match s.recorder.committing with
  | some (e, _, _) =>
    if d = 0 then
      let s := (s.modRec fun R => { R with committing := none }).landRecord e.aon r v
      if e.aon then s.mirrorLacks r else s.mirrorWanted r
    else if d = 1 ∧ s.recorder.mirroring = some r then s.landMirror r v else s.programRow d r v
  | none => if d = 1 ∧ s.recorder.mirroring = some r then s.landMirror r v else s.programRow d r v

/-- An operation in progress on die `d` shows as BUSY of FL_STAT: it comes from FL_CMD. -/
def State.ownOp (s : State) (d : Nat) (op : FlashOp) : Bool :=
  match op with
  | .erase c => !recorderSector d c
  | .program r _ => !(decide (d = 0) && s.recorder.committing.isSome) && !(decide (d = 1) && decide (s.recorder.mirroring = some r))
  | .read _ => true

/-- The operation that die `d`'s flash serves next, where it serves no read and no row program (R458): a commit or mirror copy that is due,
then a read or row program that waits, for which an erase is suspended, then an erase that waits. -/
def State.flashNext (s : State) (d : Nat) : State :=
  if !s.flashFree d then s
  else
    let s := if d = 0 then s.commitNext else if d = 1 then s.mirrorNext else s
    if s.flashBusy d then s
    else
      match (s.flashRun d).waiting with
      | .erase c :: os =>
        if (s.flashRun d).busy.isNone && (s.flashRun d).suspended.isNone && s.mayErase d c then
          s.modFlash d fun U => { U with busy := some (.erase c), waiting := os }
        else s
      | op :: os => (s.suspendErase d).modFlash d fun U => { U with busy := some op, waiting := os }
      | [] => s

/-- An operation ends (R457, R458) and the next one is served. BUSY shows the operations of FL_CMD. -/
def State.flashDone (s : State) (d : Nat) : State :=
  match (s.flashRun d).busy with
  | none => s
  | some op =>
    let own := s.ownOp d op
    let s := s.modFlash d fun U => { U with busy := none }
    let s := match op with
      | .read r => s.showRow d (s.flashRow d r)
      | .program r v => s.programDone d r v
      | .erase c => s.eraseSector d c
    let s := (if own then s.put F.FL_STAT_BUSY 0 d else s).flashNext d
    if d = 0 then s.syncErasing.put F.REC_OLD_SEQ s.oldestSeq else s

/-- FLASH_OP_DONE (R458). A flash read, row program or sector erase completes and the next waiting operation is
served. -/
def execFlashOpDone (d : Nat) (s : State) : Host.Outcome State Fault Refusal :=
  guarded (decide (d < s.dies)) s <|
    if s.domOn d domFLASH then s.flashDone d else s


/-- RECORD_COMMIT (R466). An intake entry older than 1 ms is committed to the next flash row with its SEQ, starting a
sector erase where needed. -/
def execRecordCommit (s : State) : Host.Outcome State Fault Refusal :=
  guarded true s <|
    s.commitNext


/-- MIRROR_COMMIT (R471). D1 writes each committed record into the same row of its mirror. -/
def execMirrorCommit (s : State) : Host.Outcome State Fault Refusal :=
  guarded true s <|
    if s.recorder.mirrorLack.isEmpty then s.mirrorNext else s


/-- MIRROR_COPY (R471). Records missing on D1 are copied from D0, oldest first, once READY. -/
def execMirrorCopy (s : State) : Host.Outcome State Fault Refusal :=
  guarded true s <|
    if s.recorder.mirrorLack.isEmpty then s else s.mirrorNext


/-- A command's status in REC_STAT.CMD_RES (R473). -/
def State.recRes (s : State) (st : Status) : State := s.put F.REC_STAT_CMD_RES st.code

/-- REC_CMD COMMISSION (R467): the COMMISSIONED record is committed as soon as the freeze and the flash allow (R466, R470). -/
def State.commission (s : State) : State :=
  if s.bit F.REC_FLG_COMMISSIONED || decide (s.recorder.permRow ≠ 0) then s.recRes .refused
  else
    let e : RecEntry := ⟨0x0810, none, noLeg, 0, 0, 0, 0, s.get F.AON_SECS_SECS, s.get F.AON_PCYC_CNT, s.tick 0, 0, false, false⟩
    (((s.put F.REC_FLG_COMMISSIONED 1).modRec fun R => { R with first := some e }).commitNext).recRes .ok


/-! ### Freezing -/

/-- An erase of a recorder area in progress on die `d` stops (R470). -/
def State.stopErase (s : State) (d : Nat) : State :=
  match (s.flashRun d).busy with
  | some (.erase c) => if recorderSector d c then s.suspendErase d else s
  | _ => s

/-- REC_CMD FREEZE (R470). -/
def State.freeze (s : State) : State :=
  let t := s.tick 0
  (((s.stopErase 0).stopErase 1).put F.REC_FLG_FROZEN 1).modRec (fun R => { R with frozenAt := t }) |>.recRes .ok

/-- The freeze ends (R470): commits and erases resume. -/
def State.thaw (s : State) : State := ((s.put F.REC_FLG_FROZEN 0).flashNext 0).flashNext 1

/-- REC_CMD UNFREEZE (R470). -/
def State.unfreeze (s : State) : State := s.thaw.recRes .ok



/-- FREEZE_EXPIRY (R470). 10 s after the last FREEZE the freeze ends and FRZ_EXP is set. -/
def execFreezeExpiry (s : State) : Host.Outcome State Fault Refusal :=
  guarded true s <|
    if s.bit F.REC_FLG_FROZEN && decide (s.recorder.frozenAt + 1000000000 ≤ s.tick 0) then
      s.thaw.put F.REC_FLG_FRZ_EXP 1
    else s


/-- A write of REC_CMD (R473). -/
def State.recCommand (s : State) (cmd : Nat) : State :=
  match cmd with
  | 1 => s.freeze
  | 2 => s.unfreeze
  | 3 => s.commission
  | _ => s.recRes .refused

/-! ### Reading -/

/-- The rows of die `d`'s record areas that hold record `seq`: those of a sector that is being erased are void (R456), torn ones are no
records (R459). -/
def State.rowsOf (s : State) (d seq : Nat) : List (BitVec 256) :=
  (s.flash.filter fun p =>
    decide (p.1 / 131072 = d) && recorderSector d (p.1 % 131072 / 512) && decide (p.2.toNat % 2 ^ 32 = seq) &&
    s.rowHolds d (p.1 % 131072)).map (·.2)

/-- The copy that a reader with SRC `src` sees (R469): the row, if any, and WSTAT. AUTO presents the mirror copy unless the CRC of the
primary one is valid. -/
def State.locate (s : State) (src seq : Nat) : Option (BitVec 256) × Status :=
  let a := s.rowsOf 0 seq
  let b := s.rowsOf 1 seq
  let all := match src with | 1 => a | 2 => b | _ => a.filter rowValid ++ b ++ a
  match all.find? rowValid with
  | some v => (some v, .ok)
  | none => (all.head?, if all.isEmpty then .empty else .badCrc)

/-- A search for record `seq` begins for requester index `i` (R469). -/
def State.selectRecord (s : State) (i seq : Nat) : State :=
  (s.put F.REC_CURSOR_SEQ seq 0 i).put F.REC_CSEL_WSTAT Status.notReady.code 0 i


/-- The record that requester index `i` has selected is presented (R469). -/
def State.recordLocated (s : State) (i : Nat) : State :=
  if s.get F.REC_CSEL_WSTAT 0 i = Status.notReady.code then
    let r := s.locate (s.get F.REC_CSEL_SRC 0 i) (s.get F.REC_CURSOR_SEQ 0 i)
    let s := s.put F.REC_CSEL_WSTAT r.2.code 0 i
    match r.1 with
    | some v => forEach (List.range 8) (fun s k => s.put F.REC_WIN (v.toNat / 2 ^ (32 * k)) 0 i k) s
    | none => s
  else s


/-- What a read of REC_WIN[7] does (R469). -/
def State.winTaken (s : State) (i : Nat) : State :=
  if s.bit F.REC_CSEL_AUTO 0 i then s.selectRecord i (s.get F.REC_CURSOR_SEQ 0 i + 1) else s


/-! ### Comparison of the copies -/

/-- The rows of D0 that hold stored records whose mirror copies have been written. -/
def State.storedRows (s : State) : List Nat :=
  (s.flash.filter fun p => decide (permBase ≤ p.1) && decide (p.1 < circBase + 49152) &&
    s.rowHolds 0 p.1 && !(s.recorder.mirrorDue ++ s.recorder.mirrorLack ++ s.recorder.mirroring.toList).contains p.1).map (·.1)

/-- MIRROR_COMPARE (R472). Every 10 ms one stored record's two copies are compared. -/
def execMirrorCompare (s : State) : Host.Outcome State Fault Refusal :=
  guarded true s <|
    let rows := s.storedRows
    match rows[s.recorder.compareAt % max rows.length 1]? with
    | some r =>
      let n := (s.recorder.compareAt + 1) % rows.length
      (s.modRec fun R => { R with compareAt := n }).compareRow r
    | none => s


end Sys2Proof.Machine
end

