-- ==== Sys2Proof/Machine/Metrology.lean ====
section
/-!
DEFINITION. Metrology (chapter 15): the correction chain (R389 to R393), blocks and pails (R394 to R396), zero crossings (R398,
R399), wide counters and snapshots (R400 to R403), pulse outputs (R404 to R407), S0 inputs (R408, R409) and the calibration
check (R411).
-/
namespace Sys2Proof.Machine

/-! ### Wide counters -/

/-- The two words of a 64-bit counter with their instance numbers (R413). -/
def wideFields : WideCounter → Fld × Fld × Nat × Nat
  | .pail u q => (F.PAIL_LO, F.PAIL_HI, u, q)
  | .output k => (F.PO_PAIL_LO, F.PO_PAIL_HI, k, 0)
  | .snap u q => (F.SNAP_LO, F.SNAP_HI, u, q)
  | .snapTick u => (F.SNAP_TLO, F.SNAP_THI, u, 0)

/-- The value of a 64-bit counter. -/
def State.wide (s : State) (d : Nat) (c : WideCounter) : Nat :=
  let f := wideFields c
  s.get f.2.1 d f.2.2.1 f.2.2.2 * 2 ^ 32 + s.get f.1 d f.2.2.1 f.2.2.2

/-- A 64-bit counter set, modulo 2⁶⁴. -/
def State.setWide (s : State) (d : Nat) (c : WideCounter) (v : Nat) : State :=
  let f := wideFields c
  (s.put f.1 v d f.2.2.1 f.2.2.2).put f.2.1 (v / 2 ^ 32) d f.2.2.1 f.2.2.2

/-- The key of a requester's own latch on die `d`: 0 the high word of a wide counter, 1 the high word that is held for a
write (plus one), 2 TICK_HI (R40, R401). -/
def latchKey (q : Requester) (d kind : Nat) : Nat := (q.index * 8 + d) * 4 + kind

/-- A requester's latch. -/
def State.latch (s : State) (q : Requester) (d kind : Nat) : Nat := Store.get s.latches 0 (latchKey q d kind)
/-- A requester's latch set. -/
def State.setLatch (s : State) (q : Requester) (d kind v : Nat) : State :=
  { s with latches := Store.set s.latches 0 (latchKey q d kind) v }

/-- A read of a low word latches the high word for the requester (R401). -/
def State.wideTaken (s : State) (q : Requester) (d : Nat) (c : WideCounter) : State := s.setLatch q d 0 (s.wide d c / 2 ^ 32)


/-- A write of a high word is held for the requester (R401). -/
def State.holdHigh (s : State) (q : Requester) (d v : Nat) : State := s.setLatch q d 1 (v + 1)

/-- The pulse output `k` of die `d`. -/
def State.pulse (s : State) (d k : Nat) : PoRun := Store.get s.pulses PoRun.reset (d * 8 + k)
/-- The pulse output `k` of die `d` changed. -/
def State.modPulse (s : State) (d k : Nat) (f : PoRun → PoRun) : State :=
  { s with pulses := Store.set s.pulses PoRun.reset (d * 8 + k) (f (s.pulse d k)) }

/-- A write of a low word (R401, R402): with the high word held by the requester, if there is one, as one 64-bit write.
`collides`: an update of the counter falls in the same store cycle, and will find its former value here. -/
def State.wideWrite (s : State) (q : Requester) (d : Nat) (c : WideCounter) (lo : Nat) (collides : Bool) : State :=
  let old := s.wide d c
  let hold := s.latch q d 1
  let v := (if hold = 0 then old / 2 ^ 32 else hold - 1) * 2 ^ 32 + lo
  let mark := if collides then old + 1 else 0
  match c with
  | .pail u p => ((s.setWide d c v).setLatch q d 1 0).modMeter d u fun M => { M with written := Store.set M.written 0 p mark }
  | .output k => ((s.setWide d c v).setLatch q d 1 0).modPulse d k fun P => { P with written := mark }
  | .snap _ _ | .snapTick _ => s


/-! ### Pails -/

/-- A discarded addition of `inc` to a counter of former value `old` of unit `u` (R402). -/
def State.collision (s : State) (d u old inc limit : Nat) : State :=
  if limit ≤ old + inc then s.put F.MU_STAT_OVF_LOST 1 d u else s.incSat F.MU_COLL_COLL_CNT d u

/-- An addition of `amount`, in 2⁻²⁴ of a pail unit, to pail `p` of unit `u` (R396, R400, R402). -/
def State.addPail (s : State) (d u p amount : Nat) : State :=
  let M := s.meter d u
  let tot := Store.get M.residue 0 p + amount
  let inc := tot / 2 ^ 24
  let mark := Store.get M.written 0 p
  let s := s.modMeter d u fun M =>
    { M with residue := Store.set M.residue 0 p (tot % 2 ^ 24), written := Store.set M.written 0 p 0 }
  if mark ≠ 0 then s.collision d u (mark - 1) inc (2 ^ 64)
  else
    let v := s.wide d (.pail u p) + inc
    let s := s.setWide d (.pail u p) v
    if 2 ^ 64 ≤ v then s.putBit F.MU_OVF_OVF p true d u else s

/-- The same addition to the pail of pulse output `k` (R404); a wrap sets the bit of its quantity (R400). -/
def State.addOutput (s : State) (d u k amount : Nat) : State :=
  let P := s.pulse d k
  let tot := P.residue + amount
  let inc := tot / 2 ^ 24
  let s := s.modPulse d k fun P => { P with residue := tot % 2 ^ 24, written := 0 }
  if P.written ≠ 0 then s.collision d u (P.written - 1) inc (2 ^ 64)
  else
    let v := s.wide d (.output k) + inc
    let s := s.setWide d (.output k) v
    if 2 ^ 64 ≤ v then s.putBit F.MU_OVF_OVF (s.get F.PO_CFG_QTY d k) true d u else s

/-- The pulse outputs that are assigned to pail `p` of unit `u`, enabled or not (R404). -/
def State.outputsOf (s : State) (d u p : Nat) : List Nat :=
  (List.range 8).filter fun k => decide (s.get F.PO_CFG_UNIT d k = u) && decide (s.get F.PO_CFG_QTY d k = p)

/-- An addition to pail `p` and to the outputs assigned to it. -/
def State.addQuantity (s : State) (d u p amount : Nat) : State :=
  forEach (s.outputsOf d u p) (fun s k => s.addOutput d u k amount) (s.addPail d u p amount)

/-- What a block of pair `k` adds as quantity `j`: to the pair's pail and to the total's (R395). -/
def State.allot (s : State) (d u k j amount : Nat) : State :=
  (s.addQuantity d u (6 * k + j) amount).addQuantity d u (24 + j) amount

/-! ### Pulse outputs -/

/-- The threshold of an output, written in the RM-1 format under COMPAT (R407). -/
def State.threshold (s : State) (d k : Nat) : Nat :=
  let lo := s.get F.PO_THR_LO_THR d k
  if s.bit F.PKG_STRAP_COMPAT then lo % 2 ^ 16 * 2 ^ (lo / 2 ^ 16 % 32) else s.get F.PO_THR_HI_THR d k * 2 ^ 32 + lo

/-- PO_CFG.EN written from 0 to 1 (R404). -/
def State.pulseEnable (s : State) (q : Requester) (d k : Nat) : State :=
  let w := s.get F.PO_CFG_WID d k
  if s.bit F.PO_CFG_EN d k then s
  else if s.threshold d k = 0 ∨ 29 < s.get F.PO_CFG_QTY d k ∨ (s.get F.PO_CFG_MODE d k = 0 ∧ (w < 10 ∨ 250 < w)) then
    s.wref q F.PO_CFG_EN d k
  else s.put F.PO_CFG_EN 1 d k


/-- A pulse of output `k` ends and its gap begins (R405). -/
def State.pulseOver (s : State) (d k : Nat) : State :=
  let t := s.tick d
  (s.put F.PO_STAT_ACTIVE 0 d k).modPulse d k fun P => { P with phase := 2, at_ := t }

/-- What output `k` does at an update of its pail (R405): a HALF pulse ends, or a spill starts a pulse. -/
def State.pulseUpdate (s : State) (d k : Nat) : State :=
  let thr := s.threshold d k
  let v := s.wide d (.output k)
  match (s.pulse d k).phase with
  | 1 => if s.bit F.PO_CFG_MODE d k && decide (thr / 2 ≤ v) then s.pulseOver d k else s
  | 0 =>
    if thr ≤ v ∧ thr ≠ 0 then
      let t := s.tick d
      let s := ((s.setWide d (.output k) (v - thr)).incMod F.PO_CNT_CNT d k).put F.PO_STAT_ACTIVE 1 d k
      let s := s.modPulse d k fun P => { P with phase := 1, at_ := t }
      if thr ≤ v - thr then s.put F.PO_STAT_BACKLOG 1 d k else s
    else s
  | _ => s

/-- The outputs of unit `u` whose quantity a completed block of pair `k` updates. -/
def State.outputsAt (s : State) (d u k : Nat) : List Nat :=
  (List.range 8).filter fun o =>
    s.bit F.PO_CFG_EN d o && decide (s.get F.PO_CFG_UNIT d o = u) &&
    (decide (s.get F.PO_CFG_QTY d o / 6 = k) || decide (s.get F.PO_CFG_QTY d o / 6 = 4))

/-- The level of pin POUT of output `k` (R406): high or low, or with OD = 1 none unless it conducts. -/
def State.poutLevel (s : State) (d k : Nat) : Option Bool :=
  let a := s.bit F.PO_STAT_ACTIVE d k
  if s.bit F.PO_CFG_OD d k then (if a then some false else none) else some (a != s.bit F.PO_CFG_POL d k)

/-- PULSE_END (R405). A pulse ends after WID ms in FIX mode or 250 ms in HALF mode and its gap begins. -/
def execPulseEnd (d : Nat) (k : Nat) (s : State) : Host.Outcome State Fault Refusal :=
  guarded (decide (d < s.dies) && decide (k < 8)) s <|
    let ms := if s.bit F.PO_CFG_MODE d k then 250 else s.get F.PO_CFG_WID d k
    if (s.pulse d k).phase = 1 ∧ (s.pulse d k).at_ + ms * 100000 ≤ s.tick d then
      let half := s.bit F.PO_CFG_MODE d k
      (s.pulseOver d k).modPulse d k fun P => { P with phase := if half then 3 else 2 }
    else s


/-- GAP_END (R405). The gap after a pulse ends and the output is idle again. -/
def execGapEnd (d : Nat) (k : Nat) (s : State) : Host.Outcome State Fault Refusal :=
  guarded (decide (d < s.dies) && decide (k < 8)) s <|
    if (s.pulse d k).phase = 2 ∧ s.bit F.PO_CFG_MODE d k = false ∧
        (s.pulse d k).at_ + s.get F.PO_CFG_WID d k * 100000 ≤ s.tick d then
      s.modPulse d k fun P => { P with phase := 0 }
    else s


/-! ### Calibration -/

/-- The registers of a unit's corrections in the order of its calibration record (R411, R455). -/
def State.calWords (s : State) (d u : Nat) : List Nat :=
  (List.range 8).flatMap fun c => [s.get F.MC_OFS_OFS d u c, s.get F.MC_GAIN_GAIN d u c, s.get F.MC_DLY_DLY d u c]

/-- The calibration check (R411). -/
def State.calCheck (s : State) (d u : Nat) : State :=
  let base := 0xF1000 + 32 * u
  let ws := (List.range 24).map fun k => s.flashWord d (base + k)
  let v := (List.range 24).foldl (fun v k => v + s.flashWord d (base + k) * 2 ^ (32 * k)) 0
  let t := s.tick d
  let good := decide (s.flashWord d (base + 24) = crc32 96 v) && decide (ws = s.calWords d u)
  let s := (s.putB F.MU_STAT_CAL_OK good d u).modMeter d u fun M => { M with calAt := t }
  (if good then s else s.hwRecord d 0x0601 none noLeg 0 0 0).syncValid d u


/-- CAL_CHECK (R411). Every 60 s while enabled the unit checks its calibration record. -/
def execCalCheck (d : Nat) (u : Nat) (s : State) : Host.Outcome State Fault Refusal :=
  guarded (decide (d < s.dies) && decide (u < 2)) s <|
    if s.bit F.MU_CFG_EN d u && decide ((s.meter d u).calAt + 6000000000 ≤ s.tick d) then s.calCheck d u else s


/-- A write of a correction register (R393): it clears CAL_OK. -/
def State.correctionWrite (s : State) (d u c : Nat) (f : Correction) (v : Nat) : State :=
  let s := match f with
    | .ofs => s.put F.MC_OFS_OFS v d u c
    | .gain => s.put F.MC_GAIN_GAIN v d u c
    | .dly => s.put F.MC_DLY_DLY v d u c
  (s.put F.MU_STAT_CAL_OK 0 d u).syncValid d u


/-! ### Enabling -/

/-- The enabled channels of a unit. -/
def State.channels (s : State) (d u : Nat) : List Nat := (List.range 8).filter fun c => s.getBit F.MU_CFG_CH_EN c d u
/-- The active pairs of a unit (R389). -/
def State.pairs (s : State) (d u : Nat) : List Nat :=
  (List.range 4).filter fun k => s.getBit F.MU_CFG_CH_EN k d u && s.getBit F.MU_CFG_CH_EN (k + 4) d u
/-- The modulator input of channel `c`. -/
def State.channelMod (s : State) (d u c : Nat) : Nat := s.get F.MC_SRC_MOD d u c

/-- The conditions of R390. -/
def State.meterOk (s : State) (d u : Nat) : Bool :=
  let ms := (s.channels d u).map (s.channelMod d u)
  let m := ms.headD 0
  !(s.pairs d u).isEmpty && ms.all fun k =>
    s.bit F.MOD_CFG_EN d k && decide (s.get F.MOD_CFG_CLK d k = s.get F.MOD_CFG_CLK d m) &&
    decide (s.get F.MOD_CFG_OSR d k = s.get F.MOD_CFG_OSR d m)

/-- MU_CFG.EN written from 0 to 1 (R390, R411). -/
def State.meterEnable (s : State) (d u : Nat) : State :=
  if s.bit F.MU_CFG_EN d u then s
  else if !s.meterOk d u then s.put F.MU_STAT_CFG_RES Status.refused.code d u
  else
    let t := s.tick d
    let seen := (s.channels d u).foldl (fun m c => Store.set m 0 c (s.modIn d (s.channelMod d u c)).total) []
    let s := s.modMeter d u fun M =>
      { M with seen := seen, past := [], armed := [], zcAt := [], enabledAt := t, sampleAt := t, blocks := [] }
    let s := ((s.put F.MU_CFG_EN 1 d u).put F.MU_STAT_CFG_RES 0 d u).put F.MU_STAT_ZC_TO 0 d u
    (s.syncLine d (201 + u)).calCheck d u


/-- MU_CFG.EN written 0: VALID_BILL falls with it, and the invalid time counts up to here (R410, R412). -/
def State.meterDisable (s : State) (d u : Nat) : State := ((s.countInvalid d u).put F.MU_CFG_EN 0 d u).syncValid d u

/-! ### Samples -/

/-- The sample period of a unit in ticks (R391). -/
def State.samplePeriod (s : State) (d u : Nat) : Nat :=
  let m := s.channelMod d u ((s.channels d u).headD 0)
  4 * 2 ^ (s.get F.MOD_CFG_OSR d m + 4) * (s.get F.MOD_CLK_DIV d (s.get F.MOD_CFG_CLK d m) + 1)

/-- Every enabled channel's input has completed four more main outputs (R391). -/
def State.sampleDue (s : State) (d u : Nat) : Bool :=
  s.bit F.MU_CFG_EN d u && !(s.channels d u).isEmpty && (s.channels d u).all fun c =>
    decide (Store.get (s.meter d u).seen 0 c + 4 ≤ (s.modIn d (s.channelMod d u c)).total)

/-- The value of a past value list at delay `num` / `den` samples by a four-point cubic Lagrange interpolation (R392): as a
numerator over 6 `den`³. -/
def lagrange (past : List Word) (num den : Nat) : Int :=
  let i := max (num / den) 1
  let r : Int := num - i * den
  let n : Int := den
  let v : Nat → Int := fun k => (past.getD k 0).toInt
  3 * ((r + n) * (r - n) * (r - 2 * n)) * v i - r * (r - n) * (r - 2 * n) * v (i - 1) -
    3 * ((r + n) * r * (r - 2 * n)) * v (i + 1) + (r + n) * r * (r - n) * v (i + 2)

/-- An interpolated value, rounded and saturated. The rounding is open (log entry 24). -/
def State.interp (s : State) (past : List Word) (num den : Nat) : Word × State :=
  let r := s.freeRound (lagrange past num den) (6 * den ^ 3)
  (BitVec.ofInt 24 (sat24 r.1), r.2)

/-- Offset and gain of R392. -/
def correct (x ofs gain : Word) : Word :=
  let x := (aluSub x ofs).1
  (aluAdd x (aluMul x gain).1).1

/-- A sample of channel `c` (R392): its corrected value joins the channel's past values, and of a voltage channel (with `y`
kept from key 8) the corrected values too, as far back as a quarter period may lie. -/
def State.sampleChannel (s : State) (d u c : Nat) : State :=
  let m := s.channelMod d u c
  let M := s.modIn d m
  let at_ := Store.get (s.meter d u).seen 0 c + 4
  let sum := (((M.hist.drop (M.total - at_)).take 4).map (·.toInt)).sum
  let x := correct (BitVec.ofInt 24 (sat24 (roundAway sum 4))) (BitVec.ofNat 24 (s.get F.MC_OFS_OFS d u c))
    (BitVec.ofNat 24 (s.get F.MC_GAIN_GAIN d u c))
  let past := (x :: Store.get (s.meter d u).past [] c).take 8
  let y := s.interp past (1024 + min (s.get F.MC_DLY_DLY d u c) 4096) 1024
  y.2.modMeter d u fun R =>
    { R with seen := Store.set R.seen 0 c at_,
             past := Store.set (Store.set R.past [] c past) [] (8 + c)
               ((y.1 :: Store.get R.past [] (8 + c)).take (if c < 4 then 40000 else 1)) }

/-- The corrected value of channel `c` at the present sample. -/
def State.sampleValue (s : State) (d u c : Nat) : Int := ((Store.get (s.meter d u).past [] (8 + c)).headD 0).toInt

/-- The nominal frequency of a unit in Hz. -/
def State.meterHz (s : State) (d u : Nat) : Nat := if s.bit F.MU_CFG_NOM d u then 60 else 50

/-- Zero-crossing detection of Vk (R398): whether a crossing is accepted at this sample. -/
def State.crossing (s : State) (d u k : Nat) : State × Bool :=
  let M := s.meter d u
  let t := s.tick d
  let v := s.sampleValue d u k
  if s.bit F.MU_CFG_DC d u then (s, false)
  else if v < -(s.get F.MU_ZCHYS_HYS d u : Int) then (s.modMeter d u fun M => { M with armed := Store.set M.armed 0 k 1 }, false)
  else if v < 0 ∨ Store.get M.armed 0 k = 0 then (s, false)
  else
    let s := s.modMeter d u fun M => { M with armed := Store.set M.armed 0 k 0 }
    let last := Store.get M.zcAt 0 k
    if last ≠ 0 ∧ (t + 1 - last) * (2 * s.meterHz d u) < 100000000 then (s, false)
    else
      let s := if last = 0 then s else s.put F.ZC_PER_TICKS (t + 1 - last) d u k
      let s := ((s.put F.ZC_TICK_TICK t d u k).incMod F.ZC_CNT_CNT d u k).putBit F.MU_STAT_ZC_TO k false d u
      ((s.modMeter d u fun M => { M with zcAt := Store.set M.zcAt 0 k (t + 1) }).syncLine d (201 + u), true)

/-- The zero-crossing timeout of unit `u` has come on channel 0, 1 or 2: the grid monitors that name the unit declare islanding (R374). -/
def State.zcDeclare (s : State) (d u : Nat) : State :=
  forEach (((List.range 8).map fun l => d * 8 + l).filter fun h => decide (s.get F.GRD_CFG_MU d (h % 8) = u))
    (fun s h => if s.gridActs h && s.zcIsland h then s.declareIsland h 2 else s) s

/-- ZC_TIMEOUT (R399). No accepted crossing for ZC_TMO periods sets ZC_TO and raises the source. -/
def execZcTimeout (d : Nat) (u : Nat) (k : Nat) (s : State) : Host.Outcome State Fault Refusal :=
  guarded (decide (d < s.dies) && decide (u < 2) && decide (k < 4)) s <|
    let M := s.meter d u
    let last := if Store.get M.zcAt 0 k = 0 then M.enabledAt else Store.get M.zcAt 0 k - 1
    if s.bit F.MU_CFG_EN d u && !s.bit F.MU_CFG_DC d u && s.getBit F.MU_CFG_CH_EN k d u && !s.getBit F.MU_STAT_ZC_TO k d u &&
        decide (max (s.get F.MU_CFG_ZC_TMO d u) 1 * 100000000 ≤ (s.tick d - last) * s.meterHz d u) then
      let s := ((s.putBit F.MU_STAT_ZC_TO k true d u).incSat F.ZC_CNT_TO_CNT d u k).syncLine d (201 + u)
      if k < 3 then s.zcDeclare d u else s
    else s


/-- The delay of a quarter period of Vk in samples, as a fraction (R394): of the last measured period, or of the nominal one
while Vk is timed out or has no measured period. -/
def State.quarter (s : State) (d u k : Nat) : Nat × Nat :=
  let per := s.get F.ZC_PER_TICKS d u k
  if s.getBit F.MU_STAT_ZC_TO k d u || per = 0 then (100000000, 4 * s.meterHz d u * s.samplePeriod d u) else (per, 4 * s.samplePeriod d u)

/-- The present sample joins the block of pair `k` (R394). -/
def State.blockSample (s : State) (d u k : Nat) : State :=
  let f := s.quarter d u k
  let r := s.interp (Store.get (s.meter d u).past [] (8 + k)) f.1 f.2
  let v := s.sampleValue d u k
  let i := s.sampleValue d u (k + 4)
  let B := Store.get (s.meter d u).blocks BlockSum.reset k
  let B := ⟨B.n + 1, B.p + v * i, B.q + r.1.toInt * i, B.vv + v * v, B.ii + i * i⟩
  r.2.modMeter d u fun M => { M with blocks := Store.set M.blocks BlockSum.reset k B }

/-- The integer square root of a number below 2¹²⁸, bit by bit. -/
def isqrtWide (m : Nat) : Nat :=
  ((List.range 64).map fun k => 2 ^ (63 - k)).foldl (fun r b => if (r + b) * (r + b) ≤ m then r + b else r) 0

/-- A square root of num / den: exact, or either neighbour (log entry 24). -/
def State.freeRoot (s : State) (num den : Nat) : Nat × State :=
  let r := isqrtWide (num / den)
  if r * r * den = num then (r, s) else (r + (if s.freeBit.1 then 1 else 0), s.freeBit.2)

/-- MC_RMS of channel `c` over a block (R394). -/
def State.setRms (s : State) (d u c : Nat) (sum : Int) (n : Nat) : State :=
  let r := s.freeRoot sum.toNat n
  r.2.put F.MC_RMS_RMS (min r.1 8388607) d u c

/-- An AC block of pair `k` ends (R394, R395). -/
def State.blockAc (s : State) (d u k : Nat) (B : BlockSum) : State :=
  let s := (s.setRms d u k B.vv B.n).setRms d u (k + 4) B.ii B.n
  let start := s.get F.MU_INOM_I_NOM d u * s.get F.MU_START_FRAC d u
  let loaded := decide (B.n * start * start ≤ B.ii.toNat * 10 ^ 10)
  if !loaded then s
  else
    let root := s.freeRoot (B.vv.toNat * B.ii.toNat) 1
    let s := root.2
    let s := if 0 ≤ B.p then (s.allot d u k 0 B.p.toNat).allot d u k 4 root.1
      else (s.allot d u k 1 (-B.p).toNat).allot d u k 5 root.1
    if 0 ≤ B.q then s.allot d u k 2 B.q.toNat else s.allot d u k 3 (-B.q).toNat

/-- A DC sample of pair `k` (R394, R395): power, and charge in halves of a pail unit. -/
def State.blockDc (s : State) (d u k : Nat) (B : BlockSum) : State :=
  let i := s.sampleValue d u (k + 4)
  let s := (s.setRms d u k B.vv 1).setRms d u (k + 4) B.ii 1
  if i.natAbs * 100000 < s.get F.MU_INOM_I_NOM d u * s.get F.MU_START_FRAC d u then s
  else
    let s := if 0 ≤ B.p then s.allot d u k 0 B.p.toNat else s.allot d u k 1 (-B.p).toNat
    if 0 ≤ i then s.allot d u k 2 (i.toNat * 2 ^ 23) else s.allot d u k 3 ((-i).toNat * 2 ^ 23)

/-- The pair's part of a sample: the sums, and the end of the block where it falls here. The sample of a crossing is the
block's last. -/
def State.samplePair (s : State) (crossed : List Nat) (d u k : Nat) : State :=
  let s := s.blockSample d u k
  let B := Store.get (s.meter d u).blocks BlockSum.reset k
  let dc := s.bit F.MU_CFG_DC d u
  if dc || crossed.contains k || decide (2048 ≤ B.n) then
    let s := s.modMeter d u fun M => { M with blocks := Store.set M.blocks BlockSum.reset k BlockSum.reset }
    let s := if dc then s.blockDc d u k B else s.blockAc d u k B
    forEach (s.outputsAt d u k) (fun s o => s.pulseUpdate d o) s
  else s

/-- A sample in the gap of a HALF output (R405): the gap ends here if it has lasted a sample. -/
def PoRun.gapSample (P : PoRun) : PoRun := if P.phase = 3 then { P with phase := 2 } else { P with phase := 0 }

/-- A metrology sample (R391 to R399, R405, R410). -/
def State.meterSample (s : State) (d u : Nat) : State :=
  if !s.sampleDue d u then s
  else
    let s := forEach ((List.range 8).filter fun k => s.bit F.PO_CFG_MODE d k && decide (s.get F.PO_CFG_UNIT d k = u) && decide (2 ≤ (s.pulse d k).phase))
      (fun s k => s.modPulse d k PoRun.gapSample) s
    let s := forEach (s.channels d u) (fun s c => s.sampleChannel d u c) s
    let r := ((List.range 4).filter fun k => s.getBit F.MU_CFG_CH_EN k d u).foldl (fun (p : State × List Nat) k =>
      let c := p.1.crossing d u k
      (c.1, if c.2 then k :: p.2 else p.2)) (s, [])
    let s := forEach (r.1.pairs d u) (fun s k => s.samplePair r.2 d u k) r.1
    s.syncValid d u

/-- METER_SAMPLE (R392). Every four modulator outputs each channel forms a corrected sample and the unit updates
blocks, pails and validity. -/
def execMeterSample (d : Nat) (u : Nat) (s : State) : Host.Outcome State Fault Refusal :=
  guarded (decide (d < s.dies) && decide (u < 2)) s <|
    s.meterSample d u


/-! ### Snapshots -/

/-- A snapshot of unit `u` (R403). Several on one tick make one. -/
def State.snapshot (s : State) (d u : Nat) : State :=
  let t := s.tick d
  let M := s.meter d u
  if M.snapAt = some t then s
  else
    let s := forEach (List.range 30) (fun s q => s.setWide d (.snap u q) (s.wide d (.pail u q))) s
    let s := forEach (List.range 8) (fun s k => s.put F.SNAP_S0 (s.get F.S0_CNT_CNT d k) d u k) s
    let s := ((s.setWide d (.snapTick u) t).incMod F.SNAP_STAT_SEQ d u).putB F.SNAP_STAT_VALID_INT M.billHeld d u
    let v := s.bit F.MU_STAT_VALID_BILL d u
    s.modMeter d u fun M => { M with snapAt := some t, billHeld := v }


/-! ### S0 inputs -/

/-- S0 input `k` of die `d`. -/
def State.s0 (s : State) (d k : Nat) : S0Run := Store.get s.s0s S0Run.reset (d * 8 + k)
/-- S0 input `k` of die `d` changed. -/
def State.modS0 (s : State) (d k : Nat) (f : S0Run → S0Run) : State :=
  { s with s0s := Store.set s.s0s S0Run.reset (d * 8 + k) (f (s.s0 d k)) }

/-- The accepted level of input `k` has been active for MINW ms and is not yet counted (R408). -/
def State.s0Due (s : State) (d k : Nat) : Bool :=
  s.bit F.S0_CFG_EN d k && s.bit F.S0_STAT_LEVEL d k && !(s.s0 d k).counted &&
  decide ((s.s0 d k).since + s.get F.S0_CFG_MINW d k * 100000 ≤ s.tick d)

/-- A pulse is counted (R408, R409), unless a write in the same store cycle discards the count. -/
def State.s0Count (s : State) (d k : Nat) : State :=
  let mark := (s.s0 d k).written
  let n := s.get F.S0_CNT_CNT d k + 1
  let s := (s.modS0 d k fun P => { P with counted := true, written := 0 }).put F.S0_TICK_TICK (s.tick d) d k
  if mark ≠ 0 then s.collision d 0 (mark - 1) 1 (2 ^ 32)
  else
    let s := s.put F.S0_CNT_CNT n d k
    if 2 ^ 32 ≤ n then s.put F.S0_STAT_OVF 1 d k else s

/-- S0_PULSE_COUNT (R408). An active level held for MINW ms counts one pulse and records its tick. -/
def execS0PulseCount (d : Nat) (k : Nat) (s : State) : Host.Outcome State Fault Refusal :=
  guarded (decide (d < s.dies) && decide (k < 8)) s <|
    if s.s0Due d k then s.s0Count d k else s


/-- A level is accepted (R408): the end of an active level that was too short is a rejected pulse. -/
def State.s0Level (s : State) (d k : Nat) (active : Bool) : State :=
  let s := if s.s0Due d k then s.s0Count d k else s
  if !s.bit F.S0_CFG_EN d k || s.bit F.S0_STAT_LEVEL d k = active then s
  else
    let s := if !active && !(s.s0 d k).counted then s.incSat F.S0_STAT_REJ_CNT d k else s
    let t := s.tick d
    (s.putB F.S0_STAT_LEVEL active d k).modS0 d k fun P => { P with since := t, counted := false }

/-- The pin has been at a level for `stable` ticks (R408): after DEB ms it is accepted, POL giving which level is active. -/
def State.s0Pin (s : State) (d k : Nat) (high : Bool) (stable : Nat) : State :=
  if max (s.get F.S0_CFG_DEB d k) 1 * 100000 ≤ stable then s.s0Level d k (high == s.bit F.S0_CFG_POL d k) else s

/-- S0_LEVEL_ACCEPT (R408). An S0 level stable for DEB ms is accepted. -/
def execS0LevelAccept (d : Nat) (k : Nat) (e : S0Input) (s : State) : Host.Outcome State Fault Refusal :=
  guarded (decide (d < s.dies) && decide (k < 8)) s <|
    s.s0Pin d k e.high e.stable


/-- A write presets the count (R409). -/
def State.s0Write (s : State) (d k v : Nat) (collides : Bool) : State :=
  let old := s.get F.S0_CNT_CNT d k
  (s.put F.S0_CNT_CNT v d k).modS0 d k fun P => { P with written := if collides then old + 1 else 0 }


end Sys2Proof.Machine
end

