-- ==== Sys2Proof/Machine/Safety.lean ====
section
/-!
DEFINITION. The safety channels (chapter 16): the leg-enable paths (R415, R416, R420), demands (R423, R426, R429), faults
(R424, R427, R428, R430) and the reset edge (R432 to R434).
-/
namespace Sys2Proof.Machine

/-- The safety channels changed. -/
def State.modSafety (s : State) (f : SafetyRun → SafetyRun) : State := { s with safety := f s.safety }

/-- Bit `k` of a mask set to `b`. -/
def setMask (m k : Nat) (b : Bool) : Nat := if m.testBit k = b then m else if b then m + 2 ^ k else m - 2 ^ k

/-! ### Zones and lines -/

/-- The zones of the member (R418). -/
def State.zones (s : State) : List Nat := List.range (s.dies / 2)

/-- SAFE_STAT.STATE follows (R435): startup until a first release, then fault, demand, SS1 or released. -/
def State.syncSafe (s : State) : State :=
  let v := if s.bit F.SAFE_STAT_SFAULT then 4 else if !s.safety.started then 0 else if s.bit F.SAFE_STAT_DEM_ZONE then 3
    else if s.bit F.SAFE_STAT_SS1_ZONE then 2 else 1
  (((s.put F.SAFE_STAT_STATE v).syncLineAll 203).syncLineAll 204).syncLineAll 205

/-- SAFE_OFF of die `d`'s legs follows its detectors, and the legs with it (R416, R420). -/
def State.holdDie (s : State) (d : Nat) : State :=
  let a := !s.getBit F.SAFE_EN_A d
  let b := !s.getBit F.SAFE_EN_B d
  let s := forEach (List.range 24) (fun s n =>
    (s.modLeg d n fun L => { L with safeA := a, safeB := b }).putB F.LEG_STAT_SAFE_OFF (a || b) d n) s
  s.driveLegs d (List.range 24)

/-- LEG_ENABLE_LOSS (R416). A detector seeing no toggle for 2 µs holds the die's zone legs at priority 1 and sets
SAFE_OFF. -/
def execLegEnableLoss (chanB : Bool) (d : Nat) (s : State) : Host.Outcome State Fault Refusal :=
  guarded (decide (d < s.dies)) s <|
    (if chanB then s.putBit F.SAFE_EN_B d false else s.putBit F.SAFE_EN_A d false).holdDie d


/-- LEG_ENABLE_RESTORE (R420). Both lines enabled again release the zone's legs to their lower sources. -/
def execLegEnableRestore (d : Nat) (s : State) : Host.Outcome State Fault Refusal :=
  guarded (decide (d < s.dies)) s <|
    let s := if s.safety.driveA.testBit d then s.putBit F.SAFE_EN_A d true else s
    let s := if s.safety.driveB.testBit d then s.putBit F.SAFE_EN_B d true else s
    s.holdDie d


/-- The SAFE event of a herd (R421, R298). An UNBOUND or SAFE herd has none. -/
def State.herdToSafe (s : State) (h : Nat) : State :=
  match s.herdState h with
  | .unbound => if s.overtaken h 0 then s.meetSafe h false else s
  | .safe => s
  | .bound | .armed | .running | .stopping | .faulted => s.meetSafe h false

/-- Every herd that owns a leg in one of the zones goes to SAFE (R421). -/
def State.zonesToSafe (s : State) (zs : List Nat) : State :=
  forEach ((List.range (8 * s.dies)).filter fun h => (s.herdLegs h).any fun p => zs.contains (p.1 / 2)) (fun s h => s.herdToSafe h) s

/-- A channel stops toggling the lines of the zones, which are disabled, and their herds go to SAFE (R416, R417, R421).
`a` and `b`: the channels that act. -/
def State.disableZones (s : State) (zs : List Nat) (a b : Bool) : State :=
  let cut := fun (m : Nat) => zs.foldl (fun m z => setMask (setMask m (2 * z) false) (2 * z + 1) false) m
  let s := s.modSafety fun S => { S with driveA := if a then cut S.driveA else S.driveA, driveB := if b then cut S.driveB else S.driveB }
  (forEach zs (fun s z => s.putBit F.SAFE_STAT_DEM_ZONE z true) s).zonesToSafe zs

/-! ### Faults -/

/-- A fault cause is found (R417, R430), by its bit of SAFE_FLT.CAUSE, by the channels `a` and `b`, each of which stops its own lines.
Each cause is recorded once per episode. -/
def State.safeFault (s : State) (cause : Nat) (input : Option Nat) (die : Option Nat) (a b : Bool) : State :=
  let s := match input with | some k => s.put F.SAFE_FLT_INPUT k | none => s
  let s := match die with | some d => s.put F.SAFE_FLT_DIE d | none => s
  let known := s.getBit F.SAFE_FLT_CAUSE cause
  let s := (if s.bit F.SAFE_STAT_SFAULT then s else s.incSat F.SAFE_CNT2_FLT_CNT).put F.SAFE_STAT_SFAULT 1
  let s := (s.putBit F.SAFE_FLT_CAUSE cause true).disableZones s.zones a b
  let s := s.put F.SAFE_STAT_DEM_ZONE 15
  let s := if known then s else s.hwRecord 0 0x0703 none noLeg (s.get F.SAFE_FLT_CAUSE) (input.getD 0) (die.getD 0)
  s.syncSafe

/-- Every input is healthy: both contacts accepted closed (R425). -/
def State.allHealthy (s : State) : Bool := decide (s.get F.SAFE_IN_A = 0xFFFF) && decide (s.get F.SAFE_IN_B = 0xFFFF)

/-- The channels for which the seals are bad (R424): each compares both reads, and its own with that at RESET exit. -/
def State.sealBad (s : State) : Bool × Bool :=
  let a := s.get F.SAFE_SEAL_SEAL_A
  let b := s.get F.SAFE_SEAL_SEAL_B
  let first := s.safety.sealExit.getD (a, b)
  (decide (a ≠ b) || decide (a ≠ first.1), decide (a ≠ b) || decide (b ≠ first.2))

/-- Some fault cause remains present (R433). -/
def State.causePresent (s : State) : Bool :=
  let S := s.safety
  decide (S.tpBad ≠ 0) || decide (S.pathBad ≠ 0) || S.chanBad || decide (S.oscBad ≠ 0) || decide (S.selfBad ≠ 0) || S.stuck || s.sealBad.1 || s.sealBad.2 ||
  decide (s.get F.SAFE_IN_A ≠ s.get F.SAFE_IN_B)

/-- SEAL_READ (R424). Every 10 ms each channel reads the seal switches and faults on a difference. -/
def execSealRead (a : BitVec 12) (b : BitVec 12) (s : State) : Host.Outcome State Fault Refusal :=
  guarded true s <|
    let s := (s.put F.SAFE_SEAL_SEAL_A a.toNat).put F.SAFE_SEAL_SEAL_B b.toNat
    let s := s.modSafety fun S => { S with sealExit := some (S.sealExit.getD (a.toNat, b.toNat)) }
    let s := forEach (List.range s.dies) (fun s d => s.driveLegs d (List.range 24)) s
    if s.sealBad.1 || s.sealBad.2 then s.safeFault 3 none none s.sealBad.1 s.sealBad.2 else s


/-- SAFETY_SELFTEST (R430). Every 10 ms each channel checks its logic and state CRC. -/
def execSafetySelftest (e : SelfTest) (s : State) : Host.Outcome State Fault Refusal :=
  guarded true s <|
    let c := if e.chanB then 1 else 0
    let s := s.modSafety fun S =>
      { S with selfBad := setMask S.selfBad c !e.pass, tested := setMask S.tested c (S.tested.testBit c || e.pass) }
    if e.pass then s else s.safeFault 0 none none (!e.chanB) e.chanB


/-- PATH_FAULT (R430). A leg-enable readback differing for 20 µs raises a PATH fault. -/
def execPathFault (d : Nat) (differs : Bool) (s : State) : Host.Outcome State Fault Refusal :=
  guarded (decide (d < s.dies)) s <|
    let s := s.modSafety fun S => { S with pathBad := setMask S.pathBad d differs }
    if differs then s.safeFault 5 none (some d) true true else s


/-- RST_STUCK (R433). SAFE_RESET high for more than 5 s raises RST_STUCK. -/
def execRstStuck (s : State) : Host.Outcome State Fault Refusal :=
  guarded true s <|
    (s.modSafety fun S => { S with stuck := true }).safeFault 1 none none true true


/-- The bit of a contact in the mask of test-pulse faults. -/
def contactBit (chanB : Bool) (k : Nat) : Nat := if chanB then 16 + k else k

/-- A contact accepted closed. -/
def State.contact (s : State) (chanB : Bool) (k : Nat) : Bool := if chanB then s.getBit F.SAFE_IN_B k else s.getBit F.SAFE_IN_A k

/-- Contact `k` of channel `chanB` during the pulse of channel `pulseB` (R428): `fell`, it reads low within 50 µs of the start, or,
of the other channel, falls during the pulse; `rose`, it reads high within 50 µs of the end. A closed contact of the pulsing channel
must do both; one of the other channel that falls shows a cross-short. -/
def State.testPulse (s : State) (pulseB chanB : Bool) (k : Nat) (fell rose : Bool) : State :=
  if !s.contact chanB k then s
  else
    let cross := pulseB != chanB
    let bad := if cross then fell else !(fell && rose)
    let s := s.modSafety fun S => { S with tpBad := setMask S.tpBad ((if cross then 32 else 0) + contactBit chanB k) bad }
    if bad then s.safeFault 6 (some k) none (!pulseB) pulseB else s

/-- TEST_PULSE (R428). Each second a channel pulses its test output and checks its contacts follow, raising TP faults.
-/
def execTestPulse (chanB : Bool) (k : BitVec 4) (e : TestPulse) (s : State) : Host.Outcome State Fault Refusal :=
  guarded true s <|
    s.testPulse e.pulseB chanB k.toNat e.fell e.rose


/-! ### Demands -/

/-- The inputs of a group code (R423): whether input `k` is global, and its zone if it is a zone input. -/
def inputGroup (group k : Nat) : Bool × Option Nat :=
  match group with
  | 0 => (true, none)
  | 1 => if k < 4 then (true, none) else (false, some ((k - 4) / 3))
  | 2 => if k < 8 then (true, none) else (false, some ((k - 8) / 2))
  | _ => (false, some (k / 4))

/-- The zones of input `k` that the member has, and whether it is global (R423). -/
def State.inputZones (s : State) (k : Nat) : Bool × List Nat :=
  let g := inputGroup (s.sealed / 2 ^ 10 % 4) k
  (g.1, if g.1 then s.zones else s.zones.filter fun z => decide (g.2 = some z))

/-- A mask of zones. -/
def zoneMask (zs : List Nat) : Nat := (zs.map fun z => 2 ^ z).sum

/-- An STO demand of input `k` (R426). -/
def State.demandSto (s : State) (k : Nat) (zs : List Nat) (a b : Bool) : State :=
  (s.disableZones zs a b).hwRecord 0 0x0701 none noLeg k (zoneMask zs) 0

/-- The SS1 timer of zone `z`. -/
def State.ss1Run (s : State) (z : Nat) : Ss1Run := Store.get s.safety.ss1 Ss1Run.reset z
/-- The SS1 timer of zone `z` set. -/
def State.setSs1 (s : State) (z : Nat) (R : Ss1Run) : State := s.modSafety fun S => { S with ss1 := Store.set S.ss1 Ss1Run.reset z R }

/-- An SS1 demand of input `k` on zone `z` by the channels `a` and `b` (R429): the timer of a zone that is already running goes on. -/
def State.demandSs1 (s : State) (k z : Nat) (a b : Bool) : State :=
  let R := s.ss1Run z
  let s := if s.getBit F.SAFE_STAT_SS1_ZONE z then s.setSs1 z { R with chanA := R.chanA || a, chanB := R.chanB || b }
    else (s.putBit F.SAFE_STAT_SS1_ZONE z true).setSs1 z ⟨k, s.safety.cycles, a, b⟩
  s.hwRecord 0 0x0702 none noLeg 0 0 0

/-- The demands of input `k` are SS1 demands (R423). -/
def State.asSs1 (s : State) (k : Nat) : Bool := !(s.inputZones k).1 && decide (s.sealed / 2 ^ 8 % 4 ≠ 0)

/-- Input `k` demands (R423, R426), found by the channels `a` and `b`: one of a zone that the member lacks demands nothing. -/
def State.demand (s : State) (k : Nat) (a b : Bool) : State :=
  let zs := (s.inputZones k).2
  if zs.isEmpty then s
  else
    let s := (s.putBit F.SAFE_INDEM_DEM k true).incSat F.SAFE_CNT_DEM_CNT
    if s.asSs1 k then forEach zs (fun s z => s.demandSs1 k z a b) s else s.demandSto k zs a b

/-- The second contact of an input that demands already opens, seen by the channels `a` and `b`: they act on it through their own
lines (R417), without a record of their own. On a zone whose SS1 timer runs they act when it expires; with the timer expired, at
once (DESIGN CHOICE, log entry 56). -/
def State.demandToo (s : State) (k : Nat) (a b : Bool) : State :=
  let zs := (s.inputZones k).2
  let later := fun z => s.asSs1 k && s.getBit F.SAFE_STAT_SS1_ZONE z
  let s := forEach (zs.filter later) (fun s z =>
    let R := s.ss1Run z
    s.setSs1 z { R with chanA := R.chanA || a, chanB := R.chanB || b }) s
  s.disableZones (zs.filter fun z => !later z) a b

/-- A channel cycle (R414, R426): the inputs that opened since the last one demand. `chan`, `oscA` and `oscB`: the exchange shows
these faults (R430), of the other's timing to channel A and to channel B. -/
def State.safetyCycle (s : State) (chan oscA oscB : Bool) : State :=
  let A := s.safety.openA
  let B := s.safety.openB
  let N := s.safety.fresh
  let s := s.modSafety fun S =>
    { S with cycles := S.cycles + 1, openA := 0, openB := 0, fresh := 0, chanBad := chan,
             oscBad := (if oscA then 1 else 0) + (if oscB then 2 else 0) }
  let s := forEach ((List.range 16).filter fun k => A.testBit k || B.testBit k) (fun s k =>
    if N.testBit k then s.demand k (A.testBit k) (B.testBit k) else s.demandToo k (A.testBit k) (B.testBit k)) s
  let s := if chan then s.safeFault 4 none none true true else s
  (if oscA || oscB then s.safeFault 2 none none oscA oscB else s).syncSafe

/-- SAFETY_CHANNEL_CYCLE (R414). Each 100 µs channel cycle evaluates inputs, exchanges state and demands on open
inputs. -/
def execSafetyChannelCycle (chan : Bool) (osc : OscCheck) (s : State) : Host.Outcome State Fault Refusal :=
  guarded true s <|
    s.safetyCycle chan osc.a osc.b


/-- A contact's level is accepted (R425 to R427): an opening contact of a healthy input makes it demand at the end of the cycle, and
its second contact is seen there by its own channel; the first contact that opens, or closes at an input that has opened, starts
discrepancy timing, which lasts until the other contact is accepted at the same level, whatever the first does meanwhile. -/
def State.contactAccept (s : State) (chanB : Bool) (k : Nat) (closed : Bool) : State :=
  if s.contact chanB k = closed then s
  else
    let other := s.contact (!chanB) k
    let healthy := !closed && other
    let s := if chanB then s.putBit F.SAFE_IN_B k closed else s.putBit F.SAFE_IN_A k closed
    let start := healthy || (closed && s.safety.opened.testBit k)
    let follows := s.safety.disc.testBit k && decide (s.safety.discB.testBit k = chanB) &&
      decide (s.safety.discOpen.testBit k = !closed)
    let waits := s.safety.disc.testBit k && !follows
    let begins := start && decide (closed ≠ other) && !waits
    let seen := !closed && (healthy || s.safety.opened.testBit k)
    s.modSafety fun S =>
      { S with openA := if seen && !chanB then setMask S.openA k true else S.openA,
               openB := if seen && chanB then setMask S.openB k true else S.openB,
               fresh := if healthy then setMask S.fresh k true else S.fresh,
               opened := if healthy then setMask S.opened k true else S.opened,
               disc := setMask S.disc k (waits || begins),
               discFrom := if waits then S.discFrom else Store.set S.discFrom 0 k (if begins then S.cycles else 0),
               discB := setMask S.discB k (if waits then S.discB.testBit k else begins && !chanB),
               discOpen := setMask S.discOpen k (if waits then S.discOpen.testBit k else begins && !closed) }

/-- CONTACT_ACCEPT (R425). A safety contact level held 400 µs is accepted and discrepancy timing starts. -/
def execContactAccept (chanB : Bool) (k : BitVec 4) (closed : Bool) (s : State) : Host.Outcome State Fault Refusal :=
  guarded true s <|
    s.contactAccept chanB k.toNat closed


/-- The discrepancy time of the sealed code in channel cycles of 100 µs (R422). -/
def State.discCycles (s : State) : Nat :=
  10 * [10, 20, 30, 50, 75, 100, 150, 200, 300, 400, 500, 750, 1000, 1250, 1500, 2000].getD (s.sealed % 16) 0

/-- The sealed SS1 time in channel cycles (R422). -/
def State.ss1Cycles (s : State) : Nat := 10 * [0, 100, 500, 2000].getD (s.sealed / 2 ^ 8 % 4) 0

/-- The discrepancy time of input `k` passes (R427). -/
def State.discTimeout (s : State) (k : Nat) : State :=
  if s.safety.disc.testBit k && decide (Store.get s.safety.discFrom 0 k + s.discCycles ≤ s.safety.cycles) then
    (s.modSafety fun S =>
      { S with disc := setMask S.disc k false, discB := setMask S.discB k false, discOpen := setMask S.discOpen k false }).safeFault 7 (some k) none true true
  else s

/-- DISCREPANCY_TIMEOUT (R427). The second contact not following within the discrepancy time raises a DISC fault. -/
def execDiscrepancyTimeout (k : BitVec 4) (s : State) : Host.Outcome State Fault Refusal :=
  guarded true s <|
    s.discTimeout k.toNat


/-- The SS1 timer of zone `z` expires (R429): the zone is disabled by the channels that have the demand, with one record unless it
was disabled before. -/
def State.ss1Expire (s : State) (z : Nat) : State :=
  let R := s.ss1Run z
  if s.getBit F.SAFE_STAT_SS1_ZONE z && decide (R.from_ + s.ss1Cycles ≤ s.safety.cycles) then
    let was := s.getBit F.SAFE_STAT_DEM_ZONE z
    let s := (s.putBit F.SAFE_STAT_SS1_ZONE z false).setSs1 z Ss1Run.reset
    (if was then s.disableZones [z] R.chanA R.chanB else s.demandSto R.input [z] R.chanA R.chanB).syncSafe
  else s

/-- SS1_EXPIRY (R429). The SS1 timer expiring disables the zone and puts its herds in SAFE. -/
def execSs1Expiry (z : Nat) (s : State) : Host.Outcome State Fault Refusal :=
  guarded (decide (z < 4)) s <|
    s.ss1Expire z


/-! ### The reset edge -/

/-- A falling edge of SAFE_RESET (R433, R434): the level before was high for `widthMs`, and low for `lowMs` before that; `both`:
both channels accept it within one cycle; `clash`: a new demand or fault cause falls in the same channel cycle, after this command,
and wins over the edge. RST_STUCK has ended where the level was low for 1 s after the high that raised it: the edge that ends that
high shows no such low. -/
def State.safeReset (s : State) (lowMs widthMs : Nat) (both clash : Bool) : State :=
  let s := s.modSafety fun S => { S with stuck := S.stuck && !(decide (1000 ≤ lowMs) && decide (widthMs ≤ 5000)) }
  if decide (100 ≤ widthMs) && decide (widthMs ≤ 2000) && both && !clash && s.allHealthy && decide (s.get F.SAFE_STAT_SS1_ZONE = 0) &&
      !s.causePresent && decide (s.safety.tested = 3) && decide (s.safety.openA = 0) && decide (s.safety.openB = 0) then
    let all := 2 ^ s.dies - 1
    let s := ((s.put F.SAFE_STAT_SFAULT 0).put F.SAFE_FLT_CAUSE 0).put F.SAFE_INDEM_DEM 0
    let s := (s.put F.SAFE_STAT_DEM_ZONE 0).modSafety fun S => { S with driveA := all, driveB := all, opened := 0, started := true }
    (s.hwRecord 0 0x0704 none noLeg 0 0 0).syncSafe
  else if 5000 < widthMs then s
  else s.incSat F.SAFE_CNT_RST_REJ_CNT

/-- SAFE_RESET_EDGE (R433). A valid falling edge of SAFE_RESET clears faults and demands, restarts toggling and
records SAFE_RELEASE. -/
def execSafeResetEdge (lowMs : Nat) (widthMs : Nat) (e : ResetSeen) (s : State) : Host.Outcome State Fault Refusal :=
  guarded true s <|
    s.safeReset lowMs widthMs e.both e.clash


end Sys2Proof.Machine
end

