-- ==== Sys2Proof/Machine/Aon.lean ====
section
/-!
DEFINITION. The always-on domain (chapter 17): handover (R442 to R444), seconds (R445), its record path (R446, R447), ALARM
(R448), the gauge (R441), darkness and wake (R449 to R452), and the sampled comparators (R210, R211).
-/
namespace Sys2Proof.Machine

/-- The always-on domain changed. -/
def State.modAon (s : State) (f : AonRun → AonRun) : State := { s with aonRun := f s.aonRun }

/-- AON runs from main. -/
def State.onMain (s : State) : Bool := s.bit F.AON_STAT_MAIN_OK

/-- The limit of the large store in mV (R437, R453). -/
def State.lmax (s : State) : Nat := 2300 + 10 * s.get F.AON_LMAX_CODE

/-- The stores (R437, R438): the small one is charged first, to 2.50 V, the large one only then, up to LMAX, by the harvester or,
on main with CHG_MAIN = 1, by the charger; a small store below 2.30 V is refilled from a large one above it. -/
def State.syncStores (s : State) : State :=
  let vl := s.get F.AON_VST_VLARGE
  let vs := s.get F.AON_VST_VSMALL
  let charger := s.onMain && s.bit F.AON_CFG_CHG_MAIN && !s.aonRun.off
  let source := charger || s.bit F.AON_STAT_HARV_RUN
  let lmax := s.lmax
  s.modAon fun A =>
    { A with
      charger := charger,
      charging := if !source then none else if vs < 2500 then some false else if vl < lmax then some true else none,
      refill := decide (vs < 2300) && decide (vs < vl) && !A.off }

/-! ### Records -/

/-- The records that wait are pushed into the intake, in order, while AON runs from main (R446). One that the intake cannot
take at all (no intake, or not ready) waits on. -/
def State.drainAon : List RecEntry → State → State
  | [], s => s.modAon fun A => { A with buffer := [] }
  | e :: es, s =>
    let r := s.intakePush e
    match r.2 with
    | .ok | .full => State.drainAon es r.1
    | _ => r.1.modAon fun A => { A with buffer := e :: es }

/-- The waiting records go to the intake where AON runs from main. -/
def State.serveAon (s : State) : State := if s.onMain && !s.aonRun.off then State.drainAon s.aonRun.buffer s else s

/-- A record of the AON domain (R446): a ninth is not kept. -/
def State.aonRecord (s : State) (code d0 d1 d2 : Nat) : State :=
  let e : RecEntry := ⟨code, none, noLeg, 0, d0, d1, d2, s.get F.AON_SECS_SECS, s.get F.AON_PCYC_CNT, s.tick 0, 0, true, false⟩
  if 8 ≤ s.aonRun.buffer.length then s.incSat F.AON_CNT_LOST_CNT
  else (s.modAon fun A => { A with buffer := A.buffer ++ [e] }).serveAon

/-- The seconds counts at the record writes of the last 10 minutes (R441). -/
def State.recentWrites (s : State) : List Nat := s.aonRun.writes.filter fun t => decide (s.get F.AON_SECS_SECS < t + 600)

/-- A record write is counted in the draw estimate (R439, R441). -/
def State.noteWrite (s : State) : State := s.modAon fun A => { A with writes := s.get F.AON_SECS_SECS :: s.recentWrites }

/-- AON_RECORD_WRITE (R446). On store, the AON record path writes one waiting record to D0 flash every 2 ms. -/
def execAonRecordWrite (s : State) : Host.Outcome State Fault Refusal :=
  guarded true s <|
    match s.aonRun.buffer with
    | e :: es =>
      if !s.onMain && !s.aonRun.off && decide (2000 ≤ s.get F.AON_VST_VSMALL) then
        s.commitInto e s.toPermanent fun s => (s.modAon fun A => { A with buffer := es }).noteWrite
      else s
    | [] => s


/-! ### ALARM -/

/-- ALARM follows its conditions (R448). -/
def State.syncAlarm (s : State) : State :=
  let hit := (List.range 8).any fun k => s.getBit F.AON_ALM_MASK k && s.bit F.AON_CMP_STAT_HIT 0 k
  let low := s.bit F.AON_ALM_LOW_EN && decide (s.get F.AON_GAUGE_PCT < s.get F.AON_ALM_PCT)
  s.putB F.AON_STAT_ALARM ((hit || low) && !s.aonRun.off)

/-- The slow timer of sampled comparator `k` ticks at clock `clk` of the crystal (R210): every PERIOD clocks, from count 0 (DESIGN
CHOICE, log entry 53). -/
def State.slowTick (s : State) (k clk : Nat) : Bool :=
  decide (clk % max (s.get F.AON_ST_PERIOD 0 (s.get F.AON_CMP_CFG_TMR 0 k)) 1 = 0)

/-- A decision of sampled comparator `k` (R210), as its pin stands at `level` µV on clock `clk` of the crystal: it is taken at a tick
of its slow timer, against THR × 1.8 V / 255 to ±1 %. The decision that completes CONF + 1 active ones confirms. -/
def State.aonDecision (s : State) (k : Nat) (level : Int) (clk : Nat) : State :=
  if !s.bit F.AON_CMP_CFG_EN 0 k || s.aonRun.off || !s.slowTick k clk then s
  else
    let th : Int := s.get F.AON_CMP_CFG_THR 0 k * 1800000
    let pol := s.bit F.AON_CMP_CFG_POL 0 k
    let x := level * 25500
    let r := if pol then s.above (-x) (-(th * 101)) (-(th * 99)) else s.above x (th * 99) (th * 101)
    let act := r.1
    let s := r.2
    let run := if act then min (Store.get s.aonRun.runs 0 k + 1) 5 else 0
    let s := (s.putB F.AON_CMP_STAT_OUT act 0 k).modAon fun A => { A with runs := Store.set A.runs 0 k run }
    if run = s.get F.AON_CMP_CFG_CONF 0 k + 1 then
      let was := s.bit F.AON_CMP_STAT_HIT 0 k
      let s := ((s.incSat F.AON_CMP_STAT_CNT 0 k).put F.AON_CMP_STAT_HIT 1 0 k).modAon fun A =>
        { A with hitAt := Store.set A.hitAt 0 k (s.tick 0 + 1) }
      (if was then s else s.aonRecord 0x0802 k (s.get F.AON_CMP_STAT_CNT 0 k) 0).syncAlarm
    else s

/-- AON_CMP_DECISION (R210). At a slow-timer tick a sampled AON comparator decides and confirms HIT after CONF + 1
decisions. -/
def execAonCmpDecision (k : Nat) (e : AonInput) (s : State) : Host.Outcome State Fault Refusal :=
  guarded (decide (k < 8)) s <|
    s.aonDecision k e.level e.clk


/-! ### Handover -/

/-- MAIN_LOST (R442). VDDIO below 2.9 V moves AON to the small store and queues MAIN_LOST. -/
def execMainLost (s : State) : Host.Outcome State Fault Refusal :=
  guarded true s <|
    let s := s.modAon fun A => { A with absent := true }
    if s.onMain then
      (((s.put F.AON_STAT_MAIN_OK 0).put F.AON_STAT_ON_STORE 1).incSat F.AON_CNT_HANDOVER_CNT).syncStores.aonRecord 0x0801 0 0 0
    else s


/-- MAIN_RETURN (R443). Main present for 20 ms without a break returns AON to main. -/
def execMainReturn (s : State) : Host.Outcome State Fault Refusal :=
  guarded true s <|
    if s.aonRun.off then s
    else
      let s := ((s.put F.AON_STAT_MAIN_OK 1).put F.AON_STAT_ON_STORE 0).modAon fun A => { A with bins := [] }
      ((s.put F.AON_DARK_BINS 0).put F.AON_DARK_AVG 0xFFFF).syncStores.serveAon


/-- POWER_CYCLE_COUNT (R444). Main present 100 ms after an absence of 100 ms increments AON_PCYC. -/
def execPowerCycleCount (s : State) : Host.Outcome State Fault Refusal :=
  guarded true s <|
    if s.aonRun.absent then (s.modAon fun A => { A with absent := false }).incSat F.AON_PCYC_CNT else s


/-- AON_SECOND (R445). Each crystal second increments AON_SECS and, on main, AON_MSECS. -/
def execAonSecond (s : State) : Host.Outcome State Fault Refusal :=
  guarded true s <|
    if s.aonRun.off then s
    else
      let s := s.incSat F.AON_SECS_SECS
      (if s.onMain then s.incSat F.AON_MSECS_SECS else s).serveAon


/-! ### Gauge and harvester -/

/-- The gauge (R441). Energies are in units of 0.1 F × 1 mV² / 2, powers in 0.1 µW. `draw` is the mean draw but for the record writes,
each of which adds 16 µJ over the 10 minutes (R439). -/
def State.gauge (s : State) (vlarge vsmall draw harvest : Nat) : State :=
  let c := s.get F.AON_CFG_LCAP
  let lmax := s.lmax
  let use := c * (vlarge * vlarge - 1900 * 1900)
  let full := c * (lmax * lmax - 1900 * 1900)
  let drawn := 600 * draw + 160 * s.recentWrites.length
  let hours := if 600 * harvest < drawn then min (use / (12 * (drawn - 600 * harvest))) 0xFFFE else 0xFFFF
  let s := ((s.put F.AON_VST_VLARGE vlarge).put F.AON_VST_VSMALL vsmall).put F.AON_HARV_PAVG (min harvest 0xFFFF)
  ((s.put F.AON_GAUGE_PCT (min (100 * use / full) 100)).put F.AON_GAUGE_HOURS hours).syncStores.syncAlarm

/-- GAUGE_UPDATE (R441). The gauge computes store level and hours remaining every 1 s on store or 10 s on main. -/
def execGaugeUpdate (vlarge : Nat) (vsmall : Nat) (draw : Nat) (harvest : Nat) (s : State) : Host.Outcome State Fault
    Refusal :=
  guarded true s <|
    if s.aonRun.off then s else s.gauge vlarge vsmall draw harvest


/-- Each store is less than `drop` mV below its limit: the small one's is 2.50 V, the large one's LMAX (R437, R440). -/
def State.storesFull (s : State) (drop : Nat) : Bool :=
  decide (2500 < s.get F.AON_VST_VSMALL + drop) && decide (s.lmax < s.get F.AON_VST_VLARGE + drop)

/-- HARVESTER_START (R440). The harvester starts converting, from cold when the generator voltage reaches 25 mV or
again when a store falls 20 mV below its limit, and HARV_RUN is set. -/
def execHarvesterStart (cold : Bool) (s : State) : Host.Outcome State Fault Refusal :=
  guarded true s <|
    if (cold || !s.aonRun.off) && !(s.aonRun.full && s.storesFull 20) then
      ((s.put F.AON_STAT_HARV_RUN 1).modAon fun A => { A with full := false }).syncStores
    else s


/-- HARVESTER_STOP (R440). The harvester stops converting when both stores reach their limits or the generator voltage
falls below 12 mV, and HARV_RUN clears. -/
def execHarvesterStop (s : State) : Host.Outcome State Fault Refusal :=
  guarded true s <|
    ((s.put F.AON_STAT_HARV_RUN 0).modAon fun A => { A with full := s.storesFull 1 }).syncStores


/-- HARVESTER_VOC_MEASURE (R440). Every 30 s the harvester measures V_oc and regulates at FOC %. -/
def execHarvesterVocMeasure (voc : Nat) (s : State) : Host.Outcome State Fault Refusal :=
  guarded true s <|
    if s.bit F.AON_STAT_HARV_RUN && !s.aonRun.off then
      (s.put F.AON_HARV_VOC (min voc 0xFFFF)).modAon fun A => { A with inputAt := voc * s.get F.AON_CFG_FOC }
    else s


/-! ### Darkness -/

/-- The darkness window in bins. -/
def State.darkWindow (s : State) : Nat := max (s.get F.AON_CFG_DARK_H) 1

/-- The darkness average exists (R449). -/
def State.darkExists (s : State) : Bool := decide (s.darkWindow ≤ s.aonRun.bins.length)

/-- AON_DARK.AVG shows the mean power of the last DARK_H bins, where it exists (R449, R453). -/
def State.syncDark (s : State) : State :=
  if s.darkExists then
    let r := s.freeRound ((s.aonRun.bins.take s.darkWindow).sum : Nat) s.darkWindow
    r.2.put F.AON_DARK_AVG (min r.1.toNat 0xFFFE)
  else s.put F.AON_DARK_AVG 0xFFFF

/-- DARK_BIN_CLOSE (R449). Each hour on store closes a bin of harvested energy. -/
def execDarkBinClose (energy : Nat) (s : State) : Host.Outcome State Fault Refusal :=
  guarded true s <|
    if s.onMain || s.aonRun.off then s
    else ((s.modAon fun A => { A with bins := (energy :: A.bins).take 255 }).incSat F.AON_DARK_BINS).syncDark


/-- The condition of a cut-off (R450): its cause, 0 darkness or 1 exhaustion. -/
def State.darkCause (s : State) : Option Nat :=
  let vl := s.get F.AON_VST_VLARGE
  let vs := s.get F.AON_VST_VSMALL
  if s.onMain || s.aonRun.off then none
  else if s.darkExists && decide ((s.aonRun.bins.take s.darkWindow).sum < 50 * s.darkWindow) && decide (vl < 1900) then some 0
  else if vs < 2000 ∧ vl ≤ vs then some 1
  else none

/-- The AON domain disconnects its loads (R450): the darkness timer starts, and only the harvester's cold-start circuit stays. -/
def State.aonCutOff (s : State) : State :=
  let s := s.modAon fun A => { A with off := true, expired := false, hours := none }
  (((s.put F.PWR_PKG_AON 2).put F.AON_STAT_ALARM 0).put F.AON_STAT_HARV_RUN 0).syncStores

/-- The cut-off for cause `c` (R450): the DARK_CUTOFF record is written first, at any store voltage, as soon as the flash is free for it;
then the domain cuts itself off. -/
def State.darkCutoff (s : State) (c : Nat) : State :=
  let e : RecEntry := ⟨0x0803, none, noLeg, 0, c, s.get F.AON_VST_VLARGE, s.get F.AON_DARK_AVG, s.get F.AON_SECS_SECS,
    s.get F.AON_PCYC_CNT, s.tick 0, 0, true, false⟩
  let t := s.commitInto e s.toPermanent fun s => s.noteWrite
  if s.recorder.committing.isNone ∧ t.recorder.committing.isSome then (t.flashDone 0).aonCutOff else t

/-- DARK_CUTOFF (R450). Darkness or exhaustion records DARK_CUTOFF, starts the darkness timer and cuts off AON loads.
-/
def execDarkCutoff (s : State) : Host.Outcome State Fault Refusal :=
  guarded true s <|
    match s.darkCause with | some c => s.darkCutoff c | none => s


/-- The darkness timer runs out (R451): it stops at the hours that its own oscillator has counted, which the spec leaves open. -/
def State.darkExpire (s : State) : State :=
  if s.aonRun.off && !s.aonRun.expired then
    let n := Config.freeNat s.fresh % 65536
    s.nextFresh.modAon fun A => { A with expired := true, hours := some n }
  else s

/-- DARK_TIMER_EXPIRED (R451). The small store below 1.2 V stops the darkness timer with EXPIRED set. -/
def execDarkTimerExpired (s : State) : Host.Outcome State Fault Refusal :=
  guarded true s <|
    s.darkExpire


/-- What a wake returns to its reset value (R436): the gauge, the store, harvester and darkness readings and the counts of the
domain; the seconds, the power cycles and the configuration keep theirs (R452). -/
def State.wakeReset (s : State) : State :=
  let s := ((s.put F.AON_GAUGE_HOURS 0xFFFF).put F.AON_GAUGE_PCT 0).put F.AON_VST_VLARGE 0
  let s := ((s.put F.AON_VST_VSMALL 0).put F.AON_HARV_VOC 0).put F.AON_HARV_PAVG 0
  let s := ((s.put F.AON_DARK_AVG 0xFFFF).put F.AON_DARK_BINS 0).put F.AON_STAT_HARV_RUN 0
  ((s.put F.AON_CNT_LOST_CNT 0).put F.AON_CNT_HANDOVER_CNT 0).modAon fun A => { A with bins := [], off := false, hours := none }

/-- DARK_WAKE (R452). Harvest or main wakes AON, restarting the crystal, setting AON_GAP and queueing DARK_WAKE. -/
def execDarkWake (hours : BitVec 16) (main : Bool) (s : State) : Host.Outcome State Fault Refusal :=
  guarded true s <|
    if !s.aonRun.off then s
    else
      let x := s.aonRun.expired
      let hours := s.aonRun.hours.getD hours.toNat
      let s := (s.wakeReset.put F.PWR_PKG_AON 0).put F.AON_GAP_HOURS hours
      let s := (s.putB F.AON_GAP_EXPIRED x).put F.AON_STAT_WOKE 1
      (s.aonRecord 0x0804 hours (if x then 1 else 0) (if main then 1 else 0)).syncStores.syncAlarm


end Sys2Proof.Machine
end

