-- ==== Sys2Proof/Machine/Clock.lean ====
section
/-!
DEFINITION. Software interrupts and the host interrupt (R476, R486), PLL and disagreement (R43, R488, R489), ramp generators
(R493, R494), operating points (R495, R496) and the requests to power domains (R497 to R502).
-/
namespace Sys2Proof.Machine

/-! ### Interrupts -/

/-- The die on whose registers an engine acts (R87): an engine reaches the blocks of its own die only. -/
def ownDie (q : Requester) (d : Nat) : Bool :=
  match q with
  | .engine pe => decide (pe / 32 = d)
  | .host | .debug | .chain _ | .unit => true

/-- A write of IRQ_SWSET (R476). -/
def State.swSet (s : State) (q : Requester) (d src : Nat) : State × Status :=
  if src < 256 ∨ ownDie q d = false then (s.wref q F.IRQ_SWSET_SRC d, .refused) else (s.irqEdge d src, .ok)


/-- A W1C write of IRQ_HPEND[w] (R486): a bit whose level line is active is set again. -/
def State.hpendClear (s : State) (d w bits : Nat) : State :=
  let again := (List.range 32).foldl (fun m b =>
    let src := 32 * w + b
    if bits.testBit b && isLevel src && s.lineOf d src && s.bit F.IRQ_SRC_HOST d src then m + 2 ^ b else m) 0
  let v := s.get F.IRQ_HPEND_HPEND d w
  (s.put F.IRQ_HPEND_HPEND ((v &&& (0xFFFFFFFF - bits)) ||| again) d w).syncDsum d


/-! ### The PLL -/

/-- TICK_DISAGREE on die `d` with `err` as TICK_ERR.ERR shows it (R43): set, recorded, and every spanning herd FAULTED. The
good whistles of the agreement start again (R551). -/
def State.tickDisagree (s : State) (d err : Nat) : State :=
  let s := (s.put F.TICK_STAT_DISAGREE 1 d).put F.TICK_ERR_ERR err d
  let s := (s.hwRecord d 0x0101 none noLeg d err 0).faultSpanning d
  { s with boot := { s.boot with good := 0 } }

/-- TICK_DISAGREE raised without a whistle (R43, R44, R489): the next whistle reloads the replica. -/
def State.disagreeAlone (s : State) (d : Nat) : State :=
  (s.modDie d fun D => { D with reloadNext := true }).tickDisagree d 0x8000

/-- The herds with legs, all of which lie on die `d`. -/
def State.herdsWithin (s : State) (d : Nat) : List Nat :=
  (List.range (8 * s.dies)).filter fun h => !(s.herdLegs h).isEmpty && (s.herdLegs h).all fun p => decide (p.1 = d)

/-- A loss of lock (R489). -/
def State.pllUnlock (s : State) (d : Nat) : State :=
  if !s.bit F.CLK_PLL_LOCK d then s
  else
    let s := (s.modDie d fun D => { D with gated := true }).driveLegs d (List.range 24)
    let s := (((s.put F.CLK_PLL_LOCK 0 d).put F.CLK_PLL_UNLOCK 1 d).incSat F.CLK_PLL_LOSS_CNT d).syncLine d 216
    let s := s.hwRecord d 0x0A01 none noLeg d (s.get F.CLK_PLL_BAND d) (s.get F.CLK_PLL_LOSS_CNT d)
    let s := s.disagreeAlone d
    let s := (s.herdsWithin d).foldl (fun s h => if s.herdState h = .unbound then s else s.herdFault h .prog) s
    s.put F.CLK_PLL_SEARCH 1 d

/-- PLL_UNLOCK (R489). Loss of lock gates the outputs, records PLL_UNLOCK, raises TICK_DISAGREE, faults local herds
and restarts the search. -/
def execPllUnlock (d : Nat) (s : State) : Host.Outcome State Fault Refusal :=
  guarded (decide (d < s.dies)) s <|
    s.pllUnlock d


/-- Lock is declared (R488), and the outputs of a gated die restart (R489). -/
def State.pllLock (s : State) (d band : Nat) : State :=
  if !s.bit F.CLK_PLL_SEARCH d then s
  else
    let s := ((s.put F.CLK_PLL_SEARCH 0 d).put F.CLK_PLL_LOCK 1 d).put F.CLK_PLL_BAND band d
    if (s.die d).gated then (s.modDie d fun D => { D with gated := false }).driveLegs d (List.range 24) else s

/-- PLL_LOCK (R488). The PLL band search completes and lock is declared, restarting the outputs. -/
def execPllLock (d : Nat) (band : BitVec 6) (s : State) : Host.Outcome State Fault Refusal :=
  guarded (decide (d < s.dies)) s <|
    s.pllLock d band.toNat


/-! ### Ramp generators -/

/-- Ramp generator `r` of die `d`. -/
def State.ramp (s : State) (d r : Nat) : RampRun := Store.get s.ramps RampRun.reset (d * 2 + r)
/-- Ramp generator `r` of die `d` changed. -/
def State.modRamp (s : State) (d r : Nat) (f : RampRun → RampRun) : State :=
  { s with ramps := Store.set s.ramps RampRun.reset (d * 2 + r) (f (s.ramp d r)) }

/-- The output that ramp generator `r` drives (R493): ENG or CLKOUT. -/
def rampOutput (r : Nat) : Nat := if r = 0 then 0 else 5

/-- The ratio of output `k` in 2⁻¹⁹ (R490). -/
def State.clkRatio (s : State) (d k : Nat) : Nat := s.get F.CLK_OUT_DIV d k * 65536 + s.get F.CLK_OUTF_FRAC d k

/-- The dwell of point `p` in ticks; 0 acts as 1 (R493). -/
def State.rampDwell (s : State) (d r p : Nat) : Nat := max (s.get F.RG_DW_DWELL d r p) 1

/-- Whether a point from 0 to LAST has a ratio below the generator's lowest (R494). -/
def State.rampLow (s : State) (d r : Nat) : Bool :=
  (List.range (s.get F.RG_CFG_LAST d r + 1)).any fun p =>
    decide (s.get F.RG_PT_RATIO d r p < (if r = 0 then 0x280000 else 0x500000))

/-- A write of RG_CFG.RUN = 1 (R493, R494), with its result in RG_STAT.RES. -/
def State.rampRun (s : State) (d r : Nat) : State × Status :=
  if s.bit F.RG_CFG_RUN d r || s.rampLow d r then (s.put F.RG_STAT_RES Status.refused.code d r, .refused)
  else
    let v := s.clkRatio d (rampOutput r)
    let s := ((s.put F.RG_CFG_RUN 1 d r).put F.RG_STAT_RES Status.ok.code d r).put F.RG_STAT_CUR 0 d r
    (s.modRamp d r fun _ => ⟨v, 0, v, false⟩, .ok)


/-- A write of RG_CFG.RUN = 0 (R494): in LOOP mode the run ends with its segment; in ONCE mode it has no effect. -/
def State.rampStop (s : State) (d r : Nat) : State :=
  if s.bit F.RG_CFG_RUN d r && s.bit F.RG_CFG_MODE d r then
    (s.modRamp d r fun R => { R with ending := true }).put F.RG_STAT_RES Status.ok.code d r
  else s


/-- A run ends with `ratio` (R493, R494): CLK_OUT and CLK_OUTF read it, and DONE is set. -/
def State.rampDone (s : State) (d r ratio : Nat) : State :=
  let k := rampOutput r
  let s := (s.put F.CLK_OUT_DIV (ratio / 65536) d k).put F.CLK_OUTF_FRAC ratio d k
  ((s.put F.RG_CFG_RUN 0 d r).put F.RG_STAT_DONE 1 d r).modRamp d r fun _ => RampRun.reset

/-- A segment whose dwell has ended (R493). -/
def State.rampSegment (s : State) (d r : Nat) : State :=
  let R := s.ramp d r
  let p := s.get F.RG_STAT_CUR d r
  if !s.bit F.RG_CFG_RUN d r || decide (R.n < s.rampDwell d r p) then s
  else if R.ending then (s.put F.RG_STAT_CUR 0 d r).rampDone d r (s.get F.RG_PT_RATIO d r 0)
  else
    let v := s.get F.RG_PT_RATIO d r p
    if p < s.get F.RG_CFG_LAST d r then (s.put F.RG_STAT_CUR (p + 1) d r).modRamp d r fun _ => ⟨v, 0, v, false⟩
    else if s.bit F.RG_CFG_MODE d r then (s.put F.RG_STAT_CUR 0 d r).modRamp d r fun _ => ⟨v, 0, v, false⟩
    else s.rampDone d r v

/-- RAMP_SEGMENT_END (R493). A segment's dwell ends and the generator moves to the next point, loops or finishes. -/
def execRampSegmentEnd (d : Nat) (r : Nat) (s : State) : Host.Outcome State Fault Refusal :=
  guarded (decide (d < s.dies) && decide (r < 2)) s <|
    s.rampSegment d r


/-- One tick of a running generator (R493). -/
def State.rampTick (s : State) (d r : Nat) : State :=
  if !s.bit F.RG_CFG_RUN d r then s
  else
    let s := s.rampSegment d r
    let p := s.get F.RG_STAT_CUR d r
    let w := s.rampDwell d r p
    let v := s.get F.RG_PT_RATIO d r p
    if !s.bit F.RG_CFG_RUN d r then s
    else s.modRamp d r fun R =>
      { R with n := R.n + 1, ratio := ((R.prev : Int) + (((v : Int) - R.prev) * (R.n + 1)).tdiv w).toNat }

/-! ### Operating points -/

/-- A write of CLU_OP (R495, R496), with its result in OP_RES. -/
def State.opWrite (s : State) (d c vsel fsel : Nat) : State × Status :=
  let v := s.get F.CLU_OP_VSEL d c
  let f := s.get F.CLU_OP_FSEL d c
  let ok := !(decide (vsel ≠ v) && decide (fsel ≠ f)) &&
    (decide (fsel ≤ f) || (decide (fsel ≤ v) && decide (fsel ≤ s.get F.CLU_OP_VNOW d c))) &&
    (decide (v ≤ vsel) || decide (f ≤ vsel))
  if ok then
    let s := (s.put F.CLU_OP_OP_RES Status.ok.code d c).put F.CLU_OP_FSEL fsel d c
    (if vsel = v then s else (s.put F.CLU_OP_VSEL vsel d c).put F.CLU_OP_VOK 0 d c, .ok)
  else (s.put F.CLU_OP_OP_RES Status.refused.code d c, .refused)


/-- RAIL_LEVEL_MET (R495). A slewing cluster rail comes within 5 mV of an operating-point voltage and CLU_OP.VNOW
changes, which decides whether an FSEL raise is accepted. -/
def execRailLevelMet (d : Nat) (c : Nat) (level : BitVec 2) (s : State) : Host.Outcome State Fault Refusal :=
  guarded (decide (d < s.dies) && decide (c < 8)) s <|
    let now := s.get F.CLU_OP_VNOW d c
    let v := s.get F.CLU_OP_VSEL d c
    if (now < v ∧ level.toNat = now + 1) ∨ (v < now ∧ level.toNat + 1 = now) then s.put F.CLU_OP_VNOW level.toNat d c else s


/-- RAIL_SETTLED (R495). The cluster rail within 5 mV of VSEL for 2 µs sets VOK. -/
def execRailSettled (d : Nat) (c : Nat) (s : State) : Host.Outcome State Fault Refusal :=
  guarded (decide (d < s.dies) && decide (c < 8)) s <|
    if s.get F.CLU_OP_VNOW d c = s.get F.CLU_OP_VSEL d c then s.put F.CLU_OP_VOK 1 d c else s


/-! ### Power domains -/




/-- DOMAIN_WAIT_DONE (R498). A cluster waiting to leave ON begins its transition once every engine is idle, halted or
faulted. -/
def execDomainWaitDone (d : Nat) (dom : Nat) (s : State) : Host.Outcome State Fault Refusal :=
  guarded (decide (d < s.dies) && decide (dom < 13)) s <|
    let D := s.dom d dom
    if D.waiting && s.clusterQuiet d dom then
      let s := (s.put F.PWR_DOM_BUSY 0 d dom).modDom d dom fun _ => { D with waiting := false, heldOn := false }
      let r := s.enter d dom D.target D.force
      let s := r.1.put F.PWR_DOM_RES r.2.code d dom
      if D.heldOn && decide (r.2 = .ok) then s.modDom d dom fun D => { D with heldOn := true } else s
    else s


/-- Slot `k` of a die's flash (R454): the number of its first row. -/
def slotRow (k : Nat) : Nat := k * 32768

/-- The rows of an image slot's body (R543): offset in rows from the body's start, and content; rows of ones are left out. -/
def State.slotBody (s : State) (d k : Nat) : List (Nat × BitVec 256) :=
  let first := d * 131072 + slotRow k + 8
  let n := s.flashWord d (slotRow k * 8 + 3) / 32
  (s.flash.filter fun p => decide (first ≤ p.1) && decide (p.1 < first + n)).map fun p => (p.1 - first, p.2)

/-- An instruction word that nothing has loaded: all ones, as erased flash (log entry 30). -/
def noWord : BitVec 32 := BitVec.allOnes 32

/-- The instruction word at address `a` of the program memory of cluster `c` of die `d` (R17, R87). -/
def State.programWord (s : State) (d c : Nat) (a : BitVec 15) : BitVec 32 :=
  Store.get s.program noWord ((d * 8 + c) * 32768 + a.toNat)

/-- The words of a slot's body, with their places among the 8 × 32,768 words of the die's program memories. The inner layout of
a body is open (log entry 30); a place beyond them is no program memory. -/
def State.bodyWords (s : State) (d k : Nat) : List (Nat × BitVec 32) :=
  (s.slotBody d k).flatMap fun p => (List.range 8).map fun j =>
    (Config.programPlace (p.1 * 8 + j), BitVec.ofNat 32 (p.2.toNat / 2 ^ (32 * j)))

/-- The program memory of cluster `c` of die `d` loaded from slot `k` (R497, R546): the words of the body whose places it has. -/
def State.loadProgram (s : State) (d c k : Nat) : State :=
  let old := s.program.filter fun p => !decide (p.1 / 32768 = d * 8 + c)
  let take := fun (m : Store (BitVec 32)) (w : Nat × BitVec 32) =>
    if w.1 / 32768 = c then Store.set m noWord (d * 262144 + w.1) w.2 else m
  { s with program := (s.bodyWords d k).foldl take old }

/-- What the return of domain `k` of die `d` from OFF brings (R171, R497). -/
def State.regainDomain (s : State) (d k : Nat) : State :=
  if k < 8 then
    (clusterEngines d k).foldl (fun s pe => s.engineReset pe) (s.loadProgram d k (s.get F.PKG_BOOT_SLOT))
  else if k = domANA then
    forEach (List.range 8) (fun s n => (s.put F.ADC_STAT_CAL_PENDING 1 d n).modAdc d n fun A => { A with churnLeft := 11 }) s
  else s

/-- A transition ends (R497, R498, R502): BUSY clears, PWR_DONE is raised, and a held ON request is applied. -/
def State.transitionDone (s : State) (d k : Nat) : State :=
  let D := s.dom d k
  if !s.bit F.PWR_DOM_BUSY d k || !D.moving || D.waiting then s
  else
    let fromOff := decide (D.target = 0) && decide (s.get F.PWR_DOM_STATE d k = 2)
    let s := ((s.put F.PWR_DOM_STATE D.target d k).put F.PWR_DOM_BUSY 0 d k).modDom d k fun _ =>
      { DomRun.reset with force := D.force && decide (D.target ≠ 0) }
    let s := if fromOff then s.regainDomain d k else s
    let s := if k = domLEG then s.driveLegs d (List.range 24) else if k = domFLASH then s.flashNext d
      else if k = domANA then s.adcsRestart d else s
    let s := s.irqEdge d 217
    if D.heldOn then (s.requestDomain d k 0 false).1 else s

/-- DOMAIN_TRANSITION_DONE (R502). A domain transition completes, clears BUSY and raises PWR_DONE. -/
def execDomainTransitionDone (d : Nat) (dom : Nat) (s : State) : Host.Outcome State Fault Refusal :=
  guarded (decide (d < s.dies) && decide (dom < 13)) s <|
    s.transitionDone d dom


end Sys2Proof.Machine
end

