-- ==== Sys2Proof/Machine/Points.lean ====
section
/-!
DEFINITION. What the host's point and queue windows serve (R141, R142, R155) and the configuration of queues (R145, R146).
-/
namespace Sys2Proof.Machine

/-- The answer to a transfer: its status and the words of its data. -/
def State.reply (s : State) (st : Status) (ws : List Nat) : State :=
  { s with answer := ws.map (BitVec.ofNat 32), answerSt := st }

/-- The status of a transfer made of parts: REFUSED where one is refused (R142, R564), else NOT_READY where one is. -/
def joinStatus (xs : List Status) : Status :=
  if xs.contains .refused then .refused else if xs.contains .notReady then .notReady else .ok

/-! ### The point window -/

/-- A read of `n` points from `p` on (R140 to R142): the words of a part that is not accepted read zero. -/
def State.readPoints (s : State) (p n : Nat) : Status × List Nat :=
  if !s.ready then (.notReady, List.replicate n 0)
  else
    let ps := (List.range n).map fun k => p + k
    (joinStatus (ps.map s.pointStatus), ps.map fun x => if s.pointStatus x = .ok then (s.point x).toNat else 0)

/-- A write of points from `p` on (R139 to R142): the parts that are accepted take effect. -/
def State.writePoints (s : State) (q : Requester) (p : Nat) (vs : List Word) : State × Status :=
  if !s.ready then (s, .notReady)
  else
    let ks := List.range vs.length
    (forEach ks (fun s k => if s.pointStatus (p + k) = .ok then s.writePoint (p + k) (vs.getD k 0) q none else s) s,
     joinStatus (ks.map fun k => s.pointStatus (p + k)))

/-! ### The queue window -/

/-- A push through the queue window or a chain Q_PUSH (R155, R526): it never blocks. -/
def State.windowPush (s : State) (q : Requester) (id : Nat) (type : BitVec 7) (v : Payload) : State × Status :=
  if !s.ready then (s, .notReady)
  else
    let p := match q with | .chain u => Pusher.chain u | .host | .debug | .engine _ | .unit => Pusher.host
    s.queuePush id p ⟨mkHdr p type, v⟩ true

/-- The words of a popped entry (R155). -/
def entryWords (e : QEntry) : List Nat :=
  [e.payload.w0.toNat + e.hdr.toNat / 256 * 2 ^ 24, e.payload.w1.toNat + e.hdr.toNat % 256 * 2 ^ 24, e.payload.w2.toNat,
   e.payload.w3.toNat]

/-- A pop through the queue window (R155). -/
def State.windowPop (s : State) (id : Nat) : State × Status × List Nat :=
  if !s.ready then (s, .notReady, [0, 0, 0, 0])
  else
    let r := s.queuePop id .host
    (r.1, r.2.1, match r.2.2 with | some e => entryWords e | none => [0, 0, 0, 0])

/-! ### Configuring queues -/

/-- The enabled queues of die `d`. -/
def State.enabledQueues (s : State) (d : Nat) : List Nat :=
  s.cells.filterMap fun p =>
    let q := (p.1 - F.Q_CFG_EN.key d 0 0) / 128
    if p.1 = F.Q_CFG_EN.key d q 0 ∧ q < 8192 ∧ p.2 ≠ 0 then some q else none

/-- The checks of an enable, in order (R145). -/
def State.enableStatus (s : State) (d q : Nat) : Status :=
  let n := s.get F.Q_SIZE_DEPTH d q
  let b := s.get F.Q_BASE_BASE d q
  if 4096 < n ∨ n < s.get F.Q_SIZE_WMARK d q ∨ 16384 < b + n then .refused
  else if (s.enabledQueues d).any (fun k =>
      let bk := s.get F.Q_BASE_BASE d k
      decide (max b bk < min (b + n) (bk + s.get F.Q_SIZE_DEPTH d k))) then .refused
  else if s.get F.Q_CFG_KIND d q = 4 ∧ (d ≠ 0 ∨ s.recQueue.isSome = true) then .refused
  else if 16384 < s.get F.Q_BUDGET_USED d + n then .full
  else .ok

/-- An enable of queue `q` of die `d` for requester index `i` (R145): its result in Q_RES; an enabled queue is BUSY first. -/
def State.queueEnable (s : State) (d q i : Nat) : State × Status :=
  let st := s.enableStatus d q
  let s := s.put F.Q_RES_RES st.code d i
  if st = .ok then
    let s := ((s.put F.Q_CFG_EN 1 d q).put F.Q_STAT_BUSY 1 d q).put F.Q_BUDGET_USED (s.get F.Q_BUDGET_USED d + s.get F.Q_SIZE_DEPTH d q) d
    let s := { s with queues := Store.set s.queues [] (d * 8192 + q) [] }
    (if s.get F.Q_CFG_KIND d q = 4 then { s with recQueue := some q } else s, .ok)
  else (s, st)


/-- QUEUE_ENABLE_DONE (R145). The enable completes after at most DEPTH + 16 store cycles and BUSY clears. -/
def execQueueEnableDone (id : BitVec 16) (s : State) : Host.Outcome State Fault Refusal :=
  guarded true s <|
    if id.toNat / 8192 < s.dies then s.put F.Q_STAT_BUSY 0 (id.toNat / 8192) (id.toNat % 8192) else s


/-- The entries that a queue holds: those of REC_INTAKE lie in the recorder. -/
def State.queueCount (s : State) (d q : Nat) : Nat :=
  if d = 0 ∧ s.recQueue = some q then s.intakeCount else (s.entries (d * 8192 + q)).length

/-- A disable of queue `q` of die `d` (R146), with its result in Q_RES. -/
def State.queueDisable (s : State) (d q i : Nat) : State × Status :=
  if s.queueCount d q ≠ 0 then (s.put F.Q_RES_RES Status.refused.code d i, .refused)
  else
    let s := (s.put F.Q_RES_RES Status.ok.code d i).put F.Q_BUDGET_USED (s.get F.Q_BUDGET_USED d - s.get F.Q_SIZE_DEPTH d q) d
    let s := (s.put F.Q_CFG_EN 0 d q).put F.Q_STAT_BUSY 0 d q
    let s := if d = 0 ∧ s.recQueue = some q then { s with recQueue := none } else s
    (s.notifyWaiters (d * 8192 + q), .ok)


/-- A flush of queue `q` of die `d` (R146): its entries are discarded and counted. -/
def State.flushQueue (s : State) (d q : Nat) : State :=
  s.discardEntries (d * 8192 + q)


end Sys2Proof.Machine
end

