-- ==== Sys2Proof/Machine/Angle.lean ====
section
/-!
DEFINITION. Angle bases and angle events (chapter 2): the movement of each type of base (R45 to R59), the evaluation of slots
and their actions (R61 to R65), one tick of a die, the base commands, mains trackers (R54 to R56), pulses and position ports
(R57, R58, R242, R243).
-/
namespace Sys2Proof.Machine

/-! ### Movement -/

/-- An integer reduced to [−2³¹, 2³¹) (R47). -/
def wrap32 (x : Int) : Int := (BitVec.ofInt 32 x).toInt

/-- The limit of an applied increment (R46). -/
def clampStep (x : Int) : Int := min (max x (-(2 ^ 30))) (2 ^ 30)

/-- The movement of a base on one tick: increment, jump, whether the increment was limited, the part of the remaining
correction that is used up, the residue of a fractional carrier or of an interpolation, and whether a re-load set the angle. -/
structure Move where
  step : Int
  jump : Int
  clamped : Bool
  used : Int
  residue : Nat
  reload : Bool
deriving DecidableEq, Repr

/-- No movement. -/
def Move.none : Move := ⟨0, 0, false, 0, 0, false⟩

/-- The part of a remaining correction that one tick applies beside increment `inc` (R52). -/
def slewPart (inc rem : Int) (shift : Nat) : Int :=
  let fwd := decide (0 ≤ inc)
  let against := if fwd then decide (rem < 0) else decide (0 < rem)
  let m := min rem.natAbs (max 1 (inc.natAbs / 2 ^ shift))
  let m := if against then min m inc.natAbs else m
  if rem < 0 then -(m : Int) else (m : Int)

/-- The movement of a base that runs at `inc` with a slewed correction (R52, R55). Where the two together would pass the limit
of R46, the part beyond it stays in the remaining correction and INC_CLAMP is not set: the written increment is within
the limit (DESIGN CHOICE, log entry 51). -/
def slewMove (inc rem : Int) (shift : Nat) : Move :=
  let i := clampStep inc
  let step := clampStep (i + slewPart i rem shift)
  { Move.none with step := step, clamped := decide (i ≠ inc), used := step - i }

/-- The movement of a SHAFT base (R52, R53): a STEP correction is one jump, unless it lies against the direction of travel and
ALLOW_BACK is 0. The flag says that it was slewed instead. -/
def State.shaftMove (s : State) (d b : Nat) (inc rem : Int) : Move × Bool :=
  let against := if 0 ≤ inc then decide (rem < 0) else decide (0 < rem)
  let shift := s.get F.AB_CFG_CORR_SHIFT d b
  if s.bit F.AB_CFG_CMODE d b ∧ rem ≠ 0 then
    if against && !s.bit F.AB_CFG_ALLOW_BACK d b then (slewMove inc rem shift, true)
    else ({ Move.none with step := clampStep inc, clamped := decide (clampStep inc ≠ inc), jump := rem, used := rem }, false)
  else (slewMove inc rem shift, false)

/-- The increment of a pulse base, applied at the limit of R46. -/
def limited (x : Int) : Move := { Move.none with step := clampStep x, clamped := decide (clampStep x ≠ x) }

/-- The distance that interpolation has covered `n` ticks after the last pulse (R58): at the rate `last` per `gap` ticks, and
never past the next expected pulse at distance `next`. -/
def State.interpolated (s : State) (next last : Int) (gap n : Nat) : Nat × State :=
  let r := s.freeRound ((last.natAbs : Int) * n) gap
  (min next.natAbs r.1.toNat, r.2)

/-- The movement of a PULSE base (R57, R58) on a tick: pulses as increment, or as a snap behind an interpolation that runs the
same way; between pulses the interpolation; a Z edge or a Hall state as a jump. A Z edge is no pulse: it leaves the distance
interpolated so far as it is, so that the next pulse is expected where it was, measured from 0 (DESIGN CHOICE, log entry 51). The
pulses of a tick are limited as an increment is (R46); what a turn-round moves back beyond the limit follows as a jump. -/
def State.pulseMove (s : State) (d b : Nat) : Move × State :=
  let B := s.base d b
  let a0 := s.get F.AB_ANGLE_ANGLE d b
  if !s.bit F.AB_CFG_INTERP d b then
    let m := limited B.pulseIn
    (match B.snapTo with
     | some v => { m with jump := wrap32 ((v.toNat : Int) - (a0 + m.step)) }
     | none => m, s)
  else
    let sgn := if B.pulseNext < 0 then (-1 : Int) else 1
    let p := limited B.pulseIn
    let same := decide (B.pulseIn ≠ 0) && decide (B.pulseLast ≠ 0) && decide (0 ≤ B.pulseIn * B.pulseLast)
    match B.snapTo with
    | some v =>
      let m := p
      let zOnly := decide (B.pulseIn = 0) && decide (s.get F.AB_CFG_PMODE d b = 0)
      ({ m with jump := wrap32 ((v.toNat : Int) - (a0 + m.step)), residue := if zOnly then B.residue else 0 }, s)
    | none =>
      if same then ({ p with step := 0, jump := p.step - sgn * B.residue }, s)
      else if B.pulseIn ≠ 0 then
        let x := p.step - sgn * B.residue
        let m := limited x
        ({ m with jump := x - m.step, clamped := p.clamped || m.clamped }, s)
      else if B.pulseGap = 0 ∨ B.pulseLast * B.pulseNext ≤ 0 then ({ Move.none with residue := B.residue }, s)
      else
        let r := s.interpolated B.pulseNext B.pulseLast B.pulseGap (B.pulseAge + 1)
        let n := max r.1 B.residue
        let m := limited (sgn * ((n : Int) - B.residue))
        ({ m with residue := B.residue + m.step.natAbs }, r.2)

/-- What a PULSE base remembers of a tick's pulses (R58): the distance and time of the last interval, and the next expected
pulse. The time is counted in tick edges of the base, so a load of the die's count (R43, R67) does not touch it. A Hall state is a
pulse; a Z edge is none, and ends no interval. The distance of a pulse is limited as an increment is (R46). -/
def pulseNote (B : Base) (hall : Bool) : Base :=
  if B.pulseIn = 0 ∧ (B.snapTo.isNone ∨ !hall) then { B with snapTo := none, pulseAge := B.pulseAge + 1 }
  else
    let size := (clampStep B.stepReg.toInt).natAbs
    let dist : Int := if hall then B.pulseLast else if B.pulseIn < 0 then -size else size
    let turned := !hall && decide (dist * B.pulseLast ≤ 0)
    { B with
      pulseLast := dist, pulseNext := if hall then B.pulseNext else dist,
      pulseGap := if turned then 0 else B.pulseAge + 1, pulseAge := 0, pulseIn := 0, snapTo := none }

/-- Whether angle `v` is crossed by the increment part and by the jump part of a movement, as a slot of direction `dir` tests
them (R61, R62): every span is half-open, its start excluded. -/
def Move.crosses (dir : Nat) (fwd : Bool) (a0 : BitVec 32) (step jump : Int) (v : BitVec 32) : Bool × Bool :=
  let a1 := a0 + BitVec.ofInt 32 step
  let hit := fun (up : Bool) (x : BitVec 32) (m : Nat) =>
    let δ := if up then (v - x).toNat else (x - v).toNat
    decide (1 ≤ δ) && decide (δ ≤ m)
  let fd := decide (dir = 0 ∨ dir = 2)
  let rd := decide (dir = 1 ∨ dir = 2)
  let inc := (decide (0 < step) && fd && hit true a0 step.natAbs) || (decide (step < 0) && rd && hit false a0 step.natAbs)
  let jmp := decide (jump ≠ 0) && decide ((0 < jump) = fwd) && (if fwd then fd else rd) && hit fwd a1 jump.natAbs
  (inc, jmp)

/-- The direction of travel of a base (R45, R61): the sign of INC, of the applied increment where the spec's INC reads it. -/
def State.travelFwd (s : State) (d b : Nat) : Bool := decide (0 ≤ s.getI F.AB_INC_INC d b)

/-- How slot `k` meets the latest movement of its base (R61): fires, is skipped, or neither. -/
def State.slotMeets (s : State) (d k : Nat) : Bool × Bool :=
  let b := s.get F.AEV_CFG_BASE d k
  let B := s.base d b
  if !s.bit F.AEV_CFG_ARMED d k || !B.moved then (false, false)
  else
    let c := Move.crosses (s.get F.AEV_CFG_DIR d k) (s.travelFwd d b) B.a0 B.step B.jump (BitVec.ofNat 32 (s.get F.AEV_ANGLE_ANGLE d k))
    let pass := s.bit F.AEV_CFG_PASS_ON_JUMP d k
    (c.1 || (c.2 && pass), c.2 && !pass && !c.1)

/-- The PHASE in force after this tick's load-all (R59): the shadow value where the herd that owns base `b` is in `loads`,
the herds whose load-all falls on the tick. -/
def State.phaseAfter (s : State) (d b : Nat) (loads : List Nat) : Nat :=
  match s.abHerd d b with
  | some h => if loads.contains h then s.getSh F.AB_PHASE_PHASE d b else s.get F.AB_PHASE_PHASE d b
  | none => s.get F.AB_PHASE_PHASE d b

/-- The movement of a CARRIER base from that of its parent (R59). -/
def State.carrierMove (s : State) (d b : Nat) (loads : List Nat) : Move × State :=
  let p := s.get F.AB_CFG_PARENT d b
  let P := s.base d p
  let B := s.base d b
  let a0 : Int := s.get F.AB_ANGLE_ANGLE d b
  let mult := s.get F.AB_MULT_MULT d b
  if mult = 0 then ({ Move.none with jump := B.jumpIn }, s)
  else if mult % 65536 = 0 then
    let m : Int := mult / 65536
    let a2 : Int := (s.get F.AB_ANGLE_ANGLE d p : Int) * m + s.get F.AB_PHASE_PHASE d b
    let step := clampStep (m * P.step)
    ({ Move.none with step := step, jump := wrap32 (a2 - a0 - step), clamped := decide (step ≠ m * P.step) }, s)
  else
    let q := P.step * mult + B.residue
    let x := q / 65536
    let r := (q % 65536).toNat
    let step := clampStep x
    if s.bit F.AB_CFG_SYNC_WRAP d b && P.wrapped then
      ({ Move.none with step := step, jump := wrap32 ((s.phaseAfter d b loads : Int) - a0 - step), clamped := decide (step ≠ x),
                        residue := r, reload := true }, s)
    else
      let j := s.freeRound (P.jump * mult) 65536
      ({ Move.none with step := step, jump := wrap32 (x - step + j.1 + B.jumpIn), clamped := decide (step ≠ x), residue := r }, j.2)

/-- The movement of base `b` by its type, with whether a STEP correction was slewed. -/
def State.moveOf (s : State) (d b : Nat) (loads : List Nat) : Move × Bool × State :=
  let B := s.base d b
  match s.get F.AB_CFG_TYPE d b with
  | 0 =>
    let i := s.getI F.AB_INC_INC d b
    ({ Move.none with step := clampStep i, clamped := decide (clampStep i ≠ i) }, false, s)
  | 1 => (slewMove (s.tracker d (s.get F.AB_CFG_SRC d b % 2)).lockedInc B.rem (s.get F.AB_CFG_CORR_SHIFT d b), false, s)
  | 2 => let r := s.shaftMove d b (s.getI F.AB_INC_INC d b) B.rem; (r.1, r.2, s)
  | 3 => let r := s.pulseMove d b; (r.1, false, r.2)
  | _ => let r := s.carrierMove d b loads; (r.1, false, r.2)

/-- Wraps of the turn count by a move of `m` from angle `a`: +1 forward through 0, −1 backward (R49). -/
def wrapOf (a : Nat) (m : Int) : Int := ((a : Int) + m) / 2 ^ 32

/-- The movement applied to base `b` (R45 to R49): angle, turns and status; a written angle overrides every jump (R48). Wraps
by the increment and by the jump of one tick are added before the turn count saturates (DESIGN CHOICE, log entry 51). -/
def State.applyMove (s : State) (d b t : Nat) (m : Move) (back : Bool) : State :=
  let B := s.base d b
  let a0 := s.get F.AB_ANGLE_ANGLE d b
  let a1 := (BitVec.ofInt 32 ((a0 : Int) + m.step)).toNat
  let jump := match B.setIn with | some v => wrap32 ((v.toNat : Int) - a1) | none => wrap32 m.jump
  let a2 := (BitVec.ofInt 32 ((a1 : Int) + jump)).toNat
  let w1 := wrapOf a0 m.step
  let w2 := wrapOf a1 jump
  let turn := min (max (s.getI F.AB_TURN_TURN d b + w1 + w2) (-32768)) 32767
  let ty := s.get F.AB_CFG_TYPE d b
  let wrapped := decide (0 < w1) || decide (0 < w2)
  let s := (s.put F.AB_ANGLE_ANGLE a2 d b).putI F.AB_TURN_TURN turn d b
  let s := if ty = 1 ∨ 3 ≤ ty then s.putI F.AB_INC_INC m.step d b else s
  let s := if jump ≠ 0 then s.put F.AB_STAT_JUMP 1 d b else s
  let s := if m.clamped then s.put F.AB_STAT_INC_CLAMP 1 d b else s
  let s := if back then s.put F.AB_STAT_BACK_SLEWED 1 d b else s
  let s := s.modBase d b fun B =>
    let B := if ty = 3 then pulseNote B (decide (s.get F.AB_CFG_PMODE d b = 2)) else B
    { B with
      a0 := BitVec.ofNat 32 a0, step := m.step, jump := jump, wrapped := wrapped, moved := true,
      rem := B.rem - m.used, jumpIn := 0, setIn := none, residue := m.residue,
      reloaded := m.reload && B.setIn.isNone,
      periodReached := B.periodReached || (wrapped && match B.period with | some p => decide (p.2 ≤ t) | none => false) }
  let s := if ty = 1 ∨ ty = 2 then s.putB F.AB_STAT_CORR_BUSY (decide ((s.base d b).rem ≠ 0)) d b else s
  if ty = 1 then s.put F.AB_STAT_HOLD (s.get F.MT_STAT_HOLD d (s.get F.AB_CFG_SRC d b % 2)) d b
  else if ty = 3 then
    let B := s.base d b
    s.putB F.AB_STAT_HOLD (s.bit F.AB_CFG_INTERP d b && decide (B.residue ≠ 0) && decide (B.residue = B.pulseNext.natAbs)) d b
  else s

/-- One tick of base `b` (R45, R50): a base that waits for its whistle start begins at that tick. -/
def State.baseTick (s : State) (d t : Nat) (loads : List Nat) (b : Nat) : State :=
  let s : State := match (s.base d b).startAt with
    | some u => if u ≤ t then s.modBase d b fun B => { B with moving := true, waitStart := false, startAt := none } else s
    | none => s
  if (s.base d b).moving then
    let r := s.moveOf d b loads
    r.2.2.applyMove d b t r.1 r.2.1
  else s.modBase d b fun B => { B with moved := false, step := 0, jump := 0, wrapped := false }

/-- The number of CARRIER parents above a base (R59). -/
def State.chainDepth (s : State) (d : Nat) : Nat → Nat → Nat
  | 0, _ => 0
  | fuel + 1, b => if s.get F.AB_CFG_TYPE d b = 4 then 1 + s.chainDepth d fuel (s.get F.AB_CFG_PARENT d b) else 0

/-- The bases in chain order (R59): those that are no CARRIER first, then each CARRIER after its parent. -/
def State.baseOrder (s : State) (d : Nat) : List Nat :=
  (List.range 17).flatMap fun k => (List.range 16).filter fun b => decide (s.chainDepth d 16 b = k)

/-! ### Angle events -/

/-- The entry that a QMSG action pushes (R65). -/
def State.qmsgEntry (s : State) (d k : Nat) : QEntry :=
  let t := s.tick d
  ⟨mkHdr .qmsg 0, ⟨BitVec.ofNat 24 k, BitVec.ofNat 24 t, BitVec.ofNat 24 (t / 2 ^ 24),
    BitVec.ofInt 24 (s.getI F.AB_TURN_TURN d (s.get F.AEV_CFG_BASE d k))⟩⟩

/-- A QMSG action (R65): a non-blocking push; a queue on another die answers over the ring. -/
def State.qmsg (s : State) (d k : Nat) : State :=
  let id := s.get F.AEV_ARG_ARG d k % 65536
  let e := s.qmsgEntry d k
  if id / 8192 = d then
    let r := s.queuePush id .qmsg e true
    if r.2 = .full then r.1.put F.AEV_CFG_MISS 1 d k else r.1
  else if s.dies ≤ id / 8192 then s
  else s.sendXfer d (id / 8192) .unit none (.push (BitVec.ofNat 16 id) e true)

/-- The action of slot `k` (R65). -/
def State.slotAction (s : State) (d k : Nat) : State :=
  let a := s.get F.AEV_ARG_ARG d k
  match s.get F.AEV_CFG_ACTION d k with
  | 1 => s.sampleGroup d (a % 8)
  | 2 => s.loadRest (d * 8 + a % 8) false
  | 3 => s.dispatch (d * 32 + a / 32 % 32) (a % 32) k 0
  | 4 => s.snapshot d (a % 2)
  | 5 => s.mark d (a % 8) (a / 256 % 256)
  | 6 => s.qmsg d k
  | _ => s

/-- Slot `k` fires (R61, R64): counted, a ONCE slot disarms itself unless ARMED was written since the previous tick edge, and
the action is issued. -/
def State.fireSlot (s : State) (d k : Nat) : State :=
  let s := s.incMod F.AEV_CNT_COUNT d k
  (if s.bit F.AEV_CFG_ONCE d k && !s.slotWrites.contains (d * 256 + k) then s.put F.AEV_CFG_ARMED 0 d k else s).slotAction d k

/-- The herd whose load-all, or whose task's dispatch, slot `k` issues (R63): by its action's code. -/
def State.slotHerd (s : State) (d k action : Nat) : Option Nat :=
  let a := s.get F.AEV_ARG_ARG d k
  if s.get F.AEV_CFG_ACTION d k ≠ action then none
  else if action = 2 then some (d * 8 + a % 8) else s.taskHerd (d * 32 + a / 32 % 32) (a % 32)

/-- The order in which the fired slots act (R63): ascending, but the load-alls of a herd before a dispatch of its task. -/
def State.fireOrder (s : State) (d : Nat) : List Nat → List Nat
  | [] => []
  | k :: ks =>
    let h := s.slotHerd d k 3
    ks.filter (fun j => h.isSome && decide (s.slotHerd d j 2 = h)) ++ k :: s.fireOrder d ks

/-- The herds whose load-all a slot of die `d` issues by the latest movements (R61, R65). -/
def State.loadHerds (s : State) (d : Nat) : List Nat :=
  (List.range 256).filterMap fun k => if (s.slotMeets d k).1 then s.slotHerd d k 2 else none

/-- A base that does not move on a tick. -/
def State.baseStill (s : State) (d b : Nat) : State :=
  s.modBase d b fun B => { B with moved := false, step := 0, jump := 0, wrapped := false }

/-- The bases of die `d` moved on tick `t`, those in `still` apart. A CARRIER that re-loads its angle takes the PHASE in force
after this tick's load-all (R59), so where one does, the slots are looked at first. -/
def State.moveBases (s : State) (d t : Nat) (still : List Nat) : State :=
  let once := fun (loads : List Nat) =>
    forEach (s.baseOrder d) (fun s b => if still.contains b then s.baseStill d b else s.baseTick d t loads b) s
  let r := once []
  if (List.range 16).any fun b => (r.base d b).reloaded then once (r.loadHerds d) else r

/-- The slots of die `d` evaluated against the latest movements (R61 to R63). The load-alls among their actions are the work of one
store cycle: their units read the points as they are held before any of them writes (R138), and step once. -/
def State.evalSlots (s : State) (d : Nat) : State :=
  let met := (List.range 256).map fun k => (k, s.slotMeets d k)
  let fired := (met.filter fun p => p.2.1).map (·.1)
  let skipped := (met.filter fun p => p.2.2).map (·.1)
  let s := skipped.foldl (fun s k => s.incSat F.AB_STAT_SKIP_CNT d (s.get F.AEV_CFG_BASE d k)) s
  let order := (s.fireOrder d fired).eraseDups
  let hs := (List.range 8).filterMap fun l => if (s.loadHerds d).contains (d * 8 + l) then some (d * 8 + l) else none
  let s := s.oneCycle fun s => order.foldl (fun s k => s.fireSlot d k) (s.loadUnits d hs)
  { s with slotWrites := s.slotWrites.filter fun x => decide (x / 256 ≠ d) }

/-! ### One tick of a die -/

/-- Boundaries that still wait are handled, then rises that are due by the tick edge, and a NORET that is due. -/
def State.flushLeg (s : State) (d n : Nat) : State :=
  ((s.settleLeg d n).deadTimeEnd d n (s.tick d * 64)).noretAct d n

/-- The movement of leg `n`'s carrier on the tick that ends at edge `t` (R60, R221, R222). -/
def State.legTick (s : State) (d t n : Nat) : State :=
  let B := s.base d (s.get F.LEG_MODE_BASE d n)
  if B.moved then
    s.legSpan d n ⟨B.a0 + BitVec.ofNat 32 (s.get F.LEG_PHASE_PHASE d n), 0, B.step, B.jump, t - 1, false, s.travelFwd d (s.get F.LEG_MODE_BASE d n)⟩
  else s

/-- A measure that did not arrive with an evaluation: every value free (log entry 2). -/
def State.freeMeasure (s : State) (h : Nat) : GridMeasure × State :=
  let f := fun k => Config.freeNat (s.fresh + k)
  let m := fun k => BitVec.ofNat 23 (f k)
  (⟨h, m 0, m 1, m 2, wrap32 (f 3)⟩, { s with fresh := s.fresh + 4 })

/-- The evaluation of the grid monitor of herd `h` (R357): at each crossing of 0 and of 2³¹ by its base angle. -/
def State.gridTick (s : State) (grid : List GridMeasure) (h : Nat) : State :=
  let d := h / 8
  let B := s.base d (s.get F.GRD_CFG_BASE d (h % 8))
  let at_ := fun (v : BitVec 32) => let c := Move.crosses 0 true B.a0 B.step B.jump v; c.1 || c.2
  if s.bit F.GRD_CFG_EN d (h % 8) && B.moved && (at_ 0 || at_ 0x80000000) then
    match grid.find? fun g => decide (g.herd = h) with
    | some g => s.gridEval h g (at_ 0)
    | none => let r := s.freeMeasure h; r.2.gridEval h r.1 (at_ 0)
  else s

/-- The bases of die `d` whose herds take no chain correction now: those of the herds in CH_XHERD under TIME_DISAGREE (R533). -/
def State.localBases (s : State) (d : Nat) : List Nat :=
  if !s.bit F.CHN_STAT_TIME_DIS then []
  else (List.range 16).filter fun b =>
    match s.abHerd d b with
    | some h => if h < 32 then s.getBit F.CHN_XHERD_LO h else s.getBit F.CHN_XHERD_HI (h - 32)
    | none => false

/-- What follows the movement of the bases on the tick that ends at edge `t` (R60, R61): legs, slots and grid monitors. -/
def State.afterMove (s : State) (d t : Nat) (grid : List GridMeasure) : State :=
  let s := forEach (List.range 24) (fun s n => s.legTick d t n) s
  let s := s.evalSlots d
  let s := forEach (List.range 8) (fun s l => s.gridTick grid (d * 8 + l)) s
  forEach (List.range 16) (fun s b => if (s.base d b).reloaded then s.modBase d b fun B => { B with reloaded := false } else s) s

/-- One tick edge of die `d` (R38, R39, R45, R61); the bases in `still` do not move on it. A count that a whistle loads (R43) and count
0 as the die leaves RESET make no reference mark: only a counted edge does (R180; DESIGN CHOICE, log entry 58). -/
def State.tickEdge (s : State) (d : Nat) (grid : List GridMeasure) (still : List Nat) : State :=
  let s := forEach (List.range 24) (fun s n => s.flushLeg d n) s
  let s := forEach (List.range 16) (fun s b => s.periodApply d b) s
  let s := s.modDie d fun D => { D with tick := (D.tick + 1) % 2 ^ 64 }
  let t := s.tick d
  let s := (s.rampTick d 0).rampTick d 1
  let s := (s.moveBases d t still).afterMove d t grid
  if t % 10000 = 0 then s.refMark d else s

/-- A tick that is withheld from the count moves only the bases in `own`, which take no chain correction (R533). -/
def State.withheldEdge (s : State) (d : Nat) (grid : List GridMeasure) (own : List Nat) : State :=
  if own.isEmpty then s
  else
    let s := forEach (List.range 24) (fun s n => s.flushLeg d n) s
    let t := s.tick d
    (s.moveBases d t ((List.range 16).filter fun b => !own.contains b)).afterMove d (t + 1) grid

/-- A tick of the clock at die `d` (R39, R42, R67, R489, R490): none while its PWM clock does not run; a withheld edge moves nothing, an
inserted one moves twice. An edge for chain time falls on the next tick of every die alike (`State.slewEdge`). It leaves the bases of cross-unit herds under TIME_DISAGREE to
their own timing (R533). -/
def State.tickDie (s : State) (d : Nat) (grid : List GridMeasure) : State :=
  let D := s.die d
  if !s.clockOn d 1 then s
  else if D.withhold then s.modDie d fun D => { D with withhold := false }
  else if D.insert then
    ((s.modDie d fun D => { D with insert := false }).tickEdge d grid []).tickEdge d grid []
  else if D.chain < 0 then
    (s.modDie d fun D => { D with chain := D.chain + 1 }).withheldEdge d grid (s.localBases d)
  else if 0 < D.chain then
    ((s.modDie d fun D => { D with chain := D.chain - 1 }).tickEdge d grid (s.localBases d)).tickEdge d grid []
  else s.tickEdge d grid []

/-- ANGLE_BASE_TICK (R61). On each tick edge every running angle base applies its increment and any jump, updates its
turn count and evaluates its armed angle-event slots. -/
def execAngleBaseTick (d : Nat) (grid : List GridMeasure) (s : State) : Host.Outcome State Fault Refusal :=
  guarded (decide (d < s.dies)) s <|
    s.tickDie d grid


/-! ### Commands of bases -/

/-- A write of AB_CFG.RUN (R50). -/
def State.runBase (s : State) (d b : Nat) (run : Bool) : State :=
  if s.bit F.AB_CFG_RUN d b = run then s
  else if run then
    let w := s.bit F.AB_CFG_WSTART d b
    (s.put F.AB_CFG_RUN 1 d b).modBase d b fun B =>
      { B with moving := !w, waitStart := w, startAt := none, jumpIn := 0, setIn := none, snapTo := none, pulseIn := 0,
               pulseAge := 0, pulseLast := 0, pulseGap := 0, pulseNext := 0, residue := 0 }
  else
    (s.put F.AB_CFG_RUN 0 d b).modBase d b fun B =>
      { B with moving := false, waitStart := false, startAt := none, jumpIn := 0, setIn := none, snapTo := none, pulseIn := 0 }


/-- BASE_WHISTLE_START (R50). A base set running with WSTART = 1 applies its first increment on the tick after the
next whistle. -/
def execBaseWhistleStart (d : Nat) (b : Nat) (s : State) : Host.Outcome State Fault Refusal :=
  guarded (decide (d < s.dies) && decide (b < 16)) s <|
    match (s.base d b).startAt with
    | some t => if t ≤ s.tick d + 1 then s.modBase d b fun B => { B with moving := true, waitStart := false, startAt := none } else s
    | none => s


/-- A write of AB_ANGLE (R47, R48, R50, R55): its status. A base that waits for its whistle (RUN and WSTART set) does not run yet:
a write sets its angle at once, without a jump, on a MAINS base too (DESIGN CHOICE, log entry 51). -/
def State.writeAngle (s : State) (q : Requester) (d b : Nat) (v : BitVec 32) : State × Status :=
  if (s.base d b).moving then
    if s.get F.AB_CFG_TYPE d b = 1 then (s.wref q F.AB_ANGLE_ANGLE d b, .refused)
    else (s.modBase d b fun B => { B with setIn := some v }, .ok)
  else
    let s := s.put F.AB_ANGLE_ANGLE v.toNat d b
    (s.reseat d ((List.range 24).filter fun n => decide (s.get F.LEG_MODE_BASE d n = b)), .ok)


/-- A write of AB_CORR (R52, R55): added to the remaining correction of a SHAFT base, with saturation. -/
def State.writeCorr (s : State) (d b : Nat) (v : BitVec 32) : State :=
  if s.get F.AB_CFG_TYPE d b = 2 then
    s.modBase d b fun B => { B with rem := min (max (B.rem + v.toInt) (-(2 ^ 31))) (2 ^ 31 - 1) }
  else s


/-- A write of AB_INC (R45, R51, R57): of NCO and SHAFT bases; before RUN it also sets the step of a PULSE base. -/
def State.writeInc (s : State) (d b : Nat) (v : BitVec 32) : State :=
  let ty := s.get F.AB_CFG_TYPE d b
  if !s.bit F.AB_CFG_RUN d b && !decide (ty = 1) && !decide (ty = 4) then
    (s.put F.AB_INC_INC v.toNat d b).modBase d b fun B => { B with stepReg := v }
  else if ty = 0 ∨ ty = 2 then s.put F.AB_INC_INC v.toNat d b
  else s

/-! ### Mains trackers -/

/-- The increment of a frequency in 8.16 Hz, rounded to the base resolution (R55). -/
def incOfFreq (f : Nat) : Int := ((f * 65536 + 50000000) / 100000000 : Nat)

/-- The running MAINS bases that follow tracker `m` of die `d` (R54). -/
def State.mainsBases (s : State) (d m : Nat) : List Nat :=
  (List.range 16).filter fun b => decide (s.get F.AB_CFG_TYPE d b = 1) && decide (s.get F.AB_CFG_SRC d b % 2 = m)

/-- LOCK cleared and HOLD set on tracker `m`: where HOLD rises, the grid monitors on it enter holdover (R364). -/
def State.holdOn (s : State) (d m : Nat) : State :=
  let held := s.bit F.MT_STAT_HOLD d m
  let s := (s.put F.MT_STAT_LOCK 0 d m).put F.MT_STAT_HOLD 1 d m
  if held then s else s.gridHoldover d m

/-- Holdover begins on tracker `m` (R56, R364): its bases run on at the last locked increment. -/
def State.holdover (s : State) (d m : Nat) : State :=
  forEach (s.mainsBases d m) (fun s b => s.modBase d b fun B => { B with rem := 0 }) (s.holdOn d m)

/-- A tracker is enabled (R56): no history, at its nominal frequency in holdover. -/
def State.trackerEnable (s : State) (d m : Nat) : State :=
  if s.bit F.MT_CFG_EN d m then s
  else
    let f := if s.bit F.MT_CFG_NOM d m then 60 * 65536 else 50 * 65536
    let s := (((s.put F.MT_CFG_EN 1 d m).put F.MT_FREQ_FREQ f d m).holdover d m)
    s.modTracker d m fun T => ⟨0, incOfFreq f, T.holdAt⟩


/-- Lock is declared where it is due (R56). -/
def State.mainsLock (s : State) (d m : Nat) : State :=
  if s.bit F.MT_CFG_EN d m && !s.bit F.MT_STAT_LOCK d m &&
      decide (max (s.get F.MT_CFG_LOCK_CYC d m) 1 ≤ (s.tracker d m).goodRun) then
    let f := s.get F.MT_FREQ_FREQ d m
    (((s.put F.MT_STAT_LOCK 1 d m).put F.MT_STAT_HOLD 0 d m).modTracker d m fun T => { T with lockedInc := incOfFreq f }).gridLocked d m
  else s

/-- MAINS_LOCK (R56). Lock is declared after LOCK_CYC consecutive cycles within the lock errors and the base leaves
holdover. -/
def execMainsLock (d : Nat) (m : Nat) (s : State) : Host.Outcome State Fault Refusal :=
  guarded (decide (d < s.dies) && decide (m < 2)) s <|
    s.mainsLock d m


/-- A mains cycle of an enabled tracker (R55, R56). -/
def State.mainsCycle (s : State) (d m : Nat) (x : MainsMeasure) : State :=
  if !s.bit F.MT_CFG_EN d m then s
  else
    let s := s.mainsLock d m
    let s := (s.put F.MT_FREQ_FREQ x.freq d m).put F.MT_AMP_AMP x.amp d m
    let range := decide (x.freq < 40 * 65536) || decide (70 * 65536 < x.freq)
    let s := if range then s.put F.MT_STAT_RANGE 1 d m else s
    let bad := range || decide (2 ^ 32 < x.phaseErr.natAbs * 36) || decide (x.amp < 838861)
    let good := !bad && decide (x.phaseErr.natAbs * 360 < 2 ^ 32) && decide (x.freqErr.natAbs ≤ 3276)
    let s := s.modTracker d m fun T => { T with goodRun := if good then T.goodRun + 1 else 0 }
    if !s.bit F.MT_STAT_LOCK d m then s
    else if bad then (s.incSat F.MT_STAT_LOSS_CNT d m).holdover d m
    else
      let s := s.modTracker d m fun T => { T with lockedInc := incOfFreq x.freq }
      forEach ((s.mainsBases d m).filter fun b => (s.base d b).moving) (fun s b =>
        let a := BitVec.ofNat 32 (s.get F.AB_ANGLE_ANGLE d b)
        s.modBase d b fun B => { B with rem := (x.angle - a).toInt }) s

/-- MAINS_CYCLE (R56). Each mains cycle the tracker updates frequency, amplitude and phase and judges lock conditions.
-/
def execMainsCycle (d : Nat) (m : Nat) (meas : MainsMeasure) (s : State) : Host.Outcome State Fault Refusal :=
  guarded (decide (d < s.dies) && decide (m < 2)) s <|
    s.mainsCycle d m meas


/-! ### Pulses and position ports -/

/-- The place of the pins {B, A} in a forward quadrature line: A rises first (DESIGN CHOICE, log entry 51). -/
def quadPlace (x : Nat) : Nat := match x % 4 with | 0 => 0 | 1 => 1 | 3 => 2 | _ => 3

/-- A change of the pins of a position port from {C, B, A} = `p` to `x`, for a QUAD or COUNT base (R57): each quadrature edge moves
by ±INC, both pins at once are an error, an edge of Z (pin C), of either direction, sets the angle to 0; in COUNT mode a rising edge of
A moves by +INC (log entry 51). -/
def State.pinBase (s : State) (d p x b : Nat) : State :=
  let add := fun (s : State) (k : Int) => s.modBase d b fun B => { B with pulseIn := B.pulseIn + k * B.stepReg.toInt }
  match s.get F.AB_CFG_PMODE d b with
  | 0 =>
    let s : State := match (quadPlace x + 4 - quadPlace p) % 4 with
      | 1 => add s 1
      | 2 => s.put F.AB_STAT_PULSE_ERR 1 d b
      | 3 => add s (-1)
      | _ => s
    if x / 4 = p / 4 then s else s.modBase d b fun B => { B with snapTo := some 0 }
  | 1 => if x % 2 = 1 ∧ p % 2 = 0 then add s 1 else s
  | _ => s

/-- The moving PULSE bases of die `d` on position port `k` (R57). -/
def State.portBases (s : State) (d k : Nat) : List Nat :=
  (List.range 16).filter fun b =>
    (s.base d b).moving && decide (s.get F.AB_CFG_TYPE d b = 3) && decide (s.get F.AB_CFG_SRC d b % 8 = k)

/-- The table angle of state `x` of port `k` (R243). -/
def State.hallAngle (s : State) (d k x : Nat) : BitVec 32 := BitVec.ofNat 32 (s.get F.POS_TAB_ANGLE d k x * 65536)

/-- The angle of the pulse expected after state `x` when travelling from state `p` (R58): that of the successor, or of the state
whose successor is `x`. -/
def State.hallNext (s : State) (d k p x : Nat) : Option (BitVec 32) :=
  if s.get F.POS_TAB_SUCC d k p = x then some (s.hallAngle d k (s.get F.POS_TAB_SUCC d k x))
  else if s.get F.POS_TAB_SUCC d k x = p then
    ((List.range 8).find? fun y => s.bit F.POS_TAB_VALID d k y && decide (s.get F.POS_TAB_SUCC d k y = x)).map (s.hallAngle d k)
  else none

/-- A HALL base takes the table angle of an accepted valid state as a jump (R57, R243). -/
def State.hallBase (s : State) (d k x : Nat) (prev : Option Nat) (b : Nat) : State :=
  let a := s.hallAngle d k x
  let dist : Int := match prev with | some p => (a - s.hallAngle d k p).toInt | none => 0
  let next : Int := match prev.bind fun p => s.hallNext d k p x with | some v => (v - a).toInt | none => 0
  s.modBase d b fun B => { B with snapTo := some a, pulseLast := dist, pulseNext := next }

/-- A state of position port `k` that has stood for `ns` nanoseconds (R242, R243): it is accepted once it has been stable for
FILT × 80 ns. The PULSE bases on the port follow it (R57). -/
def State.positionState (s : State) (d k x ns : Nat) : State :=
  let was := s.get F.POS_STAT_STATE d k
  if was = x ∨ ns < s.get F.POS_CFG_FILT d k * 80 then s
  else
    let valid := s.bit F.POS_TAB_VALID d k x
    let prev := match Store.get s.posPrev 0 (d * 8 + k) with | 0 => none | p + 1 => some p
    let oos := match prev with
      | some p => valid && decide (s.get F.POS_TAB_SUCC d k p ≠ x) && decide (s.get F.POS_TAB_SUCC d k x ≠ p)
      | none => false
    let s := s.put F.POS_STAT_STATE x d k
    let g := s.get F.POS_CFG_GRP d k
    let s : State := if s.bit F.POS_CFG_EN d k then (s.put F.GRP_MASK_PORT (s.get F.POS_TAB_MASK d k x) d g).driveGroup d g else s
    let s := if valid then s else (s.put F.POS_STAT_INV 1 d k).incSat F.POS_STAT_INV_CNT d k
    let s := if oos then (s.put F.POS_STAT_OOS 1 d k).incSat F.POS_STAT_OOS_CNT d k else s
    let s := if valid then { s with posPrev := Store.set s.posPrev 0 (d * 8 + k) (x + 1) } else s
    forEach (s.portBases d k) (fun s b =>
      if s.get F.AB_CFG_PMODE d b = 2 then
        let s := if !valid || oos then s.put F.AB_STAT_PULSE_ERR 1 d b else s
        if valid then s.hallBase d k x prev b else s
      else s.pinBase d was x b) s

/-- POSITION_STATE_ACCEPT (R243). A position-port state stable for the filter time is accepted, sets the group's port
mask and flags invalid or out-of-sequence states. -/
def execPositionStateAccept (d : Nat) (k : Nat) (state : PortState) (s : State) : Host.Outcome State Fault Refusal :=
  guarded (decide (d < s.dies) && decide (k < 8)) s <|
    s.positionState d k state.state.toNat state.stoodNs


/-- The states that an edge makes of state `p` of a port (R57): an edge of A in COUNT mode where A is already high comes after its fall. -/
def edgeStates (e : PulseEdge) (p : Nat) : List Nat :=
  let line := fun k => p / 4 * 4 + (match (quadPlace p + k) % 4 with | 0 => 0 | 1 => 1 | 2 => 3 | _ => 2)
  match e with
  | .fwd => [line 1]
  | .bad => [line 2]
  | .back => [line 3]
  | .count => [p / 2 * 2, p / 2 * 2 + 1]
  | .z => [(p + 4) % 8]

/-- An edge at position port `k` (R57): the port's state changes by it (R242), and the PULSE bases on the port follow. -/
def State.pulseEdge (s : State) (d k : Nat) (e : PulseEdge) (ns : Nat) : State :=
  (edgeStates e (s.get F.POS_STAT_STATE d k)).foldl (fun s x => s.positionState d k x ns) s

/-- PULSE_EDGE (R57). A quadrature, count or Z edge on a position port advances or resets a PULSE base, snapping an
interpolated angle. -/
def execPulseEdge (d : Nat) (k : Nat) (edge : PortEdge) (s : State) : Host.Outcome State Fault Refusal :=
  guarded (decide (d < s.dies) && decide (k < 8)) s <|
    s.pulseEdge d k edge.edge edge.stoodNs



end Sys2Proof.Machine
end

