-- ==== Sys2Proof/Machine/Digest.lean ====
section
/-!
DEFINITION. The cyclic codes of the ports (R505, R515, R525), and the two named standards of the image checks (R543, R546): SHA-256 (FIPS 180-4) over bytes, and verification of an
ECDSA signature on P-256 (FIPS 186-4). The spec names them and does not restate them (log entry 31).
-/
namespace Sys2Proof.Machine

/-! ### Cyclic codes -/

/-- One bit taken into a remainder of `w` bits for polynomial `poly`, highest power first. -/
def crcBit (w poly c : Nat) (bit : Bool) : Nat :=
  if c.testBit (w - 1) != bit then (c * 2 % 2 ^ w) ^^^ poly else c * 2 % 2 ^ w

/-- One byte taken in, highest bit first. -/
def crcOver (w poly c b : Nat) : Nat := (List.range 8).foldl (fun c k => crcBit w poly c (b.testBit (7 - k))) c

/-- The CRC-16 of a host transfer (R505). -/
def crc16 (bytes : List Nat) : Nat := bytes.foldl (crcOver 16 0x1021) 0xFFFF

/-- The PEC of PMBus: the CRC-8 of SMBus, x⁸ + x² + x + 1 from 0 (PRESUMED, log entry 60). -/
def crc8 (bytes : List Nat) : Nat := bytes.foldl (crcOver 8 0x07) 0

/-- The `n` bytes of a number, most significant first. -/
def bytesBE (n v : Nat) : List Nat := (List.range n).map fun k => v / 256 ^ (n - 1 - k) % 256

/-! ### SHA-256 -/

/-- The round constants of SHA-256. -/
def shaK : List Nat :=
  [0x428A2F98, 0x71374491, 0xB5C0FBCF, 0xE9B5DBA5, 0x3956C25B, 0x59F111F1, 0x923F82A4, 0xAB1C5ED5] ++
  [0xD807AA98, 0x12835B01, 0x243185BE, 0x550C7DC3, 0x72BE5D74, 0x80DEB1FE, 0x9BDC06A7, 0xC19BF174] ++
  [0xE49B69C1, 0xEFBE4786, 0x0FC19DC6, 0x240CA1CC, 0x2DE92C6F, 0x4A7484AA, 0x5CB0A9DC, 0x76F988DA] ++
  [0x983E5152, 0xA831C66D, 0xB00327C8, 0xBF597FC7, 0xC6E00BF3, 0xD5A79147, 0x06CA6351, 0x14292967] ++
  [0x27B70A85, 0x2E1B2138, 0x4D2C6DFC, 0x53380D13, 0x650A7354, 0x766A0ABB, 0x81C2C92E, 0x92722C85] ++
  [0xA2BFE8A1, 0xA81A664B, 0xC24B8B70, 0xC76C51A3, 0xD192E819, 0xD6990624, 0xF40E3585, 0x106AA070] ++
  [0x19A4C116, 0x1E376C08, 0x2748774C, 0x34B0BCB5, 0x391C0CB3, 0x4ED8AA4A, 0x5B9CCA4F, 0x682E6FF3] ++
  [0x748F82EE, 0x78A5636F, 0x84C87814, 0x8CC70208, 0x90BEFFFA, 0xA4506CEB, 0xBEF9A3F7, 0xC67178F2]

/-- The initial hash value of SHA-256. -/
def shaInit : List Nat :=
  [0x6A09E667, 0xBB67AE85, 0x3C6EF372, 0xA54FF53A, 0x510E527F, 0x9B05688C, 0x1F83D9AB, 0x5BE0CD19]

/-- A 32-bit rotation to the right. -/
def rotr (x n : Nat) : Nat := (x >>> n) ||| (x * 2 ^ (32 - n) % 2 ^ 32)

/-- The message schedule from a block of 16 words, newest first. -/
def shaSchedule (block : List Nat) : List Nat :=
  (List.range 48).foldl (fun w _ =>
    let x := w.getD 1 0
    let y := w.getD 14 0
    let s1 := rotr x 17 ^^^ rotr x 19 ^^^ (x >>> 10)
    let s0 := rotr y 7 ^^^ rotr y 18 ^^^ (y >>> 3)
    ((s1 + w.getD 6 0 + s0 + w.getD 15 0) % 2 ^ 32) :: w) block.reverse

/-- One round of the compression, on the working variables a to h. -/
def shaRound (v : List Nat) (kw : Nat × Nat) : List Nat :=
  let g := fun i => v.getD i 0
  let s1 := rotr (g 4) 6 ^^^ rotr (g 4) 11 ^^^ rotr (g 4) 25
  let ch := (g 4 &&& g 5) ^^^ ((0xFFFFFFFF - g 4) &&& g 6)
  let t1 := g 7 + s1 + ch + kw.1 + kw.2
  let s0 := rotr (g 0) 2 ^^^ rotr (g 0) 13 ^^^ rotr (g 0) 22
  let maj := (g 0 &&& g 1) ^^^ (g 0 &&& g 2) ^^^ (g 1 &&& g 2)
  [(t1 + s0 + maj) % 2 ^ 32, g 0, g 1, g 2, (g 3 + t1) % 2 ^ 32, g 4, g 5, g 6]

/-- One block compressed into the hash value. -/
def shaBlock (h block : List Nat) : List Nat :=
  let v := (shaK.zip (shaSchedule block).reverse).foldl shaRound h
  (h.zip v).map fun p => (p.1 + p.2) % 2 ^ 32

/-- Four bytes as a big-endian word each. -/
def beWords : List Nat → List Nat
  | a :: b :: c :: d :: rest => (a * 2 ^ 24 + b * 2 ^ 16 + c * 2 ^ 8 + d) :: beWords rest
  | _ => []

/-- A message padded to whole blocks. -/
def shaPad (bytes : List Nat) : List Nat :=
  let n := bytes.length
  bytes ++ [0x80] ++ List.replicate ((119 - n % 64) % 64) 0 ++ (List.range 8).map fun k => n * 8 / 256 ^ (7 - k) % 256

/-- The blocks of a list of words, compressed in order; `fuel` is their number. -/
def shaBlocks : Nat → List Nat → List Nat → List Nat
  | 0, h, _ => h
  | fuel + 1, h, ws => shaBlocks fuel (shaBlock h (ws.take 16)) (ws.drop 16)

/-- SHA-256 of a list of bytes, as 32 bytes. -/
def sha256 (bytes : List Nat) : List Nat :=
  let p := shaPad bytes
  (shaBlocks (p.length / 64) shaInit (beWords p)).flatMap fun w => [w / 2 ^ 24, w / 2 ^ 16 % 256, w / 2 ^ 8 % 256, w % 256]

/-! ### ECDSA on P-256 -/

/-- A list of bytes as a big-endian number. -/
def beNat (bytes : List Nat) : Nat := bytes.foldl (fun n b => n * 256 + b) 0

/-- The field prime of P-256. -/
def p256P : Nat := 2 ^ 256 - 2 ^ 224 + 2 ^ 192 + 2 ^ 96 - 1
/-- The order of the base point of P-256. -/
def p256N : Nat := 0xFFFFFFFF00000000FFFFFFFFFFFFFFFFBCE6FAADA7179E84F3B9CAC2FC632551
/-- The coefficient b of P-256. -/
def p256B : Nat := 0x5AC635D8AA3A93E7B3EBBD55769886BC651D06B0CC53B0F63BCE3C3E27D2604B
/-- The base point of P-256. -/
def p256G : Nat × Nat :=
  (0x6B17D1F2E12C4247F8BCE6E563A440F277037D812DEB33A0F4A13945D898C296,
   0x4FE342E2FE1A7F9B8EE7EB4A7C0F9E162BCE33576B315ECECBB6406837BF51F5)

/-- A power modulo `m`, over the low 256 bits of the exponent. -/
def powMod (b e m : Nat) : Nat :=
  (List.range 256).foldl (fun r k => let r := r * r % m; if e.testBit (255 - k) then r * b % m else r) 1

/-- The inverse modulo a prime. -/
def invMod (x m : Nat) : Nat := powMod (x % m) (m - 2) m

/-- A point of the curve; `none` is the point at infinity. -/
abbrev CurvePoint := Option (Nat × Nat)

/-- The sum of two points of P-256. -/
def curveAdd (a b : CurvePoint) : CurvePoint :=
  match a, b with
  | none, b => b
  | a, none => a
  | some (x1, y1), some (x2, y2) =>
    if x1 = x2 ∧ (y1 + y2) % p256P = 0 then none
    else
      let l := if x1 = x2 then (3 * x1 * x1 + (p256P - 3)) * invMod (2 * y1) p256P % p256P
               else (y2 + (p256P - y1)) * invMod (x2 + (p256P - x1)) p256P % p256P
      let x := (l * l + (2 * p256P - x1 - x2)) % p256P
      some (x, (l * (x1 + (p256P - x)) + (p256P - y1)) % p256P)

/-- A multiple of a point, over the low 256 bits of the factor. -/
def curveMul (k : Nat) (a : CurvePoint) : CurvePoint :=
  (List.range 256).foldl (fun r i => let r := curveAdd r r; if k.testBit (255 - i) then curveAdd r a else r) none

/-- A point given by its coordinates lies on P-256. -/
def onCurve (x y : Nat) : Bool :=
  decide (x < p256P) && decide (y < p256P) && decide (y * y % p256P = (x * x % p256P * x + (p256P - 3) * x + p256B) % p256P)

/-- The signature (r, s) by the key (x, y) verifies over a digest. -/
def ecdsaVerify (x y r s digest : Nat) : Bool :=
  onCurve x y && decide (0 < r) && decide (r < p256N) && decide (0 < s) && decide (s < p256N) &&
  (let w := invMod s p256N
   match curveAdd (curveMul (digest * w % p256N) (some p256G)) (curveMul (r * w % p256N) (some (x, y))) with
   | some (vx, _) => decide (vx % p256N = r)
   | none => false)

end Sys2Proof.Machine
end

