-- ==== Sys2Proof/Machine/ChainOps.lean ====
section
/-!
DEFINITION. The links of the unit chain (R518 to R520, R525, R528 to R532): frames sent and acknowledged, transactions in
flight and their completion, CHAIN_OUT entries in flight, and chain time (R66, R67, R533).
-/
namespace Sys2Proof.Machine

/-- The chain port changed. -/
def State.modChain (s : State) (f : ChainRun → ChainRun) : State := { s with chain := f s.chain }

/-- The downstream (`true`) or upstream link is up (R518). -/
def State.linkUp (s : State) (down : Bool) : Bool := if down then s.bit F.CHN_STAT_DN_LINK else s.bit F.CHN_STAT_UP_LINK

/-- The unit is strapped as head of its chain (R521, R524). -/
def State.isHead (s : State) : Bool := s.bit F.CHN_STAT_HEAD

/-- A frame leaves through a port whose link is up (R519); a head sends nothing upstream (R524). -/
def State.sendFrame (s : State) (down : Bool) (m : ChainMsg) : State :=
  if !s.linkUp down || (!down && s.isHead) then s
  else
    let now := s.tick 0
    s.modChain fun C =>
      if down then { C with frames := C.frames ++ [⟨down, C.seqDn, 0, now, m⟩], seqDn := (C.seqDn + 1) % 256 }
      else { C with frames := C.frames ++ [⟨down, C.seqUp, 0, now, m⟩], seqUp := (C.seqUp + 1) % 256 }

/-- The receiver of a frame answers ACK or NAK at the port where it arrived (R519). -/
def State.linkAnswer (s : State) (up ack : Bool) : State := s.modChain fun C => { C with linkAns := some (up, ack) }

/-- One more bad frame (R519, R524, R525). -/
def State.badFrame (s : State) : State := s.incSat F.CHN_CNT4_BADFR_CNT

/-- The 64-bit header of a frame (R525). -/
def frameHeader (dst src gen type tag rid len : Nat) : Nat :=
  dst * 2 ^ 58 + src * 2 ^ 52 + gen * 2 ^ 44 + type * 2 ^ 40 + tag * 2 ^ 34 + rid * 2 ^ 18 + len * 2 ^ 9

/-- The header and the payload words of a request or a response (R525). The payloads of the other frames have no layout in the spec. -/
def ChainMsg.parts : ChainMsg → Option (Nat × List Nat)
  | .request dst src gen type tag rid ws => some (frameHeader dst src gen type tag rid (4 * ws.length), ws)
  | .resp dst src gen tag rid st orig data =>
    some (frameHeader dst src gen 8 tag rid (4 * (data.length + 1)), (st + orig * 16) :: data)
  | .time _ | .enum _ _ | .enumAck _ _ _ _ _ | .roster _ | .linkDown _ => none

/-- The bytes of a request or a response on the link (R525): the header from bit 63 down, the payload in little-endian words, and the
CRC-32 over both, least significant byte first. -/
def ChainMsg.bytes (m : ChainMsg) : Option (List Nat) :=
  m.parts.map fun p =>
    let body := bytesBE 8 p.1 ++ p.2.flatMap fun w => (bytesBE 4 w).reverse
    body ++ (bytesBE 4 (crcBytes body)).reverse

/-! ### Transactions -/

/-- An entry of the roster for an address: PRESENT (R521). -/
def State.rosterEntry (s : State) (a : Nat) : Option RosterEntry := s.chain.roster.find? fun e => decide (e.addr.toNat = a)

/-- A CHAIN_OUT entry whose transaction has ended (R532): delivered, to be sent again after a FULL answer, or discarded,
counted and recorded. -/
def State.outDone (s : State) (id : Nat) (st : Status) : State :=
  let rest := s.chain.outs.filter fun o => !decide (o.queue = id)
  if st = .full then
    let t := s.tick 0 + 10000
    s.modChain fun C =>
      { C with outs := C.outs.map fun o => if o.queue = id then { o with resendAt := some t } else o }
  else
    let s := s.modChain fun C => { C with outs := rest }
    if st = .ok then s
    else (s.incSat F.CHN_CNT4_OUTFAIL_CNT).hwRecord 0 0x0B05 none noLeg id st.code 0

/-- A transaction of the host has ended (R530, R536): its status, original status and data. -/
def State.hostDone (s : State) (st orig : Nat) (data : List Nat) : State :=
  let s := (((s.put F.CHN_HRES_RES st).put F.CHN_HRES_ORIG orig).put F.CHN_HRES_BUSY 0).put F.CHN_HRES_DONE 1
  let s := forEach (List.range (min data.length 64)) (fun s k => s.put F.CHN_HBUF (data.getD k 0) 0 k) s
  s.irqEdge 0 221

/-- The status that a code names; a reserved code (R14) is none and is taken as REFUSED. -/
def statusOf (n : Nat) : Status :=
  match n with
  | 0 => .ok | 1 => .full | 2 => .empty | 4 => .aborted | 5 => .timeout | 6 => .linkLost | 7 => .stale
  | 8 => .duplicate | 9 => .badCrc | 10 => .notReady | _ => .refused

/-- A transaction in flight completes and frees its tag (R528). -/
def State.endReq (s : State) (r : ChainReq) (st orig : Nat) (data : List Nat) : State :=
  let s := s.modChain fun C => { C with reqs := C.reqs.filter fun x => !(x.down == r.down && x.tag == r.tag) }
  match r.queue with
  | some id => s.outDone id (statusOf st)
  | none => s.hostDone st orig data

/-- Every transaction in flight that `f` selects completes with LINK_LOST (R520). -/
def State.failReqs (s : State) (f : ChainReq → Bool) : State :=
  (s.chain.reqs.filter f).foldl (fun s r => s.endReq r Status.linkLost.code 0 []) s

/-- A request sent to `dst` (R523, R528): nothing where it now waits for its RESP, else the status that its own port gives at
once: REFUSED for an address that is not PRESENT, LINK_LOST where the link towards it is down, FULL without a free tag. -/
def State.sendReq (s : State) (queue : Option Nat) (dst type rid : Nat) (payload : List Nat) : State × Option Status :=
  let own := s.get F.CHN_STAT_ADDR
  let down := decide (own ≤ dst)
  if (s.rosterEntry dst).isNone then (s, some .refused)
  else if !s.linkUp down then (s, some .linkLost)
  else
    match (List.range 64).find? fun t => !s.chain.reqs.any fun r => r.down == down && r.tag == t with
    | none => (s, some .full)
    | some tag =>
      let gen := s.get F.CHN_STAT_GEN
      let s := s.sendFrame down (.request dst own gen type tag rid payload)
      let now := s.tick 0
      (s.modChain fun C => { C with reqs := C.reqs ++ [⟨down, tag, dst, rid, gen, now, queue⟩] }, none)

/-- The next RID of this unit (R530). -/
def State.nextRid (s : State) : State × Nat :=
  let r := (s.chain.lastRid + 1) % 65536
  (s.modChain fun C => { C with lastRid := r }, r)

/-- The payload of a host transaction (R525): the address word and the words of CH_HBUF. -/
def State.hostPayload (s : State) (type n : Nat) : List Nat :=
  let a := s.get F.CHN_HADDR_ADDR
  let buf := fun k => (List.range k).map fun i => s.get F.CHN_HBUF 0 i
  match type with
  | 0 => [a % 2 ^ 20 + (n - 1) * 2 ^ 20]
  | 1 => (a % 2 ^ 20 + (n - 1) * 2 ^ 20) :: (buf n).map (· % 2 ^ 24)
  | 2 => (a % 2 ^ 16) :: buf 4
  | 3 => [a, n]
  | _ => a :: buf n

/-- A write of CH_HCMD (R530): refused while BUSY; otherwise it starts a transaction, or completes it at once where the port
itself answers. A broadcast is sent on both ports and is neither answered nor tagged (R526). -/
def State.hostChain (s : State) (q : Requester) (dst type : Nat) (reuse : Bool) (n1 : Nat) : State × Status :=
  if s.bit F.CHN_HRES_BUSY then (s.wref q F.CHN_HCMD_DST, .refused)
  else
    let r := if reuse then (s, s.get F.CHN_HRES_RID) else s.nextRid
    let s := r.1.put F.CHN_HRES_RID r.2
    let n := n1 + 1
    let fits := decide (type < 5) && (decide (n < 64) || decide (type = 0) || decide (type = 2))
    let bcast := decide (dst = 63)
    if !fits || (bcast && !decide (type = 1) && !decide (type = 2)) then (s.hostDone Status.refused.code 0 [], .ok)
    else if bcast then
      let m := ChainMsg.request dst (s.get F.CHN_STAT_ADDR) (s.get F.CHN_STAT_GEN) type 0 r.2 (s.hostPayload type n)
      (((s.sendFrame false m).sendFrame true m).hostDone Status.ok.code 0 [], .ok)
    else
      let x := (s.put F.CHN_HRES_BUSY 1).sendReq none dst type r.2 (s.hostPayload type n)
      match x.2 with
      | none => (x.1, .ok)
      | some st => (x.1.hostDone st.code 0 [], .ok)

/-- The entry of a CHAIN_OUT queue sent as Q_PUSH (R532), in the layout of a push (R155): TYPE in bits [30:24] of word 0. -/
def State.sendOut (s : State) (o : OutEntry) : State :=
  let e := o.entry
  let ws := [o.queue, e.payload.w0.toNat + e.hdr.toNat % 128 * 2 ^ 24, e.payload.w1.toNat, e.payload.w2.toNat, e.payload.w3.toNat]
  let x := s.sendReq (some o.queue) o.dst 2 o.rid ws
  match x.2 with
  | none => x.1.modChain fun C =>
      { C with outs := C.outs.map fun p => if p.queue = o.queue then { p with resendAt := none } else p }
  | some .full => s
  | some st => s.outDone o.queue st

/-! ### Losing a link -/

/-- TIME_DISAGREE is raised (R533), with its record. -/
def State.raiseTimeDis (s : State) : State :=
  if s.bit F.CHN_STAT_TIME_DIS then s
  else ((s.put F.CHN_STAT_TIME_DIS 1).syncLine 0 222).hwRecord 0 0x0B03 none noLeg (s.get F.CHAIN_TOFS_OFFSET % 2 ^ 24) 0 0

/-- The unit is cut off from address 1 (R520): an enumerated unit becomes ORPHAN and keeps its local count. -/
def State.orphan (s : State) : State :=
  if s.isHead || s.get F.CHN_STAT_STATE = 0 then s
  else ((s.put F.CHN_STAT_STATE 3).modChain fun C => { C with localCount := true, slew := 0, goodRun := 0 }).raiseTimeDis

/-- The head learns that the addresses from `a` on are cut off (R521, R522). -/
def State.cutOff (s : State) (a : Nat) : State :=
  if s.isHead then s.modChain fun C => { C with lostFrom := some (match C.lostFrom with | some b => min a b | none => a) } else s

/-- A link is lost (R519, R520): its frames are discarded, the loss is counted and recorded, the other port sends LINK_DOWN,
and every transaction through it completes with LINK_LOST. -/
def State.linkLost (s : State) (down : Bool) : State :=
  if !s.linkUp down then s
  else
    let s := if down then s.put F.CHN_STAT_DN_LINK 0 else s.put F.CHN_STAT_UP_LINK 0
    let s := s.modChain fun C => { C with frames := C.frames.filter fun x => !(x.down == down), segment := C.segment && !down }
    let s := (s.incSat F.CHN_CNT_LOSS_CNT).hwRecord 0 0x0B01 none noLeg (if down then 1 else 0) 0 0
    let s := (s.sendFrame (!down) (.linkDown (s.get F.CHN_STAT_ADDR))).syncLine 0 219
    let s := s.failReqs fun r => r.down == down
    if down then s.cutOff (s.get F.CHN_STAT_ADDR + 1) else s.orphan

/-! ### Chain time -/

/-- The tick of every die loaded at once by `k` edges less (R67), and the count kept of the latest single edge with it. -/
def State.shiftTicks (s : State) (k : Int) : State :=
  let s := s.modChain fun C => { C with slewAt := ((C.slewAt : Int) - k).toNat }
  forEach (List.range s.dies) (fun s d => s.modDie d fun D => { D with tick := ((D.tick : Int) - k).toNat }) s

/-- Some herd of the unit is ARMED or RUNNING (R67). -/
def State.anyRunning (s : State) : Bool :=
  (List.range (8 * s.dies)).any fun h => s.herdState h = .armed || s.herdState h = .running

/-- TIME_DISAGREE judged at a whistle (R533), with the offset in ns. -/
def State.judgeTime (s : State) (ofs : Int) : State :=
  if s.chain.localCount || decide (100 < ofs.natAbs) then (s.modChain fun C => { C with goodRun := 0 }).raiseTimeDis
  else if 20 < ofs.natAbs then s.modChain fun C => { C with goodRun := 0 }
  else
    let s := s.modChain fun C => { C with goodRun := C.goodRun + 1 }
    if 100 ≤ s.chain.goodRun then (s.put F.CHN_STAT_TIME_DIS 0).syncLine 0 222 else s

/-- The head's tick at the whistle reaches a unit (R66, R67): the offset after half the round-trip delay is reported; at most
1,000 ticks are corrected by single edges, more by a load while no herd is ARMED or RUNNING, else the local count stands. An
offset that is no whole number of ticks is cut towards zero to ticks (DESIGN CHOICE, log entry 51). -/
def State.chainTime (s : State) (headTick : Nat) : State :=
  let ofs : Int := 10 * ((s.tick 0 : Int) - headTick) - (s.chain.delay / 2 : Nat)
  let ticks := ofs.tdiv 10
  let s := s.putI F.CHAIN_TOFS_OFFSET ofs
  let s :=
    if ticks.natAbs ≤ 1000 then s.modChain fun C => { C with slew := ticks, localCount := false }
    else if s.anyRunning then s.modChain fun C => { C with slew := 0, localCount := true }
    else (s.shiftTicks ticks).modChain fun C => { C with slew := 0, localCount := false }
  s.judgeTime ofs

/-- The dies whose tick runs (R489, R490). -/
def State.runningDies (s : State) : List Nat := (List.range s.dies).filter fun d => s.clockOn d 1

/-- A single edge for chain time may fall on the next tick of every die (R67): no running die has an edge of a whistle before it, and
none is near the tick of a whistle (R41) or of a miss (R44), which an edge would step over (DESIGN CHOICE, log entry 51). -/
def State.slewFree (s : State) : Bool :=
  s.runningDies.all fun d =>
    let D := s.die d
    !D.insert && !D.withhold && decide (D.chain = 0) && decide (5 ≤ D.tick % 100000) && decide (D.tick % 100000 < 99995)

/-- One edge inserted (the unit is late) or withheld on every die at once (R67), where SLIP_CNT and LAST_SLIP show it (R40). -/
def State.slewEdge (s : State) (late : Bool) : State :=
  forEach s.runningDies (fun s d =>
    ((s.put F.TICK_STAT_LAST_SLIP (if late then 1 else 2) d).incSat F.TICK_STAT_SLIP_CNT d).modDie d fun D =>
      { D with chain := if late then D.chain + 1 else D.chain - 1 }) s

/-- The head of a chain that it has enumerated sends its tick at each whistle (R66). -/
def State.sendTime (s : State) : State :=
  if s.isHead && decide (s.get F.CHN_STAT_STATE = 2) then s.sendFrame true (.time (s.tick 0)) else s

end Sys2Proof.Machine
end

