-- ==== Sys2Proof/Machine/Boot.lean ====
section
/-!
DEFINITION. Reset, boot and agreement (chapter 22): package resets (R539, R540), straps and sector scan (R541, R459), image
slots (R543 to R547), OTP (R548), updates (R555, R556), agreement (R551 to R553), and the whistle with which the dies agree
(R41 to R44, R50).
-/
namespace Sys2Proof.Machine

/-- The boot changed. -/
def State.modBoot (s : State) (f : BootRun → BootRun) : State := { s with boot := f s.boot }

/-- The dies of the member. -/
def State.allDies (s : State) : List Nat := List.range s.dies

/-- A record of the boot (R560): it waits where the intake is not enabled yet. -/
def State.bootRecord (s : State) (code d0 d1 d2 : Nat) : State :=
  if s.recQueue.isSome then s.hwRecord 0 code none noLeg d0 d1 d2
  else s.modBoot fun B => { B with records := B.records ++ [(code, d0, d1, d2)] }

/-! ### Reset -/

/-- What a package reset keeps of the registers (R436, R540): the AON domain, the next SEQ (R461), and the OTP. -/
def keptCell (p : Nat × Nat) : Bool :=
  let a := p.1 / 32
  (decide (0x20000 ≤ a) && decide (a < 0x30000)) || decide (p.1 = F.REC_NEXT_SEQ.key 0 0 0) ||
  decide (p.1 = F.PWR_PKG_AON.key 0 0 0) || decide (p.1 = F.PKG_OTP_SIG_REQ.key 0 0 0) ||
  decide (p.1 = F.PKG_OTP_KEY_SET.key 0 0 0)

/-- A row program in progress on die `d` when the package enters RESET: a change of the supply leaves a record's write to be completed, and
the AON path completes its own in every reset (R447); any other program leaves its row torn (R459), one of FL_CMD with some of its
bits programmed. -/
def State.tearRow (s : State) (d cause : Nat) : State :=
  match (s.flashRun d).busy with
  | some (.program r v) =>
    let aon := d == 0 && s.recorder.committing.any fun c => c.1.aon
    if s.ownOp d (.program r v) then
      s.nextFresh.setRow d r (s.flashRow d r &&& (v ||| BitVec.ofNat 256 (Config.freeNat s.fresh)))
    else if aon || decide (cause = 0 ∨ cause = 2) then s.programDone d r v
    else s.tear d r v
  | _ => s

/-- The package enters RESET with `cause` (R538 to R540): everything but the AON domain, flash, OTP and the state rows takes
its reset value; what the sector headers show of the recorder (its next rows, torn rows, the rows that D1 lacks) is kept with them. A further source during RESET leaves the cause, but for power-on. -/
def State.packageReset (s : State) (cause : Nat) : State :=
  let c := if s.pkgState = 0 ∧ cause ≠ 0 then s.get F.PKG_STATE_RST_CAUSE else cause
  let s := forEach s.allDies (fun s d => s.tearRow d cause) s
  let R := s.recorder
  let t := { State.resetFor s.member with
    fresh := s.fresh, cells := s.cells.filter keptCell, flash := s.flash, sectors := s.sectors, aonRun := s.aonRun, otpKey := s.otpKey,
    recorder := { Recorder.reset with circRow := R.circRow, permRow := R.permRow, torn := R.torn, mirrorLack := R.mirrorLack ++ R.mirrorDue } }
  (t.put F.PKG_STATE_STATE 0).put F.PKG_STATE_RST_CAUSE c

/-- POWER_ON (R539). Power-on resets the package with cause 0. -/
def execPowerOn (s : State) : Host.Outcome State Fault Refusal :=
  guarded true s <|
    s.packageReset 0


/-- RESET_N (R539). RESET_N held low for 1 µs resets the package with cause 1. -/
def execResetN (s : State) : Host.Outcome State Fault Refusal :=
  guarded true s <|
    s.packageReset 1


/-- SUPPLY_LOW (R539). A supply below its threshold for 2 µs resets the package with cause 2 and drives gate pins low.
-/
def execSupplyLow (s : State) : Host.Outcome State Fault Refusal :=
  guarded true s <|
    s.packageReset 2



/-! ### Image slots -/

/-- The state of slot `k` of die `d` (R544). -/
def State.slotState (s : State) (d k : Nat) : Nat := (s.flashRow d (slotRow k + 32767)).toNat % 256

/-- The state row of slot `k` of die `d` programmed to `v` (R544): bits only fall. -/
def State.setSlot (s : State) (d k v : Nat) : State :=
  s.programRow d (slotRow k + 32767) (BitVec.ofNat 256 (2 ^ 256 - 256 + v))

/-- Word `i` of the header of slot `k` of die `d` (R543). -/
def State.slotWord (s : State) (d k i : Nat) : Nat := s.flashWord d (slotRow k * 8 + i)

/-- The sequence number of an image (R543). -/
def State.slotSeq (s : State) (d k : Nat) : Nat := s.slotWord d k 2

/-- `n` bytes of slot `k` of die `d` from offset `o`. -/
def State.slotBytes (s : State) (d k o n : Nat) : List Nat :=
  (List.range n).map fun i => (s.flashRow d (slotRow k + (o + i) / 32)).toNat / 256 ^ ((o + i) % 32) % 256

/-- Key-hash word `k` of the OTP (R548). -/
def State.otpWord (s : State) (k : Nat) : Nat := Store.get s.otpKey 0 k

/-- The key-hash words of the OTP as bytes, little-endian (R548). -/
def State.keyHash (s : State) : List Nat := (List.range 32).map fun i => s.otpWord (i / 4) / 256 ^ (i % 4) % 256

/-- The signature check of a slot (R546): the key's hash and the signature over bytes 0x000 to 0x09F. -/
def State.signatureOk (s : State) (d k : Nat) : Bool :=
  let part := fun o => beNat (s.slotBytes d k o 32)
  decide (sha256 (s.slotBytes d k 0x60 64) = s.keyHash) &&
  ecdsaVerify (part 0x60) (part 0x80) (part 0xA0) (part 0xC0) (beNat (sha256 (s.slotBytes d k 0 0xA0)))

/-- The first check of R546 that slot `k` fails on die `d`, if any. -/
def State.checkImage (s : State) (d k : Nat) : Option Nat :=
  let w := s.slotWord d k 1
  let n := s.slotWord d k 3
  if s.slotWord d k 0 ≠ 0x5E1A0001 ∨ w / 2 ^ 24 ≠ 1 then some 1
  else if w % 256 ≠ d ∨ w / 256 % 256 ≠ s.dies then some 2
  else if n % 32 ≠ 0 ∨ 0xFFE00 < n then some 3
  else
    let body := s.slotBytes d k 0x100 n
    if crcBytes body ≠ s.slotWord d k 4 then some 4
    else if sha256 body ≠ s.slotBytes d k 0x40 32 then some 5
    else if s.bit F.PKG_OTP_SIG_REQ && !s.signatureOk d k then some 6
    else none

/-- Rule 1 of R545 for slot `k`: TRIED on any die. -/
def State.rejectTried (s : State) (k : Nat) : State :=
  if s.allDies.any fun d => decide (s.slotState d k = 0x1F) then
    let ds := s.allDies.filter fun d => decide (s.slotState d k = 0x1F) || decide (s.slotState d k = 0x3F)
    ((ds.foldl (fun s d => s.setSlot d k 0x07) s).put F.PKG_BOOT_FALLBACK 1).bootRecord 0x0984 k (s.slotSeq 0 k) 2
  else s

/-- Rule 3 of R545 for slot `k`: TRIAL on some dies only. -/
def State.rejectPartial (s : State) (k : Nat) : State :=
  let ds := s.allDies.filter fun d => decide (s.slotState d k = 0x3F)
  if ds.isEmpty then s else (ds.foldl (fun s d => s.setSlot d k 0x07) s).put F.PKG_BOOT_PARTIAL 1

/-- Slot `k` is in state `v` on every die. -/
def State.slotAll (s : State) (k v : Nat) : Bool := s.allDies.all fun d => decide (s.slotState d k = v)

/-- Slot `k` is chosen, or none. -/
def State.takeSlot (s : State) (k : Option Nat) (trial : Bool) : State :=
  ((s.modBoot fun B => { B with slot := k, failed := [] }).put F.PKG_BOOT_SLOT (k.getD 0)).putB F.PKG_BOOT_TRIAL trial

/-- The slot choice (R545). -/
def State.chooseSlot (s : State) : State :=
  let s := (s.rejectTried 0).rejectTried 1
  match [0, 1].find? fun k => s.slotAll k 0x3F with
  | some k => (forEach s.allDies (fun s d => s.setSlot d k 0x1F) s).takeSlot (some k) true
  | none =>
    let s := (s.rejectPartial 0).rejectPartial 1
    match s.slotAll 0 0x0F, s.slotAll 1 0x0F with
    | true, true => s.takeSlot (some (if s.slotSeq 0 0 < s.slotSeq 0 1 then 1 else 0)) false
    | true, false => s.takeSlot (some 0) false
    | false, true => s.takeSlot (some 1) false
    | false, false => s.takeSlot none false

/-- Slot `k` rejected on every die (R547), for reason `why` of the SLOT_FALLBACK record. -/
def State.fallback (s : State) (k why : Nat) : State :=
  ((forEach s.allDies (fun s d => s.setSlot d k 0x07) s).put F.PKG_BOOT_FALLBACK 1).bootRecord 0x0984 k (s.slotSeq 0 k) why

/-- Slots are chosen and checked (R545 to R547): a check that fails on a TRIED slot falls back and chooses again. -/
def State.bootSlots : Nat → State → State
  | 0, s => s
  | fuel + 1, s =>
    let s := s.chooseSlot
    match s.boot.slot with
    | none => s
    | some k =>
      let bad := s.allDies.filterMap fun d => (s.checkImage d k).map fun n => (d, n)
      let s := bad.foldl (fun s p => s.bootRecord 0x0982 p.1 k p.2) s
      if bad.isEmpty then s
      else if s.bit F.PKG_BOOT_TRIAL then State.bootSlots fuel (s.fallback k 0)
      else s.modBoot fun B => { B with failed := bad.map (·.1) }

/-! ### The boot steps -/

/-- Straps as sampled at entry to BOOT (R541, R542). -/
def State.takeStraps (s : State) (p : PinStraps) : State :=
  let s := ((s.putB F.PKG_STRAP_COMPAT p.compat).putB F.PKG_STRAP_CHAIN_HEAD p.head).put F.PKG_STRAP_SEAL p.sealPins.toNat
  let s := ((s.putB F.CHN_STAT_HEAD p.head).put F.CHN_STAT_ADDR (if p.head then 1 else 0)).syncLine 0 219
  if p.compat then forEach (List.range (8 * s.dies)) (fun s h => s.put F.HERD_CTL_CMPT 1 (h / 8) (h % 8)) s else s

/-- The sector scan of die `d` (R459): sectors in ERASING are erased again, before any other use of what they held; torn rows are counted,
and skipped from then on. -/
def State.scanSectors (s : State) (d : Nat) : State :=
  let ers := (List.range 256).filter fun c => decide ((s.sector d c).state = 0x1F)
  let s := ers.foldl (fun s c => ((s.dropRows d c).startErase d c).incSat F.FL_CNT_REERASE_CNT d) s
  let torn := (s.flash.filter fun p =>
    decide (p.1 / 131072 = d) && recorderSector d (p.1 % 131072 / 512) && !rowValid p.2 &&
    decide ((s.sector d (p.1 % 131072 / 512)).state = 0x7F)).map (·.1)
  let s := s.modRec fun R => { R with torn := R.torn.filter (fun r => !torn.contains r) ++ torn }
  s.put F.REC_CNT_TORN_CNT (min (s.get F.REC_CNT_TORN_CNT + torn.length) 0xFFFF)

/-- The highest SEQ plus one of the records found by the scan (R461); 0 where there is none. -/
def State.foundSeq (s : State) : Nat :=
  (s.flash.filter fun p =>
    recorderSector (p.1 / 131072) (p.1 % 131072 / 512) && rowValid p.2 && s.rowHolds (p.1 / 131072) (p.1 % 131072)).foldl (fun m p => max m (p.2.toNat % 2 ^ 32 + 1)) 0

/-- The row of the first permanent record, torn rows skipped. -/
def State.firstPerm (s : State) : Nat := permBase + ((List.range 512).find? fun k => s.rowHolds 0 (permBase + k)).getD 0

/-- What the scan finds of the recorder (R461, R467, R471); the sector in which the circulating area goes on is made ready (R466). -/
def State.scanRecorder (s : State) : State :=
  let s := s.put F.REC_NEXT_SEQ (max (s.get F.REC_NEXT_SEQ) s.foundSeq)
  let n := s.recorder.permRow
  let s := (s.putB F.REC_FLG_COMMISSIONED (decide (n ≠ 0))).putB F.REC_FLG_PERM_FULL ((s.sector 0 143).lock)
  let s := if n = 0 then s else s.put F.REC_PFIRST_SEQ ((s.flashRow 0 s.firstPerm).toNat % 2 ^ 32)
  ((s.prepareSector true).put F.REC_OLD_SEQ s.oldestSeq).syncLag

/-- Die `d` as the package leaves RESET (R38, R41, R488, R550): its count is 0, its PLL has locked in a band, and it measures the delay of
its whistle path; the spec gives neither the band nor the delay. -/
def State.startDie (s : State) (d : Nat) : State :=
  let x := Config.freeNat s.fresh
  let band := Config.freeNat (s.fresh + 1)
  let s := s.nextFresh.nextFresh.modDie d fun D => { D with tick := 0, delay := x }
  ((s.put F.CLK_PLL_LOCK 1 d).put F.CLK_PLL_SEARCH 0 d).put F.CLK_PLL_BAND band d

/-- Reset release (R541, R550): BOOT is entered and its steps up to the image checks run. -/
def State.release (s : State) (p : PinStraps) : State :=
  if s.boot.begun || decide (1 < s.pkgState) then s
  else
    let s := ((s.put F.PKG_STATE_STATE 1).modBoot fun B => { B with begun := true }).takeStraps p
    let s := forEach s.allDies (fun s d => s.startDie d) s
    let s := (forEach s.allDies (fun s d => (s.scanSectors d).loadGateDef d) s).scanRecorder
    let s := forEach s.allDies (fun s d => s.syncLine d 203) s
    State.bootSlots 4 s

/-- RESET_RELEASE (R550). After supplies are in range for 100 µs the package enters BOOT and runs its boot steps. -/
def execResetRelease (pins : PinStraps) (s : State) : Host.Outcome State Fault Refusal :=
  guarded true s <|
    s.release pins


/-- DIE_MISSING (R550). A die not reporting within 100 ms plus re-erase time is marked missing. -/
def execDieMissing (d : Nat) (s : State) : Host.Outcome State Fault Refusal :=
  guarded (decide (d < s.dies)) s <|
    if s.pkgState = 1 ∧ s.boot.begun ∧ 10000000 + 3000000 * s.get F.FL_CNT_REERASE_CNT d ≤ s.tick 0 then
      s.modDie d fun D => { D with missing := true }
    else s


/-- The configuration hash of die `d` (R552), each item as a 32-bit little-endian word (log entry 32). -/
def State.configHash (s : State) (d : Nat) : Nat :=
  let strap := s.get F.PKG_STRAP_COMPAT * 2 ^ 15 + s.get F.PKG_STRAP_CHAIN_HEAD * 2 ^ 14 + s.get F.PKG_STRAP_SEAL
  let items := [strap] ++ ((List.range 4).map fun k => s.get F.CLK_OUT_DIV d (k + 1)) ++
    [s.get F.REF_CFG_EXT_EN d, s.get F.PKG_OTP_SIG_REQ * 2 + s.get F.PKG_OTP_KEY_SET] ++
    ((List.range 8).map s.otpWord) ++ [s.get F.PKG_SLOT_PROTO 0 d]
  crcBytes (items.flatMap fun w => [w % 256, w / 256 % 256, w / 65536 % 256, w / 2 ^ 24])

/-- The configuration hashes formed again (R552), before READY. -/
def State.formHashes (s : State) : State :=
  if 1 ≤ s.pkgState ∧ s.pkgState < 4 then forEach s.allDies (fun s d => s.put F.PKG_CHASH_HASH (s.configHash d) 0 d) s else s

/-! ### Agreement -/

/-- A mask of dies. -/
def dieMask (ds : List Nat) : Nat := (ds.map fun d => 2 ^ d).sum

/-- The dies whose image is not D0's (R551): a failed check, or IMGID, SEQ or PROTO that differ. -/
def State.imageDiffers (s : State) (d : Nat) : Bool :=
  match s.boot.slot with
  | none => false
  | some k =>
    s.boot.failed.contains d || decide (s.slotBytes d k 0x20 32 ≠ s.slotBytes 0 k 0x20 32) ||
    decide (s.slotSeq d k ≠ s.slotSeq 0 k) || decide (s.slotWord d k 1 / 65536 % 256 ≠ s.slotWord 0 k 1 / 65536 % 256)

/-- The items of R551 in order, with the dies on which each does not hold; `bad`: those whose whistle failed the TICK item. -/
def State.agreeItems (s : State) (bad : List Nat) : List (Nat × List Nat) :=
  let ds := s.allDies
  [(1, ds.filter fun d => (s.die d).missing), (2, if s.boot.slot.isNone then ds else []), (3, ds.filter s.imageDiffers),
   (4, ds.filter fun d => decide (s.get F.PKG_SLOT_SIREV 0 d ≠ s.get F.PKG_SLOT_SIREV)),
   (5, ds.filter fun d => decide (s.get F.PKG_CHASH_HASH 0 d ≠ s.get F.PKG_CHASH_HASH)), (6, bad)]

/-- PKG_STATE as a register reads (R561): RST_CAUSE above STATE. -/
def State.stateWord (s : State) : Nat := s.get F.PKG_STATE_RST_CAUSE * 16 + s.pkgState

/-- REASON and DIEMASK set; a change of REASON to other than NONE is recorded (R553). -/
def State.setReason (s : State) (r mask : Nat) : State :=
  let old := s.get F.PKG_AGREE_REASON
  let s := (s.put F.PKG_AGREE_REASON r).put F.PKG_AGREE_DIEMASK mask
  if r = 0 ∨ r = old then s else s.bootRecord 0x0983 r mask s.stateWord

/-- The judgement at a whistle in AGREE (R551): ENUM is entered when every item agrees and ten whistles have been good. -/
def State.agreement (s : State) (bad : List Nat) : State :=
  if s.pkgState ≠ 2 then s
  else
    let s := s.modBoot fun B => { B with good := if bad.isEmpty then B.good + 1 else 0 }
    match (s.agreeItems bad).find? fun p => !p.2.isEmpty with
    | some p => s.setReason p.1 (dieMask p.2)
    | none =>
      let s := s.setReason 0 0
      let t := s.tick 0
      if 10 ≤ s.boot.good then (s.put F.PKG_STATE_STATE 3).modBoot fun B => { B with enumAt := t } else s

/-- READY is entered from ENUM (R554), with its BOOT_DONE record. -/
def State.enterReady (s : State) : State :=
  if s.pkgState ≠ 3 then s
  else
    let ms := s.tick 0 / 100000
    ((s.put F.PKG_STATE_STATE 4).put F.PKG_BOOT_BOOT_MS (min ms 0xFFFF)).bootRecord 0x0981 (s.get F.PKG_BOOT_SLOT)
      (s.get F.PKG_STATE_RST_CAUSE) ms

/-- TRIAL_FALLBACK (R547). 2 s in AGREE on a TRIED slot programs it BAD, records SLOT_FALLBACK and returns to BOOT. -/
def execTrialFallback (s : State) : Host.Outcome State Fault Refusal :=
  guarded true s <|
    if s.pkgState = 2 ∧ s.bit F.PKG_BOOT_TRIAL ∧ s.boot.agreeAt + 200000000 ≤ s.tick 0 then
      State.bootSlots 4 ((s.fallback (s.get F.PKG_BOOT_SLOT) 1).put F.PKG_STATE_STATE 1)
    else s


/-! ### Package commands -/

/-- The result of a PKG_CMD or PKG_OTPCMD write (R561). -/
def State.pkgRes (s : State) (st : Status) : State := s.put F.PKG_CRES_RES st.code

/-- SWITCH is acceptable for slot `k` on die `d` but for its image check (R555): with no slot booted, there is no SEQ to exceed. -/
def State.switchable (s : State) (k d : Nat) : Bool :=
  decide (s.slotState d k = 0x7F) && decide (s.slotBytes d k 0x20 32 = s.slotBytes 0 k 0x20 32) &&
  (s.boot.slot.isNone || decide (s.slotSeq d (1 - k) < s.slotSeq d k))

/-- The slot that SWITCH would program (R555): the one that is not booted; with none booted, the lowest one that is NEW on every die (log
entry 59). -/
def State.otherSlot (s : State) : Nat :=
  match s.boot.slot with
  | some k => 1 - k
  | none => if s.slotAll 0 0x7F then 0 else 1

/-- PKG_CMD SWITCH (R555). -/
def State.switchSlot (s : State) : State :=
  if s.pkgState ≠ 2 ∧ s.pkgState ≠ 4 then s.pkgRes .refused
  else
    let k := s.otherSlot
    let news := s.allDies.filter fun d => decide (s.slotState d k = 0x7F)
    let bad := news.filterMap fun d => (s.checkImage d k).map fun n => (d, n)
    let s := bad.foldl (fun s p => s.bootRecord 0x0982 p.1 k p.2) s
    if bad.isEmpty && s.allDies.all (s.switchable k) then (forEach s.allDies (fun s d => s.setSlot d k 0x3F) s).pkgRes .ok
    else s.pkgRes .refused


/-- PKG_CMD CONFIRM (R556). -/
def State.confirmSlot (s : State) : State :=
  if s.ready && s.bit F.PKG_BOOT_TRIAL then
    let k := s.get F.PKG_BOOT_SLOT
    let s := (forEach s.allDies (fun s d => s.setSlot d k 0x0F) s).put F.PKG_BOOT_TRIAL 0
    (s.bootRecord 0x0985 k (s.slotSeq 0 k) 0).pkgRes .ok
  else s.pkgRes .refused


/-- PKG_OTPCMD 1 and 2 (R548). -/
def State.otpCommand (s : State) (cmd : Nat) : State :=
  if s.ready then s.pkgRes .refused
  else if cmd = 1 ∧ !s.bit F.PKG_OTP_KEY_SET then
    let s := { s with otpKey := (List.range 8).foldl (fun m k => Store.set m 0 k (s.get F.PKG_KEYW_WORD 0 k)) s.otpKey }
    ((s.put F.PKG_OTP_KEY_SET 1).pkgRes .ok).formHashes
  else if cmd = 2 ∧ s.bit F.PKG_OTP_KEY_SET ∧ !s.bit F.PKG_OTP_SIG_REQ then ((s.put F.PKG_OTP_SIG_REQ 1).pkgRes .ok).formHashes
  else s.pkgRes .refused



/-- A write of PKG_CMD (R539, R561). -/
def State.pkgCommand (s : State) (cmd : Nat) : State :=
  match cmd with
  | 0x01 => s.switchSlot
  | 0x02 => s.confirmSlot
  | 0x5E => s.packageReset 3
  | _ => s.pkgRes .refused

/-! ### The whistle -/

/-- TICK_ERR as it shows an error (R42). -/
def errCode (e : Int) : Nat := (BitVec.ofInt 16 (min (max e (-32767)) 32767)).toNat

/-- The bases of die `d` that wait for a whistle start on the tick after it (R50). -/
def State.whistleStarts (s : State) (d marked : Nat) : State :=
  forEach ((List.range 16).filter fun b => (s.base d b).waitStart)
    (fun s b => s.modBase d b fun B => { B with startAt := some (marked + 1) }) s

/-- The whistle that marks `m` arrives at die `d` (R42, R43), the delay of its path compensated (R41). Answers whether the TICK item holds there. -/
def State.whistleAtDie (s : State) (d m : Nat) : State × Bool :=
  let D := s.die d
  let e : Int := (D.tick : Int) - m
  let s := (s.modDie d fun D => { D with missRun := 0, seen := m + 1 }).put F.TICK_ERR_ERR (errCode e) d
  let slip := fun (s : State) (k : Nat) => (s.put F.TICK_STAT_LAST_SLIP k d).incSat F.TICK_STAT_SLIP_CNT d
  if D.reloadNext then (s.modDie d fun D => { D with tick := m, reloadNext := false }, decide (e.natAbs ≤ 1))
  else if e = 0 then (s, true)
  else if e = 1 then ((slip s 2).modDie d fun D => { D with withhold := true }, true)
  else if e = -1 then ((slip s 1).modDie d fun D => { D with insert := true }, true)
  else ((s.modDie d fun D => { D with tick := m }).tickDisagree d (errCode e), false)

/-- A reference switch that is due waits for a whistle of its die (R214). -/
def State.whistleRef (s : State) (d : Nat) : State :=
  if (s.ref d).switchDue = 1 then s.modRef d fun R => { R with switchDue := 2 } else s

/-- The whistle of D0 (R41 to R44): at the dies of `arrivals`, on a tick whose master count is a multiple of 100,000. -/
def State.whistle (s : State) (arrivals : Nat) : State :=
  let m := s.tick 0
  if m % 100000 ≠ 0 ∨ s.whistleAt = m + 1 ∨ (s.die 0).gated then s
  else
    let s := { s with whistleAt := m + 1 }.sendTime
    let s := (s.whistleStarts 0 m).whistleRef 0
    let s := if (s.die 0).reloadNext then
        (s.modDie 0 fun D => { D with reloadNext := false }).put F.TICK_ERR_ERR 0 0
      else s
    let ds := s.allDies.filter fun d => decide (d ≠ 0)
    let r := ds.foldl (fun (r : State × List Nat) d =>
      if arrivals.testBit d && !(r.1.die d).gated then
        let x := r.1.whistleAtDie d m
        ((x.1.whistleStarts d m).whistleRef d, if x.2 then r.2 else r.2 ++ [d])
      else (r.1, r.2 ++ [d])) (s, [])
    r.1.agreement r.2

/-- WHISTLE (R42). At each whistle every die compares its tick replica, inserts or withholds an edge or raises a
disagreement, and agreement items are judged. -/
def execWhistle (arrivals : BitVec 8) (s : State) : Host.Outcome State Fault Refusal :=
  guarded true s <|
    s.whistle arrivals.toNat


/-- A die finds on the third tick after the expected one that no whistle has come (R44). None is expected at count 0, when the
package leaves RESET (DESIGN CHOICE, log entry 51). -/
def State.whistleMiss (s : State) (d : Nat) : State :=
  let t := s.tick d
  if d = 0 ∨ t % 100000 ≠ 3 ∨ t < 100000 ∨ (s.die d).seen = t - 2 then s
  else
    let s := (s.put F.TICK_STAT_WHISTLE_MISS 1 d).modDie d fun D => { D with missRun := D.missRun + 1, seen := t - 2 }
    if (s.die d).missRun = 2 then s.disagreeAlone d else s

/-- WHISTLE_MISS (R44). When no whistle arrives in its window the die sets WHISTLE_MISS, and at the second consecutive
miss raises TICK_DISAGREE. -/
def execWhistleMiss (d : Nat) (s : State) : Host.Outcome State Fault Refusal :=
  guarded (decide (d < s.dies)) s <|
    s.whistleMiss d


end Sys2Proof.Machine
end

