-- ==== Sys2Proof/Machine/Chain.lean ====
section
/-!
DEFINITION. The unit chain (chapter 21, R518 to R535): links, enumeration and rosters, chain time, transactions of this unit
and CHAIN_OUT entries. Requests that arrive from other units are served in HostPort.
-/
namespace Sys2Proof.Machine

/-! ### Links -/

/-- LINK_UP (R518). A chain link whose lanes align and carry 1,024 valid symbols comes up. -/
def execLinkUp (down : Bool) (s : State) : Host.Outcome State Fault Refusal :=
  guarded true s <|
    if s.linkUp down then s
    else
     let now := s.tick 0
     let s := if down then s.put F.CHN_STAT_DN_LINK 1 else s.put F.CHN_STAT_UP_LINK 1
     let known := decide (s.get F.CHN_STAT_ADDR ≠ 0)
     (s.modChain fun C => if down then { C with dnAt := now, segment := known } else { C with upAt := now }).syncLine 0 219


/-- A frame repeated (R519), or the link lost after its last repeat. -/
def State.repeatFrame (s : State) (x : LinkFrame) : State :=
  if s.get F.CHN_CFG_RETRY_N ≤ x.repeats then s.linkLost x.down
  else
    let now := s.tick 0
    (s.modChain fun C => { C with frames := C.frames.map fun y =>
      if y.down = x.down ∧ y.seq = x.seq then { y with repeats := y.repeats + 1, at_ := now } else y }).incSat F.CHN_CNT_RETRY_CNT

/-- The frame of a port with a link sequence number that waits for its ACK. -/
def State.frameOf (s : State) (down : Bool) (id : Nat) : Option LinkFrame :=
  s.chain.frames.find? fun x => x.down == down && x.seq == id

/-- ACK (R519). A link-level ACK ends the repeats of a frame. -/
def execAck (down : Bool) (id : Nat) (s : State) : Host.Outcome State Fault Refusal :=
  guarded true s <|
    s.modChain fun C => { C with frames := C.frames.filter fun x => !(x.down == down && x.seq == id) }


/-- NAK (R519). A link-level NAK makes the sender repeat the frame. -/
def execNak (down : Bool) (id : Nat) (s : State) : Host.Outcome State Fault Refusal :=
  guarded true s <|
    match s.frameOf down id with | some x => s.repeatFrame x | none => s


/-- CHAIN_RETRY (R519). RETRY_T without ACK repeats a frame, or after RETRY_N repeats loses the link. -/
def execChainRetry (down : Bool) (id : Nat) (s : State) : Host.Outcome State Fault Refusal :=
  guarded true s <|
    match s.frameOf down id with
    | some x => if x.at_ + s.get F.CHN_CFG_RETRY_T * 100 ≤ s.tick 0 then s.repeatFrame x else s
    | none => s


/-- LINK_LOST (R520). A link without valid symbols for 2 µs is lost: frames discarded, loss recorded, LINK_DOWN sent.
-/
def execLinkLost (down : Bool) (s : State) : Host.Outcome State Fault Refusal :=
  guarded true s <|
    s.linkLost down


/-- CHAIN_BAD_FRAME (R519). A chain frame that arrives with a bad CRC, a reserved TYPE, a LEN that is not a multiple
of 4 or DST 0 is discarded, answered NAK where its CRC failed, and counted in BADFR_CNT. -/
def execChainBadFrame (up : Bool) (fr : BadFrame) (s : State) : Host.Outcome State Fault Refusal :=
  guarded true s <|
    (s.linkAnswer up (fr != .badCrc)).badFrame


/-- A frame from the segment behind a restored link is answered STALE (R522), by a RESP to the unit that sent it. -/
def State.answerStale (s : State) (dst gen tag rid : Nat) : State :=
  s.sendFrame true (.resp dst (s.get F.CHN_STAT_ADDR) gen tag rid Status.stale.code 0 [])

/-- LINK_DOWN of the unit beside the break (R520), from the side of port `up`: it goes on, and what lies beyond is lost. From
upstream it cuts the unit off from its address 1, but for the one that address 1 itself sends down, a second head on the wire
that has lost its upstream link (R524). From a segment that is not enumerated yet it is answered STALE (R522), to the unit that it
names, with GEN, TAG and RID 0 (DESIGN CHOICE, log entry 60). -/
def State.linkDown (s : State) (up : Bool) (at_ : Nat) : State :=
  let s := s.linkAnswer up true
  if up && s.isHead then s
  else if !up && s.chain.segment then s.answerStale at_ 0 0 0
  else
    let s := s.sendFrame up (.linkDown at_)
    let s := s.failReqs fun r => if up then !r.down && decide (r.dst < at_) else r.down && decide (at_ < r.dst)
    if !up then s.cutOff (at_ + 1) else if at_ = 1 then s else s.orphan

/-- LINK_DOWN (R520). A LINK_DOWN frame fails outstanding transactions beyond the break and orphans cut-off units. -/
def execLinkDown (up : Bool) (at_ : BitVec 6) (s : State) : Host.Outcome State Fault Refusal :=
  guarded true s <|
    s.linkDown up at_.toNat


/-! ### Enumeration -/

/-- The next generation (R521): modulo 256, skipping 0. -/
def nextGen (g : Nat) : Nat := if (g + 1) % 256 = 0 then 1 else (g + 1) % 256

/-- What taking a new generation does to a unit (R522): CH_XHERD cleared, the windows kept for its old generation ended. -/
def State.newGen (s : State) (gen : Nat) : State :=
  let old := s.get F.CHN_STAT_GEN
  let s := ((s.put F.CHN_XHERD_LO 0).put F.CHN_XHERD_HI 0).put F.CHN_STAT_GEN gen
  s.modChain fun C => { C with windows := C.windows.filter fun w => !decide (w.2.1 = old) }

/-- The head starts an enumeration (R521, R522): of the whole chain in package state ENUM, else from the first address that a
break has cut off; a downstream link of its own must have been up for 200 ms. -/
def State.enumStart (s : State) : State :=
  let first := if s.pkgState = 3 then 2 else s.chain.lostFrom.getD 0
  if !s.isHead || decide (s.pkgState < 3) || s.chain.enumFirst.isSome || decide (first = 0) || !s.linkUp true ||
    decide (s.tick 0 < s.chain.dnAt + 20000000) then s
  else
    let g := nextGen s.chain.genCount
    let now := s.tick 0
    let s := s.modChain fun C =>
      { C with genCount := g, enumFirst := some first, enumAt := now, acks := [], ackLast := false, lostFrom := none, segment := C.segment && !decide (first = 2) }
    let s := if s.pkgState = 3 ∨ s.get F.CHN_STAT_STATE = 0 then (s.newGen g).put F.CHN_STAT_ADDR 1 else s
    (s.put F.CHN_STAT_STATE 1).sendFrame true (.enum first g)

/-- ENUM_START (R521). The head, with its downstream link up 200 ms, increments the generation and sends ENUM. -/
def execEnumStart (s : State) : Host.Outcome State Fault Refusal :=
  guarded true s <|
    s.enumStart


/-- The downstream link may pass an ENUM on (R522): a restored one has been up without a break for 200 ms. -/
def State.admits (s : State) : Bool := !s.chain.segment || decide (s.chain.dnAt + 20000000 ≤ s.tick 0)

/-- The ENUM passed downstream, where the link there admits it (R521, R522): with it the segment behind a restored link is enumerated. -/
def State.passEnum (s : State) (addr gen : Nat) : State :=
  if s.admits then (s.modChain fun C => { C with segment := false }).sendFrame true (.enum addr gen) else s

/-- The address to pass on (R521): after 62 every further unit takes address 0, so 63 stands. -/
def nextAddr (a : Nat) : Nat := if a = 0 ∨ 62 < a then 63 else a + 1

/-- A unit takes an address and a generation, acknowledges and passes the next address on (R521, R522). A new generation writes
CHAIN_REJOIN (R536), but for the first one of a unit that is still in package state ENUM, which no break has come before (DESIGN
CHOICE, log entry 60). -/
def State.takeEnum (s : State) (addr gen : Nat) : State :=
  let over_ := addr = 0 ∨ 62 < addr
  let old := s.get F.CHN_STAT_GEN
  let s := s.newGen gen
  let s := ((s.put F.CHN_STAT_ADDR (if over_ then 0 else addr)).putB F.CHN_STAT_OVER (decide over_)).put F.CHN_STAT_STATE 1
  let s := if old ≠ gen ∧ (old ≠ 0 ∨ s.pkgState ≠ 3) then s.hwRecord 0 0x0B02 none noLeg gen 0 0 else s
  let s := s.sendFrame false
    (.enumAck (s.get F.CHN_STAT_ADDR) (s.get F.CHN_PROTO_PROTO) (s.get F.PKG_SLOT_SIREV) s.dies (!s.linkUp true))
  s.passEnum (nextAddr addr) gen

/-- An ENUM frame (R521, R522, R524): a head discards and records it; a unit on the address-1 side of a break passes it on as it is. -/
def State.enumFrame (s : State) (addr gen : Nat) (up : Bool) : State :=
  let s := s.linkAnswer up true
  if s.isHead then
    if up then s.badFrame.hwRecord 0 0x0B07 none noLeg gen 0 0 else s
  else if !up || decide (s.pkgState < 3) then s
  else if s.get F.CHN_STAT_STATE = 2 ∧ s.get F.CHN_STAT_ADDR ≠ 0 ∧ s.get F.CHN_STAT_ADDR < addr then
    s.passEnum addr gen
  else s.takeEnum addr gen

/-- ENUM (R521). A unit receiving ENUM takes address and generation, acknowledges and passes it on. -/
def execEnum (addr : BitVec 6) (gen : BitVec 8) (upPort : Bool) (s : State) : Host.Outcome State Fault Refusal :=
  guarded true s <|
    s.enumFrame addr.toNat gen.toNat upPort


/-- An ENUM_ACK (R521): the head notes it; another unit passes it upstream. -/
def State.enumAck (s : State) (addr proto sirev nd : Nat) (last : Bool) : State :=
  let s := s.linkAnswer false true
  if !s.isHead then s.sendFrame false (.enumAck addr proto sirev nd last)
  else if s.chain.enumFirst.isNone then s
  else
    let e : RosterEntry := ⟨BitVec.ofNat 6 addr, BitVec.ofNat 8 s.chain.genCount, BitVec.ofNat 8 proto,
      decide (proto ≠ s.get F.CHN_PROTO_PROTO)⟩
    s.modChain fun C => { C with acks := if addr = 0 then C.acks else C.acks ++ [(e, sirev, nd)], ackLast := C.ackLast || last }

/-- ENUM_ACK (R521). The head records an acknowledging unit's protocol, revision and dies. -/
def execEnumAck (addr : BitVec 6) (proto : BitVec 8) (sirev : BitVec 8) (nd : BitVec 8) (last : Bool) (s : State) :
    Host.Outcome State Fault Refusal :=
  guarded true s <|
    s.enumAck addr.toNat proto.toNat sirev.toNat nd.toNat last


/-- The head completes its enumeration (R521, R554): at the last acknowledgement or after 1 ms it broadcasts its ROSTER. A break that it
has learnt of meanwhile still stands. Where the last acknowledgement has not come, what lies behind the last unit that answered
is still to be enumerated (DESIGN CHOICE, log entry 60). -/
def State.enumComplete (s : State) : State :=
  match s.chain.enumFirst with
  | none => s
  | some first =>
    if !s.chain.ackLast && decide (s.tick 0 < s.chain.enumAt + 100000) then s
    else
      let own : RosterEntry := ⟨1, BitVec.ofNat 8 (s.get F.CHN_STAT_GEN), BitVec.ofNat 8 (s.get F.CHN_PROTO_PROTO), false⟩
      let kept := own :: s.chain.roster.filter fun e => decide (1 < e.addr.toNat) && decide (e.addr.toNat < first)
      let all := kept ++ s.chain.acks.map (·.1)
      let open_ := if s.chain.ackLast then none else some (first + s.chain.acks.length)
      let s := s.modChain fun C => { C with roster := all, enumFirst := none, lostFrom := match C.lostFrom, open_ with
        | some a, some b => some (min a b) | some a, none => some a | none, b => b }
      ((s.put F.CHN_STAT_STATE 2).sendFrame true (.roster all)).enterReady

/-- ENUM_COMPLETE (R521). At the last acknowledgement or after 1 ms the head broadcasts the ROSTER. -/
def execEnumComplete (s : State) : Host.Outcome State Fault Refusal :=
  guarded true s <|
    s.enumComplete


/-- A ROSTER reaches a unit (R521, R523, R534): it learns the chain, is ACTIVE where it is PRESENT, and leaves ENUM. A unit of
another protocol version than address 1 is excluded. -/
def State.rosterFrame (s : State) (es : List RosterEntry) : State :=
  let s := s.linkAnswer true true
  if s.isHead || decide (s.pkgState < 3) then s
  else
    let s := (s.modChain fun C => { C with roster := es }).sendFrame true (.roster es)
    let own := s.get F.CHN_STAT_ADDR
    let here := decide (own ≠ 0) && (s.rosterEntry own).isSome
    let s := if here then s.put F.CHN_STAT_STATE 2 else s
    let head := match s.rosterEntry 1 with | some e => e.proto.toNat | none => s.get F.CHN_PROTO_PROTO
    let excl := here && decide (head ≠ s.get F.CHN_PROTO_PROTO)
    let s := s.putB F.CHN_STAT_EXCL excl
    let s := if excl then ((s.put F.CHN_XHERD_LO 0).put F.CHN_XHERD_HI 0).hwRecord 0 0x0B04 none noLeg (s.get F.CHN_PROTO_PROTO) head 0 else s
    (s.irqEdge 0 220).enterReady

/-- ROSTER (R523). A unit receiving the ROSTER leaves ENUM and learns present units and generations. -/
def execRoster (entries : List RosterEntry) (s : State) : Host.Outcome State Fault Refusal :=
  guarded true s <|
    s.rosterFrame entries


/-- ENUM_WAIT_TIMEOUT (R523). A non-head unit without a roster after 100 ms runs locally with address 0. -/
def execEnumWaitTimeout (s : State) : Host.Outcome State Fault Refusal :=
  guarded true s <|
    if !s.isHead && decide (s.pkgState = 3) && decide (s.boot.enumAt + 10000000 ≤ s.tick 0) then
     (s.put F.CHN_STAT_ADDR 0).enterReady
    else s


/-- HEAD_ENUM_TIMEOUT (R554). A head whose downstream link is not up within 200 ms of ENUM enters READY. -/
def execHeadEnumTimeout (s : State) : Host.Outcome State Fault Refusal :=
  guarded true s <|
    if s.isHead && decide (s.pkgState = 3) && !s.linkUp true && decide (s.boot.enumAt + 20000000 ≤ s.tick 0) then s.enterReady
    else s


/-! ### Chain time -/

/-- TIME (R66). A TIME frame carries the head's tick at the whistle and the unit corrects its count towards chain
time. -/
def execTime (headTick : Nat) (s : State) : Host.Outcome State Fault Refusal :=
  guarded true s <|
    let s := s.linkAnswer true true
    if s.isHead then s
    else
     let s := s.sendFrame true (.time headTick)
     if s.get F.CHN_STAT_STATE = 2 then s.chainTime headTick else s


/-- CHAIN_DELAY_MEASURE (R66). Every 100 ms a unit measures the round-trip delay to its upstream neighbour. -/
def execChainDelayMeasure (delayNs : Nat) (s : State) : Host.Outcome State Fault Refusal :=
  guarded true s <|
    if s.isHead || !s.linkUp false then s else s.modChain fun C => { C with delay := delayNs }


/-- CHAIN_TICK_SLEW (R67). A unit inserts or withholds one tick edge on every die at most once per 1,000 ticks to
correct a small offset. -/
def execChainTickSlew (late : Bool) (s : State) : Host.Outcome State Fault Refusal :=
  guarded true s <|
    let k := s.chain.slew
    let now := s.tick 0
    if decide (k = 0) || decide (k < 0) != late || decide (now < s.chain.slewAt + 999) || !s.slewFree then s
    else (s.slewEdge late).modChain fun C => { C with slew := if late then k + 1 else k - 1, slewAt := if late then now + 2 else now }


/-! ### Transactions of this unit -/

/-- A RESP (R527): it completes the transaction whose port, tag, RID and generation it matches; any other is counted late. A
response for another unit goes on, one with DST 0 is a bad frame (R525), and one from a segment that is not enumerated yet is
answered STALE (R522). -/
def State.respFrame (s : State) (fr : ChainHeader) (st orig : Nat) (data : List Nat) : State :=
  let s := s.linkAnswer fr.up true
  if fr.up && s.isHead then s
  else if fr.dst.toNat = 0 then s.badFrame
  else if !fr.up && s.chain.segment then s.answerStale fr.src.toNat fr.gen.toNat fr.tag.toNat fr.rid.toNat
  else if fr.dst.toNat ≠ s.get F.CHN_STAT_ADDR then
    s.sendFrame fr.up (.resp fr.dst.toNat fr.src.toNat fr.gen.toNat fr.tag.toNat fr.rid.toNat st orig data)
  else
    match s.chain.reqs.find? fun r => r.down == !fr.up && r.tag == fr.tag.toNat with
    | some r =>
      if r.rid = fr.rid.toNat ∧ fr.gen.toNat = s.get F.CHN_STAT_GEN then s.endReq r st orig (if st = 0 then data else [])
      else s.incSat F.CHN_CNT3_LATE_CNT
    | none => s.incSat F.CHN_CNT3_LATE_CNT

/-- RESP (R527). A response with matching tag, RID and generation completes its transaction; others are discarded. -/
def execResp (fr : ChainHeader) (st : BitVec 4) (orig : BitVec 4) (data : List (BitVec 32)) (s : State) : Host.Outcome
    State Fault Refusal :=
  guarded true s <|
    s.respFrame fr st.toNat orig.toNat (data.map (·.toNat))


/-- CHAIN_TIMEOUT (R529). A request unanswered after TMO completes with TIMEOUT and frees its tag. -/
def execChainTimeout (down : Bool) (tag : BitVec 6) (s : State) : Host.Outcome State Fault Refusal :=
  guarded true s <|
    match s.chain.reqs.find? fun r => r.down == down && r.tag == tag.toNat with
    | some r =>
     if r.at_ + s.get F.CHN_CFG_TMO * 100 ≤ s.tick 0 then (s.incSat F.CHN_CNT3_TMO_CNT).endReq r Status.timeout.code 0 []
     else s
    | none => s



/-- CHAIN_OUT_RESEND (R532). 100 µs after a FULL answer the entry is sent again with the same RID. -/
def execChainOutResend (id : BitVec 16) (s : State) : Host.Outcome State Fault Refusal :=
  guarded true s <|
    match s.chain.outs.find? fun o => decide (o.queue = id.toNat) with
    | some o => (match o.resendAt with | some t => if t ≤ s.tick 0 then s.sendOut o else s | none => s)
    | none => s


end Sys2Proof.Machine
end

