-- ==== Sys2Proof/Machine/Engine.lean ====
section
/-!
DEFINITION. What an engine does around its instructions: contexts, traps (R84 to R86), tasks (R92 to R97), handlers (R98,
R99, R481 to R485), and its control registers (R103).
-/
namespace Sys2Proof.Machine

/-! ### Contexts -/

/-- The context whose latch, hold and wait an engine uses (R89): 0 tasks and idle, 1 normal handler, 2 fast handler. -/
def Engine.ctx (E : Engine) : Nat := if E.fast then 2 else if E.normal then 1 else 0

/-- The lane whose wait or stall holds the engine (R102): its context, or 3 in the trap window. -/
def Engine.lane (E : Engine) : Nat := if E.trap then 3 else E.ctx

/-- Some context has instructions to execute. -/
def Engine.active (E : Engine) : Bool := E.task.isSome || E.normal || E.fast || E.trap

/-- ENG_STAT.STATE (R103). -/
def State.engState (s : State) (pe : Nat) : Nat :=
  let E := s.eng pe
  if !s.domOn (pe / 32) (pe % 32 / 4) then 7
  else if E.dfault then 5
  else if E.stopped || E.frozen then 6
  else if E.trap then 4
  else if E.fast then 3
  else if E.normal then 2
  else if E.task.isSome then 1
  else 0

/-- The engine may run or take handlers: not stopped, frozen or in DFAULT, with its cluster's domain ON (R97, R481). -/
def State.engOn (s : State) (pe : Nat) : Bool :=
  let E := s.eng pe
  !E.dfault && !E.stopped && !E.frozen && s.domOn (pe / 32) (pe % 32 / 4) && s.clockOn (pe / 32) 0

/-- An instruction of the engine can execute: a context is active, has not issued its HALT or final RET (R96), waits for no
data (R102) and has not stalled at a bound. -/
def State.canRun (s : State) (pe : Nat) : Bool :=
  let E := s.eng pe
  s.engOn pe && E.active && !(E.ending && E.ctx == 0 && !E.trap) && decide (Store.get E.waits 0 E.lane = 0) &&
  (Store.get E.stalled none E.lane).isNone

/-- The engine waits for an acknowledgement or data (R91, R131). -/
def State.outstanding (s : State) (pe : Nat) : Bool :=
  !(s.eng pe).awaits.isEmpty ||
  s.ring.any fun x => decide (x.who = .engine pe) && (match x.op with | .loadAll _ _ _ | .notice _ => false | _ => true)

/-- The STK of the running context (R74, R110). -/
def Engine.stkNow (E : Engine) : Word := if E.fast then E.stkFast else E.stk

/-- The STK of the running context replaced. -/
def Engine.setStk (E : Engine) (v : Word) : Engine := if E.fast then { E with stkFast := v } else { E with stk := v }

/-- Sticky flags raised in the running context (R72). -/
def State.raiseFlags (s : State) (pe m : Nat) : State :=
  if m = 0 then s else s.modEng pe fun E => E.setStk (stkRaise E.stkNow m)

/-! ### Traps -/

/-- A window double fault (R85): the engine stops, drops its pending dispatches, records it, and its herds fault. -/
def State.doubleFault (s : State) (pe cause : Nat) : State :=
  let d := pe / 32; let e := pe % 32
  let s := (s.put F.ENG_TRAP_DF_CAUSE cause d e).modEng pe fun E => { E with dfault := true }
  let s := forEach (List.range 32) (fun s t =>
    { s.put F.ENG_TSTAT_PEND 0 d e t with pendArg := Store.set s.pendArg 0 (pe * 32 + t) 0 }) s
  let s := s.forgetDispatched pe
  let s := s.hwRecord d 0x0102 none noLeg pe (s.get F.ENG_TRAP_TPC d e) (s.get F.ENG_TRAP_CAUSE d e * 8 + cause)
  (s.engineHerds pe).foldl (fun s h => s.herdFault h .engine) s

/-- A trap with a cause of R84: entered, or a double fault where the engine is in TW. -/
def State.takeTrap (s : State) (pe cause : Nat) : State :=
  let d := pe / 32; let e := pe % 32
  let E := s.eng pe
  if E.trap then s.doubleFault pe cause
  else
    let s := (s.put F.ENG_TRAP_TPC E.pc.toNat d e).put F.ENG_TRAP_CAUSE cause d e
    s.modEng pe fun E => { E with trap := true, pc := BitVec.ofNat 15 (s.get F.ENG_TVEC_BASE d e * 32 + 4 * cause) }

/-- WOVF (R84). -/
def trapWOVF : Nat := 0
/-- WUNF (R84). -/
def trapWUNF : Nat := 1
/-- ADDR (R84). -/
def trapADDR : Nat := 2
/-- ILL (R84). -/
def trapILL : Nat := 3
/-- SPLIM (R84). -/
def trapSPLIM : Nat := 4
/-- SOFT (R84). -/
def trapSOFT : Nat := 5

/-! ### Tasks -/

/-- Task `t` of engine `pe` has ended: the level sources that dispatch it are sampled again (R479). One whose task is already
pending or running again waits for the end of that run. -/
def State.resample (s : State) (pe t : Nat) : State :=
  let d := pe / 32
  let s := { s with dispatched := s.dispatched.filter fun p => !decide (p.2 = pe * 32 + t + 1) }
  forEach (List.range 256) (fun s src =>
    if isLevel src && s.bit F.IRQ_SRC_EN d src && s.bit F.IRQ_SRC_MODE d src && decide (s.srcEngine d src = pe) &&
        decide (s.get F.IRQ_SRC_TARGET d src % 32 = t) && s.lineOf d src then
      (if s.dispatchOverrun pe t then { s with dispatched := Store.set s.dispatched 0 (d * 512 + src) (pe * 32 + t + 1) }
       else s.levelDispatch d src)
    else s) s

/-- The running task ends (R74, R75, R93): its STK is saved, its flags reach ENG_TFLG, and the engine is free. -/
def State.endTask (s : State) (pe : Nat) : State :=
  let d := pe / 32; let e := pe % 32
  let E := s.eng pe
  match E.task with
  | none => s
  | some t =>
    let s := (s.put F.ENG_TFLG_FLAGS (s.get F.ENG_TFLG_FLAGS d e t ||| E.stk.toNat % 128) d e t).put F.ENG_TSTAT_RUN 0 d e t
    let idle := Store.get s.taskStk 0 (idleStk pe)
    let s := { s with taskStk := Store.set s.taskStk 0 (pe * 32 + t) E.stk }
    (s.modEng pe fun E => { E with task := none, ending := false, stk := idle, resume := none }).resample pe t

/-- HALT or a final RET (R82, R91, R96): the task ends once nothing is outstanding. -/
def State.haltTask (s : State) (pe : Nat) : State :=
  let s := s.modEng pe fun E => { E with ending := true }
  if s.outstanding pe then s else s.endTask pe

/-- TASK_START (R94). When an engine is free it starts its lowest-numbered pending task with fresh window, accumulator
and HC state. -/
def execTaskStart (pe : Nat) (s : State) : Host.Outcome State Fault Refusal :=
  guarded (decide (pe < 32 * s.dies)) s <|
    if s.engineFree pe && (s.pendingSource pe 0).isNone && (s.pendingSource pe 1).isNone then
     match (List.range 32).find? fun t => s.bit F.ENG_TSTAT_PEND (pe / 32) (pe % 32) t with
     | some t => s.startTask pe t
     | none => s
    else s


/-- TASK_END (R96). A task ends once its HALT or final RET wait completes, saving STK and ORing flags into ENG_TFLG.
-/
def execTaskEnd (pe : Nat) (s : State) : Host.Outcome State Fault Refusal :=
  guarded (decide (pe < 32 * s.dies)) s <|
    let E := s.eng pe
    if s.engOn pe && E.ending && !E.normal && !E.fast && !E.trap && !s.outstanding pe then s.endTask pe else s


/-- A write of ENG_DISP (R92, R103): the host may write it on any die, an engine on its own. -/
def State.engDisp (s : State) (q : Requester) (pe arg task : Nat) : State :=
  s.dispatch pe task arg (match q with | .engine _ => 4 | .host | .debug | .chain _ | .unit => 3)


/-! ### Control -/

/-- A write of ENG_CTL.STOP (R103): HALTED, or resumed in the state in which it stopped. -/
def State.engStop (s : State) (pe : Nat) (stop : Bool) : State :=
  (s.putB F.ENG_CTL_STOP stop (pe / 32) (pe % 32)).modEng pe fun E => { E with stopped := stop }



/-- A herd with a task on the engine is ARMED, RUNNING or STOPPING: RST and the engine's RWL fields are locked (R12, R103). -/
def State.engineLocked (s : State) (pe : Nat) : Bool := (s.engineHerds pe).any fun h => (s.herdState h).locked

/-- A write of ENG_CTL.RST = 1 (R103, R485). -/
def State.engRst (s : State) (q : Requester) (pe : Nat) : State × Status :=
  if s.engineLocked pe then (s.wref q F.ENG_CTL_RST (pe / 32) (pe % 32), .refused) else (s.engineReset pe, .ok)



/-! ### Handlers -/

/-- A source is taken (R481, R482): its pending bit clears, ACTIVE is set, and the stack grows. -/
def State.takeSource (s : State) (pe src : Nat) : State :=
  let d := pe / 32; let e := pe % 32
  let n := s.get F.IRQ_STK_DEPTH d e
  let s := ((s.setPend d src false).put F.IRQ_SRC_ACTIVE 1 d src).put F.IRQ_STK_DEPTH (n + 1) d e
  if n = 0 then s.put F.IRQ_STK_LOWER src d e else s.put F.IRQ_STK_UPPER src d e

/-- FAST_INTERRUPT_ENTRY (R98). A pending fast source is taken at the next boundary into the fast bank and pushed on
the stack. -/
def execFastInterruptEntry (pe : Nat) (s : State) : Host.Outcome State Fault Refusal :=
  guarded (decide (pe < 32 * s.dies)) s <|
    let E := s.eng pe
    match s.pendingSource pe 1 with
    | none => s
    | some src =>
     if !s.engOn pe || E.trap || E.fast then s
     else
       let pc := BitVec.ofNat 15 (s.get F.IRQ_SRC_TARGET (pe / 32) src)
       (s.takeSource pe src).modEng pe fun E => { E with fast := true, fastPc := E.pc, fastHc := E.hc, pc := pc }


/-- The file index of register `r` of the frame at window `w` (R78). -/
def windowReg (w r : Nat) : Nat := if r < 12 then 12 * (w % 8) + r else 12 * ((w + 1) % 8) + (r - 12)

/-- CWP advances by one frame, with a link in the new frame's w11 (R78, R119). -/
def State.pushFrame (s : State) (pe : Nat) (link : BitVec 15) : State :=
  let d := pe / 32; let e := pe % 32
  let w := (s.get F.ENG_WIN_CWP d e + 1) % 8
  let s := (s.put F.ENG_WIN_CWP w d e).put F.ENG_WIN_WIN_USED (s.get F.ENG_WIN_WIN_USED d e + 1) d e
  s.modEng pe fun E => { E with regs := Store.set E.regs 0 (windowReg w 11) (link.zeroExtend 24) }

/-- CWP moves back by one frame; the PC continues at the frame's w11 (R119). -/
def State.popFrame (s : State) (pe : Nat) : State :=
  let d := pe / 32; let e := pe % 32
  let w := s.get F.ENG_WIN_CWP d e
  let s := (s.put F.ENG_WIN_CWP ((w + 7) % 8) d e).put F.ENG_WIN_WIN_USED (s.get F.ENG_WIN_WIN_USED d e - 1) d e
  s.modEng pe fun E => { E with pc := (Store.get E.regs 0 (windowReg w 11)).truncate 15 }

/-- Normal entry to `src` (R99, R481): from idle with a fresh frame, else as an implicit CALL that may take WOVF first. -/
def State.enterNormal (s : State) (pe src : Nat) : State :=
  let d := pe / 32; let e := pe % 32
  let E := s.eng pe
  let pc := BitVec.ofNat 15 (s.get F.IRQ_SRC_TARGET d src)
  if E.task.isNone then
    ((s.takeSource pe src).resetWindows pe).modEng pe fun E =>
      { E with regs := clearRegs E.regs 0 16, normal := true, normalIdle := true, pc := pc }
  else if s.get F.ENG_WIN_WIN_USED d e = 8 then s.takeTrap pe trapWOVF
  else
    ((s.takeSource pe src).pushFrame pe E.pc).modEng pe fun E =>
      { E with normal := true, normalIdle := false, pc := pc }

/-- NORMAL_INTERRUPT_ENTRY (R99). A pending normal source is taken at an instruction boundary as an implicit call and
pushed on the stack. -/
def execNormalInterruptEntry (pe : Nat) (s : State) : Host.Outcome State Fault Refusal :=
  guarded (decide (pe < 32 * s.dies)) s <|
    let E := s.eng pe
    match s.pendingSource pe 0 with
    | none => s
    | some src =>
     if !s.engOn pe || E.trap || E.fast || E.normal || E.resume.isSome || (s.pendingSource pe 1).isSome then s
     else s.enterNormal pe src


/-- An out-of-order completion (R484): the engine stops with its stack frozen, recorded. -/
def State.freezeEngine (s : State) (pe src : Nat) : State :=
  let d := pe / 32; let e := pe % 32
  let s := ((s.put F.IRQ_STK_FROZEN 1 d e).putBit F.IRQ_ESTAT_ENG e true d).modEng pe fun E =>
    { E with frozen := true, pc := E.pc + 1 }
  (s.syncLine d 206).hwRecord d 0x0901 none noLeg pe src
    (s.get F.IRQ_STK_LOWER d e * 512 + s.get F.IRQ_STK_UPPER d e)

/-- An EOI names the source on top of the engine's stack (R483). -/
def State.eoiMatches (s : State) (pe src : Nat) : Bool :=
  let d := pe / 32; let e := pe % 32
  let n := s.get F.IRQ_STK_DEPTH d e
  decide (n ≠ 0) && decide ((if n = 2 then s.get F.IRQ_STK_UPPER d e else s.get F.IRQ_STK_LOWER d e) = src)

/-- EOI of source `src` (R483, R484). -/
def State.completeSource (s : State) (pe src : Nat) : State :=
  let d := pe / 32; let e := pe % 32
  let n := s.get F.IRQ_STK_DEPTH d e
  if !s.eoiMatches pe src then s.freezeEngine pe src
  else
    let s := s.put F.IRQ_STK_DEPTH (n - 1) d e
    let s := if n = 2 then s.put F.IRQ_STK_UPPER 0x1FF d e else s.put F.IRQ_STK_LOWER 0x1FF d e
    let s := s.put F.IRQ_SRC_ACTIVE 0 d src
    let s := if isLevel src then s.sampleLevel d src else s
    let E := s.eng pe
    if E.fast then s.modEng pe fun E => { E with fast := false, pc := E.fastPc }
    else if E.normalIdle then s.modEng pe fun E => { E with normal := false, normalIdle := false }
    else (s.popFrame pe).modEng pe fun E => { E with normal := false }

end Sys2Proof.Machine
end

