-- ==== Sys2Proof/Machine/Registers.lean ====
section
/-!
DEFINITION. The register map: which register lies at an address (R562, R563, R571), what a read of it returns (R11, R12,
R569), and what a read does (R182, R186, R401, R469). Status fields that show what a unit is doing are formed when they are
read. Writes are in RegWrite.lean.
-/
namespace Sys2Proof.Machine

/-! ### Addresses -/

/-- A register word: its row of the index, the die, and its instance numbers. -/
structure Site where
  reg : Reg
  d : Nat
  i : Nat
  j : Nat

/-- What lies at an address (R562, R563): nothing that answers, an offset of a block that the index does not list, or a
register. -/
inductive Place where
  | absent
  | hole
  | word (x : Site)

/-- The instance of a row at block offset `off`, if there is one (R571). -/
def Reg.instance? (r : Reg) (off : Nat) : Option (Nat × Nat) :=
  let x := off - r.off
  let i := if r.s1 = 0 then 0 else x / r.s1
  let j := if r.s2 = 0 then 0 else (x - i * r.s1) / r.s2
  if r.off ≤ off ∧ i < r.n1 ∧ j < r.n2 ∧ i * r.s1 + j * r.s2 = x then some (i, j) else none

/-- The register at offset `off` of the package blocks or of die `d`'s blocks. -/
def placeIn (die : Bool) (d off : Nat) : Place :=
  match regTable.findSome? (fun r => if r.die = die then (r.instance? off).map fun p => Site.mk r d p.1 p.2 else none) with
  | some x => .word x
  | none => .hole

/-- What lies at byte address `a` of a member with `dies` dies (R562, R563). -/
def placeOf (dies a : Nat) : Place :=
  if a < 0x60000 then placeIn false 0 a
  else if 0x10000000 ≤ a ∧ a < 0x10000000 + dies * 0x1000000 ∧ a % 0x1000000 < 0x100000 then
    placeIn true (a / 0x1000000 - 16) (a % 0x1000000)
  else .absent

/-- The package state from which the block at an address answers (R538, R565): BOOT (1) for PKG, DIE_SYS and FLASH, AGREE (2)
for every other. -/
def blockLevel (a : Nat) : Nat :=
  if a < 0x10000 then 1
  else if a < 0x60000 then 2
  else if a % 0x1000000 < 0x10000 ∨ a % 0x1000000 / 0x10000 = 0xE then 1 else 2

/-- The instance numbers of the field that the word acts on: a cursor of the requester, or what it selects (R103, R157,
R469). -/
def State.bankOf (s : State) (q : Requester) (x : Site) : Nat × Nat :=
  match x.reg.id with
  | .Q_SEL | .Q_RES | .REC_CURSOR | .REC_CSEL => (q.index, 0)
  | .Q_CFG | .Q_SIZE | .Q_BASE | .Q_STAT | .Q_FLUSH => (s.get F.Q_SEL_QUEUE x.d q.index, 0)
  | .ENG_TSEL => (x.i, q.index)
  | .ENG_TCFG | .ENG_THC | .ENG_TSTAT | .ENG_TFLG => (x.i, s.get F.ENG_TSEL_TASK x.d x.i q.index)
  | .REC_WIN => (q.index, x.i)
  | _ => (x.i, x.j)

/-! ### What a read returns -/

/-- Bits `lo` up of a word replaced by a field of `w` bits. -/
def setField (v lo w x : Nat) : Nat := v - v / 2 ^ lo % 2 ^ w * 2 ^ lo + x % 2 ^ w * 2 ^ lo

/-- The stored fields of a word; WO fields read zero (R12). -/
def State.rawWord (s : State) (q : Requester) (x : Site) : Nat :=
  let b := s.bankOf q x
  x.reg.flds.foldl (fun a G => if G.cls = .wo then a else a + s.get G x.d b.1 b.2 * 2 ^ G.lo) 0

/-- The remote reads of die `d` that are outstanding (R161, R162). -/
def State.readsOut (s : State) (d : Nat) : Nat :=
  (s.ring.filter fun x => decide (x.src = d) && (match x.op with | .read _ | .regRead _ _ => true | _ => false)).length

/-- A transaction from die `a` to die `b` passes the output of die `d` in one direction (R27, R158). -/
def State.onWay (s : State) (a b d : Nat) (asc : Bool) : Bool :=
  s.ringAscending a b == asc &&
  (if asc then decide ((d + s.dies - a) % s.dies < (b + s.dies - a) % s.dies)
   else decide ((a + s.dies - d) % s.dies < (a + s.dies - b) % s.dies))

/-- The credits of an output that are in use (R158): a request holds one at every hop of its way until it is answered, a response
one at every hop of the way back until it has landed. -/
def State.creditsUsed (s : State) (d : Nat) (asc rsp : Bool) : Nat :=
  (s.ring.filter fun x =>
    match x.stage with
    | .request | .retry => !rsp && s.onWay x.src x.dst d asc
    | .blocked => false
    | .answered _ _ => rsp && s.onWay x.dst x.src d asc).length

/-- The free credits of an output (R158, R161). -/
def State.creditsFree (s : State) (d : Nat) (asc rsp : Bool) : Nat :=
  (if rsp then 16 else 48) - s.creditsUsed d asc rsp

/-- DIE_ID of die `d` (R571). -/
def dieIdWord (d : Nat) : Nat := if d = 0 then 0x40 else if d = 1 then 0x81 else 8 * (d / 2) + d

/-- The lines of level sources in IRQ_LINE word `w` of die `d` (R475). -/
def State.lineWord (s : State) (d w : Nat) : Nat :=
  ((List.range 32).filter fun b => isLevel (32 * w + b) && s.lineOf d (32 * w + b)).foldl (fun a b => a + 2 ^ b) 0

/-- The roster entry that CH_RSEL selects, as CH_RDAT shows it (R521). -/
def State.rosterWord (s : State) : Nat :=
  match s.rosterEntry (s.get F.CHN_RSEL_ADDR) with
  | some e => 2 ^ 31 + (if e.excl then 2 ^ 30 else 0) + e.proto.toNat * 2 ^ 16 + e.gen.toNat * 2 ^ 8
  | none => 0

/-- The sector that FL_ADDR names, as FL_SSTAT shows it (R474). -/
def State.sectorWord (s : State) (d v : Nat) : Nat :=
  let c := s.get F.FL_ADDR_ROW d / 512
  setField (setField v F.FL_SSTAT_STATE.lo F.FL_SSTAT_STATE.width (s.sector d c).state) F.FL_SSTAT_LOCK.lo 1
    (if s.sectorLock d c then 1 else 0)

/-- A word of the time and engine blocks as it is read: `v` holds its stored fields. -/
def State.viewTime (s : State) (q : Requester) (x : Site) (v : Nat) : Nat :=
  let d := x.d; let i := x.i
  match x.reg.id with
  | .DIE_ID => dieIdWord d
  | .TICK_LO => s.tick d % 2 ^ 32
  | .TICK_HI => s.latch q d 2
  | .ENG_STAT => setField v F.ENG_STAT_STATE.lo F.ENG_STAT_STATE.width (s.engState (d * 32 + i))
  | .IRQ_SRC => setField v 27 1 (if isLevel i then 1 else 0)
  | .IRQ_LINE => s.lineWord d i
  | .RING_STAT => setField v 0 9 (s.readsOut d)
  | .RING_CRED =>
    s.creditsFree d true false + s.creditsFree d true true * 2 ^ 8 + s.creditsFree d false false * 2 ^ 16 +
      s.creditsFree d false true * 2 ^ 24
  | _ => v

/-- A word of the leg, converter, comparator and herd blocks as it is read. -/
def State.viewUnit (s : State) (x : Site) (v : Nat) : Nat :=
  let d := x.d; let i := x.i
  match x.reg.id with
  | .GATE_STAT => setField v F.GATE_STAT_PGS.lo 1 (if s.gsLevel d i (s.tick d * 64) then 1 else 0)
  | .ADC_STAT => setField (setField v F.ADC_STAT_BUSY.lo 1 (if s.adcBusy d i then 1 else 0)) F.ADC_STAT_CUR_SLOT.lo 4 (s.slotShown d i)
  | .CAP_MK => s.capMkWord d i
  | .CAP_DATA => (s.captureWord d i (s.get F.CAP_PTR_PTR d i)).toNat
  | .CMP_THR => if s.dies = 8 then v % 64 else v
  | .CMP_STAT =>
    setField (setField v F.CMP_STAT_BLANKED.lo 1 (if s.cmpBlanked d i (s.tick d * 64) then 1 else 0)) F.CMP_STAT_RAW.lo 1
      (if s.cmpRuns d i && s.bit F.CMP_STAT_RAW d i then 1 else 0)
  | .HERD_CTL => if s.bit F.PKG_STRAP_COMPAT then setField v 23 1 1 else v
  | .HERD_STAT => setField v F.HERD_STAT_DIES.lo F.HERD_STAT_DIES.width (s.herdDies (d * 8 + i))
  | .CP_AGE => s.cpAge (d * 8 + i) x.j
  | .LAW_STAT => setField v F.LAW_STAT_HEEL_ACT.lo F.LAW_STAT_HEEL_ACT.width (s.heelAct (d * 8 + i))
  | .VSAT_TIME =>
    if s.bit F.LAW_STAT_VSAT_NOW d i then min (s.tick d - (s.herd (d * 8 + i)).vsatAt) (2 ^ 32 - 1) else v
  | _ => v

/-- A word of the metrology, flash and package blocks as it is read. -/
def State.viewPackage (s : State) (q : Requester) (x : Site) (v : Nat) : Nat :=
  let d := x.d; let i := x.i
  match x.reg.id with
  | .PAIL_HI | .PO_PAIL_HI | .SNAP_HI | .SNAP_THI => s.latch q d 0
  | .PO_THR_HI => if s.bit F.PKG_STRAP_COMPAT then 0 else v
  | .FL_SSTAT => s.sectorWord d v
  | .MU_INVAL => if s.bit F.MU_CFG_EN d i then s.invalidSecs d i else v
  | .PKG_ID => setField v F.PKG_ID_DIES.lo F.PKG_ID_DIES.width s.dies
  | .PKG_SLOT =>
    if i < s.dies then
      setField (setField v F.PKG_SLOT_STATE_A.lo 8 (s.slotState i 0)) F.PKG_SLOT_STATE_B.lo 8 (s.slotState i 1)
    else v
  | .PKG_KEYW => if s.ready || s.bit F.PKG_OTP_KEY_SET then s.otpWord i else v
  | .CHN_RDAT => s.rosterWord
  | .CHN_XHERD_LO | .CHN_XHERD_HI => if s.bit F.CHN_STAT_EXCL then 0 else v
  | _ => v

/-- The word that a read of a register returns. -/
def State.readWord (s : State) (q : Requester) (x : Site) : Nat :=
  s.viewPackage q x (s.viewUnit x (s.viewTime q x (s.rawWord q x)))

/-! ### What a read does -/

/-- The 64-bit counter whose low word lies at a site (R401). -/
def lowCounter (x : Site) : Option WideCounter :=
  match x.reg.id with
  | .PAIL_LO => some (.pail x.i x.j)
  | .PO_PAIL_LO => some (.output x.i)
  | .SNAP_LO => some (.snap x.i x.j)
  | .SNAP_TLO => some (.snapTick x.i)
  | _ => none

/-- The side effect of a read (R569): RC fields clear, a FIFO or a cursor moves on, a high word is latched. -/
def State.readTaken (s : State) (q : Requester) (x : Site) : State :=
  let d := x.d; let i := x.i
  match x.reg.id with
  | .TICK_LO => s.setLatch q d 2 (s.tick d / 2 ^ 32)
  | .ADC_DATA => s.adcDataTaken d i
  | .ADC_UDATA => s.put F.ADC_UDATA_NEW 0 d i
  | .CAP_MK => s.capMkTaken d i
  | .CAP_DATA => s.capDataTaken d i
  | .ENG_TFLG => s.put F.ENG_TFLG_FLAGS 0 d i (s.bankOf q x).2
  | .REC_WIN => if i = 7 then s.winTaken q.index else s
  | _ => match lowCounter x with | some c => s.wideTaken q d c | none => s

/-- One read of the word at address `a` (R563 to R565, R569). -/
def State.regRead (s : State) (q : Requester) (a : Nat) : State × Status × Nat :=
  match placeOf s.dies a with
  | .absent => (s, .refused, 0)
  | .hole => (s, if s.pkgState < blockLevel a then .notReady else .ok, 0)
  | .word x => if s.pkgState < blockLevel a then (s, .notReady, 0) else (s.readTaken q x, .ok, s.readWord q x)

/-- The present value of the word at address `a`, without any side effect (R89): zero where nothing answers. -/
def State.regPeek (s : State) (q : Requester) (a : Nat) : Nat :=
  match placeOf s.dies a with
  | .absent | .hole => 0
  | .word x => if s.pkgState < blockLevel a then 0 else s.readWord q x

end Sys2Proof.Machine
end

