-- ==== Sys2Proof/Machine/RegRules.lean ====
section
/-!
DEFINITION. How a register write is judged (R565 to R567, R570): which fields it would change, the herds whose state locks
its RWL fields, and the rules of the home chapters that refuse it.
-/
namespace Sys2Proof.Machine

/-- The value that a write of `v` carries for a field. -/
def Fld.cut (G : Fld) (v : Nat) : Nat := v / 2 ^ G.lo % 2 ^ G.width

/-- The value with which a write is compared: the shadow of an RWS field, else the present one (R566). -/
def State.held (s : State) (q : Requester) (x : Site) (G : Fld) : Nat :=
  let b := s.bankOf q x
  if G.cls = .rws then s.getSh G x.d b.1 b.2 else s.get G x.d b.1 b.2

/-- The write would change this RW, RWS or RWL field (R566). -/
def State.changes (s : State) (q : Requester) (x : Site) (v : Nat) (G : Fld) : Bool :=
  match G.cls with
  | .rw | .rws | .rwl | .own | .role => decide (G.cut v ≠ s.held q x G)
  | .ro | .w1c | .wo | .rc => false

/-- The write would change some field of the word. -/
def State.anyChange (s : State) (q : Requester) (x : Site) (v : Nat) : Bool := x.reg.flds.any (s.changes q x v)

/-! ### Ignored values -/

/-- A write value with a field put back to what it holds: that part of the write is ignored. -/
def State.keep (s : State) (q : Requester) (x : Site) (G : Fld) (v : Nat) : Nat := setField v G.lo G.width (s.held q x G)

/-- COMPAT acts on the herd of leg `n` of die `d` (R225, R542). -/
def State.legCompat (s : State) (d n : Nat) : Bool := match s.legHerd d n with | some h => s.compat h | none => false

/-- The value of a write once the parts that the spec ignores hold what is there already: TYPE 5 to 7 of a base, MODE 3 of a
converter, CMPT under COMPAT (R542), INP of a comparator of a modulator node, CMP_THR [9:6] of an EVH8, a fraction of an
output that has none, PO_THR_HI under COMPAT (R407), and the key words once they cannot be written (R561), and a clear of HIT on
the tick of a confirming decision (R211). A write that
changes RISE_DLY under CMPT writes both delays (R225). -/
def State.effective (s : State) (q : Requester) (x : Site) (v : Nat) : Nat :=
  match x.reg.id with
  | .AB_CFG => if 5 ≤ F.AB_CFG_TYPE.cut v then s.keep q x F.AB_CFG_TYPE v else v
  | .ADC_CFG => if F.ADC_CFG_MODE.cut v = 3 then s.keep q x F.ADC_CFG_MODE v else v
  | .HERD_CTL => if s.bit F.PKG_STRAP_COMPAT then s.keep q x F.HERD_CTL_CMPT v else v
  | .CMP_CFG => if x.i < 24 then s.keep q x F.CMP_CFG_INP v else v
  | .CMP_THR => if s.dies = 8 then setField v 6 4 0 else v
  | .CLK_OUTF => if x.i = 0 ∨ x.i = 5 then v else s.keep q x F.CLK_OUTF_FRAC v
  | .PO_THR_HI => if s.bit F.PKG_STRAP_COMPAT then s.keep q x F.PO_THR_HI_THR v else v
  | .AON_CMP_STAT => if Store.get s.aonRun.hitAt 0 x.i = s.tick 0 + 1 then setField v F.AON_CMP_STAT_HIT.lo 1 0 else v
  | .PKG_KEYW => if s.bit F.PKG_OTP_KEY_SET || s.ready then s.keep q x F.PKG_KEYW_WORD v else v
  | .LEG_CFG =>
    if s.legCompat x.d x.i && s.changes q x v F.LEG_CFG_RISE_DLY then setField v 0 16 (F.LEG_CFG_RISE_DLY.cut v) else v
  | _ => v

/-! ### Locks -/

/-- The herds of the legs of group `g` of die `d` (R246). -/
def State.groupHerds (s : State) (d g : Nat) : List Nat := (List.range 6).filterMap fun i => s.legHerd d (6 * g + i)

/-- The herds bound to what the masks of sample group `g` select (R189). -/
def State.sampleHerds (s : State) (d g : Nat) : List Nat :=
  ((List.range 8).filterMap fun n => if s.getBit F.SG_CONV_CONV n d g then s.adcHerd d n else none) ++
  (List.range 24).filterMap fun m => if s.getBit F.SG_MOD_MOD m d g then s.modHerd d m else none

/-- The herds bound to an enabled modulator input that uses clock `k` (R199). -/
def State.clockHerds (s : State) (d k : Nat) : List Nat :=
  (List.range 24).filterMap fun m =>
    if s.bit F.MOD_CFG_EN d m && decide (s.get F.MOD_CFG_CLK d m = k) then s.modHerd d m else none

/-- The herds whose state locks the RWL fields of a word (R567). -/
def State.lockHerds (s : State) (q : Requester) (x : Site) (v : Nat) : List Nat :=
  let d := x.d; let i := x.i
  match x.reg.id with
  | .AB_CFG | .AB_MULT | .AB_PHASE => (s.abHerd d i).toList
  | .MT_CFG | .MT_SRC => (s.mainsBases d i).filterMap (s.abHerd d)
  | .LEG_MODE | .LEG_MIN | .GATE_CFG | .GATE_DEF | .LEG_HSS | .REG_LCFG | .REG_LIPT | .DRV_LCFG => (s.legHerd d i).toList
  | .POS_CFG => s.groupHerds d (s.get F.POS_CFG_GRP d i) ++ s.groupHerds d (F.POS_CFG_GRP.cut v)
  | .POS_TAB => s.groupHerds d (s.get F.POS_CFG_GRP d i)
  | .ADC_CFG | .SLOT_A | .SLOT_B => (s.adcHerd d i).toList
  | .SG_CONV | .SG_MOD => s.sampleHerds d i
  | .MOD_CFG | .MOD_PT => (s.modHerd d i).toList
  | .MOD_CLK => s.clockHerds d i
  | .CMP_CFG | .CMP_BLK => ((s.tiedLeg d i).bind (s.legHerd d)).toList
  | .ENG_TCFG | .ENG_THC => (s.taskHerd (d * 32 + i) (s.bankOf q x).2).toList
  | .ENG_SPB | .ENG_TVEC => s.engineHerds (d * 32 + i)
  | _ => if x.reg.die = true ∧ 0x70000 ≤ x.reg.off ∧ x.reg.off < 0x71000 ∨ x.reg.id = .GATE_HPOL then [d * 8 + i] else []

/-- The class of a field refuses the write (R12, R566, R567). -/
def State.classRefuses (s : State) (q : Requester) (x : Site) (v : Nat) : Bool :=
  x.reg.flds.any (fun G => decide (G.cls = .rwl) && s.changes q x v G) &&
  (s.lockHerds q x v).any fun h => (s.herdStateAt x.d h).locked

/-! ### Rules of the home chapters -/

/-- A signed 24-bit number. -/
def int24 (v : Nat) : Int := (BitVec.ofNat 24 v).toInt

/-- Base `p` is `b` or a CARRIER whose chain of parents leads to `b`, with at most `n` steps. -/
def State.leadsTo (s : State) (d b : Nat) : Nat → Nat → Bool
  | 0, _ => false
  | n + 1, p =>
    decide (p = b) || (decide (s.get F.AB_CFG_TYPE d p = 4) && s.leadsTo d b n (s.get F.AB_CFG_PARENT d p))

/-- A write of PARENT or TYPE makes a base its own parent (R59). -/
def State.ownParent (s : State) (q : Requester) (x : Site) (v : Nat) : Bool :=
  (s.changes q x v F.AB_CFG_PARENT || s.changes q x v F.AB_CFG_TYPE) && decide (F.AB_CFG_TYPE.cut v = 4) &&
  s.leadsTo x.d x.i 17 (F.AB_CFG_PARENT.cut v)

/-- Comparator `n` is the phase comparator of a phase of an enabled manager (R313). -/
def State.isPhaseCmp (s : State) (d n : Nat) : Bool :=
  (List.range 24).any fun l => s.isPhase d l && decide (s.get F.REG_LCFG_CMP d l = n)

/-- Another enabled position port of the die drives group `g` (R244). -/
def State.groupTaken (s : State) (d k g : Nat) : Bool :=
  (List.range 8).any fun j => decide (j ≠ k) && s.bit F.POS_CFG_EN d j && decide (s.get F.POS_CFG_GRP d j = g)

/-- The rules of the chapters on time, legs, gates, converters and comparators. The write changes some field. -/
def State.unitRefuses (s : State) (q : Requester) (x : Site) (v : Nat) : Bool :=
  let d := x.d; let i := x.i
  let ch := s.changes q x v
  match x.reg.id with
  | .AB_CFG => s.ownParent q x v
  | .LEG_MODE =>
    (ch F.LEG_MODE_WAVE && decide (F.LEG_MODE_WAVE.cut v = 3)) || (ch F.LEG_MODE_BOUND && decide (F.LEG_MODE_BOUND.cut v = 3))
  | .LEG_CFG => s.legCompat d i && ch F.LEG_CFG_FALL_DLY && !ch F.LEG_CFG_RISE_DLY
  | .LEG_PHASE => s.isPhase d i
  | .POS_CFG => decide (F.POS_CFG_EN.cut v = 1) && (ch F.POS_CFG_EN || ch F.POS_CFG_GRP) && s.groupTaken d i (F.POS_CFG_GRP.cut v)
  | .GATE_CFG => decide (F.GATE_CFG_STR_MAX.cut v < F.GATE_CFG_STR_MIN.cut v) && (ch F.GATE_CFG_STR_MAX || ch F.GATE_CFG_STR_MIN)
  | .GATE_HPOL => s.bit F.GATE_HPOL_ACTIVE d i
  | .SLOT_A => ch F.SLOT_A_INP && decide (F.SLOT_A_INP.cut v = 7)
  | .SLOT_B => decide (s.dies ≤ pointDie (F.SLOT_B_POINT.cut v))
  | .WC_CFG => ch F.WC_CFG_EN && decide (F.WC_CFG_EN.cut v = 1) && decide (s.getI F.WC_HI_HI d i < s.getI F.WC_LO_LO d i)
  | .WC_LO => s.bit F.WC_CFG_EN d i && decide (s.getI F.WC_HI_HI d i < int24 v)
  | .WC_HI => s.bit F.WC_CFG_EN d i && decide (int24 v < s.getI F.WC_LO_LO d i)
  | .MOD_CFG =>
    (ch F.MOD_CFG_OSR && decide (5 ≤ F.MOD_CFG_OSR.cut v)) || (ch F.MOD_CFG_SC_OSR && decide (F.MOD_CFG_SC_OSR.cut v = 3))
  | .MOD_CLK =>
    decide (F.MOD_CLK_EN.cut v = 1) && (decide (F.MOD_CLK_DIV.cut v < 3) || decide (19 < F.MOD_CLK_DIV.cut v))
  | .CMP_CFG => ch F.CMP_CFG_INP && decide (24 ≤ i) && decide (6 ≤ F.CMP_CFG_INP.cut v % 8)
  | .CMP_THR => s.isPhaseCmp d i
  | .REF_CFG => s.ready
  | _ => false

/-- The rules of the chapters on herds and roles. The write changes some field. -/
def State.herdRefuses (s : State) (q : Requester) (x : Site) (v : Nat) : Bool :=
  let d := x.d; let i := x.i
  let ch := s.changes q x v
  match x.reg.id with
  | .HERD_CTL =>
    (ch F.HERD_CTL_SAFE_MODE && decide (F.HERD_CTL_SAFE_MODE.cut v = 3)) ||
    (ch F.HERD_CTL_FLT_MODE && decide (F.HERD_CTL_FLT_MODE.cut v = 3)) ||
    (ch F.HERD_CTL_ROLE && (match s.herdState (d * 8 + i) with
      | .unbound | .bound => false
      | .armed | .running | .stopping | .faulted | .safe => true))
  | .CP_CFG => ch F.CP_CFG_WRITER && decide (65 < F.CP_CFG_WRITER.cut v)
  | .HEEL_SRC => ch F.HEEL_SRC_POINT && decide (pointDie (F.HEEL_SRC_POINT.cut v) ≠ d)
  | .HEEL_TGT => decide (pointDie (F.HEEL_TGT_POINT.cut v) ≠ d)
  | .HEEL_OUT => decide (pointDie (F.HEEL_OUT_POINT.cut v) ≠ d)
  | .REG_IADD => decide (int24 v ≤ s.getI F.REG_ISHED_I_SHED d i)
  | .REG_ISHED => decide (s.getI F.REG_IADD_I_ADD d i ≤ int24 v)
  | .REG_IBURST => decide (s.getI F.REG_IBEXIT_I_BEXIT d i ≤ int24 v)
  | .REG_IBEXIT => decide (int24 v ≤ s.getI F.REG_IBURST_I_BURST d i)
  | .SRC_LO => decide (s.getI F.SRC_HI_HI d i x.j < int24 v)
  | .SRC_HI => decide (int24 v < s.getI F.SRC_LO_LO d i x.j)
  | .DRV_CFG =>
    (ch F.DRV_CFG_POS && decide (F.DRV_CFG_POS.cut v = 3)) || (ch F.DRV_CFG_STAGE && decide (F.DRV_CFG_STAGE.cut v = 3))
  | .DRV_QW =>
    let t := F.DRV_QW_PRE.cut v + F.DRV_QW_POST.cut v
    decide (t < 10) || decide (200 < t) || (ch F.DRV_QW_SAT && decide (F.DRV_QW_SAT.cut v = 3))
  | .DRV_FLY => ch F.DRV_FLY_FLY_T && (decide (F.DRV_FLY_FLY_T.cut v < 2) || decide (20 < F.DRV_FLY_FLY_T.cut v))
  | .CH_VON => decide (int24 v ≤ s.getI F.CH_VOFF_VOFF d i)
  | .CH_VOFF => decide (s.getI F.CH_VON_VON d i ≤ int24 v)
  | .GRD_CFG => ch F.GRD_CFG_QMODE && decide (4 ≤ F.GRD_CFG_QMODE.cut v)
  | .GRD_VRT => ch F.GRD_VRT_ACT && decide (F.GRD_VRT_ACT.cut v = 3)
  | .GRD_VV => decide (F.GRD_VV_V2.cut v < F.GRD_VV_V1.cut v) || decide (s.get F.GRD_VV2_V3 d i < F.GRD_VV_V2.cut v)
  | .GRD_VV2 => decide (F.GRD_VV2_V3.cut v < s.get F.GRD_VV_V2 d i) || decide (F.GRD_VV2_V4.cut v < F.GRD_VV2_V3.cut v)
  | .TRK_CFG => ch F.TRK_CFG_SWEEP_MIN && decide (F.TRK_CFG_SWEEP_MIN.cut v = 0)
  | _ => false

/-- Writes of the outputs of the PLL that are refused (R492). -/
def State.clockRefuses (s : State) (x : Site) (div frac : Nat) : Bool :=
  match x.i with
  | 0 | 1 | 2 | 3 | 4 => s.ready || decide (div < 16)
  | _ => s.bit F.RG_CFG_RUN x.d 1 || decide (div < 16) || decide (div * 65536 + frac < 10 * 2 ^ 19)

/-- CH_CFG keeps the transaction timeout at 200 µs and at five retry budgets (R529). -/
def chainTimes (tmo n t : Nat) : Bool :=
  decide (200 ≤ tmo) && decide (n ≤ 4) && decide (2 ≤ t) && decide (t ≤ 8) && decide (5 * ((n + 1) * t) ≤ tmo)

/-- The rules of the chapters on engines, interrupts, clocks, metrology and the package blocks. The write changes some
field. -/
def State.packageRefuses (s : State) (q : Requester) (x : Site) (v : Nat) : Bool :=
  let d := x.d; let i := x.i
  let ch := s.changes q x v
  let others := fun (G : Fld) => x.reg.flds.any fun H => decide (H.lo ≠ G.lo) && ch H
  match x.reg.id with
  | .ENG_SPB => decide (0x800 < F.ENG_SPB_SPLIM.cut v) || decide (F.ENG_SPB_SPLIM.cut v ≤ F.ENG_SPB_SPBASE.cut v)
  | .IRQ_SRC => s.bit F.IRQ_SRC_ACTIVE d i && others F.IRQ_SRC_EN
  | .CLK_OUT => s.clockRefuses x (F.CLK_OUT_DIV.cut v) (s.get F.CLK_OUTF_FRAC d i)
  | .CLK_OUTF => s.clockRefuses x (s.get F.CLK_OUT_DIV d i) (F.CLK_OUTF_FRAC.cut v)
  | .RG_PT | .RG_DW => s.bit F.RG_CFG_RUN d i
  | .MU_CFG => s.bit F.MU_CFG_EN d i && others F.MU_CFG_EN
  | .MC_SRC => s.bit F.MU_CFG_EN d i || decide (24 ≤ F.MC_SRC_MOD.cut v)
  | .PO_CFG => s.bit F.PO_CFG_EN d i && others F.PO_CFG_EN
  | .PO_THR_LO | .PO_THR_HI => s.bit F.PO_CFG_EN d i
  | .S0_CFG => ch F.S0_CFG_MINW && (decide (F.S0_CFG_MINW.cut v < 10) || decide (100 < F.S0_CFG_MINW.cut v))
  | .AON_CFG =>
    (ch F.AON_CFG_FOC && (decide (F.AON_CFG_FOC.cut v < 25) || decide (75 < F.AON_CFG_FOC.cut v))) ||
    (ch F.AON_CFG_DARK_H && decide (F.AON_CFG_DARK_H.cut v = 0)) ||
    (ch F.AON_CFG_LCAP && (decide (F.AON_CFG_LCAP.cut v < 10) || decide (220 < F.AON_CFG_LCAP.cut v)))
  | .AON_LMAX => decide (40 < F.AON_LMAX_CODE.cut v)
  | .AON_ALM => ch F.AON_ALM_PCT && decide (100 < F.AON_ALM_PCT.cut v)
  | .CAN_NBT | .CAN_DBT => s.bit F.CAN_CFG_EN 0 i
  | .PMB_CFG => ch F.PMB_CFG_ADDR && s.bit F.PMB_CFG_EN
  | .CHN_CFG => !chainTimes (F.CHN_CFG_TMO.cut v) (F.CHN_CFG_RETRY_N.cut v) (F.CHN_CFG_RETRY_T.cut v)
  | .CHN_XHERD_LO | .CHN_XHERD_HI => decide (s.get F.CHN_STAT_STATE ≠ 2) || s.bit F.CHN_STAT_EXCL
  | _ => false

/-- A write of value `v` (its ignored parts already put back) is refused as a whole (R566). -/
def State.writeRefused (s : State) (q : Requester) (x : Site) (v : Nat) : Bool :=
  s.classRefuses q x v ||
  (s.anyChange q x v && (s.unitRefuses q x v || s.herdRefuses q x v || s.packageRefuses q x v))

/-- The refusal is counted, with the requester and the offset of the word (R570). -/
def State.refuseAt (s : State) (q : Requester) (x : Site) : State :=
  let off := x.reg.off + x.i * x.reg.s1 + x.j * x.reg.s2
  if x.reg.die then s.wrefDie q x.d off else s.wrefPkg q off

end Sys2Proof.Machine
end

