-- ==== Sys2Proof/Machine/RegWrite.lean ====
section
/-!
DEFINITION. Register writes (R564 to R570): the words that are commands, the fields that a write stores, the enables that
check their conditions, and what follows from a stored field.
-/
namespace Sys2Proof.Machine

/-! ### Storing fields -/

/-- One field stored as its class gives (R12); commands and result fields are not stored. -/
def State.storeField (s : State) (q : Requester) (x : Site) (v : Nat) (G : Fld) : State :=
  let b := s.bankOf q x
  match G.cls with
  | .rw | .rwl => s.put G (G.cut v) x.d b.1 b.2
  | .rws => s.putSh G (G.cut v) x.d b.1 b.2
  | .w1c => s.put G (s.get G x.d b.1 b.2 &&& (2 ^ G.width - 1 - G.cut v)) x.d b.1 b.2
  | .ro | .wo | .rc | .own | .role => s

/-- Every field of the word stored, but for the one whose lowest bit is `skip` (a rising enable). -/
def State.storeWord (s : State) (q : Requester) (x : Site) (v : Nat) (skip : Option Nat) : State :=
  x.reg.flds.foldl (fun s G => if skip = some G.lo then s else s.storeField q x v G) s

/-- Every field of the word put back to what `old` holds. -/
def State.restoreWord (s old : State) (q : Requester) (x : Site) : State :=
  let b := old.bankOf q x
  x.reg.flds.foldl (fun s G => s.put G (old.get G x.d b.1 b.2) x.d b.1 b.2) s

/-- The status that a result field reports: REFUSED or OK (R564, R570). -/
def State.resStatus (s : State) (G : Fld) (d i j : Nat) : Status := if s.get G d i j = Status.refused.code then .refused else .ok

/-! ### Words that are commands -/

/-- Writes of Q_CFG (R145, R146). -/
def State.writeQueueCfg (s : State) (q : Requester) (x : Site) (v : Nat) : State × Status :=
  let d := x.d
  let n := s.get F.Q_SEL_QUEUE d q.index
  let en := decide (F.Q_CFG_EN.cut v = 1)
  let other := s.changes q x v F.Q_CFG_KIND || s.changes q x v F.Q_CFG_OWNER
  if s.bit F.Q_CFG_EN d n then
    if other then (s.refuseAt q x, .refused)
    else if en then (s, .ok)
    else s.queueDisable d n q.index
  else
    let t := (s.put F.Q_CFG_KIND (F.Q_CFG_KIND.cut v) d n).put F.Q_CFG_OWNER (F.Q_CFG_OWNER.cut v) d n
    if !en then (t, .ok)
    else
      let r := t.queueEnable d n q.index
      if r.2 = .ok then r else (r.1.restoreWord s q x, .refused)

/-- Writes of Q_SIZE and Q_BASE (R146). -/
def State.writeQueueSize (s : State) (q : Requester) (x : Site) (v : Nat) : State × Status :=
  if s.bit F.Q_CFG_EN x.d (s.get F.Q_SEL_QUEUE x.d q.index) && s.anyChange q x v then (s.refuseAt q x, .refused)
  else (s.storeWord q x v none, .ok)

/-- Writes of RG_CFG (R494). -/
def State.writeRamp (s : State) (q : Requester) (x : Site) (v : Nat) : State × Status :=
  let d := x.d; let r := x.i
  let runs := s.bit F.RG_CFG_RUN d r
  let last := s.changes q x v F.RG_CFG_LAST
  let mode := s.changes q x v F.RG_CFG_MODE
  if F.RG_CFG_RUN.cut v = 1 then
    if last || runs then (s.put F.RG_STAT_RES Status.refused.code d r, .refused)
    else
      let p := (s.put F.RG_CFG_MODE (F.RG_CFG_MODE.cut v) d r).rampRun d r
      if p.2 = .ok then p else (p.1.restoreWord s q x, .refused)
  else if runs then
    if last || mode then (s.refuseAt q x, .refused) else (s.rampStop d r, .ok)
  else ((s.put F.RG_CFG_MODE (F.RG_CFG_MODE.cut v) d r).put F.RG_CFG_LAST (F.RG_CFG_LAST.cut v) d r, .ok)

/-- Writes of ENG_CTL (R103). -/
def State.writeEngCtl (s : State) (q : Requester) (x : Site) (v : Nat) : State × Status :=
  let pe := x.d * 32 + x.i
  let rst := decide (F.ENG_CTL_RST.cut v = 1)
  if rst && s.engineLocked pe then (s.refuseAt q x, .refused)
  else
    let stop := s.changes q x v F.ENG_CTL_STOP
    let s := if rst then s.engineReset pe else s
    let s := s.put F.ENG_CTL_EN (F.ENG_CTL_EN.cut v) x.d x.i
    (if stop || rst then s.engStop pe (decide (F.ENG_CTL_STOP.cut v = 1)) else s, .ok)

/-- Writes of IRQ_PEND (R487): a 1 cancels; a level source whose line is active pends on (R475). -/
def State.cancelPend (s : State) (d w v : Nat) : State :=
  forEach ((List.range 32).filter fun b => v.testBit b) (fun s b =>
    let src := 32 * w + b
    let s := s.setPend d src false
    if isLevel src && !s.bit F.IRQ_SRC_MODE d src then s.sampleLevel d src else s) s

/-- Writes of IRQ_ESTAT (R487): the bit of an engine that is still frozen stays. -/
def State.clearEstat (s : State) (d v : Nat) : State :=
  (forEach ((List.range 32).filter fun e => v.testBit e && !(s.eng (d * 32 + e)).frozen)
    (fun s e => s.putBit F.IRQ_ESTAT_ENG e false d) s).syncLine d 206

/-- Writes of DRV_WSCMD (R346, R348): 0 does nothing. -/
def State.shortWrite (s : State) (h cmd : Nat) : State × Status :=
  let t := match cmd with | 0 => s | 3 => s.shortRelease h | _ => s.shortCommand h cmd
  (t, if cmd = 0 then .ok else t.resStatus F.DRV_STAT_WS_RES (h / 8) (h % 8) 0)

/-- Writes of an owner entry's register (R293). -/
def State.writeOwner (s : State) (q : Requester) (x : Site) (kind : OwnKind) (v : Nat) : State × Status :=
  let f := ownFields kind
  if s.anyChange q x v then s.ownerWrite q x.d kind x.i (decide (f.1.cut v = 1)) (f.2.1.cut v) else (s, .ok)

/-- The words of a die that are commands, are held by another unit than a register, or write through an operation of their
chapter; none where the word is stored field by field. -/
def State.dieCommand (s : State) (q : Requester) (x : Site) (v : Nat) : Option (State × Status) :=
  let d := x.d; let i := x.i; let h := x.d * 8 + x.i
  let yes := fun (t : State) => some (t, Status.ok)
  match x.reg.id with
  | .DIE_WREF => yes (if F.DIE_WREF_CLR.cut v = 1 then s.put F.DIE_WREF_CNT 0 d else s)
  | .AB_INC => yes (s.writeInc d i (BitVec.ofNat 32 v))
  | .AB_ANGLE => some (s.writeAngle q d i (BitVec.ofNat 32 v))
  | .AB_CORR => yes (s.writeCorr d i (BitVec.ofNat 32 v))
  | .LEG_FORCE => some (s.writeForce q d i (F.LEG_FORCE_FORCE.cut v))
  | .GRP_MASK =>
    let m := F.GRP_MASK_MASK.cut v
    let bad := (List.range 6).any fun k => s.isPhase d (6 * i + k) && decide (m.testBit k ≠ s.getBit F.GRP_MASK_MASK k d i)
    some (s.writeMask q d i m, if bad then .refused else .ok)
  | .LA_CMD => yes (s.loadAllWith (d * 8 + F.LA_CMD_HERD.cut v) true)
  | .GATE_TCLR => yes (if F.GATE_TCLR_CLR.cut v = 1 then s.tripClear d i else s)
  | .CMP_STAT => yes (if F.CMP_STAT_LATCH.cut v = 1 then s.clearLatch d i (s.tick d * 64) else s)
  | .HERD_CMD =>
    let c := F.HERD_CMD_CMD.cut v
    let t := s.herdCommand q h c
    some (t, if c = 0 then .ok else t.resStatus F.HERD_STAT_CMD_RES d i 0)
  | .HEEL_CMD => yes (forEach ((List.range 4).filter fun j => v.testBit j) (fun s j => s.heelStart h j) s)
  | .DRV_FCMD => yes (if F.DRV_FCMD_SEEDED.cut v = 1 then s.modDrv h fun D => { D with seeded := true } else s)
  | .DRV_WSCMD => some (s.shortWrite h (F.DRV_WSCMD_CMD.cut v))
  | .TRK_GMP =>
    some (s.trackGmp q h (BitVec.ofNat 24 v), if s.bit F.TRK_STAT_WAIT_GMP d i then .ok else .refused)
  | .OWN_LEG => some (s.writeOwner q x .leg v)
  | .OWN_ADC => some (s.writeOwner q x .adc v)
  | .OWN_MOD => some (s.writeOwner q x .mod v)
  | .OWN_AB => some (s.writeOwner q x .ab v)
  | .ENG_CTL => some (s.writeEngCtl q x v)
  | .ENG_DISP => yes (s.engDisp q (d * 32 + i) (F.ENG_DISP_ARG.cut v) (F.ENG_DISP_TASK.cut v))
  | .Q_CFG => some (s.writeQueueCfg q x v)
  | .Q_SIZE | .Q_BASE => some (s.writeQueueSize q x v)
  | .Q_FLUSH => yes (if F.Q_FLUSH_FLUSH.cut v = 1 then s.flushQueue d (s.get F.Q_SEL_QUEUE d q.index) else s)
  | .IRQ_PEND => yes (s.cancelPend d i v)
  | .IRQ_HPEND => yes (s.hpendClear d i v)
  | .IRQ_SWSET => some (s.swSet q d (F.IRQ_SWSET_SRC.cut v))
  | .IRQ_ESTAT => yes (s.clearEstat d v)
  | .PWR_DOM =>
    let r := F.PWR_DOM_REQ.cut v
    if r = 3 then yes s
    else
      let t := s.pwrRequest d i r (decide (F.PWR_DOM_FORCE.cut v = 1))
      some (t, t.resStatus F.PWR_DOM_RES d i 0)
  | .CLU_OP => some (s.opWrite d i (F.CLU_OP_VSEL.cut v) (F.CLU_OP_FSEL.cut v))
  | .RG_CFG => some (s.writeRamp q x v)
  | _ => none

/-- As `dieCommand`, for the metrology, flash and package blocks. -/
def State.packageCommand (s : State) (q : Requester) (x : Site) (v : Nat) : Option (State × Status) :=
  let d := x.d; let i := x.i
  let yes := fun (t : State) => some (t, Status.ok)
  match x.reg.id with
  | .MU_CMD =>
    let s := if F.MU_CMD_CALCHK.cut v = 1 then s.calCheck d i else s
    yes (if F.MU_CMD_SNAP.cut v = 1 then s.snapshot d i else s)
  | .MC_OFS => yes (s.correctionWrite d i x.j .ofs (F.MC_OFS_OFS.cut v))
  | .MC_GAIN => yes (s.correctionWrite d i x.j .gain (F.MC_GAIN_GAIN.cut v))
  | .MC_DLY => yes (s.correctionWrite d i x.j .dly (F.MC_DLY_DLY.cut v))
  | .PAIL_LO => yes (s.wideWrite q d (.pail i x.j) v false)
  | .PO_PAIL_LO => yes (s.wideWrite q d (.output i) v false)
  | .PAIL_HI | .PO_PAIL_HI => yes (s.holdHigh q d v)
  | .S0_CNT => yes (s.s0Write d i v false)
  | .FL_CMD => if F.FL_CMD_CMD.cut v = 0 then yes s else some (s.flashCommand d (F.FL_CMD_CMD.cut v))
  | .PKG_CMD =>
    let c := F.PKG_CMD_CMD.cut v
    let t := s.pkgCommand c
    if c = 0 then yes s else some (t, if c = 0x5E then .ok else t.resStatus F.PKG_CRES_RES 0 0 0)
  | .PKG_OTPCMD =>
    let c := F.PKG_OTPCMD_CMD.cut v
    let t := s.otpCommand c
    if c = 0 then yes s else some (t, t.resStatus F.PKG_CRES_RES 0 0 0)
  | .PKG_WREF => yes (if F.PKG_WREF_CLR.cut v = 1 then s.put F.PKG_WREF_CNT 0 else s)
  | .REC_CMD =>
    let c := F.REC_CMD_CMD.cut v
    let t := s.recCommand c
    if c = 0 then yes s else some (t, t.resStatus F.REC_STAT_CMD_RES 0 0 0)
  | .REC_CURSOR => yes (s.selectRecord q.index v)
  | .CHN_HCMD =>
    some (s.hostChain q (F.CHN_HCMD_DST.cut v) (F.CHN_HCMD_TYPE.cut v) (decide (F.CHN_HCMD_REUSE.cut v = 1)) (F.CHN_HCMD_N.cut v))
  | _ => none

/-! ### Enables -/

/-- The enable field of a word whose 0 to 1 write runs an operation of its chapter, with that operation. -/
def State.enableOf (q : Requester) (x : Site) : Option (Fld × (State → State)) :=
  let d := x.d; let i := x.i; let h := x.d * 8 + x.i
  match x.reg.id with
  | .AB_CFG => some (F.AB_CFG_RUN, fun s => s.runBase d i true)
  | .MT_CFG => some (F.MT_CFG_EN, fun s => s.trackerEnable d i)
  | .LEG_MODE => some (F.LEG_MODE_EN, fun s => s.legStart d i)
  | .GATE_CFG => some (F.GATE_CFG_EN, fun s => (s.put F.GATE_CFG_EN 1 d i).preload d i)
  | .HEEL_SRC => some (F.HEEL_SRC_EN, fun s => s.heelEnable h x.j)
  | .OSC_CFG => some (F.OSC_CFG_EN, fun s => (s.put F.OSC_CFG_EN 1 d i x.j).oscStart h x.j)
  | .REG_CFG => some (F.REG_CFG_EN, fun s => s.regEnable q h)
  | .DRV_CFG => some (F.DRV_CFG_EN, fun s => s.driveEnable q h)
  | .CH_CFG => some (F.CH_CFG_EN, fun s => s.chopEnable q h)
  | .GRD_CFG => some (F.GRD_CFG_EN, fun s => s.gridEnable q h)
  | .TRK_CFG => some (F.TRK_CFG_EN, fun s => s.trackEnable q h)
  | .MU_CFG => some (F.MU_CFG_EN, fun s => s.meterEnable d i)
  | .PO_CFG => some (F.PO_CFG_EN, fun s => s.pulseEnable q d i)
  | _ => none

/-! ### What follows from a stored word -/

/-- The codes of leg `n` go to GATE_DEF while adaptation is off (R262). -/
def State.syncCodes (s : State) (d n : Nat) : State :=
  if s.bit F.GATE_CFG_ADAPT d n then s
  else s.put F.GATE_STR_CODES (s.get F.GATE_DEF_HS_ON d n * 4096 + s.get F.GATE_DEF_HS_OFF d n * 256 +
    s.get F.GATE_DEF_LS_ON d n * 16 + s.get F.GATE_DEF_LS_OFF d n) d n

/-- GRP_MASK.PORT of group `g`: the table of the enabled port that drives it, at that port's state, else 0x3F (R238, R242). -/
def State.syncPort (s : State) (d g : Nat) : State :=
  let m := match (List.range 8).find? fun k => s.bit F.POS_CFG_EN d k && decide (s.get F.POS_CFG_GRP d k = g) with
    | some k => s.get F.POS_TAB_MASK d k (s.get F.POS_STAT_STATE d k)
    | none => 0x3F
  (s.put F.GRP_MASK_PORT m d g).driveGroup d g

/-- What follows a write of IRQ_SRC (R475, R478, R480, R486): with EN = 0 a source in service, or a level source, no longer
pends; an enabled level source is sampled as a handler's, and as a task's when it comes to be one; a level source whose line is
active becomes host-pending when it is marked HOST. -/
def State.afterSource (s old : State) (d src : Nat) : State :=
  let rise := fun (G : Fld) => s.bit G d src && !old.bit G d src
  let s := if isLevel src && s.lineOf d src && rise F.IRQ_SRC_HOST then s.hostPend d src else s
  if !s.bit F.IRQ_SRC_EN d src then
    if s.bit F.IRQ_SRC_ACTIVE d src || isLevel src then s.setPend d src false else s
  else if !isLevel src then s
  else if !s.bit F.IRQ_SRC_MODE d src then s.sampleLevel d src
  else if rise F.IRQ_SRC_EN || rise F.IRQ_SRC_MODE then (s.setPend d src false).sampleLevel d src
  else s

/-- What follows from a stored word of the time, leg, gate, converter and comparator blocks; `old` is the state before. -/
def State.afterUnit (s old : State) (x : Site) : State :=
  let d := x.d; let i := x.i
  let rise := fun (G : Fld) => s.bit G d i && !old.bit G d i
  let fall := fun (G : Fld) => !s.bit G d i && old.bit G d i
  match x.reg.id with
  | .AB_CFG => if fall F.AB_CFG_RUN then (s.put F.AB_CFG_RUN 1 d i).runBase d i false else s
  -- a tracker switched off leaves its bases at their increment; no lock loss is counted (DESIGN CHOICE, log entry 51)
  | .MT_CFG => if fall F.MT_CFG_EN then s.holdOn d i else s
  | .AEV_CFG => { s with slotWrites := if s.slotWrites.contains (d * 256 + i) then s.slotWrites else s.slotWrites ++ [d * 256 + i] }
  | .LEG_MODE => if fall F.LEG_MODE_EN then (s.driveLegs d [i]).endPair d i
    else if s.get F.LEG_MODE_WAVE d i ≠ old.get F.LEG_MODE_WAVE d i ∨ s.get F.LEG_MODE_BASE d i ≠ old.get F.LEG_MODE_BASE d i then
      s.reseat d [i]
    else s
  | .LEG_PER => s.modLeg d i fun L => { L with marked := true }
  | .POS_CFG => (s.syncPort d (old.get F.POS_CFG_GRP d i)).syncPort d (s.get F.POS_CFG_GRP d i)
  | .GATE_CFG =>
    let s := if fall F.GATE_CFG_EN then s.gateDisable d i else s
    if fall F.GATE_CFG_ADAPT then s.syncCodes d i else s
  | .GATE_DEF => s.syncCodes d i
  | .ADC_CFG =>
    let changed := fun (G : Fld) => decide (s.get G d i ≠ old.get G d i)
    if changed F.ADC_CFG_EN then s.adcSwitched d i
    else if s.adcRuns d i && (changed F.ADC_CFG_MODE || changed F.ADC_CFG_LEN || changed F.ADC_CFG_TLEN) then s.adcRestart d i
    else s
  | .WC_CFG => if rise F.WC_CFG_EN then s.put F.WC_CFG_STATE 0 d i else s
  | .MOD_CFG =>
    let s := if rise F.MOD_CFG_EN then
        ((s.put F.MOD_DATA_VALID 0 d i).put F.MOD_DATA_VALUE 0 d i).modModIn d i fun M => { M with outs := 0, hist := [], main := Sinc.reset }
      else s
    if rise F.MOD_CFG_EN || rise F.MOD_CFG_SC_EN then
      (s.put F.MOD_STAT_SC_ARMED 0 d i).modModIn d i fun M => { M with scOuts := 0, short := Sinc.reset }
    else s
  | .MOD_STAT => s.syncLine d (152 + i)
  | .ADC_REF => (s.syncValid d 0).syncValid d 1
  | .CMP_CFG =>
    let s := match old.tiedLeg d i with | some l => s.syncCbc d l (s.tick d * 64) | none => s
    let s := match s.tiedLeg d i with | some l => s.syncCbc d l (s.tick d * 64) | none => s
    (if s.bit F.CMP_CFG_EN d i then s else s.put F.CMP_STAT_RAW 0 d i).syncLine d (96 + i)
  | .CMP_THR => s.thrMoves old d i
  | .ADC_URG => s
  | .REF_CFG =>
    (if fall F.REF_CFG_EXT_EN then (s.put F.REF_EDEV_E 0 d).modRef d fun R => { R with eSum := 0 } else s).formHashes
  | .CLK_PLL => s.syncLine d 216
  | .CLK_OUT => (if i = 2 ∧ rise F.CLK_OUT_EN then s.adcsRestart d else s).formHashes
  | .IRQ_SRC => s.afterSource old d i
  | _ => s

/-- What follows from a stored word of the herd, metrology, recorder and package blocks. -/
def State.afterHerd (s old : State) (q : Requester) (x : Site) (v : Nat) : State :=
  let d := x.d; let i := x.i; let h := x.d * 8 + x.i
  let fall := fun (G : Fld) => !s.bit G d i && old.bit G d i
  match x.reg.id with
  | .HERD_CTL =>
    let s := s.driveHerd h
    if old.changes q x v F.HERD_CTL_ROLE then (s.roleWrite q h (F.HERD_CTL_ROLE.cut v)).1 else s
  | .LEASH_LAST => s.put F.LEASH_LAST_SET 1 d i x.j
  | .TRK_CFG | .TRK_VMIN | .TRK_VMAX | .TRK_SW => s.trackHold old h
  | .REG_CFG =>
    let s := if fall F.REG_CFG_EN then s.forgetPhases h else s
    if fall F.REG_CFG_BURST_EN then s.burstDisable h else s
  | .CH_TEST =>
    let r := (s.getI F.CH_TEST_TEST d i x.j - s.getI F.CH_TAMB_TAMB d i * 256) * 256
    s.modChop h fun C => { C with rise := Store.set C.rise 0 x.j r }
  | .MU_CFG =>
    let s := if s.bit F.MU_CFG_DC d i then (s.put F.MU_STAT_ZC_TO 0 d i).syncLine d (201 + i) else s
    if fall F.MU_CFG_EN then s.meterDisable d i else s.syncValid d i
  | .MC_SRC => s.syncValid d i
  | .PO_CFG => if fall F.PO_CFG_EN then (s.put F.PO_STAT_ACTIVE 0 d i).modPulse d i fun P => { P with phase := 0 } else s
  | .AON_ALM | .AON_CMP_STAT => s.syncAlarm
  | .AON_CFG => (if s.darkWindow = old.darkWindow then s else s.syncDark).syncStores
  | .AON_LMAX => s.syncStores
  | .AON_CMP_CFG => if fall F.AON_CMP_CFG_EN then s.modAon fun A => { A with runs := Store.set A.runs 0 i 0 } else s
  | .REC_CSEL => if old.changes q x v F.REC_CSEL_SRC then s.selectRecord q.index (s.get F.REC_CURSOR_SEQ 0 q.index) else s
  | .PKG_KEYW => s.formHashes
  | _ => s

/-! ### A write -/

/-- A write that is stored field by field (R12, R566): refused as a whole, or stored, with a rising enable judged by its own
conditions; where those fail, no field of the word changes. -/
def State.writeFields (s : State) (q : Requester) (x : Site) (v : Nat) : State × Status :=
  if s.writeRefused q x v then (s.refuseAt q x, .refused)
  else
    match State.enableOf q x with
    | none =>
      let t := ((s.storeWord q x v none).afterUnit s x).afterHerd s q x v
      (if x.reg.id = .ADC_URG ∧ F.ADC_URG_GO.cut v = 1 then t.urgentRequest x.d x.i else t, .ok)
    | some p =>
      let b := s.bankOf q x
      if p.1.cut v = 1 ∧ s.get p.1 x.d b.1 b.2 = 0 then
        let t := p.2 (s.storeWord q x v (some p.1.lo))
        if t.get p.1 x.d b.1 b.2 = 1 then ((t.afterUnit s x).afterHerd s q x v, .ok) else (t.restoreWord s q x, .refused)
      else (((s.storeWord q x v none).afterUnit s x).afterHerd s q x v, .ok)

/-- A write of a register word (R566 to R570). -/
def State.writeSite (s : State) (q : Requester) (x : Site) (v : Nat) : State × Status :=
  let v := s.effective q x v
  match s.dieCommand q x v with
  | some r => r
  | none => match s.packageCommand q x v with | some r => r | none => s.writeFields q x v

/-- The bits of a written word as they act where hardware sets the bits `hw` in the same cycle: a W1C bit that an event sets then
is not cleared (R13, R568). -/
def Site.unclear (x : Site) (v hw : Nat) : Nat :=
  x.reg.flds.foldl (fun v G =>
    match G.cls with
    | .w1c => v - ((G.cut v) &&& (G.cut hw)) * 2 ^ G.lo
    | .ro | .rw | .rws | .rwl | .wo | .rc | .own | .role => v) v

/-- One write of the 32-bit word at address `a` (R563 to R570). -/
def State.regWrite (s : State) (q : Requester) (a v : Nat) : State × Status :=
  match placeOf s.dies a with
  | .absent => (s, .refused)
  | .hole => (s, if s.pkgState < blockLevel a then .notReady else .ok)
  | .word x => if s.pkgState < blockLevel a then (s, .notReady) else s.writeSite q x (v % 2 ^ 32)

/-- Bits [31:24] with which an engine's write of the even word changes nothing there: the present values, W1C and WO bits
zero (R89). -/
def State.keepHigh (s : State) (q : Requester) (a : Nat) : Nat :=
  match placeOf s.dies a with
  | .absent | .hole => 0
  | .word x =>
    x.reg.flds.foldl (fun v G =>
      match G.cls with
      | .w1c | .wo => v
      | .ro | .rw | .rws | .rwl | .rc | .own | .role => v + s.held q x G * 2 ^ G.lo) 0 / 2 ^ 24

/-- An engine's write of the even word at address `a` (R89): with the held bits [31:24], or with the present ones. -/
def State.regWriteLow (s : State) (q : Requester) (a v : Nat) (hold : Option Nat) : State × Status :=
  s.regWrite q a ((match hold with | some x => x % 256 | none => s.keepHigh q a) * 2 ^ 24 + v % 2 ^ 24)

/-- The word that a write of `v` to address `a` stands for in a cycle in which hardware sets the bits `hw` (R13). -/
def State.sameCycle (s : State) (a v hw : Nat) : Nat :=
  match placeOf s.dies a with
  | .word x => x.unclear v hw
  | .absent | .hole => v


end Sys2Proof.Machine
end

