-- ==== Sys2Proof/Machine/Operands.lean ====
section
/-!
DEFINITION. Every operand form of a Uselo instruction (R76, R106) and the way an instruction is issued, completes, traps or
waits (R84, R102, R107, R131).
-/
namespace Sys2Proof.Machine

/-! ### Registers (R76, R78, R84, R98) -/

/-- The register that a specifier names in the running context (R76): w0 to w15 of the trap window, the fast bank or the
current window; accumulators, STK and HC of the fast bank or of the task. A trap handler has the accumulators, STK and HC of the
context that trapped: TW has none of its own (log entry 54). TASK and ZERO hold nothing. -/
def State.slotOf (s : State) (pe : Nat) (sp : Spec) : Slot :=
  let E := s.eng pe
  let n := sp.toNat
  if n < 16 then
    .reg (if E.trap then 96 + n else if E.fast then 112 + n else windowReg (s.get F.ENG_WIN_CWP (pe / 32) (pe % 32)) n)
  else if n < 24 then .reg (128 + (n - 16))
  else if n < 28 then .acc (if E.fast then 4 + (n - 24) else n - 24)
  else if n = 28 then .stk E.fast
  else if n = 29 then .hc E.fast
  else .none

/-- The value of a register, with the flag that the view of an accumulator raises (R70). -/
def Engine.load (E : Engine) : Slot → Word × Nat
  | .reg k => (Store.get E.regs 0 k, 0)
  | .acc k => viewQ23 (Store.get E.accs 0 k).toInt 0
  | .stk f => (if f then E.stkFast else E.stk, 0)
  | .hc f => (if f then E.fastHc else E.hc, 0)
  | .none => (0, 0)

/-- A register written (R70, R73, R76): an accumulator takes the value at Q1.23, STK ORs its sticky flags. -/
def Engine.store (E : Engine) (v : Word) : Slot → Engine
  | .reg k => { E with regs := Store.set E.regs 0 k v }
  | .acc k => { E with accs := Store.set E.accs 0 k (BitVec.ofInt 56 (v.toInt * 2 ^ 23)) }
  | .stk f => if f then { E with stkFast := stkWrite E.stkFast v } else { E with stk := stkWrite E.stk v }
  | .hc f => if f then { E with fastHc := v } else { E with hc := v }
  | .none => E

/-- A specifier read (R76), with the flag it raises; 30 reads TASK and 31 zero. -/
def State.readSpec (s : State) (pe : Nat) (sp : Spec) : Word × Nat :=
  if sp = 30 then ((s.eng pe).taskReg, 0) else (s.eng pe).load (s.slotOf pe sp)

/-- The value read through a specifier. -/
def State.val (s : State) (pe : Nat) (sp : Spec) : Word := (s.readSpec pe sp).1

/-- A value written through a specifier. -/
def State.setVal (s : State) (pe : Nat) (sp : Spec) (v : Word) : State :=
  let x := s.slotOf pe sp
  s.modEng pe fun E => E.store v x

/-- The accumulator that a specifier names. -/
def State.accVal (s : State) (pe : Nat) (sp : Spec) : Acc :=
  match s.slotOf pe sp with | .acc k => Store.get (s.eng pe).accs 0 k | _ => 0

/-- An accumulator written with its 56 bits. -/
def State.setAcc (s : State) (pe : Nat) (sp : Spec) (v : Acc) : State :=
  match s.slotOf pe sp with
  | .acc k => s.modEng pe fun E => { E with accs := Store.set E.accs 0 k v }
  | _ => s

/-! ### Groups and pairs (R71, R106) -/

/-- A specifier names an accumulator. -/
def isAcc (sp : Spec) : Bool := decide (24 ≤ sp.toNat) && decide (sp.toNat < 28)

/-- A specifier starts a pair: even, in w0 to w14 or g0 to g6. -/
def isPair (sp : Spec) : Bool := decide (sp.toNat % 2 = 0) && decide (sp.toNat < 24)

/-- A specifier starts a group of `n` registers that lie entirely within w0 to w15 or g0 to g7. -/
def isGroup (sp : Spec) (n : Nat) : Bool :=
  decide (sp.toNat + n ≤ 16) || (decide (16 ≤ sp.toNat) && decide (sp.toNat + n ≤ 24))

/-- A specifier names one of w0 to w15 or g0 to g7. -/
def isGeneral (sp : Spec) : Bool := decide (sp.toNat < 24)

/-- The specifiers of a group. -/
def groupOf (sp : Spec) (n : Nat) : List Spec := (List.range n).map fun k => BitVec.ofNat 5 (sp.toNat + k)

/-- The values of a group. -/
def State.groupVals (s : State) (pe : Nat) (sp : Spec) (n : Nat) : List Word := (groupOf sp n).map (s.val pe)

/-- A group written, in ascending order. -/
def State.setGroup (s : State) (pe : Nat) (sp : Spec) (vs : List Word) : State :=
  ((groupOf sp vs.length).zip vs).foldl (fun s p => s.setVal pe p.1 p.2) s

/-- The 32-bit value of a pair (R71): bits [31:8] in the even register, [7:0] in the odd one. -/
def State.pairVal (s : State) (pe : Nat) (sp : Spec) : BitVec 32 :=
  BitVec.ofNat 32 ((s.val pe sp).toNat * 256 + (s.val pe (sp + 1)).toNat % 256)

/-- A pair written with a 32-bit value (R71). -/
def State.setPair (s : State) (pe : Nat) (sp : Spec) (v : BitVec 32) : State :=
  s.setGroup pe sp [BitVec.ofNat 24 (v.toNat / 256), BitVec.ofNat 24 (v.toNat % 256)]

/-! ### Issue (R84, R102, R107, R135) -/

/-- What an instruction does: it completes and the next one follows, or continues elsewhere; it traps and leaves everything
else as it was; it stalls at a bound, to be executed again; or it sets the PC, or waits, by itself. -/
inductive Act where
  | next (s : State)
  | goto (s : State) (pc : BitVec 15)
  | trap (cause : Nat)
  | stall (s : State) (i : Instr)
  | done (s : State)

/-- The flags that reading these specifiers raises (R70), also where the instruction's own flag entry names none (R109, log entry
46). -/
def State.readFlags (s : State) (pe : Nat) (rs : List Spec) : Nat := rs.foldl (fun m sp => m ||| (s.readSpec pe sp).2) 0

/-- One of these specifiers names a register that awaits data (R131, R153). -/
def State.awaited (s : State) (pe : Nat) (sps : List Spec) : Bool :=
  sps.any fun sp => s.slotOf pe sp != .none && (s.eng pe).awaits.any fun a => a.dst == s.slotOf pe sp

/-- An instruction completes: the flags of its reads are raised and the PC is set, unless it has reset its engine. -/
def State.complete (s : State) (pe m : Nat) (pc : BitVec 15) : State :=
  if (s.eng pe).active then (s.raiseFlags pe m).modEng pe fun E => { E with pc := pc } else s

/-- Specifier 28, STK (R76). -/
def specSTK : Spec := 28

/-- An instruction that would lead to `t` waits for STK (R131): it has raised a flag there while STK awaits its data. -/
def State.stkBlocks (s : State) (pe : Nat) (t : State) : Bool :=
  s.awaited pe [specSTK] && decide ((t.eng pe).stkNow ≠ (s.eng pe).stkNow)

/-- The instruction has completed as `t`: where it has raised a flag while STK awaits its data, it stalls instead (R131). -/
def State.unlessStk (s : State) (pe : Nat) (t : State) : State := if s.stkBlocks pe t then s else t

/-- The outcome of an instruction that read `rs`. -/
def State.finish (s : State) (pe : Nat) (rs : List Spec) : Act → State
  | .next t => s.unlessStk pe (t.complete pe (s.readFlags pe rs) ((s.eng pe).pc + 1))
  | .goto t pc => s.unlessStk pe (t.complete pe (s.readFlags pe rs) pc)
  | .trap c => s.takeTrap pe c
  | .stall t i => t.modEng pe fun E => { E with stalled := Store.set E.stalled none E.lane (some i) }
  | .done t => t

/-- An instruction is issued (R84, R102, R131): nothing happens while the engine cannot run or an operand awaits its data; an
operand that breaks R105 or R106 (`ok` false) raises ILL; else it is executed. `rs`: the specifiers it reads; `ws`: the further
ones it writes or uses. -/
def State.issue (s : State) (pe : Nat) (rs ws : List Spec) (ok : Bool) (run : State → Act) : State :=
  if !s.canRun pe then s
  else if !ok then s.takeTrap pe trapILL
  else if s.awaited pe (rs ++ ws) then s
  else s.finish pe rs (run s)

/-- A result written to `rd` with the flags it raises. -/
def State.result (s : State) (pe : Nat) (rd : Spec) (r : Word × Nat) : Act := .next ((s.setVal pe rd r.1).raiseFlags pe r.2)

/-- A one-operand instruction. -/
def State.unary (s : State) (pe : Nat) (rd ra : Spec) (f : Word → Word × Nat) : State :=
  s.issue pe [ra] [rd] true fun s => s.result pe rd (f (s.val pe ra))

/-- A two-operand instruction. -/
def State.binary (s : State) (pe : Nat) (rd ra rb : Spec) (f : Word → Word → Word × Nat) : State :=
  s.issue pe [ra, rb] [rd] true fun s => s.result pe rd (f (s.val pe ra) (s.val pe rb))

/-- A shift (R113): its amount is an immediate or the low five bits of rb. -/
def State.shift (s : State) (pe : Nat) (rd ra : Spec) (amt : ShiftAmount) (f : Word → Nat → Word × Nat) : State :=
  match amt with
  | .imm n => s.issue pe [ra] [rd] true fun s => s.result pe rd (f (s.val pe ra) n.toNat)
  | .reg rb => s.issue pe [ra, rb] [rd] true fun s => s.result pe rd (f (s.val pe ra) ((s.val pe rb).toNat % 32))

/-- An accumulator updated from two operands (R114). -/
def State.accumulate (s : State) (pe : Nat) (acc ra rb : Spec) (f : Acc → Word → Word → Acc × Nat) : State :=
  s.issue pe [ra, rb] [acc] (isAcc acc) fun s =>
    let r := f (s.accVal pe acc) (s.val pe ra) (s.val pe rb)
    .next ((s.setAcc pe acc r.1).raiseFlags pe r.2)

/-- An accumulator read in one of its views (R115). -/
def State.accView (s : State) (pe : Nat) (rd acc : Spec) (f : Acc → Word × Nat) : State :=
  s.issue pe [] [acc, rd] (isAcc acc) fun s => s.result pe rd (f (s.accVal pe acc))

end Sys2Proof.Machine
end

