-- ==== Sys2Proof/Machine/Alu.lean ====
section
/-!
DEFINITION. Moves, address arithmetic, the saturating ALU, shifts, multiply and divide, accumulator access, the leash clamp and
compares (R111 to R117), and angle arithmetic (R128).
-/
namespace Sys2Proof.Machine

/-! ### Moves and address arithmetic (R111) -/

/-- LDL (R111). Loads a sign-extended 21-bit immediate. -/
def execLdl (pe : Nat) (rd : Spec) (imm : BitVec 21) (s : State) : Host.Outcome State Fault Refusal :=
  guarded (decide (pe < 32 * s.dies)) s <|
    s.issue pe [] [rd] true fun s => s.result pe rd (imm.signExtend 24, 0)


/-- LDH (R111). Writes bits [23:21] of a register from an immediate. -/
def execLdh (pe : Nat) (rd : Spec) (imm : BitVec 21) (s : State) : Host.Outcome State Fault Refusal :=
  guarded (decide (pe < 32 * s.dies)) s <|
    s.issue pe [rd] [rd] (imm.toNat < 8) fun s =>
    s.result pe rd (BitVec.ofNat 24 (imm.toNat * 2 ^ 21 + (s.val pe rd).toNat % 2 ^ 21), 0)


/-- ADDA (R111). Adds an immediate with address wrap. -/
def execAdda (pe : Nat) (rd : Spec) (ra : Spec) (imm : BitVec 16) (s : State) : Host.Outcome State Fault Refusal :=
  guarded (decide (pe < 32 * s.dies)) s <|
    s.unary pe rd ra fun a => (a + imm.signExtend 24, 0)


/-- MOV (R111). Copies a register. -/
def execMov (pe : Nat) (rd : Spec) (ra : Spec) (s : State) : Host.Outcome State Fault Refusal :=
  guarded (decide (pe < 32 * s.dies)) s <|
    s.unary pe rd ra fun a => (a, 0)


/-- ADDAR (R111). Adds two registers with address wrap. -/
def execAddar (pe : Nat) (rd : Spec) (ra : Spec) (rb : Spec) (s : State) : Host.Outcome State Fault Refusal :=
  guarded (decide (pe < 32 * s.dies)) s <|
    s.binary pe rd ra rb fun a b => (a + b, 0)


/-! ### Saturating ALU (R112) -/

/-- ADD (R112). Saturating addition. -/
def execAdd (pe : Nat) (rd : Spec) (ra : Spec) (rb : Spec) (s : State) : Host.Outcome State Fault Refusal :=
  guarded (decide (pe < 32 * s.dies)) s <|
    s.binary pe rd ra rb aluAdd


/-- SUB (R112). Saturating subtraction. -/
def execSub (pe : Nat) (rd : Spec) (ra : Spec) (rb : Spec) (s : State) : Host.Outcome State Fault Refusal :=
  guarded (decide (pe < 32 * s.dies)) s <|
    s.binary pe rd ra rb aluSub


/-- NEG (R112). Saturating negation. -/
def execNeg (pe : Nat) (rd : Spec) (ra : Spec) (s : State) : Host.Outcome State Fault Refusal :=
  guarded (decide (pe < 32 * s.dies)) s <|
    s.unary pe rd ra aluNeg


/-- ABS (R112). Saturating absolute value. -/
def execAbs (pe : Nat) (rd : Spec) (ra : Spec) (s : State) : Host.Outcome State Fault Refusal :=
  guarded (decide (pe < 32 * s.dies)) s <|
    s.unary pe rd ra aluAbs


/-- MIN (R112). Signed minimum. -/
def execMin (pe : Nat) (rd : Spec) (ra : Spec) (rb : Spec) (s : State) : Host.Outcome State Fault Refusal :=
  guarded (decide (pe < 32 * s.dies)) s <|
    s.binary pe rd ra rb aluMin


/-- MAX (R112). Signed maximum. -/
def execMax (pe : Nat) (rd : Spec) (ra : Spec) (rb : Spec) (s : State) : Host.Outcome State Fault Refusal :=
  guarded (decide (pe < 32 * s.dies)) s <|
    s.binary pe rd ra rb aluMax


/-- CLAMP (R112). Clamps a register between two bounds. -/
def execClamp (pe : Nat) (rd : Spec) (ra : Spec) (rb : Spec) (s : State) : Host.Outcome State Fault Refusal :=
  guarded (decide (pe < 32 * s.dies)) s <|
    s.issue pe [rd, ra, rb] [] true fun s => s.result pe rd (aluClamp (s.val pe rd) (s.val pe ra) (s.val pe rb))


/-- AND (R112). Bitwise AND. -/
def execAnd (pe : Nat) (rd : Spec) (ra : Spec) (rb : Spec) (s : State) : Host.Outcome State Fault Refusal :=
  guarded (decide (pe < 32 * s.dies)) s <|
    s.binary pe rd ra rb fun a b => (a &&& b, 0)


/-- OR (R112). Bitwise OR. -/
def execOr (pe : Nat) (rd : Spec) (ra : Spec) (rb : Spec) (s : State) : Host.Outcome State Fault Refusal :=
  guarded (decide (pe < 32 * s.dies)) s <|
    s.binary pe rd ra rb fun a b => (a ||| b, 0)


/-- XOR (R112). Bitwise exclusive OR. -/
def execXor (pe : Nat) (rd : Spec) (ra : Spec) (rb : Spec) (s : State) : Host.Outcome State Fault Refusal :=
  guarded (decide (pe < 32 * s.dies)) s <|
    s.binary pe rd ra rb fun a b => (a ^^^ b, 0)


/-- NOT (R112). Bitwise complement. -/
def execNot (pe : Nat) (rd : Spec) (ra : Spec) (s : State) : Host.Outcome State Fault Refusal :=
  guarded (decide (pe < 32 * s.dies)) s <|
    s.unary pe rd ra fun a => (~~~a, 0)


/-- ADDI (R112). Saturating addition of an immediate. -/
def execAddi (pe : Nat) (rd : Spec) (ra : Spec) (imm : BitVec 16) (s : State) : Host.Outcome State Fault Refusal :=
  guarded (decide (pe < 32 * s.dies)) s <|
    s.unary pe rd ra fun a => aluAdd a (imm.signExtend 24)


/-! ### Shifts (R113) -/

/-- SHL (R113). Saturating left shift. -/
def execShl (pe : Nat) (rd : Spec) (ra : Spec) (amt : ShiftAmount) (s : State) : Host.Outcome State Fault Refusal :=
  guarded (decide (pe < 32 * s.dies)) s <|
    s.shift pe rd ra amt shiftLeftSat


/-- SHR (R113). Arithmetic right shift. -/
def execShr (pe : Nat) (rd : Spec) (ra : Spec) (amt : ShiftAmount) (s : State) : Host.Outcome State Fault Refusal :=
  guarded (decide (pe < 32 * s.dies)) s <|
    s.shift pe rd ra amt shiftRight


/-- SHRR (R113). Rounding arithmetic right shift. -/
def execShrr (pe : Nat) (rd : Spec) (ra : Spec) (amt : ShiftAmount) (s : State) : Host.Outcome State Fault Refusal :=
  guarded (decide (pe < 32 * s.dies)) s <|
    s.shift pe rd ra amt shiftRightRound


/-- LSR (R113). Logical right shift. -/
def execLsr (pe : Nat) (rd : Spec) (ra : Spec) (amt : ShiftAmount) (s : State) : Host.Outcome State Fault Refusal :=
  guarded (decide (pe < 32 * s.dies)) s <|
    s.shift pe rd ra amt shiftRightLogical


/-- LSL (R113). Logical left shift. -/
def execLsl (pe : Nat) (rd : Spec) (ra : Spec) (amt : ShiftAmount) (s : State) : Host.Outcome State Fault Refusal :=
  guarded (decide (pe < 32 * s.dies)) s <|
    s.shift pe rd ra amt shiftLeftLogical


/-- NORM (R113). Counts the redundant sign bits of a value. -/
def execNorm (pe : Nat) (rd : Spec) (ra : Spec) (s : State) : Host.Outcome State Fault Refusal :=
  guarded (decide (pe < 32 * s.dies)) s <|
    s.unary pe rd ra normCount


/-! ### Multiply, divide and accumulators (R114, R115) -/

/-- MUL (R114). Q1.23 multiply with rounding and saturation. -/
def execMul (pe : Nat) (rd : Spec) (ra : Spec) (rb : Spec) (s : State) : Host.Outcome State Fault Refusal :=
  guarded (decide (pe < 32 * s.dies)) s <|
    s.binary pe rd ra rb aluMul


/-- MULQ8 (R114). Q8.16 multiply with rounding and saturation. -/
def execMulq8 (pe : Nat) (rd : Spec) (ra : Spec) (rb : Spec) (s : State) : Host.Outcome State Fault Refusal :=
  guarded (decide (pe < 32 * s.dies)) s <|
    s.binary pe rd ra rb aluMulQ8


/-- MAC (R114). Multiply-accumulates Q1.23 into an accumulator. -/
def execMac (pe : Nat) (acc : Spec) (ra : Spec) (rb : Spec) (s : State) : Host.Outcome State Fault Refusal :=
  guarded (decide (pe < 32 * s.dies)) s <|
    s.accumulate pe acc ra rb accMac


/-- MSU (R114). Multiply-subtracts Q1.23 from an accumulator. -/
def execMsu (pe : Nat) (acc : Spec) (ra : Spec) (rb : Spec) (s : State) : Host.Outcome State Fault Refusal :=
  guarded (decide (pe < 32 * s.dies)) s <|
    s.accumulate pe acc ra rb accMsu


/-- MACQ8 (R114). Multiply-accumulates Q8.16 into an accumulator. -/
def execMacq8 (pe : Nat) (acc : Spec) (ra : Spec) (rb : Spec) (s : State) : Host.Outcome State Fault Refusal :=
  guarded (decide (pe < 32 * s.dies)) s <|
    s.accumulate pe acc ra rb accMac


/-- MSUQ8 (R114). Multiply-subtracts Q8.16 from an accumulator. -/
def execMsuq8 (pe : Nat) (acc : Spec) (ra : Spec) (rb : Spec) (s : State) : Host.Outcome State Fault Refusal :=
  guarded (decide (pe < 32 * s.dies)) s <|
    s.accumulate pe acc ra rb accMsu


/-- DIV (R114). Q1.23 division in 12 cycles, raising DIV0 on a zero divisor. -/
def execDiv (pe : Nat) (rd : Spec) (ra : Spec) (rb : Spec) (s : State) : Host.Outcome State Fault Refusal :=
  guarded (decide (pe < 32 * s.dies)) s <|
    s.binary pe rd ra rb aluDiv


/-- ACCV (R115). Reads the Q1.23 view of an accumulator after a pre-shift. -/
def execAccv (pe : Nat) (rd : Spec) (acc : Spec) (sel : BitVec 3) (s : State) : Host.Outcome State Fault Refusal :=
  guarded (decide (pe < 32 * s.dies)) s <|
    s.accView pe rd acc fun a => viewQ23 a.toInt sel.toNat


/-- ACCVQ8 (R115). Reads the Q8.16 view of an accumulator. -/
def execAccvq8 (pe : Nat) (rd : Spec) (acc : Spec) (s : State) : Host.Outcome State Fault Refusal :=
  guarded (decide (pe < 32 * s.dies)) s <|
    s.accView pe rd acc fun a => viewQ16 a.toInt 0


/-- ACCLO (R115). Reads accumulator bits [23:0]. -/
def execAcclo (pe : Nat) (rd : Spec) (acc : Spec) (s : State) : Host.Outcome State Fault Refusal :=
  guarded (decide (pe < 32 * s.dies)) s <|
    s.accView pe rd acc fun a => (a.extractLsb' 0 24, 0)


/-- ACCMID (R115). Reads accumulator bits [47:24]. -/
def execAccmid (pe : Nat) (rd : Spec) (acc : Spec) (s : State) : Host.Outcome State Fault Refusal :=
  guarded (decide (pe < 32 * s.dies)) s <|
    s.accView pe rd acc fun a => (a.extractLsb' 24 24, 0)


/-- ACCHI (R115). Reads accumulator bits [55:48] sign-extended. -/
def execAcchi (pe : Nat) (rd : Spec) (acc : Spec) (s : State) : Host.Outcome State Fault Refusal :=
  guarded (decide (pe < 32 * s.dies)) s <|
    s.accView pe rd acc fun a => ((a.extractLsb' 48 8).signExtend 24, 0)


/-- ACCPHM (R115). Writes the high and middle parts of an accumulator. -/
def execAccphm (pe : Nat) (acc : Spec) (ra : Spec) (rb : Spec) (s : State) : Host.Outcome State Fault Refusal :=
  guarded (decide (pe < 32 * s.dies)) s <|
    s.accumulate pe acc ra rb fun _ a b => (BitVec.ofNat 56 (a.toNat % 256 * 2 ^ 48 + b.toNat * 2 ^ 24), 0)


/-- ACCPLO (R115). Writes the low part of an accumulator. -/
def execAccplo (pe : Nat) (acc : Spec) (ra : Spec) (s : State) : Host.Outcome State Fault Refusal :=
  guarded (decide (pe < 32 * s.dies)) s <|
    s.issue pe [ra] [acc] (isAcc acc) fun s =>
    .next (s.setAcc pe acc (BitVec.ofNat 56 ((s.accVal pe acc).toNat / 2 ^ 24 * 2 ^ 24 + (s.val pe ra).toNat)))


/-- ACCADD (R115). Adds one accumulator into another with saturation. -/
def execAccadd (pe : Nat) (acc : Spec) (ra : Spec) (s : State) : Host.Outcome State Fault Refusal :=
  guarded (decide (pe < 32 * s.dies)) s <|
    s.issue pe [] [acc, ra] (isAcc acc && isAcc ra) fun s =>
    let r := narrow56 ((s.accVal pe acc).toInt + (s.accVal pe ra).toInt)
    .next ((s.setAcc pe acc r.1).raiseFlags pe r.2)


/-! ### Leash clamp (R116) -/

/-- LSH on entry `k` of the leash of herd `h`. -/
def State.leashOp (s : State) (pe : Nat) (rd ra : Spec) (h k : Nat) : Act :=
  let a := s.val pe ra
  let r := s.leashClamp h k a.toInt
  r.2.result pe rd (BitVec.ofInt 24 r.1, if r.1 = a.toInt then 0 else flagLeash)

/-- LSH (R116). Clamps a value against a leash entry of the task's herd, applying its rate limit and updating LAST. -/
def execLsh (pe : Nat) (rd : Spec) (ra : Spec) (k : BitVec 4) (s : State) : Host.Outcome State Fault Refusal :=
  guarded (decide (pe < 32 * s.dies)) s <|
    s.issue pe [ra] [rd] (s.runningHerd pe).isSome fun s =>
    match s.runningHerd pe with
    | some h => s.leashOp pe rd ra h k.toNat
    | none => .trap trapILL


/-! ### Compare (R117) -/

/-- The condition flags of a comparison set in the running context. -/
def State.compare (s : State) (pe : Nat) (a b : Word) : Act :=
  .next (s.modEng pe fun E => E.setStk (stkWithConds E.stkNow (compareFlags a b)))

/-- CMP (R117). Compares two registers and sets CN, CZ and CU. -/
def execCmp (pe : Nat) (ra : Spec) (rb : Spec) (s : State) : Host.Outcome State Fault Refusal :=
  guarded (decide (pe < 32 * s.dies)) s <|
    s.issue pe [ra, rb] [specSTK] true fun s => s.compare pe (s.val pe ra) (s.val pe rb)


/-- CMPI (R117). Compares a register with an immediate and sets CN, CZ and CU. -/
def execCmpi (pe : Nat) (ra : Spec) (imm : BitVec 16) (s : State) : Host.Outcome State Fault Refusal :=
  guarded (decide (pe < 32 * s.dies)) s <|
    s.issue pe [ra] [specSTK] true fun s => s.compare pe (s.val pe ra) (imm.signExtend 24)


/-! ### Angles (R128) -/

/-- AGET (R128). Reads a base angle as a pair. -/
def execAget (pe : Nat) (rd : Spec) (b : BitVec 4) (s : State) : Host.Outcome State Fault Refusal :=
  guarded (decide (pe < 32 * s.dies)) s <|
    s.issue pe [] [rd, rd + 1] (isPair rd) fun s =>
    .next (s.setPair pe rd (BitVec.ofNat 32 (s.get F.AB_ANGLE_ANGLE (pe / 32) b.toNat)))


/-- ATURN (R128). Reads a base turn count. -/
def execAturn (pe : Nat) (rd : Spec) (b : BitVec 4) (s : State) : Host.Outcome State Fault Refusal :=
  guarded (decide (pe < 32 * s.dies)) s <|
    s.issue pe [] [rd] true fun s => s.result pe rd (BitVec.ofInt 24 (s.getI F.AB_TURN_TURN (pe / 32) b.toNat), 0)


/-- AINC (R128). Writes a base increment as AB_INC does. -/
def execAinc (pe : Nat) (ra : Spec) (b : BitVec 4) (s : State) : Host.Outcome State Fault Refusal :=
  guarded (decide (pe < 32 * s.dies)) s <|
    s.issue pe [ra, ra + 1] [] (isPair ra) fun s => .next (s.writeInc (pe / 32) b.toNat (s.pairVal pe ra))


/-- ACORR (R128). Writes a base correction as AB_CORR does. -/
def execAcorr (pe : Nat) (ra : Spec) (b : BitVec 4) (s : State) : Host.Outcome State Fault Refusal :=
  guarded (decide (pe < 32 * s.dies)) s <|
    s.issue pe [ra, ra + 1] [] (isPair ra) fun s => .next (s.writeCorr (pe / 32) b.toNat (s.pairVal pe ra))


/-- A pair formed from two angle pairs. -/
def State.anglePair (s : State) (pe : Nat) (rd ra rb : Spec) (f : BitVec 32 → BitVec 32 → BitVec 32) : State :=
  s.issue pe [ra, ra + 1, rb, rb + 1] [rd, rd + 1] (isPair rd && isPair ra && isPair rb) fun s =>
    .next (s.setPair pe rd (f (s.pairVal pe ra) (s.pairVal pe rb)))

/-- AADD (R128). Wrapping angle addition. -/
def execAadd (pe : Nat) (rd : Spec) (ra : Spec) (rb : Spec) (s : State) : Host.Outcome State Fault Refusal :=
  guarded (decide (pe < 32 * s.dies)) s <|
    s.anglePair pe rd ra rb fun a b => a + b


/-- ASUB (R128). Wrapping angle subtraction. -/
def execAsub (pe : Nat) (rd : Spec) (ra : Spec) (rb : Spec) (s : State) : Host.Outcome State Fault Refusal :=
  guarded (decide (pe < 32 * s.dies)) s <|
    s.anglePair pe rd ra rb fun a b => a - b


/-- AMULI (R128). Wrapping multiplication of an angle by an integer. -/
def execAmuli (pe : Nat) (rd : Spec) (ra : Spec) (rb : Spec) (s : State) : Host.Outcome State Fault Refusal :=
  guarded (decide (pe < 32 * s.dies)) s <|
    s.issue pe [ra, ra + 1, rb] [rd, rd + 1] (isPair rd && isPair ra) fun s =>
    .next (s.setPair pe rd (BitVec.ofNat 32 ((s.pairVal pe ra).toNat * ((s.val pe rb).toNat % 256))))


end Sys2Proof.Machine
end

