-- ==== Sys2Proof/Machine/EngMem.lean ====
section
/-!
DEFINITION. What engines load from and store to (R87, R89 to R91, R111), signal points (R130, R131, R137 to R142), queues (R129,
R144 to R156), legs (R132, R133) and the bounds on work in flight (R162).
-/
namespace Sys2Proof.Machine

/-! ### The data address space (R87, R89) -/

/-- What lies at an engine word address: a word of private or shared data or of a capture ring by its key, a point, one word of
a register by its byte address in the host map (`odd`: bits [31:24]), or nothing. -/
inductive Region where
  | priv (k : Nat)
  | shared (k : Nat)
  | capture (k : Nat)
  | point (p : Nat)
  | reg (a : Nat) (odd : Bool)
  | absent

/-- The region of word address `a` for engine `pe` (R87, R89). -/
def regionOf (pe a : Nat) : Region :=
  if a < 0x800 then .priv (pe * 2048 + a)
  else if 0x10000 ≤ a ∧ a < 0x14000 then .shared (pe / 4 * 16384 + (a - 0x10000))
  else if 0x400000 ≤ a ∧ a < 0x410000 then .capture (pe / 32 * 65536 + (a - 0x400000))
  else if 0x600000 ≤ a ∧ a < 0x680000 then
    .reg (0x10000000 + pe / 32 * 0x1000000 + (a - 0x600000) / 2 * 4) (decide (a % 2 = 1))
  else if 0x680000 ≤ a ∧ a < 0x6B0000 then .reg ((a - 0x680000) / 2 * 4) (decide (a % 2 = 1))
  else if 0x800000 ≤ a ∧ a < 0x900000 then .point (a - 0x800000)
  else .absent

/-- The die that serves a register for an engine: D0 for a package block, else the engine's own die (R562). -/
def regDie (pe a : Nat) : Nat := if a < 0x10000000 then 0 else pe / 32

/-! ### Work in flight (R159, R162) -/

/-- A posted operation (R162). -/
def RingOp.posted : RingOp → Bool
  | .write _ _ | .group _ _ | .push _ _ _ | .lset _ _ _ | .regWrite _ _ _ => true
  | .read _ | .loadAll _ _ _ | .notice _ | .regRead _ _ | .record _ => false

/-- A remote read (R162). -/
def RingOp.reads : RingOp → Bool
  | .read _ | .regRead _ _ => true
  | .write _ _ | .group _ _ | .push _ _ _ | .lset _ _ _ | .regWrite _ _ _ | .loadAll _ _ _ | .notice _
  | .record _ => false

/-- The transfers of one kind that die `d` has in flight are at their bound (R162). -/
def State.dieFull (s : State) (d : Nat) (p : RingOp → Bool) : Bool :=
  decide (256 ≤ (s.ring.filter fun x => decide (x.src = d) && p x.op &&
    (match x.who with | .engine _ => true | .host | .debug | .chain _ | .unit => false)).length)

/-- A kind of transfer is at its bound (R162): `n` by the engine, or 256 by its die. -/
def State.atBound (s : State) (pe n : Nat) (p : RingOp → Bool) : Bool :=
  decide (n ≤ (s.ring.filter fun x => decide (x.who = .engine pe) && p x.op).length) || s.dieFull (pe / 32) p

/-- The bound on remote reads is reached. -/
def State.readsFull (s : State) (pe : Nat) : Bool := s.atBound pe 8 RingOp.reads
/-- The bound on posted operations is reached. -/
def State.postsFull (s : State) (pe : Nat) : Bool := s.atBound pe 16 RingOp.posted

/-- A blocking operation stalls at a bound (R162), counted once for the stall. -/
def State.boundStall (s : State) (pe : Nat) (i : Instr) : Act :=
  let E := s.eng pe
  .stall (if Store.get E.counted 0 E.lane = 1 then s
    else (s.incSat F.RING_FULL_STALL_CNT (pe / 32)).modEng pe fun E => { E with counted := Store.set E.counted 0 E.lane 1 }) i

/-- A status written to its register (R14, R129, R130). -/
def State.statusTo (s : State) (pe : Nat) (rb : Spec) (st : Status) : State := s.setVal pe rb (BitVec.ofNat 24 st.code)

/-- A non-blocking operation answers FULL at a bound, counted (R162). -/
def State.boundFull (s : State) (pe : Nat) (rb : Spec) : Act :=
  .next ((s.incSat F.RING_FULL_NB_CNT (pe / 32)).statusTo pe rb .full)

/-- A request of an engine put on the die ring. -/
def State.engineXfer (s : State) (pe dst : Nat) (op : RingOp) : State :=
  s.sendXfer (pe / 32) dst (.engine pe) (s.runningHerd pe) op

/-- The register of specifier `sp` awaits the answer to transfer `id` (R131). -/
def State.await (s : State) (pe id : Nat) (sp : Spec) (isStatus : Bool) : State :=
  let x := s.slotOf pe sp
  if x = .none then s else s.modEng pe fun E => { E with awaits := E.awaits ++ [⟨id, x, isStatus⟩] }

/-- A blocking remote read into `rd`, with its status to `rb` where there is one (R90, R102, R131). -/
def State.remoteRead (s : State) (pe : Nat) (rd : Spec) (rb : Option Spec) (dst : Nat) (op : RingOp) (i : Instr) : Act :=
  if s.readsFull pe then s.boundStall pe i
  else
    let id := s.nextXfer
    let s := (s.engineXfer pe dst op).await pe id rd false
    let s := match rb with | some sp => s.await pe id sp true | none => s
    .next (s.modEng pe fun E => { E with waits := Store.set E.waits 0 E.lane (id + 1) })

/-! ### Register words (R89) -/

/-- The latched bits [31:24] of the register at `a`, where the context's latch is for it. -/
def State.latchedHigh (s : State) (pe a : Nat) : Option Nat :=
  let E := s.eng pe
  let l := Store.get E.latches (0, 0) E.ctx
  if l.1 = a + 1 then some l.2 else none

/-- The latch of context `c` of an engine. -/
def State.setHigh (s : State) (pe c a v : Nat) : State :=
  s.modEng pe fun E => { E with latches := Store.set E.latches (0, 0) c (a + 1, v / 2 ^ 24) }

/-- A read of a register word by an engine (R89). -/
def State.loadReg (s : State) (pe : Nat) (rd : Spec) (a : Nat) (odd : Bool) (i : Instr) : Act :=
  match odd, s.latchedHigh pe a with
  | true, some h => s.result pe rd (BitVec.ofNat 24 h, 0)
  | _, _ =>
    if regDie pe a ≠ pe / 32 then s.remoteRead pe rd none (regDie pe a) (.regRead a odd) i
    else if odd then s.result pe rd (BitVec.ofNat 24 (s.regPeek (.engine pe) a / 2 ^ 24), 0)
    else
      let r := s.regRead (.engine pe) a
      (r.1.setHigh pe (s.eng pe).ctx a r.2.2).result pe rd (BitVec.ofNat 24 r.2.2, 0)

/-- The hold of the running context set, for a write of an odd word (R89). -/
def State.setHold (s : State) (pe a : Nat) (v : Word) : State :=
  s.modEng pe fun E => { E with holds := Store.set E.holds (0, 0) E.ctx (a + 1, v.toNat % 256) }

/-- A write of a register word by an engine (R89): an odd word is held; an even word is one write, with which the hold ends. -/
def State.storeReg (s : State) (pe a : Nat) (odd : Bool) (v : Word) (i : Instr) : Act :=
  if odd then .next (s.setHold pe a v)
  else
    let E := s.eng pe
    let h := Store.get E.holds (0, 0) E.ctx
    let hold := if h.1 = a + 1 then some h.2 else none
    let free := s.modEng pe fun E => { E with holds := Store.set E.holds (0, 0) E.ctx (0, 0) }
    if regDie pe a = pe / 32 then .next (free.regWriteLow (.engine pe) a v.toNat hold).1
    else if s.postsFull pe then s.boundStall pe i
    else
      let w := BitVec.ofNat 32 (hold.getD 0 * 2 ^ 24 + v.toNat)
      .next (free.engineXfer pe (regDie pe a) (.regWrite a w hold.isSome))

/-! ### Loads and stores (R87, R91, R111) -/

/-- A load of word address `a` into `rd`. A point of a die that the member lacks reads zero (R142); a store that does not answer
leaves rd as it is. -/
def State.loadFrom (s : State) (pe : Nat) (rd : Spec) (a : Word) (i : Instr) : Act :=
  match regionOf pe a.toNat with
  | .priv k => s.result pe rd (Store.get s.priv 0 k, 0)
  | .shared k => s.result pe rd (Store.get s.shared 0 k, 0)
  | .capture k => s.result pe rd (Store.get s.capture 0 k, 0)
  | .point p =>
    if s.dies ≤ pointDie p then s.result pe rd (0, 0)
    else if pointDie p ≠ pe / 32 then s.remoteRead pe rd none (pointDie p) (.read p) i
    else if s.pointStatus p = .ok then s.result pe rd (s.point p, 0)
    else .next s
  | .reg k odd => s.loadReg pe rd k odd i
  | .absent => .trap trapADDR

/-- A write of one point by an engine, with its status: REFUSED for a die that the member lacks, on its own die as its store
answers, and posted to another (R90, R142, R165). -/
def State.putPoint (s : State) (pe p : Nat) (v : Word) : State × Status :=
  if s.dies ≤ pointDie p then (s, .refused)
  else if pointDie p ≠ pe / 32 then (s.engineXfer pe (pointDie p) (.write p v), .ok)
  else if s.pointStatus p = .ok then (s.writePoint p v (.engine pe) (s.runningHerd pe), .ok)
  else (s, s.pointStatus p)

/-- A point lies on another die of the member. -/
def State.isRemote (s : State) (pe p : Nat) : Bool := decide (pointDie p < s.dies) && decide (pointDie p ≠ pe / 32)

/-- A store of `v` to word address `a`. -/
def State.storeTo (s : State) (pe : Nat) (a v : Word) (i : Instr) : Act :=
  match regionOf pe a.toNat with
  | .priv k => .next { s with priv := Store.set s.priv 0 k v }
  | .shared k => .next { s with shared := Store.set s.shared 0 k v }
  | .capture _ => .trap trapADDR
  | .point p => if s.isRemote pe p && s.postsFull pe then s.boundStall pe i else .next (s.putPoint pe p v).1
  | .reg k odd => s.storeReg pe k odd v i
  | .absent => .trap trapADDR

/-- LD. -/
def State.opLd (s : State) (pe : Nat) (rd ra : Spec) (imm : BitVec 16) : State :=
  s.issue pe [ra] [rd] true fun s => s.loadFrom pe rd (s.val pe ra + imm.signExtend 24) (.ld pe rd ra imm)

/-- ST. -/
def State.opSt (s : State) (pe : Nat) (rd ra : Spec) (imm : BitVec 16) : State :=
  s.issue pe [rd, ra] [] true fun s => s.storeTo pe (s.val pe ra + imm.signExtend 24) (s.val pe rd) (.st pe rd ra imm)

/-- LDX. -/
def State.opLdx (s : State) (pe : Nat) (rd ra rb : Spec) : State :=
  s.issue pe [ra, rb] [rd] true fun s => s.loadFrom pe rd (s.val pe ra + s.val pe rb) (.ldx pe rd ra rb)

/-- STX. -/
def State.opStx (s : State) (pe : Nat) (rd ra rb : Spec) : State :=
  s.issue pe [rd, ra, rb] [] true fun s => s.storeTo pe (s.val pe ra + s.val pe rb) (s.val pe rd) (.stx pe rd ra rb)

/-- LD (R111). Loads a word from the data address space into a register. -/
def execLd (pe : Nat) (rd : Spec) (ra : Spec) (imm : BitVec 16) (s : State) : Host.Outcome State Fault Refusal :=
  guarded (decide (pe < 32 * s.dies)) s <|
    s.opLd pe rd ra imm


/-- ST (R111). Stores a register to the data address space. -/
def execSt (pe : Nat) (rd : Spec) (ra : Spec) (imm : BitVec 16) (s : State) : Host.Outcome State Fault Refusal :=
  guarded (decide (pe < 32 * s.dies)) s <|
    s.opSt pe rd ra imm


/-- LDX (R111). Loads from a register-indexed address. -/
def execLdx (pe : Nat) (rd : Spec) (ra : Spec) (rb : Spec) (s : State) : Host.Outcome State Fault Refusal :=
  guarded (decide (pe < 32 * s.dies)) s <|
    s.opLdx pe rd ra rb


/-- STX (R111). Stores to a register-indexed address. -/
def execStx (pe : Nat) (rd : Spec) (ra : Spec) (rb : Spec) (s : State) : Host.Outcome State Fault Refusal :=
  guarded (decide (pe < 32 * s.dies)) s <|
    s.opStx pe rd ra rb


/-- ODD_WORD_WRITE (R89). An engine write of a register's odd word is held for the next even-word write of that
register. -/
def execOddWordWrite (pe : Nat) (addr : BitVec 24) (v : Word) (s : State) : Host.Outcome State Fault Refusal :=
  guarded (decide (pe < 32 * s.dies)) s <|
    match regionOf pe addr.toNat with
    | .reg a true => s.issue pe [] [] true fun s => .next (s.setHold pe a v)
    | _ => s


/-! ### Signal points (R130, R131) -/

/-- The point that a point instruction names (R130). -/
def State.pointOf (s : State) (pe : Nat) (ra : Spec) (o : BitVec 5) : Nat := ((s.val pe ra).toNat % 2 ^ 20 + o.toNat) % 2 ^ 20

/-- SGET of point `p`. Where rd and rb are one register, the status comes last: over the data of a local point, and at once before the
data of a non-blocking remote read (DESIGN CHOICE, log entry 61). -/
def State.getPoint (s : State) (pe : Nat) (rd rb : Spec) (nb : Bool) (p : Nat) (i : Instr) : Act :=
  if s.dies ≤ pointDie p then .next ((s.setVal pe rd 0).statusTo pe rb .refused)
  else if pointDie p = pe / 32 then
    let st := s.pointStatus p
    .next ((if st = .ok then s.setVal pe rd (s.point p) else s).statusTo pe rb st)
  else if !nb then s.remoteRead pe rd (some rb) (pointDie p) (.read p) i
  else if s.readsFull pe then s.boundFull pe rb
  else
    let id := s.nextXfer
    .next (((s.engineXfer pe (pointDie p) (.read p)).await pe id rd false).statusTo pe rb .ok)

/-- SGET. -/
def State.opSget (s : State) (pe : Nat) (rd ra rb : Spec) (nb : Bool) (o : BitVec 5) : State :=
  s.issue pe [ra] [rd, rb] true fun s => s.getPoint pe rd rb nb (s.pointOf pe ra o) (.sget pe rd ra rb nb o)

/-- SGET (R130). Reads a signal point, blocking or non-blocking, locally or remotely. -/
def execSget (pe : Nat) (rd : Spec) (ra : Spec) (rb : Spec) (nb : Bool) (o : BitVec 5) (s : State) : Host.Outcome
    State Fault Refusal :=
  guarded (decide (pe < 32 * s.dies)) s <|
    s.opSget pe rd ra rb nb o


/-- SPUT of `v` to point `p`. -/
def State.sendPoint (s : State) (pe : Nat) (rb : Spec) (nb : Bool) (p : Nat) (v : Word) (i : Instr) : Act :=
  if s.isRemote pe p && s.postsFull pe then (if nb then s.boundFull pe rb else s.boundStall pe i)
  else
    let r := s.putPoint pe p v
    .next (r.1.statusTo pe rb r.2)

/-- SPUT. -/
def State.opSput (s : State) (pe : Nat) (rd ra rb : Spec) (nb : Bool) (o : BitVec 5) : State :=
  s.issue pe [rd, ra] [rb] true fun s => s.sendPoint pe rb nb (s.pointOf pe ra o) (s.val pe rd) (.sput pe rd ra rb nb o)

/-- SPUT (R130). Writes a signal point, posted when remote. -/
def execSput (pe : Nat) (rd : Spec) (ra : Spec) (rb : Spec) (nb : Bool) (o : BitVec 5) (s : State) : Host.Outcome
    State Fault Refusal :=
  guarded (decide (pe < 32 * s.dies)) s <|
    s.opSput pe rd ra rb nb o


/-- A group commit of `vs` from point `p` on (R130, R139). -/
def State.commitGroup (s : State) (pe : Nat) (rb : Spec) (nb : Bool) (p : Nat) (vs : List Word) (i : Instr) : Act :=
  if 131072 < p % 131072 + vs.length then .trap trapADDR
  else if s.dies ≤ pointDie p then .next (s.statusTo pe rb .refused)
  else if pointDie p = pe / 32 then
    let st := s.pointStatus p
    .next ((if st = .ok then s.writeGroup p vs (.engine pe) (s.runningHerd pe) else s).statusTo pe rb st)
  else if s.postsFull pe then (if nb then s.boundFull pe rb else s.boundStall pe i)
  else .next ((s.engineXfer pe (pointDie p) (.group p vs)).statusTo pe rb .ok)

/-- SPUTG: of one point it is SPUT. -/
def State.opSputg (s : State) (pe : Nat) (rd ra rb : Spec) (nb : Bool) (n1 : BitVec 3) (o : BitVec 5) : State :=
  let n := n1.toNat + 1
  s.issue pe (ra :: groupOf rd n) [rb] (decide (n = 1) || isGroup rd n) fun s =>
    let p := s.pointOf pe ra o
    if n = 1 then s.sendPoint pe rb nb p (s.val pe rd) (.sputg pe rd ra rb nb n1 o)
    else s.commitGroup pe rb nb p (s.groupVals pe rd n) (.sputg pe rd ra rb nb n1 o)

/-- SPUTG (R139). Writes N consecutive points as one group commit. -/
def execSputg (pe : Nat) (rd : Spec) (ra : Spec) (rb : Spec) (nb : Bool) (n1 : BitVec 3) (o : BitVec 5) (s : State) :
    Host.Outcome State Fault Refusal :=
  guarded (decide (pe < 32 * s.dies)) s <|
    s.opSputg pe rd ra rb nb n1 o


/-! ### Queues (R129, R144 to R156) -/

/-- The payload that four words make. -/
def payloadOf (vs : List Word) : Payload := ⟨vs.getD 0 0, vs.getD 1 0, vs.getD 2 0, vs.getD 3 0⟩

/-- An engine has an unanswered push to this queue (R153). -/
def State.pushOut (s : State) (pe : Nat) (id : BitVec 16) : Bool :=
  s.ring.any fun x => decide (x.who = .engine pe) && (match x.op with | .push q _ _ => q == id | _ => false)

/-- QPUSH of `e` to queue `id` (R148, R153, R156): a full local queue stalls the blocking form; a remote push awaits its status. -/
def State.pushEntry (s : State) (pe : Nat) (rd : Spec) (nb : Bool) (id : BitVec 16) (e : QEntry) (i : Instr) : Act :=
  let q := id.toNat
  if s.dies ≤ q / 8192 then .next (s.statusTo pe rd .refused)
  else if q / 8192 = pe / 32 then
    let r := s.queuePush q (.engine pe) e true
    if r.2 = .full && !nb && decide (s.get F.Q_CFG_KIND (q / 8192) (q % 8192) ≠ 4) then .stall r.1 i
    else .next (r.1.statusTo pe rd r.2)
  else if s.pushOut pe id then .stall s i
  else if s.postsFull pe then (if nb then s.boundFull pe rd else s.boundStall pe i)
  else
    let k := s.nextXfer
    .next ((s.engineXfer pe (q / 8192) (.push id e nb)).await pe k rd true)

/-- The queue ID in ra[15:0]. -/
def State.queueOf (s : State) (pe : Nat) (ra : Spec) : BitVec 16 := (s.val pe ra).truncate 16

/-- QPUSH. -/
def State.opQpush (s : State) (pe : Nat) (rd ra rb : Spec) (nb : Bool) (type : BitVec 7) : State :=
  s.issue pe (ra :: groupOf rb 4) [rd] (isGroup rb 4) fun s =>
    s.pushEntry pe rd nb (s.queueOf pe ra) ⟨mkHdr (.engine pe) type, payloadOf (s.groupVals pe rb 4)⟩ (.qpush pe rd ra rb nb type)

/-- QPUSH (R148). Pushes an entry to a queue, blocking or not, locally or over the ring, and returns a status. -/
def execQpush (pe : Nat) (rd : Spec) (ra : Spec) (rb : Spec) (nb : Bool) (type : BitVec 7) (s : State) : Host.Outcome
    State Fault Refusal :=
  guarded (decide (pe < 32 * s.dies)) s <|
    s.opQpush pe rd ra rb nb type


/-- QPOP (R129, R151): rb takes the status and the header. With a status other than OK there is no header: its bits are open, a free
value (log entry 16). -/
def State.popEntry (s : State) (pe : Nat) (rd rb : Spec) (id : Nat) : Act :=
  let word := fun (st : Status) (h : Nat) => BitVec.ofNat 24 (st.code * 65536 + h)
  let bare := fun (s : State) (st : Status) => Act.next (s.nextFresh.setVal pe rb (word st (Config.freeNat s.fresh % 65536)))
  if id / 8192 ≠ pe / 32 then bare s .refused
  else
    let r := s.queuePop id (.engine pe)
    match r.2.2 with
    | some e =>
      .next ((r.1.setGroup pe rd [e.payload.w0, e.payload.w1, e.payload.w2, e.payload.w3]).setVal pe rb (word r.2.1 e.hdr.toNat))
    | none => bare r.1 r.2.1

/-- QPOP (R151). Pops the oldest entry of a local queue, returning payload, header and status. -/
def execQpop (pe : Nat) (rd : Spec) (ra : Spec) (rb : Spec) (s : State) : Host.Outcome State Fault Refusal :=
  guarded (decide (pe < 32 * s.dies)) s <|
    s.issue pe [ra] (rb :: groupOf rd 4) (isGroup rd 4) fun s => s.popEntry pe rd rb (s.queueOf pe ra).toNat


/-- The word of QSTAT (R152). -/
def State.queueWord (s : State) (pe id : Nat) : Nat :=
  let d := id / 8192; let q := id % 8192
  let st := if d ≠ pe / 32 then Status.refused else s.queueStatus id
  let n := s.get F.Q_STAT_COUNT d q
  if st = .ok then
    (if n = s.get F.Q_SIZE_DEPTH d q then 2 ^ 17 else 0) + s.get F.Q_STAT_WM d q * 2 ^ 16 + n
  else st.code * 2 ^ 20

/-- QSTAT (R152). Returns a queue's status, full and watermark flags and count. -/
def execQstat (pe : Nat) (rd : Spec) (ra : Spec) (s : State) : Host.Outcome State Fault Refusal :=
  guarded (decide (pe < 32 * s.dies)) s <|
    s.issue pe [ra] [rd] true fun s =>
    s.result pe rd (BitVec.ofNat 24 (s.queueWord pe (s.queueOf pe ra).toNat), 0)


/-! ### Legs (R132, R133) -/

/-- The mask that LSET MASK writes (R239): bits of legs outside herd `h` keep their values. -/
def State.herdMask (s : State) (h d g v : Nat) : Nat :=
  ((List.range 6).filter fun k =>
    if s.legHerd d (6 * g + k) = some h then v.testBit k else s.getBit F.GRP_MASK_MASK k d g).foldl (fun a k => a + 2 ^ k) 0

/-- A write of LSET field `sel` of leg `n` of die `d`, judged at the leg register (R132): PHASE and MASK of a phase leg are
refused (R313). -/
def State.lsetWrite (s : State) (q : Requester) (h d n sel v : Nat) : State × Status :=
  let put := fun (G : Fld) (i w : Nat) => s.regWrite q (0x10000000 + d * 0x1000000 + G.off + i * G.s1) w
  if s.isPhase d n ∧ (sel = 3 ∨ sel = 5) then
    (if sel = 3 then s.wref q F.LEG_PHASE_PHASE d n else s.wref q F.GRP_MASK_MASK d (n / 6), .refused)
  else match sel with
  | 0 => put F.LEG_DUTY_DUTY n v
  | 1 => put F.LEG_CFG_RISE_DLY n (v % 65536 * 65536 + s.getSh F.LEG_CFG_FALL_DLY d n)
  | 2 => put F.LEG_CFG_FALL_DLY n (s.getSh F.LEG_CFG_RISE_DLY d n * 65536 + v % 65536)
  | 3 => put F.LEG_PHASE_PHASE n v
  | 4 => put F.LEG_PER_PERIOD n v
  | 5 => put F.GRP_MASK_MASK (n / 6) (s.herdMask h d (n / 6) (v % 64))
  | _ => put F.LEG_FORCE_FORCE n (v % 4)

/-- LSET of a value by a task of herd `h` (R132). -/
def State.setLeg (s : State) (pe : Nat) (rd : Spec) (h leg sel v : Nat) (i : Instr) : Act :=
  let d := leg / 24; let n := leg % 24
  if s.dies ≤ d ∨ s.legHerd d n ≠ some h ∨ (sel = 6 ∧ n < 20) then .next (s.statusTo pe rd .refused)
  else if d = pe / 32 then
    let r := s.lsetWrite (.engine pe) h d n sel v
    .next (r.1.statusTo pe rd r.2)
  else if s.postsFull pe then s.boundStall pe i
  else .next ((s.engineXfer pe d (.lset leg sel (BitVec.ofNat 32 v))).statusTo pe rd .ok)

/-- LSET. -/
def State.opLset (s : State) (pe : Nat) (rd ra rb : Spec) (sel : BitVec 4) : State :=
  let pair := decide (sel = 3)
  s.issue pe (if pair then [ra, rb, rb + 1] else [ra, rb]) [rd]
      ((s.runningHerd pe).isSome && decide (sel.toNat < 7) && (!pair || isPair rb)) fun s =>
    match s.runningHerd pe with
    | some h =>
      s.setLeg pe rd h ((s.val pe ra).toNat % 256) sel.toNat (if pair then (s.pairVal pe rb).toNat else (s.val pe rb).toNat)
        (.lset pe rd ra rb sel)
    | none => .trap trapILL

/-- LSET (R132). Writes a leg field of the task's herd, to the shadow set or directly for mask and force. -/
def execLset (pe : Nat) (rd : Spec) (ra : Spec) (rb : Spec) (sel : BitVec 4) (s : State) : Host.Outcome State Fault
    Refusal :=
  guarded (decide (pe < 32 * s.dies)) s <|
    s.opLset pe rd ra rb sel


/-- LOADALL (R229). Issues the herd's load-all, copying shadow sets to pending sets with a due tick 64 ticks later. -/
def execLoadall (pe : Nat) (s : State) : Host.Outcome State Fault Refusal :=
  guarded (decide (pe < 32 * s.dies)) s <|
    s.issue pe [] [] (s.runningHerd pe).isSome fun s =>
    match s.runningHerd pe with
    | some h => .next (s.loadAll h)
    | none => .trap trapILL


/-! ### Stalls (R102, R148, R162) -/

/-- An operation that can stall, executed again. -/
def State.again (s : State) : Instr → State
  | .ld pe rd ra imm => s.opLd pe rd ra imm
  | .st pe rd ra imm => s.opSt pe rd ra imm
  | .ldx pe rd ra rb => s.opLdx pe rd ra rb
  | .stx pe rd ra rb => s.opStx pe rd ra rb
  | .sget pe rd ra rb nb o => s.opSget pe rd ra rb nb o
  | .sput pe rd ra rb nb o => s.opSput pe rd ra rb nb o
  | .sputg pe rd ra rb nb n1 o => s.opSputg pe rd ra rb nb n1 o
  | .qpush pe rd ra rb nb type => s.opQpush pe rd ra rb nb type
  | .lset pe rd ra rb sel => s.opLset pe rd ra rb sel
  | _ => s

/-- The stalled operation is tried again: where it stalls again nothing has happened, unless it now meets the bound of R162 for the first
time, which is counted. -/
def State.retry (s : State) (pe : Nat) (i : Instr) : State :=
  let k := (s.eng pe).lane
  let counted := fun (t : State) => Store.get (t.eng pe).counted 0 k
  let t := (s.modEng pe fun E => { E with stalled := Store.set E.stalled none k none }).again i
  if (Store.get (t.eng pe).stalled none k).isSome then (if counted t = counted s then s else t)
  else t.modEng pe fun E => { E with counted := Store.set E.counted 0 k 0 }

/-- The stalled operation is a push to a queue of the engine's own die. -/
def State.localPush (s : State) (pe : Nat) : Instr → Bool
  | .qpush _ _ ra _ _ _ => decide ((s.queueOf pe ra).toNat / 8192 = pe / 32)
  | _ => false

/-- The stalled operation of the running lane. -/
def State.stalledOp (s : State) (pe : Nat) : Option Instr := Store.get (s.eng pe).stalled none (s.eng pe).lane

/-- BLOCKING_STALL_RELEASE (R162). An engine stalled at a bound on reads or posted operations issues its operation
once room frees. -/
def execBlockingStallRelease (pe : Nat) (s : State) : Host.Outcome State Fault Refusal :=
  guarded (decide (pe < 32 * s.dies)) s <|
    match s.stalledOp pe with
    | some i => if s.localPush pe i then s else s.retry pe i
    | none => s


/-- QUEUE_PUSH_RETRY (R148). A stalled blocking local push is retried each store cycle until it returns other than
FULL. -/
def execQueuePushRetry (pe : Nat) (s : State) : Host.Outcome State Fault Refusal :=
  guarded (decide (pe < 32 * s.dies)) s <|
    match s.stalledOp pe with
    | some i => if s.localPush pe i then s.retry pe i else s
    | none => s


end Sys2Proof.Machine
end

