-- ==== Sys2Proof/Machine/Ring.lean ====
section
/-!
DEFINITION. Requests that arrive over the die ring, and the responses that land (R138, R154, R158 to R165). On a channel from
one die to another they arrive in the order in which they were sent (R28).
-/
namespace Sys2Proof.Machine

/-- The oldest request of die `src` to die `d` that has not been served (R28). -/
def State.arriving (s : State) (d src : Nat) : Option Xfer :=
  s.ring.find? fun x => decide (x.src = src) && decide (x.dst = d) &&
    (match x.stage with | .request | .retry => true | .blocked | .answered _ _ => false)

/-- A transfer moved to another stage. -/
def State.setStage (s : State) (id : Nat) (st : XferStage) : State :=
  { s with ring := s.ring.map fun x => if x.id = id then { x with stage := st } else x }

/-- A transfer that has ended. -/
def State.dropXfer (s : State) (id : Nat) : State := { s with ring := s.ring.filter fun x => !decide (x.id = id) }

/-- A request is served only when a response credit of the way back is free (R159). -/
def State.canServe (s : State) (x : Xfer) : Bool := decide (0 < s.creditsFree x.dst (s.ringAscending x.dst x.src) true)

/-- The answer to a transfer. -/
def State.answerXfer (s : State) (x : Xfer) (st : Status) (data : Nat) : State :=
  s.setStage x.id (.answered st (BitVec.ofNat 32 data))

/-- Who pushes by a ring request: an engine, or the QMSG event unit (R147). -/
def ringPusher (x : Xfer) : Pusher := match x.who with | .engine pe => .engine pe | .host | .debug | .chain _ | .unit => .qmsg

/-- The source die of a blocked push noted in the waiter mask of its queue (R154). -/
def State.addWaiter (s : State) (id src : Nat) : State :=
  { s with qWaiters := Store.set s.qWaiters 0 id (Store.get s.qWaiters 0 id ||| 2 ^ src) }

/-- A push that arrives at queue `id` (R148, R154, R156): a blocking one that meets a full queue is answered FULL and waits for a
space notice; its first FULL answer is counted. -/
def State.pushArrives (s : State) (x : Xfer) (id : Nat) (e : QEntry) (nb : Bool) : State :=
  let r := s.queuePush id (ringPusher x) e (decide (x.stage = .request))
  if r.2 = .full && !nb && decide (s.get F.Q_CFG_KIND (id / 8192) (id % 8192) ≠ 4) then
    (r.1.addWaiter id x.src).setStage x.id .blocked
  else r.1.answerXfer x r.2 0

/-- The pushes of die `d` that wait at queue `id` are sent again (R154): they follow what has been sent since (R28). -/
def State.resend (s : State) (d : Nat) (id : BitVec 16) : State :=
  let again : Xfer → Bool := fun x =>
    decide (x.src = d) && decide (x.stage = .blocked) && (match x.op with | .push q _ _ => q == id | _ => false)
  { s with ring := s.ring.filter (fun x => !again x) ++ (s.ring.filter again).map fun x => { x with stage := .retry } }

/-- A request without a response (R158): a load-all or a space notice. -/
def RingOp.oneWay : RingOp → Bool
  | .loadAll _ _ _ | .notice _ => true
  | .read _ | .write _ _ | .group _ _ | .push _ _ _ | .lset _ _ _ | .regRead _ _ | .regWrite _ _ _ | .record _ => false

/-- What die `d` does with a request that it serves (R137, R139, R148, R132, R230, R154, R89, R464), with its answer. -/
def State.serveOp (s : State) (d : Nat) (x : Xfer) : State :=
  match x.op with
  | .read p =>
    let st := s.pointStatus p
    s.answerXfer x st (if st = .ok then (s.point p).toNat else 0)
  | .write p v =>
    let st := s.pointStatus p
    (if st = .ok then s.writePoint p v x.who x.herd else s).answerXfer x st 0
  | .group p vs =>
    let st := s.pointStatus p
    (if st = .ok then s.writeGroup p vs x.who x.herd else s).answerXfer x st 0
  | .push id e nb => s.pushArrives x id.toNat e nb
  | .lset leg sel v =>
    let r := s.lsetWrite x.who (x.herd.getD 64) d (leg % 24) sel v.toNat
    r.1.answerXfer x r.2 0
  | .loadAll h due inRun => (s.loadAllArrives d h due inRun).dropXfer x.id
  | .notice id => (s.resend d id).dropXfer x.id
  | .regRead a odd =>
    if odd then s.answerXfer x .ok (s.regPeek x.who a)
    else
      let r := s.regRead x.who a
      r.1.answerXfer x r.2.1 r.2.2
  | .regWrite a v whole =>
    let r := s.regWriteLow x.who a (v.toNat % 2 ^ 24) (if whole then some (v.toNat / 2 ^ 24) else none)
    r.1.answerXfer x r.2 0
  | .record e =>
    let r := s.intakePush e
    r.1.answerXfer x r.2 0

/-- The oldest request of `src` to `d` is served where `kind` names its operation; another operation leaves the ring as it is. -/
def State.serveXfer (s : State) (d src : Nat) (kind : RingOp → Bool) : State :=
  match s.arriving d src with
  | some x => if kind x.op && (x.op.oneWay || s.canServe x) then s.serveOp d x else s
  | none => s

/-- RING_POINT_READ (R138). A point-read request arriving over the ring is served in the store cycle after it and
answered with data. -/
def execRingPointRead (d : Nat) (src : Nat) (s : State) : Host.Outcome State Fault Refusal :=
  guarded (decide (d < s.dies) && decide (src < s.dies)) s <|
    s.serveXfer d src fun | .read _ => true | _ => false


/-- RING_POINT_WRITE (R137). A point-write request arriving over the ring is applied atomically and acknowledged. -/
def execRingPointWrite (d : Nat) (src : Nat) (s : State) : Host.Outcome State Fault Refusal :=
  guarded (decide (d < s.dies) && decide (src < s.dies)) s <|
    s.serveXfer d src fun | .write _ _ => true | _ => false


/-- RING_GROUP_COMMIT (R139). A group-commit request arriving over the ring applies all its points in one store cycle.
-/
def execRingGroupCommit (d : Nat) (src : Nat) (s : State) : Host.Outcome State Fault Refusal :=
  guarded (decide (d < s.dies) && decide (src < s.dies)) s <|
    s.serveXfer d src fun | .group _ _ => true | _ => false


/-- RING_QUEUE_PUSH (R154). A remote push arriving at a queue is appended or answered FULL with the source set in the
waiter mask. -/
def execRingQueuePush (d : Nat) (src : Nat) (s : State) : Host.Outcome State Fault Refusal :=
  guarded (decide (d < s.dies) && decide (src < s.dies)) s <|
    s.serveXfer d src fun | .push _ _ _ | .record _ => true | _ => false


/-- RING_LSET (R132). A posted LSET arriving at a member die is judged and applied at the leg register. -/
def execRingLset (d : Nat) (src : Nat) (s : State) : Host.Outcome State Fault Refusal :=
  guarded (decide (d < s.dies) && decide (src < s.dies)) s <|
    s.serveXfer d src fun | .lset _ _ _ => true | _ => false


/-- RING_LOADALL (R229). A load-all arriving at a member die copies its legs' shadow sets to pending sets under the
original stamps. -/
def execRingLoadall (d : Nat) (src : Nat) (s : State) : Host.Outcome State Fault Refusal :=
  guarded (decide (d < s.dies) && decide (src < s.dies)) s <|
    s.serveXfer d src fun | .loadAll _ _ _ => true | _ => false


/-- SPACE_NOTICE (R154). A space notice makes the source die resend its blocked remote push. -/
def execSpaceNotice (d : Nat) (src : Nat) (s : State) : Host.Outcome State Fault Refusal :=
  guarded (decide (d < s.dies) && decide (src < s.dies)) s <|
    s.serveXfer d src fun | .notice _ => true | _ => false


/-- RING_REGISTER_ACCESS (R165). A register access arriving over the ring is served whatever the domain states and
answered. -/
def execRingRegisterAccess (d : Nat) (src : Nat) (s : State) : Host.Outcome State Fault Refusal :=
  guarded (decide (d < s.dies) && decide (src < s.dies)) s <|
    s.serveXfer d src fun | .regRead _ _ | .regWrite _ _ _ => true | _ => false


/-! ### Responses (R159, R164) -/

/-- What an awaited data register takes (R142, R164, R165): the data, zero from a point that does not exist, nothing where a
blocking read did not succeed, zero where a non-blocking one was aborted. What a non-blocking read takes that is answered otherwise is
open: `other` (log entry 16). -/
def landed (op : RingOp) (st : Status) (data : BitVec 32) (blocking : Bool) (other : Word) : Option Word :=
  match op, st with
  | .regRead _ odd, .ok => some (if odd then BitVec.ofNat 24 (data.toNat / 2 ^ 24) else data.truncate 24)
  | _, .ok => some (data.truncate 24)
  | _, .refused => some 0
  | _, .aborted => if blocking then none else some 0
  | _, _ => if blocking then none else some other

/-- The lane of an engine that waits for a transfer (R102). -/
def Engine.laneOf (E : Engine) (id : Nat) : Option Nat := [0, 1, 2, 3].find? fun k => decide (Store.get E.waits 0 k = id + 1)

/-- The latch that a remote read of an even word sets (R89): of the context that waits; a wait in the trap window is that of the
context that trapped. -/
def State.latchLanded (s : State) (pe lane : Nat) (op : RingOp) (st : Status) (data : BitVec 32) : State :=
  match op, st with
  | .regRead a false, .ok => s.setHigh pe (if lane = 3 then (s.eng pe).ctx else lane) a data.toNat
  | _, _ => s

/-- The answer to a request of an engine lands (R131, R153, R164): awaited registers are filled, and a wait ends. -/
def State.engineLands (s : State) (pe : Nat) (x : Xfer) (st : Status) (data : BitVec 32) : State :=
  let E := s.eng pe
  let lane := E.laneOf x.id
  let mine := E.awaits.filter fun a => decide (a.id = x.id)
  let other := BitVec.ofNat 24 (Config.freeNat s.fresh)
  let fill := fun (E : Engine) (a : Await) =>
    if a.isStatus then E.store (BitVec.ofNat 24 st.code) a.dst
    else match landed x.op st data lane.isSome other with | some v => E.store v a.dst | none => E
  let s := s.modEng pe fun E =>
    let E := mine.foldl fill { E with awaits := E.awaits.filter fun a => !decide (a.id = x.id) }
    match lane with | some k => { E with waits := Store.set E.waits 0 k 0 } | none => E
  let s := match st with | .ok | .refused | .aborted => s | _ => s.nextFresh
  match lane with | some k => s.latchLanded pe k x.op st data | none => s

/-- The answer to a request of a hardware unit lands (R65, R183): a QMSG push that met a full queue sets MISS of its slot, a
destination write frees its entry. -/
def State.unitLands (s : State) (x : Xfer) (st : Status) : State :=
  match x.op with
  | .push _ e _ => if st = .full then s.putB F.AEV_CFG_MISS true x.src (e.payload.w0.toNat % 256) else s
  | _ => s.destAnswered x.src x.id

/-- A response reaches die `d` (R159, R164): an engine's is discarded where its cluster is not ON, unless it reports that the
transfer was aborted; it is counted where the cluster was forced out of ON. -/
def State.responseLands (s : State) (x : Xfer) (st : Status) (data : BitVec 32) : State :=
  let s := s.dropXfer x.id
  match x.who with
  | .engine pe =>
    let on := s.domOn (pe / 32) (pe % 32 / 4)
    let s := if st = .aborted ∨ (on = false ∧ (s.dom (pe / 32) (pe % 32 / 4)).force = true) then
        s.incSat F.RING_STAT_ABORT_CNT x.src else s
    if on || decide (st = .aborted) then s.engineLands pe x st data else s
  | .host | .debug | .chain _ | .unit =>
    (if st = .aborted then s.incSat F.RING_STAT_ABORT_CNT x.src else s).unitLands x st

/-- The oldest answered transfer of die `d` that die `src` has served. -/
def State.returning (s : State) (d src : Nat) : Option (Xfer × Status × BitVec 32) :=
  s.ring.findSome? fun x =>
    match x.stage with
    | .answered st v => if x.src = d ∧ x.dst = src then some (x, st, v) else none
    | .request | .retry | .blocked => none

/-- RING_RESPONSE (R159). A response landing in its reserved place fills an awaited register or status and frees its
table entry or posted count. -/
def execRingResponse (d : Nat) (src : Nat) (s : State) : Host.Outcome State Fault Refusal :=
  guarded (decide (d < s.dies) && decide (src < s.dies)) s <|
    match s.returning d src with
    | some r => s.responseLands r.1 r.2.1 r.2.2
    | none => s


/-! ### Accesses from outside (R28, R143, R162) -/

/-- Every response in flight lands: responses always drain (R159). -/
def State.landAll (s : State) : State :=
  s.ring.foldl (fun s x => match x.stage with | .answered st v => s.responseLands x st v | .request | .retry | .blocked => s) s

/-- The oldest request of `src` to `d` is served, whatever it is, once a response credit is free. -/
def State.serveNext (s : State) (d src : Nat) : State :=
  match s.arriving d src with
  | some x => if x.op.oneWay || s.canServe x then s.serveOp d x else s.landAll.serveOp d x
  | none => s

/-- An access that comes through D0 from outside the engines reaches die `d` behind the requests that D0 has sent there before it
(R28): these are served first (log entry 55). -/
def State.behind (s : State) (d : Nat) : State :=
  if d = 0 then s else (List.range s.ring.length).foldl (fun s _ => s.serveNext d 0) s

/-- An access that comes from outside through D0: from the host, the debug port or the chain (R28). -/
def fromOutsideD0 : Requester → Bool
  | .host | .debug | .chain _ => true
  | .engine _ | .unit => false

/-- The state in which a register access of `q` takes effect on die `d` (R28): from outside, behind what D0 has sent there. -/
def State.reached (s : State) (q : Requester) (d : Nat) : State := if fromOutsideD0 q then s.behind d else s

/-- An access of `q` to die `d` takes effect where it has reached it. -/
def State.arrived (s : State) (q : Requester) (d : Nat) (f : State → State) : State := f (s.reached q d)

/-- An access of kind `p` from outside through D0 that touches the dies `ds` (R28, R162): FULL with no effect, counted, where one of
them is another die and D0 is at its bound; else it follows what D0 has sent to them. -/
def State.fromOutside (s : State) (p : RingOp → Bool) (ds : List Nat) : Option State :=
  let ds := (ds.eraseDups).filter fun d => decide (d ≠ 0) && decide (d < s.dies)
  if !ds.isEmpty && s.dieFull 0 p then none else some (ds.foldl (fun s d => s.behind d) s)

/-- An access from outside that answers FULL at the bound of R162. -/
def State.outsideFull (s : State) : State := s.incSat F.RING_FULL_NB_CNT 0

end Sys2Proof.Machine
end

