-- ==== Sys2Proof/Machine/Control.lean ====
section
/-!
DEFINITION. Branches, calls and returns (R118 to R120), system instructions (R134), window spill and fill (R80, R81, R83), and
undefined encodings (R105).
-/
namespace Sys2Proof.Machine

/-! ### Branches and calls -/

/-- A target relative to the next instruction (R108, R118). -/
def State.target (s : State) (pe : Nat) (off : BitVec 17) : BitVec 15 := (s.eng pe).pc + 1 + off.truncate 15

/-- BR (R118). Branches when its condition holds. -/
def execBr (pe : Nat) (cond : BitVec 4) (ra : Spec) (off : BitVec 17) (s : State) : Host.Outcome State Fault Refusal
    :=
  guarded (decide (pe < 32 * s.dies)) s <|
    s.issue pe (if cond.toNat < 9 then [] else [ra]) (if cond ≠ 0 ∧ (cond.toNat < 9 ∨ 13 ≤ cond.toNat) then [specSTK] else []) (decide (cond ≠ 15) && (decide (9 ≤ cond.toNat) || ra == 0)) fun s =>
    if branchHolds cond.toNat (s.eng pe).stkNow (s.val pe ra) then .goto s (s.target pe off) else .next s


/-- JR (R119). Jumps to a register-named target. -/
def execJr (pe : Nat) (ra : Spec) (s : State) : Host.Outcome State Fault Refusal :=
  guarded (decide (pe < 32 * s.dies)) s <|
    s.issue pe [ra] [] true fun s => .goto s ((s.val pe ra).truncate 15)


/-- The engine is in the fast bank or in TW (R120). -/
def State.noFrames (s : State) (pe : Nat) : Bool := (s.eng pe).fast || (s.eng pe).trap

/-- Register `k` of the file awaits its data (R131). -/
def State.slotAwaited (s : State) (pe k : Nat) : Bool := (s.eng pe).awaits.any fun a => a.dst == .reg k

/-- A call to `pc` (R80, R119, R120). -/
def State.callTo (s : State) (pe : Nat) (pc : BitVec 15) : Act :=
  if s.noFrames pe then .trap trapILL
  else if s.get F.ENG_WIN_WIN_USED (pe / 32) (pe % 32) = 8 then .trap trapWOVF
  else if s.slotAwaited pe (windowReg (s.get F.ENG_WIN_CWP (pe / 32) (pe % 32) + 1) 11) then .done s
  else .goto (s.pushFrame pe ((s.eng pe).pc + 1)) pc

/-- CALL (R119). Advances the window and calls a PC-relative target, linking in the callee's w11. -/
def execCall (pe : Nat) (off : BitVec 17) (s : State) : Host.Outcome State Fault Refusal :=
  guarded (decide (pe < 32 * s.dies)) s <|
    s.issue pe [] [] true fun s => s.callTo pe (s.target pe off)


/-- CALLR (R119). Calls a register-named target. -/
def execCallr (pe : Nat) (ra : Spec) (s : State) : Host.Outcome State Fault Refusal :=
  guarded (decide (pe < 32 * s.dies)) s <|
    s.issue pe [ra] [] true fun s => s.callTo pe ((s.val pe ra).truncate 15)


/-- RET (R81, R82, R119, R120): the return of a task's first frame ends the task; any other return reads w11, and stalls while
that awaits its data (R131). -/
def State.opRet (s : State) (pe : Nat) : Act :=
  let used := s.get F.ENG_WIN_WIN_USED (pe / 32) (pe % 32)
  let spilled := s.get F.ENG_WIN_SPILLED (pe / 32) (pe % 32)
  if s.noFrames pe then .trap trapILL
  else if used ≠ 2 then .done (if s.awaited pe [11] then s else s.popFrame pe)
  else if spilled ≠ 0 then .trap trapWUNF
  else if (s.eng pe).normal then .trap trapILL
  else .done (s.haltTask pe)

/-- RET (R119). Returns to the caller, taking WUNF or ending the task where the window state requires. -/
def execRet (pe : Nat) (s : State) : Host.Outcome State Fault Refusal :=
  guarded (decide (pe < 32 * s.dies)) s <|
    s.issue pe [] [] true fun s => s.opRet pe


/-! ### System -/

/-- NOP (R134). Does nothing for one cycle. -/
def execNop (pe : Nat) (s : State) : Host.Outcome State Fault Refusal :=
  guarded (decide (pe < 32 * s.dies)) s <|
    s.issue pe [] [] true fun s => .next s


/-- CLRSTK (R134). Clears the sticky flags of the running context. -/
def execClrstk (pe : Nat) (s : State) : Host.Outcome State Fault Refusal :=
  guarded (decide (pe < 32 * s.dies)) s <|
    s.issue pe [] [specSTK] true fun s =>
    .next (s.modEng pe fun E => E.setStk (BitVec.ofNat 24 (E.stkNow.toNat / 128 * 128)))


/-- FENCE (R91). Waits until every earlier remote access of the engine has completed. -/
def execFence (pe : Nat) (s : State) : Host.Outcome State Fault Refusal :=
  guarded (decide (pe < 32 * s.dies)) s <|
    s.issue pe [] [] true fun s => if s.outstanding pe then .done s else .next s


/-- HALT (R134). Fences and then ends the task. -/
def execHalt (pe : Nat) (s : State) : Host.Outcome State Fault Refusal :=
  guarded (decide (pe < 32 * s.dies)) s <|
    s.issue pe [] [] true fun s =>
    if s.noFrames pe || (s.eng pe).normal then .trap trapILL else .done (s.haltTask pe)


/-- TRAP (R134). Takes the SOFT trap. -/
def execTrap (pe : Nat) (s : State) : Host.Outcome State Fault Refusal :=
  guarded (decide (pe < 32 * s.dies)) s <|
    s.issue pe [] [] true fun _ => .trap trapSOFT


/-- EOI of source `src`: where it moves CWP back it reads w11, and stalls while that awaits its data (R131, R134). -/
def State.opEoi (s : State) (pe src : Nat) : State :=
  let E := s.eng pe
  if s.eoiMatches pe src && !E.fast && !E.normalIdle && s.awaited pe [11] then s else s.completeSource pe src

/-- EOI (R483). Completes the interrupt source at the top of the stack, re-samples a level line and returns to the
interrupted context. -/
def execEoi (pe : Nat) (ra : Spec) (s : State) : Host.Outcome State Fault Refusal :=
  guarded (decide (pe < 32 * s.dies)) s <|
    s.issue pe [ra] [] true fun s =>
    if (s.eng pe).trap || !((s.eng pe).fast || (s.eng pe).normal) then .trap trapILL
    else
     let t := s.raiseFlags pe (s.readFlags pe [ra])
     .done (if s.stkBlocks pe t then s else t.opEoi pe ((s.val pe ra).toNat % 512))


/-- TRET (R84): window traps and ADDR resume at the trapping instruction, the others after it. -/
def State.opTret (s : State) (pe : Nat) : Act :=
  if !(s.eng pe).trap then .trap trapILL
  else
    let tpc := BitVec.ofNat 15 (s.get F.ENG_TRAP_TPC (pe / 32) (pe % 32))
    let pc := if s.get F.ENG_TRAP_CAUSE (pe / 32) (pe % 32) ≤ trapADDR then tpc else tpc + 1
    .done (s.modEng pe fun E => { E with trap := false, pc := pc })

/-- TRET (R84). Leaves the trap window and resumes as the trap cause gives. -/
def execTret (pe : Nat) (s : State) : Host.Outcome State Fault Refusal :=
  guarded (decide (pe < 32 * s.dies)) s <|
    s.issue pe [] [] true fun s => s.opTret pe


/-- WSPILL (R80, R83): the oldest resident frame goes to the spill area in private data. Nothing checks that WIN_USED stays in 2
to 8: at 2 it becomes 1 (R79, log entry 54). -/
def State.spill (s : State) (pe : Nat) : Act :=
  let d := pe / 32; let e := pe % 32
  let spp := s.get F.ENG_SPP_SPP d e
  let used := s.get F.ENG_WIN_WIN_USED d e
  let w := s.get F.ENG_WIN_CWP d e + 10 - used
  if !(s.eng pe).trap then .trap trapILL
  else if s.get F.ENG_SPB_SPLIM d e < spp + 12 then .trap trapSPLIM
  else if (List.range 12).any fun r => s.slotAwaited pe (windowReg w r) then .done s
  else
    let regs := (s.eng pe).regs
    let priv := (List.range 12).foldl
      (fun m r => Store.set m 0 (pe * 2048 + (spp + r) % 2048) (Store.get regs 0 (windowReg w r))) s.priv
    .next ((({ s with priv := priv }.put F.ENG_SPP_SPP (spp + 12) d e).put F.ENG_WIN_SPILLED
      (s.get F.ENG_WIN_SPILLED d e + 1) d e).put F.ENG_WIN_WIN_USED (used - 1) d e)

/-- WSPILL (R80). Spills the oldest resident frame to the spill area. -/
def execWspill (pe : Nat) (s : State) : Host.Outcome State Fault Refusal :=
  guarded (decide (pe < 32 * s.dies)) s <|
    s.issue pe [] [] true fun s => s.spill pe


/-- WFILL (R81, R83): the frame below the current one comes back from the spill area. At WIN_USED 8 it becomes 9 (R79, log entry
54). -/
def State.fill (s : State) (pe : Nat) : Act :=
  let d := pe / 32; let e := pe % 32
  let spp := s.get F.ENG_SPP_SPP d e
  let used := s.get F.ENG_WIN_WIN_USED d e
  let w := s.get F.ENG_WIN_CWP d e + 7
  if !(s.eng pe).trap then .trap trapILL
  else if spp < s.get F.ENG_SPB_SPBASE d e + 12 then .trap trapSPLIM
  else if (List.range 12).any fun r => s.slotAwaited pe (windowReg w r) then .done s
  else
    let t := s.modEng pe fun E => { E with
      regs := (List.range 12).foldl
        (fun m r => Store.set m 0 (windowReg w r) (Store.get s.priv 0 (pe * 2048 + (spp - 12 + r) % 2048))) E.regs }
    .next (((t.put F.ENG_SPP_SPP (spp - 12) d e).put F.ENG_WIN_SPILLED (s.get F.ENG_WIN_SPILLED d e - 1) d e).put
      F.ENG_WIN_WIN_USED (used + 1) d e)

/-- WFILL (R81). Refills the caller's frame from the spill area. -/
def execWfill (pe : Nat) (s : State) : Host.Outcome State Fault Refusal :=
  guarded (decide (pe < 32 * s.dies)) s <|
    s.issue pe [] [] true fun s => s.fill pe


/-- DISP (R134). Dispatches a task on an engine of the die with an argument. -/
def execDisp (pe : Nat) (ra : Spec) (rb : Spec) (s : State) : Host.Outcome State Fault Refusal :=
  guarded (decide (pe < 32 * s.dies)) s <|
    s.issue pe [ra, rb] [] true fun s =>
    let a := (s.val pe ra).toNat
    .next (s.engDisp (.engine pe) (pe / 32 * 32 + a / 32 % 32) ((s.val pe rb).toNat % 65536) (a % 32))


/-! ### Undefined encodings (R104, R105) -/

/-- The instruction set lists this word (R104, R105): the decoder reads an instruction from it. -/
def isDefined (v : Nat) : Bool := (decodeUselo 0 (BitVec.ofNat 32 v)).isSome

/-- The instruction that stands at the PC of engine `pe` in its cluster's program memory (R87, R104). The sender of commands supplies
the instructions that engines issue (log entry 5). -/
def State.nextInstr (s : State) (pe : Nat) : Option Instr :=
  decodeUselo pe (s.programWord (pe / 32) (pe % 32 / 4) (s.eng pe).pc)

/-- UNDEFINED_ENCODING (R105). An engine that issues an undefined opcode, unlisted function code or non-zero
zero-field word, such as erased program memory, takes the ILL trap. -/
def execUndefinedEncoding (pe : Nat) (w : BitVec 32) (s : State) : Host.Outcome State Fault Refusal :=
  guarded (decide (pe < 32 * s.dies)) s <|
    if isDefined w.toNat then s else s.issue pe [] [] false fun s => .next s


end Sys2Proof.Machine
end

