-- ==== Sys2Proof/Machine/LongOps.lean ====
section
/-!
DEFINITION. Long instructions (R100, R101, R121 to R126) and transforms (R127).
-/
namespace Sys2Proof.Machine

/-! ### Operands in memory (R121) -/

/-- A long instruction may read word address `a`: private and shared data, a capture ring, or the local signal store. -/
def longReads (pe a : Nat) : Bool :=
  match regionOf pe (a % 2 ^ 24) with
  | .priv _ | .shared _ | .capture _ => true
  | .point p => decide (pointDie p = pe / 32)
  | .reg _ _ | .absent => false

/-- A long instruction may write word address `a`. -/
def longWrites (pe a : Nat) : Bool :=
  match regionOf pe (a % 2 ^ 24) with
  | .priv _ | .shared _ => true
  | .point p => decide (pointDie p = pe / 32)
  | .capture _ | .reg _ _ | .absent => false

/-- Every word of a range satisfies `f`. -/
def rangeOk (f : Nat → Bool) (a n : Nat) : Bool := (List.range n).all fun k => f (a + k)

/-- A word read by a long instruction; where a signal store does not answer, the value is open: a free one (log entry 40). -/
def State.peekWord (s : State) (pe a : Nat) : Word :=
  match regionOf pe (a % 2 ^ 24) with
  | .priv k => Store.get s.priv 0 k
  | .shared k => Store.get s.shared 0 k
  | .capture k => Store.get s.capture 0 k
  | .point p => if s.pointStatus p = .ok then s.point p else BitVec.ofNat 24 (Config.freeNat (s.fresh * 2 ^ 24 + p))
  | .reg _ _ | .absent => 0

/-- The state with the free values counted that reads of the ranges `rs` of (address, words) have drawn. -/
def State.drawn (s : State) (pe : Nat) (rs : List (Nat × Nat)) : State :=
  let silent := fun a => match regionOf pe (a % 2 ^ 24) with
    | .point p => decide (s.pointStatus p ≠ .ok)
    | .priv _ | .shared _ | .capture _ | .reg _ _ | .absent => false
  if rs.any fun r => (List.range r.2).any fun k => silent (r.1 + k) then s.nextFresh else s

/-- `n` words read from `a` on. -/
def State.peekWords (s : State) (pe a n : Nat) : List Word := (List.range n).map fun k => s.peekWord pe (a + k)

/-- A word written by a long instruction; a signal store that does not answer takes nothing. -/
def State.pokeWord (s : State) (pe a : Nat) (v : Word) : State :=
  match regionOf pe (a % 2 ^ 24) with
  | .priv k => { s with priv := Store.set s.priv 0 k v }
  | .shared k => { s with shared := Store.set s.shared 0 k v }
  | .point p => if s.pointStatus p = .ok then s.writePoint p v (.engine pe) (s.runningHerd pe) else s
  | .capture _ | .reg _ _ | .absent => s

/-! ### Progress (R100, R101) -/

/-- Long instructions of a task or a normal handler have boundaries; those of a fast handler and of TW run to completion. -/
def Engine.cuttable (E : Engine) : Bool := !E.fast && !E.trap

/-- The resume state of the instruction at the PC, if it has been cut. -/
def Engine.resumed (E : Engine) : Option Resume :=
  match E.resume with
  | some r => if E.cuttable && decide (r.pc = E.pc) then some r else none
  | none => none

/-- Where a long instruction with `n` steps that stands at step `m` goes to: its end, or boundary `cut`. -/
def Engine.goal (E : Engine) (n m : Nat) (cut : Option Nat) : Nat :=
  match cut with
  | some k => if E.cuttable then max m (min k n) else n
  | none => n

/-- A long instruction that began in `old` leaves at a boundary: its progress is recorded (R100); at boundary 0 its setup is abandoned.
A flag that it has raised so far waits for STK as at its end (R131). -/
def State.leaveAt (s old : State) (pe k : Nat) (partialSum : Int) (vec : List Word) : Act :=
  .done (old.unlessStk pe
    (if k = 0 then s else s.modEng pe fun E => { E with resume := some ⟨E.pc, k, partialSum, vec⟩ }))

/-- A long instruction is complete: its resume state ends. -/
def State.longDone (s : State) (pe : Nat) : Act :=
  .next (s.modEng pe fun E => if E.resumed.isSome then { E with resume := none } else E)

/-! ### MVM and MVA (R122, R123) -/

/-- The rows `i`, `i` + 1, … of M·x, `n` of them. -/
def State.matRows (pe m y cols osh : Nat) (add fmt neg : Bool) (x : List Word) : Nat → Nat → State → State
  | 0, _, s => s
  | n + 1, i, s =>
    let t := dot (s.peekWords pe (m + i * cols) cols) x
    let a := if add then (s.peekWord pe (y + i)).toInt else 0
    let r := matrixRow fmt neg osh a t
    State.matRows pe m y cols osh add fmt neg x n (i + 1) ((s.pokeWord pe (y + i) r.1).raiseFlags pe r.2)

/-- MVM (`add` false) and MVA. -/
def State.opMatrix (s : State) (pe : Nat) (add : Bool) (base dst : Spec) (rows cols : Nat) (fmt neg : Bool) (osh : Nat)
    (cut : Option Nat) : State :=
  s.issue pe [base, base + 1, dst] [] (isPair base) fun s =>
    let m := (s.val pe base).toNat
    let xa := (s.val pe (base + 1)).toNat
    let y := (s.val pe dst).toNat
    if !(rangeOk (longReads pe) m (rows * cols) && rangeOk (longReads pe) xa cols && rangeOk (longWrites pe) y rows) then
      .trap trapADDR
    else
      let E := s.eng pe
      let r := E.resumed
      let start := match r with | some r => r.progress | none => 0
      let x := match r with | some r => r.vec | none => s.peekWords pe xa cols
      let stop := E.goal rows start cut
      let t := (State.matRows pe m y cols osh add fmt neg x (stop - start) start s).drawn pe [(m, rows * cols), (xa, cols), (y, rows)]
      if stop < rows then t.leaveAt s pe stop 0 x else t.longDone pe

/-- MVM (R122). Resumable matrix-vector multiply of up to 8 by 8. -/
def execMvm (pe : Nat) (base : Spec) (rows1 : BitVec 3) (cols1 : BitVec 3) (dst : Spec) (fmt : Bool) (neg : Bool) (osh
    : BitVec 2) (cut : Option Nat) (s : State) : Host.Outcome State Fault Refusal :=
  guarded (decide (pe < 32 * s.dies)) s <|
    s.opMatrix pe false base dst (rows1.toNat + 1) (cols1.toNat + 1) fmt neg osh.toNat cut


/-- MVA (R122). Resumable matrix-vector multiply added to the destination vector. -/
def execMva (pe : Nat) (base : Spec) (rows1 : BitVec 3) (cols1 : BitVec 3) (dst : Spec) (fmt : Bool) (neg : Bool) (osh
    : BitVec 2) (cut : Option Nat) (s : State) : Host.Outcome State Fault Refusal :=
  guarded (decide (pe < 32 * s.dies)) s <|
    s.opMatrix pe true base dst (rows1.toNat + 1) (cols1.toNat + 1) fmt neg osh.toNat cut


/-! ### FIR (R124) -/

/-- The result of FIR to its register: exact into an accumulator, else the Q1.23 view. -/
def State.firResult (s : State) (pe : Nat) (dst : Spec) (osh : Nat) (sum : Int) : State :=
  if isAcc dst then
    let r := narrow56 (sum * 2 ^ osh)
    (s.setAcc pe dst r.1).raiseFlags pe r.2
  else
    let r := matrixRow false false osh 0 sum
    (s.setVal pe dst r.1).raiseFlags pe r.2

/-- FIR (R124). Resumable dot product of up to 64 taps. -/
def execFir (pe : Nat) (base : Spec) (n1 : BitVec 6) (dst : Spec) (osh : BitVec 2) (cut : Option Nat) (s : State) :
    Host.Outcome State Fault Refusal :=
  guarded (decide (pe < 32 * s.dies)) s <|
    s.issue pe [base, base + 1] [dst] (isPair base) fun s =>
    let n := n1.toNat + 1
    let h := (s.val pe base).toNat
    let a := (s.val pe (base + 1)).toNat
    if !(rangeOk (longReads pe) h n && rangeOk (longReads pe) a n) then .trap trapADDR
    else
      let E := s.eng pe
      let groups := (n + 3) / 4
      let start := match E.resumed with | some r => r.progress | none => 0
      let sum := match E.resumed with | some r => r.partialSum | none => 0
      let stop := E.goal groups start cut
      let k := min n (4 * stop) - 4 * start
      let sum := sum + dot (s.peekWords pe (h + 4 * start) k) (s.peekWords pe (a + 4 * start) k)
      let t := s.drawn pe [(h, n), (a, n)]
      if stop < groups then t.leaveAt s pe stop sum [] else (t.firResult pe dst osh.toNat sum).longDone pe


/-! ### BCOPY (R125) -/

/-- `n` words copied in ascending order. -/
def State.copyWords (pe : Nat) : Nat → Nat → Nat → State → State
  | 0, _, _, s => s
  | n + 1, a, b, s => State.copyWords pe n (a + 1) (b + 1) (s.pokeWord pe b (s.peekWord pe a))

/-- Given words written in ascending order. -/
def State.pokeWords (pe : Nat) : List Word → Nat → State → State
  | [], _, s => s
  | v :: vs, b, s => State.pokeWords pe vs (b + 1) (s.pokeWord pe b v)

/-- The `n` words from `a` on all lie in the signal store. -/
def inStore (pe a n : Nat) : Bool :=
  (List.range n).all fun k => match regionOf pe ((a + k) % 2 ^ 24) with
    | .point _ => true
    | .priv _ | .shared _ | .capture _ | .reg _ _ | .absent => false

/-- BCOPY (R125). Resumable copy of up to 256 words. A source of at most 8 words in the signal store is read whole in
one store cycle (R140), also where a boundary cuts the copy. -/
def execBcopy (pe : Nat) (base : Spec) (n1 : BitVec 8) (dst : Spec) (cut : Option Nat) (s : State) : Host.Outcome
    State Fault Refusal :=
  guarded (decide (pe < 32 * s.dies)) s <|
    s.issue pe [base, dst] [] (isGeneral base) fun s =>
    let n := n1.toNat + 1
    let a := (s.val pe base).toNat
    let b := (s.val pe dst).toNat
    if !(rangeOk (longReads pe) a n && rangeOk (longWrites pe) b n) then .trap trapADDR
    else
      let E := s.eng pe
      let pairs := (n + 1) / 2
      let start := match E.resumed with | some r => r.progress | none => 0
      let stop := E.goal pairs start cut
      let m := min n (2 * stop) - 2 * start
      let xs := match E.resumed with
        | some r => r.vec
        | none => if n ≤ 8 ∧ inStore pe a n then s.peekWords pe a n else []
      let t := if xs.isEmpty then State.copyWords pe m (a + 2 * start) (b + 2 * start) s
        else State.pokeWords pe ((xs.drop (2 * start)).take m) (b + 2 * start) s
      let t := t.drawn pe [(a, n)]
      if stop < pairs then t.leaveAt s pe stop 0 xs else t.longDone pe


/-! ### Transforms (R127) -/

/-- One of the numbers that an accuracy admits: the least, and how many there are. Which one the part gives is open. -/
def State.pick (s : State) (r : Int × Nat) : Int × State := (r.1 + (Config.freeNat s.fresh % r.2 : Nat), s.nextFresh)

/-- An output whose exact value is `e` × 2⁻⁶⁴ LSB: saturated with SAT_CVT where that lies outside Q1.23, −1 where it is exactly −1,
else one of the numbers `r` that the accuracy admits, saturated with SAT_CVT where it lies outside. -/
def State.output (s : State) (e : Int) (r : Int × Nat) : (Word × Nat) × State :=
  if 2 ^ 87 ≤ e ∨ e ≤ -2 ^ 87 then (narrow24 flagCvt (e / 2 ^ 64), s.nextFresh)
  else
    let a := s.pick r
    (narrow24 flagCvt a.1, a.2)

/-- A pair of results within 2 LSB of exact values in 2⁻⁶⁴ LSB. -/
def State.pairResult (s : State) (pe : Nat) (rd : Spec) (e f : Int) : Act :=
  let x := s.output e (within e 2)
  let y := x.2.output f (within f 2)
  .next ((y.2.setGroup pe rd [x.1.1, y.1.1]).raiseFlags pe (x.1.2 ||| y.1.2))

/-- An output of SINCOS whose exact value is `v` × 2⁻⁶⁴: ±(1 − 2⁻²³) for ±1, else within 2 LSB and symmetric. -/
def State.sineOutput (s : State) (v : Int) : Word × State :=
  if v = 2 ^ 64 then (8388607, s.nextFresh)
  else if v = -2 ^ 64 then (-8388607, s.nextFresh)
  else
    let a := s.pick (within (v * 2 ^ 23) 2)
    (BitVec.ofInt 24 (clampInt a.1 (-8388607) 8388607), a.2)

/-- SINCOS (R127). Sine and cosine of an angle pair. -/
def execSincos (pe : Nat) (rd : Spec) (ra : Spec) (s : State) : Host.Outcome State Fault Refusal :=
  guarded (decide (pe < 32 * s.dies)) s <|
    s.issue pe [ra, ra + 1] [rd, rd + 1] (isPair rd && isPair ra) fun s =>
    let t := s.pairVal pe ra
    let x := s.sineOutput (sinTurn t)
    let y := x.2.sineOutput (cosTurn t)
    .next (y.2.setGroup pe rd [x.1, y.1])


/-- ATAN2 (R127). Angle of a vector as an angle pair. -/
def execAtan2 (pe : Nat) (rd : Spec) (ra : Spec) (rb : Spec) (s : State) : Host.Outcome State Fault Refusal :=
  guarded (decide (pe < 32 * s.dies)) s <|
    s.issue pe [ra, rb] [rd, rd + 1] (isPair rd) fun s =>
    let y := (s.val pe ra).toInt
    let x := (s.val pe rb).toInt
    if x = 0 ∧ y = 0 then .next ((s.setPair pe rd 0).raiseFlags pe flagDiv0)
    else
      let a := s.pick ((atanQuarter x.natAbs y.natAbs : Int) - 1023, 2048)
      .next (a.2.setPair pe rd (BitVec.ofInt 32 (quadrant x y a.1)))


/-- A square root of `m` within 1 LSB, saturated with SAT_CVT: always where it is 1 or more. -/
def State.rootResult (s : State) (pe : Nat) (rd : Spec) (m : Nat) : Act :=
  let x := s.output (if 2 ^ 46 ≤ m then 2 ^ 87 else 0) (withinRoot m)
  x.2.result pe rd x.1

/-- SQRT (R127). Square root. -/
def execSqrt (pe : Nat) (rd : Spec) (ra : Spec) (s : State) : Host.Outcome State Fault Refusal :=
  guarded (decide (pe < 32 * s.dies)) s <|
    s.issue pe [ra] [rd] true fun s =>
    let a := (s.val pe ra).toInt
    if a < 0 then s.result pe rd (0, 0) else s.rootResult pe rd (a.toNat * 2 ^ 23)


/-- MAG (R127). Magnitude of a two-component vector. -/
def execMag (pe : Nat) (rd : Spec) (ra : Spec) (rb : Spec) (s : State) : Host.Outcome State Fault Refusal :=
  guarded (decide (pe < 32 * s.dies)) s <|
    s.issue pe [ra, rb] [rd] true fun s =>
    let a := (s.val pe ra).toInt
    let b := (s.val pe rb).toInt
    s.rootResult pe rd (a * a + b * b).toNat


/-- CLARKE (R127). Amplitude-invariant Clarke transform. -/
def execClarke (pe : Nat) (rd : Spec) (ra : Spec) (s : State) : Host.Outcome State Fault Refusal :=
  guarded (decide (pe < 32 * s.dies)) s <|
    s.issue pe (groupOf ra 3) [rd, rd + 1] (isPair rd && isGroup ra 3) fun s =>
    let v := fun (k : Nat) => ((s.groupVals pe ra 3).getD k 0).toInt
    s.pairResult pe rd ((2 * v 0 - v 1 - v 2) * 2 ^ 64 / 3) ((v 1 - v 2) * invSqrt3)


/-- PARK (`sign` 1) and IPARK (`sign` −1): a rotation of the pair ra by the angle pair rb. -/
def State.rotate (s : State) (pe : Nat) (rd ra rb : Spec) (sign : Int) : State :=
  s.issue pe [ra, ra + 1, rb, rb + 1] [rd, rd + 1] (isPair rd && isPair ra && isPair rb) fun s =>
    let x := (s.val pe ra).toInt
    let y := (s.val pe (ra + 1)).toInt
    let t := s.pairVal pe rb
    let c := cosTurn t
    let n := sign * sinTurn t
    s.pairResult pe rd (x * c + y * n) (y * c - x * n)

/-- PARK (R127). Park transform by an angle pair. -/
def execPark (pe : Nat) (rd : Spec) (ra : Spec) (rb : Spec) (s : State) : Host.Outcome State Fault Refusal :=
  guarded (decide (pe < 32 * s.dies)) s <|
    s.rotate pe rd ra rb 1


/-- IPARK (R127). Inverse Park transform by an angle pair. -/
def execIpark (pe : Nat) (rd : Spec) (ra : Spec) (rb : Spec) (s : State) : Host.Outcome State Fault Refusal :=
  guarded (decide (pe < 32 * s.dies)) s <|
    s.rotate pe rd ra rb (-1)


end Sys2Proof.Machine
end

