-- ==== Sys2Proof/Machine/Ports.lean ====
section
/-!
DEFINITION. The CAN FD controllers (R509 to R512) and the PMBus and AVSBus target (R513 to R517).
-/
namespace Sys2Proof.Machine

/-! ### CAN FD -/

/-- The data length of a DLC (R510): classical frames carry at most 8 bytes. -/
def canLen (fdf : Bool) (dlc : Nat) : Nat :=
  if dlc ≤ 8 then dlc
  else if !fdf then 8
  else match dlc with
    | 9 => 12 | 10 => 16 | 11 => 20 | 12 => 24 | 13 => 32 | 14 => 48 | _ => 64

/-- The entries of a frame of `l` data bytes (R510). -/
def canEntries (l : Nat) : Nat := 1 + (l - 3 + 11) / 12

/-- Three data bytes from byte `k` on as one word (R510); bytes beyond the length are zero. -/
def canWord (data : List (BitVec 8)) (l k : Nat) : Word :=
  let b := fun i => if k + i < l then (data.getD (k + i) 0).toNat else 0
  BitVec.ofNat 24 (b 0 + b 1 * 256 + b 2 * 65536)

/-- The identifier of a frame: a standard one has 11 bits (R510). -/
def canIdent (f : CanFrame) : Nat := if f.ide then f.id.toNat else f.id.toNat % 2048

/-- The payloads of the entries of a received frame (R510), with the tick at its end. -/
def canPayloads (f : CanFrame) (tick : Nat) : List Payload :=
  let l := canLen f.fdf f.dlc.toNat
  let bit := fun (b : Bool) (n : Nat) => if b then 2 ^ n else 0
  let w1 := (canIdent f) / 2 ^ 24 + bit f.ide 5 + bit f.fdf 6 + bit f.brs 7 + f.dlc.toNat * 256 + bit f.esi 12
  ⟨BitVec.ofNat 24 (canIdent f), BitVec.ofNat 24 w1, BitVec.ofNat 24 tick, canWord f.data l 0⟩ ::
    (List.range (canEntries l - 1)).map fun i =>
      ⟨canWord f.data l (3 + 12 * i), canWord f.data l (6 + 12 * i), canWord f.data l (9 + 12 * i),
        canWord f.data l (12 + 12 * i)⟩

/-- The first enabled filter of controller `c` that a frame matches (R511). -/
def State.canFilter (s : State) (c : Nat) (f : CanFrame) : Option Nat :=
  (List.range 16).find? fun k =>
    s.bit F.CAN_FID_EN 0 c k && decide (s.bit F.CAN_FID_IDE 0 c k = f.ide) &&
    decide (((canIdent f) ^^^ s.get F.CAN_FID_ID 0 c k) &&& s.get F.CAN_FMSK_MSK 0 c k = 0)

/-- The error state of controller `c` follows its counters (R509): the entry into error-passive raises CAN_ERR. -/
def State.canState (s : State) (c : Nat) : State :=
  let passive := decide (127 < s.get F.CAN_STAT_TEC 0 c) || decide (127 < s.get F.CAN_STAT_REC 0 c)
  match s.get F.CAN_STAT_STATE 0 c with
  | 0 => if passive then (s.put F.CAN_STAT_STATE 1 0 c).irqEdge 0 (223 + c) else s
  | 1 => if passive then s else s.put F.CAN_STAT_STATE 0 0 c
  | _ => s

/-- The controller takes part in bus traffic: it is enabled and not in bus-off. -/
def State.canOn (s : State) (c : Nat) : Bool := s.bit F.CAN_CFG_EN 0 c && decide (s.get F.CAN_STAT_STATE 0 c ≠ 2)

/-- A frame received without error lowers REC (ISO 11898-1, log entry 33): from above 127 to a value of 119 to 127. -/
def State.canHeard (s : State) (c : Nat) : State :=
  let r := s.get F.CAN_STAT_REC 0 c
  if r ≤ 127 then (s.put F.CAN_STAT_REC (r - 1) 0 c).canState c
  else (s.nextFresh.put F.CAN_STAT_REC (119 + Config.freeNat s.fresh % 9) 0 c).canState c

/-- A received frame (R511): all of its entries are pushed, or none. Entries for a queue of another die follow what D0 has sent there
(R28); where D0 is at its bound they are not sent, which its RING_FULL counts too (R162). -/
def State.canReceive (s : State) (c : Nat) (f : CanFrame) : State :=
  if !s.canOn c || (f.fdf && !s.bit F.CAN_CFG_FD_EN 0 c) then s
  else
    let s := s.canHeard c
    if f.rtr then s
    else
      match s.canFilter c f with
      | none => s.incSat F.CAN_CNT_NOMATCH_CNT 0 c
      | some k =>
        let id := s.get F.CAN_FQ_QUEUE 0 c k
        let es := canPayloads f (s.tick 0)
        let s := if id / 8192 < s.dies then s.behind (id / 8192) else s
        let bound := decide (id / 8192 ≠ 0) && decide (id / 8192 < s.dies) && s.dieFull 0 RingOp.posted
        let s := if bound then s.outsideFull else s
        let fits := !bound && decide (s.queueStatus id = .ok) && decide (s.get F.Q_CFG_KIND (id / 8192) (id % 8192) = 6) &&
          s.pushAllowed id (.can c) &&
          decide ((s.entries id).length + es.length ≤ s.get F.Q_SIZE_DEPTH (id / 8192) (id % 8192))
        if fits then es.foldl (fun s p => (s.queuePush id (.can c) ⟨mkHdr (.can c) 0, p⟩ true).1) s
        else s.incSat F.CAN_CNT_RX_OVR_CNT 0 c

/-- CAN_RX_FRAME (R511). A received CAN frame is matched against filters and pushed whole to its receive queue or
counted. -/
def execCanRxFrame (c : Nat) (frame : CanFrame) (s : State) : Host.Outcome State Fault Refusal :=
  guarded (decide (c < 2)) s <|
    s.canReceive c frame


/-- The frame at the head of the queue of transmit entry `j` (R512): its identifier and number of entries, once all are held. -/
def State.canHead (s : State) (c j : Nat) : Option (Nat × Nat) :=
  let id := s.get F.CAN_TXQ_QUEUE 0 c j
  if !s.bit F.CAN_TXQ_EN 0 c j || !decide (s.queueStatus id = .ok) || !decide (s.get F.Q_CFG_KIND (id / 8192) (id % 8192) = 6) ||
    !s.popAllowed id (.can c) then none
  else
    match s.entries id with
    | [] => none
    | e :: es =>
      let w1 := e.payload.w1.toNat
      let fdf := w1.testBit 6
      let n := canEntries (canLen fdf (w1 / 256 % 16))
      let ide := w1.testBit 5
      let ident := if ide then e.payload.w0.toNat + w1 % 32 * 2 ^ 24 else e.payload.w0.toNat % 2048
      if (e :: es).length < n ∨ (fdf ∧ !s.bit F.CAN_CFG_FD_EN 0 c) then none else some (ident, n)

/-- The transmit entry whose frame goes first (R512): the lowest identifier, then the lowest number. -/
def State.canNext (s : State) (c : Nat) : Option Nat :=
  ((List.range 4).foldl (fun (b : Option (Nat × Nat)) j =>
    match s.canHead c j, b with
    | none, b => b
    | some (i, _), none => some (i, j)
    | some (i, _), some (i0, j0) => if i < i0 then some (i, j) else some (i0, j0)) none).map (·.2)

/-- `k` entries popped from queue `id` by controller `c`. -/
def State.canPop (s : State) (c id : Nat) : Nat → State
  | 0 => s
  | k + 1 => State.canPop (s.queuePop id (.can c)).1 c id k

/-- The state in which controller `c` looks at its transmit queues (R28): behind what D0 has sent to their dies. -/
def State.canReach (s : State) (c : Nat) : State :=
  forEach (((List.range 4).filter fun j => s.bit F.CAN_TXQ_EN 0 c j).map fun j => s.get F.CAN_TXQ_QUEUE 0 c j / 8192)
    (fun s d => if d < s.dies then s.behind d else s) s

/-- CAN_TX_FRAME (R512). A frame sent without error is popped from its transmit queue. -/
def execCanTxFrame (c : Nat) (j : Nat) (s : State) : Host.Outcome State Fault Refusal :=
  guarded (decide (c < 2) && decide (j < 4)) s <|
    let s := if s.canOn c then s.canReach c else s
    if !s.canOn c || s.canNext c != some j then s
    else
     match s.canHead c j with
     | none => s
     | some (_, n) =>
       let s := s.canPop c (s.get F.CAN_TXQ_QUEUE 0 c j) n
       (s.put F.CAN_STAT_TEC (s.get F.CAN_STAT_TEC 0 c - 1) 0 c).canState c


/-- An error or a lost arbitration (R509, ISO 11898-1, log entry 33). A TEC beyond 255 leaves bus-off due. -/
def State.canError (s : State) (c : Nat) (err : CanError) : State :=
  if !s.canOn c then s
  else
    match err with
    | .tx =>
      let t := s.get F.CAN_STAT_TEC 0 c + 8
      let s := (s.put F.CAN_STAT_TEC (min t 255) 0 c).canState c
      if 255 < t then { s with canOff := Store.set s.canOff 0 c 1 } else s
    | .rx => (s.put F.CAN_STAT_REC (min (s.get F.CAN_STAT_REC 0 c + 1) 255) 0 c).canState c
    | .rxDominant => (s.put F.CAN_STAT_REC (min (s.get F.CAN_STAT_REC 0 c + 8) 255) 0 c).canState c
    | .arbitrationLost => s

/-- CAN_ERROR (R509). A CAN frame sent or received with a bus error, or a transmission that loses arbitration, updates
TEC and REC per ISO 11898-1, and entry into error-passive raises CAN_ERR. -/
def execCanError (c : Nat) (err : CanError) (s : State) : Host.Outcome State Fault Refusal :=
  guarded (decide (c < 2)) s <|
    s.canError c err


/-- CAN_BUS_OFF (R509). A controller entering bus-off sets BUSOFF, raises CAN_ERR and records CAN_BUS_OFF. -/
def execCanBusOff (c : Nat) (s : State) : Host.Outcome State Fault Refusal :=
  guarded (decide (c < 2)) s <|
    if Store.get s.canOff 0 c = 0 then s
    else
     let s := { s with canOff := Store.set s.canOff 0 c 0 }
     let s := (s.put F.CAN_STAT_STATE 2 0 c).put F.CAN_STAT_BUSOFF 1 0 c
     (s.irqEdge 0 (223 + c)).hwRecord 0 0x0B06 none noLeg c 0 0


/-- CAN_BUS_OFF_RECOVERY (R509). With AUTO_REC, a bus-off controller recovers after 128 occurrences of 11 recessive
bits. -/
def execCanBusOffRecovery (c : Nat) (s : State) : Host.Outcome State Fault Refusal :=
  guarded (decide (c < 2)) s <|
    if s.bit F.CAN_CFG_AUTO_REC 0 c && decide (s.get F.CAN_STAT_STATE 0 c = 2) then
     ((s.put F.CAN_STAT_STATE 0 0 c).put F.CAN_STAT_TEC 0 0 c).put F.CAN_STAT_REC 0 0 c
    else s


/-! ### PMBus -/

/-- A counter of PMB_CNT raised (R536): each increment raises PMB_ERR. -/
def State.pmbCount (s : State) (cnt : Fld) : State :=
  if s.get cnt < 255 then (s.incSat cnt).irqEdge 0 225 else s

/-- Page `p` is served (R513). -/
def State.pageOn (s : State) (p : Nat) : Bool := decide (p < 16) && s.bit F.PMB_PG_EN 0 p

/-- The pages that a write addresses (R513): the selected one, or every enabled one. -/
def State.writePages (s : State) : List Nat :=
  if s.pmbPage = 0xFF then (List.range 16).filter s.pageOn else if s.pageOn s.pmbPage then [s.pmbPage] else []

/-- A push to the queue of page `p` (R514); a queue that cannot take it, or is another page's, is counted. -/
def State.pagePush (s : State) (avs : Bool) (code data p : Nat) : State × Status :=
  let id := s.get F.PMB_PQ_QUEUE 0 p
  let e : QEntry := ⟨mkHdr .pmbus 0, ⟨BitVec.ofNat 24 ((if avs then 65536 else 0) + code * 256 + p), BitVec.ofNat 24 data,
    BitVec.ofNat 24 (s.tick 0), 0⟩⟩
  let mine := decide (s.get F.Q_CFG_OWNER (id / 8192) (id % 8192) % 16 = p)
  let r := match s.fromOutside RingOp.posted [id / 8192] with
    | none => (s.outsideFull, .full)
    | some s => if mine then s.queuePush id .pmbus e true else (s, .refused)
  if r.2 = .ok then r else (r.1.pmbCount F.PMB_CNT_QFULL_CNT, .refused)

/-- Pushes to several pages (R514); the last byte is NACKed where one of them fails. -/
def State.pagesPush (s : State) (avs : Bool) (code data : Nat) (ps : List Nat) : State × Status :=
  ps.foldl (fun (r : State × Status) p =>
    let x := r.1.pagePush avs code data p
    (x.1, if x.2 = .ok then r.2 else x.2)) (s, .ok)

/-- A write whose PEC is judged (R515): discarded without one where PEC_REQ asks for it; a bad one is NACKed and counted. -/
def State.pmbWrite (s : State) (pec : Option Bool) (run : State → State × Status) : State :=
  if !s.bit F.PMB_CFG_EN then s
  else
    match pec with
    | none => if s.bit F.PMB_CFG_PEC_REQ then s else let r := run s; r.1.reply r.2 []
    | some true => let r := run s; r.1.reply r.2 []
    | some false => (s.pmbCount F.PMB_CNT_PEC_CNT).reply .refused []

/-- The state in which the points of page `p` are read (R28): behind what D0 has sent to the dies that hold them. -/
def State.forPage (s : State) (p : Nat) : State :=
  let x := s.get F.PMB_PG_BPT 0 p
  [pointDie x, pointDie (x + 2)].eraseDups.foldl (fun s d => if d < s.dies then s.behind d else s) s

/-- The answer to a read by command `code` with `n` data bytes, low byte first, and the PEC byte that follows them when the host clocks
one (R515): over the address with its write bit, the code, the address with its read bit and the data. -/
def State.pmbAnswer (s : State) (code n v : Nat) : State :=
  let a := s.get F.PMB_CFG_ADDR
  let bytes := [2 * a, code, 2 * a + 1] ++ (List.range n).map fun k => v / 256 ^ k % 256
  { s.reply .ok [v] with pec := BitVec.ofNat 8 (crc8 bytes) }

/-- A read of the selected page (R513): a page that is not served, or the choice of all pages, is NACKed. -/
def State.pmbRead (s : State) (code n : Nat) (f : State → Nat → State × Nat) : State :=
  if !s.bit F.PMB_CFG_EN then s
  else if !s.pageOn s.pmbPage then s.reply .refused []
  else let r := f (s.forPage s.pmbPage) s.pmbPage; r.1.pmbAnswer code n r.2

/-- A write to the addressed pages that is stored by `put` and pushed (R513, R514); NACKed where no page is served. -/
def State.pmbStore (s : State) (code v : Nat) (put : State → Nat → State) : State × Status :=
  let ps := s.writePages
  if ps.isEmpty then (s, .refused) else (ps.foldl put s).pagesPush false code v ps

/-- PAGE (R513). PMBus PAGE selects a page or all enabled pages. -/
def execPage (page : Option (BitVec 8)) (pec : Option Bool) (s : State) : Host.Outcome State Fault Refusal :=
  guarded true s <|
    match page with
    | none => if s.bit F.PMB_CFG_EN then s.pmbAnswer 0x00 1 s.pmbPage else s
    | some v => s.pmbWrite pec fun s =>
       if v.toNat = 0xFF ∨ v.toNat < 16 then ({ s with pmbPage := v.toNat }, .ok) else (s, .refused)


/-- OPERATION (R514). PMBus OPERATION is stored and pushed to the page's queue. -/
def execOperation (v : Option (BitVec 8)) (pec : Option Bool) (s : State) : Host.Outcome State Fault Refusal :=
  guarded true s <|
    match v with
    | none => s.pmbRead 0x01 1 fun s p => (s, s.get F.PMB_PQ_OPER 0 p)
    | some v => s.pmbWrite pec fun s => s.pmbStore 0x01 v.toNat fun s p => s.put F.PMB_PQ_OPER v.toNat 0 p


/-- ON_OFF_CONFIG (R514). PMBus ON_OFF_CONFIG is stored and pushed. -/
def execOnOffConfig (v : Option (BitVec 8)) (pec : Option Bool) (s : State) : Host.Outcome State Fault Refusal :=
  guarded true s <|
    match v with
    | none => s.pmbRead 0x02 1 fun s p => (s, s.get F.PMB_PQ_OOC 0 p)
    | some v => s.pmbWrite pec fun s => s.pmbStore 0x02 v.toNat fun s p => s.put F.PMB_PQ_OOC v.toNat 0 p


/-- CLEAR_FAULTS (R514). PMBus CLEAR_FAULTS is pushed to the page's queue. -/
def execClearFaults (pec : Option Bool) (s : State) : Host.Outcome State Fault Refusal :=
  guarded true s <|
    s.pmbWrite pec fun s => s.pmbStore 0x03 0 fun s _ => s


/-- VOUT_COMMAND (R514). PMBus VOUT_COMMAND is stored and pushed. -/
def execVoutCommand (v : Option (BitVec 16)) (pec : Option Bool) (s : State) : Host.Outcome State Fault Refusal :=
  guarded true s <|
    match v with
    | none => s.pmbRead 0x21 2 fun s p => (s, s.get F.PMB_PV_VCMD 0 p)
    | some v => s.pmbWrite pec fun s => s.pmbStore 0x21 v.toNat fun s p => s.put F.PMB_PV_VCMD v.toNat 0 p


/-- Point `BPT + k` of page `p` (R513), as a number. -/
def State.pagePoint (s : State) (p k : Nat) : Int :=
  let x := s.get F.PMB_PG_BPT 0 p + k
  if s.pointStatus x = .ok then (s.point x).toInt else 0

/-- A point of the page scaled by K / 2²³ and limited to 0–0xFFFF (R513, R516). -/
def State.pageScaled (s : State) (p k : Nat) : State × Nat :=
  let r := s.nearest (s.pagePoint p 0 * k) (2 ^ 23)
  (r.2, (min (max r.1 0) 0xFFFF).toNat)

/-- STATUS_WORD (R513). PMBus STATUS_WORD returns the status point. -/
def execStatusWord (s : State) : Host.Outcome State Fault Refusal :=
  guarded true s <|
    s.pmbRead 0x79 2 fun s p => (s, (BitVec.ofInt 16 (s.pagePoint p 2)).toNat)


/-- READ_VOUT (R513). PMBus READ_VOUT returns the output voltage point scaled by KV. -/
def execReadVout (s : State) : Host.Outcome State Fault Refusal :=
  guarded true s <|
    s.pmbRead 0x8B 2 fun s p => s.pageScaled p (s.get F.PMB_PSC_KV 0 p)


/-- READ_IOUT (R513). PMBus READ_IOUT returns the current point in LINEAR11. -/
def execReadIout (s : State) : Host.Outcome State Fault Refusal :=
  guarded true s <|
    s.pmbRead 0x8C 2 fun s p =>
     let r := s.nearest (s.pagePoint p 1 * s.get F.PMB_PSC_KI 0 p) (2 ^ 23)
     (r.2, s.get F.PMB_PG_IEXP 0 p * 2048 + (BitVec.ofInt 11 (min (max r.1 (-1023)) 1023)).toNat)


/-- PMBUS_UNSUPPORTED (R514). An unsupported PMBus command is NACKed and counted. -/
def execPmbusUnsupported (code : BitVec 8) (s : State) : Host.Outcome State Fault Refusal :=
  guarded true s <|
    if !s.bit F.PMB_CFG_EN || [0x00, 0x01, 0x02, 0x03, 0x21, 0x79, 0x8B, 0x8C].contains code.toNat then s
    else (s.pmbCount F.PMB_CNT_UNSUP_CNT).reply .refused []


/-! ### AVSBus -/

/-- An AVSBus frame (R516): ignored and counted where its CRC is bad; rail `r` is page `r`. -/
def State.avs (s : State) (rail : Nat) (crcOk : Bool) (run : State → State) : State :=
  if !s.bit F.PMB_CFG_AVS_EN then s
  else if !crcOk then s.pmbCount F.PMB_CNT_AVS_CRC_CNT
  else if s.pageOn rail then run (s.forPage rail)
  else s.reply .refused []

/-- AVS_VOUT_WRITE (R516). An AVSBus Vout write pushes the voltage to the rail's queue. -/
def execAvsVoutWrite (rail : BitVec 4) (mv : BitVec 16) (crcOk : Bool) (s : State) : Host.Outcome State Fault Refusal
    :=
  guarded true s <|
    s.avs rail.toNat crcOk fun s => let r := s.pagePush true 0 mv.toNat rail.toNat; r.1.reply r.2 []


/-- AVS_VOUT_READ (R516). An AVSBus Vout read returns the voltage point in mV. -/
def execAvsVoutRead (rail : BitVec 4) (crcOk : Bool) (s : State) : Host.Outcome State Fault Refusal :=
  guarded true s <|
    s.avs rail.toNat crcOk fun s => let r := s.pageScaled rail.toNat (s.get F.PMB_PV_KA 0 rail.toNat); r.1.reply .ok [r.2]


/-- AVS_STATUS_READ (R516). An AVSBus status read returns the status point. -/
def execAvsStatusRead (rail : BitVec 4) (crcOk : Bool) (s : State) : Host.Outcome State Fault Refusal :=
  guarded true s <|
    s.avs rail.toNat crcOk fun s => s.reply .ok [(BitVec.ofInt 16 (s.pagePoint rail.toNat 2)).toNat]


end Sys2Proof.Machine
end

