-- ==== Sys2Proof/Machine/HostPort.lean ====
section
/-!
DEFINITION. What reaches the whole host map (R504 to R508, R525 to R527, R531, R562 to R565): SPI transfers, the debug port, and
requests of other chain units; and the end of BOOT (R550), which writes the settings of the image.
-/
namespace Sys2Proof.Machine

/-! ### Bursts -/

/-- A burst of `n` words from byte address `a` lies within one block of registers (R506). -/
def oneBlock (a n : Nat) : Bool := decide (a / 0x10000 = (a + 4 * (n - 1)) / 0x10000)

/-- An address in the point window (R562). -/
def inPoints (a : Nat) : Bool := decide (0x80000000 ≤ a) && decide (a < 0x80400000)

/-- An address in the queue window (R562). -/
def inQueues (a : Nat) : Bool := decide (0x40000000 ≤ a) && decide (a < 0x40100000)

/-- Register reads of `n` words in ascending order (R564), with the status and the words. -/
def State.readWords (q : Requester) : Nat → Nat → State → State × List Status × List Nat
  | 0, _, s => (s, [], [])
  | n + 1, a, s =>
    let r := s.regRead q a
    let x := State.readWords q n (a + 4) r.1
    (x.1, r.2.1 :: x.2.1, r.2.2 :: x.2.2)

/-- Register writes in ascending order (R564), with the statuses. A W1C bit that an event sets in the cycle of its word stays set (R13). -/
def State.writeWords (q : Requester) : List WrittenWord → Nat → State → State × List Status
  | [], _, s => (s, [])
  | v :: vs, a, s =>
    let r := s.regWrite q a (s.sameCycle a v.v.toNat v.hw.toNat)
    let x := State.writeWords q vs (a + 4) r.1
    (x.1, r.2 :: x.2)

/-! ### The windows (R28, R141, R155, R162) -/

/-- A point read through D0: FULL where D0's remote reads are at their bound. -/
def State.outRead (s : State) (p n : Nat) : State × Status × List Nat :=
  match if s.ready then s.fromOutside RingOp.reads ((List.range n).map fun k => pointDie (p + k)) else some s with
  | none => (s.outsideFull, .full, List.replicate n 0)
  | some s =>
    let r := s.readPoints p n
    (s, r.1, r.2)

/-- A point write through D0: FULL where D0's posted operations are at their bound. -/
def State.outWrite (s : State) (q : Requester) (p : Nat) (vs : List Word) : State × Status :=
  match if s.ready then s.fromOutside RingOp.posted ((List.range vs.length).map fun k => pointDie (p + k)) else some s with
  | none => (s.outsideFull, .full)
  | some s => s.writePoints q p vs

/-- A queue push through D0: FULL where D0's posted operations are at their bound. -/
def State.outPush (s : State) (q : Requester) (id : Nat) (type : BitVec 7) (v : Payload) : State × Status :=
  match if s.ready then s.fromOutside RingOp.posted [id / 8192] else some s with
  | none => (s.outsideFull, .full)
  | some s => s.windowPush q id type v

/-- A queue pop through D0. -/
def State.outPop (s : State) (id : Nat) : State × Status × List Nat :=
  (if s.ready && decide (id / 8192 < s.dies) then s.behind (id / 8192) else s).windowPop id

/-- HOST_POINT_READ (R141). A host read of the point window returns points, split into indivisible parts of up to 8.
-/
def execHostPointRead (_q : Requester) (p : Nat) (n : Nat) (s : State) : Host.Outcome State Fault Refusal :=
  guarded true s <|
    let r := s.outRead p n
    r.1.reply r.2.1 r.2.2


/-- HOST_POINT_WRITE (R141). A host write of the point window writes points, parts of 2 to 8 as group commits. -/
def execHostPointWrite (q : Requester) (p : Nat) (vs : List Word) (s : State) : Host.Outcome State Fault Refusal :=
  guarded true s <|
    let r := s.outWrite q p vs
    r.1.reply r.2 []


/-- HOST_QUEUE_PUSH (R155). A 16-byte host write to the queue window pushes an entry without blocking. -/
def execHostQueuePush (q : Requester) (id : BitVec 16) (type : BitVec 7) (payload : Payload) (s : State) :
    Host.Outcome State Fault Refusal :=
  guarded true s <|
    let r := s.outPush q id.toNat type payload
    r.1.reply r.2 []


/-- HOST_QUEUE_POP (R155). A 16-byte host read of the queue window pops an entry. -/
def execHostQueuePop (_q : Requester) (id : BitVec 16) (s : State) : Host.Outcome State Fault Refusal :=
  guarded true s <|
    let r := s.outPop id.toNat
    r.1.reply r.2.1 (if r.2.1 = .ok then r.2.2 else [])


/-- The state in which a register transfer at byte address `a` is served: behind what D0 has sent to the die that holds it. -/
def State.atRegister (s : State) (a : Nat) : State :=
  let d := a / 0x1000000 - 0x10
  if 0x10000000 ≤ a ∧ d < s.dies then s.behind d else s

/-- REGISTER_WRITE (R566). A write of a register without its own row is judged field by field and applied whole or
refused and counted. -/
def execRegisterWrite (q : Requester) (addr : Nat) (e : WrittenWord) (s : State) : Host.Outcome State Fault Refusal :=
  guarded true s <|
    let s := if fromOutsideD0 q then s.atRegister addr else s
    let r := s.regWrite q addr (s.sameCycle addr e.v.toNat e.hw.toNat)
    r.1.reply r.2 []


/-! ### Transfers -/

/-- What a transfer has come to: its status and data, or nothing yet, where words of its burst are still to be served. -/
abbrev Done := State × Option (Status × List Nat)

/-- A burst goes on until `left` of its words are still to be served (R564): complete, it answers its joined status and its data. -/
def State.burstOn (s : State) (b : Burst) (left : Nat) : Done :=
  let k := b.count - left
  let s := s.atRegister b.addr
  let r : State × List Status × List Nat := match b.words with
    | some ws => let x := State.writeWords b.who (ws.take k) b.addr s; (x.1, x.2, [])
    | none => State.readWords b.who k b.addr s
  let c : Burst := { b with addr := b.addr + 4 * k, words := b.words.map (·.drop k), count := b.count - k,
                            sts := b.sts ++ r.2.1, data := b.data ++ r.2.2 }
  let others := r.1.bursts.filter fun x => !decide (x.key = b.key)
  if c.count = 0 then ({ r.1 with bursts := others }, some (joinStatus c.sts, c.data))
  else ({ r.1 with bursts := others ++ [c] }, none)

/-- The burst of a port goes on; where the port has none, nothing happens. -/
def State.burstCont (s : State) (key : BurstKey) (left : Nat) : Done :=
  match s.bursts.find? fun b => decide (b.key = key) with | some b => s.burstOn b left | none => (s, none)

/-- A read transfer of `n` words at byte address `a` (R140 to R142, R155, R506, R564). -/
def State.hostRead (s : State) (key : BurstKey) (q : Requester) (a n left : Nat) : Done :=
  let zeros := List.replicate n 0
  let whole := fun (r : State × Status × List Nat) => (r.1, some (r.2.1, r.2.2))
  if n = 0 ∨ a % 4 ≠ 0 then (s, some (.refused, zeros))
  else if inPoints a then whole (s.outRead ((a - 0x80000000) / 4) n)
  else if inQueues a then
    if !s.ready then (s, some (.notReady, zeros))
    else if n = 4 ∧ a % 16 = 0 then whole (s.outPop ((a - 0x40000000) / 16))
    else (s, some (.refused, zeros))
  else if !oneBlock a n then (s, some (.refused, zeros))
  else s.burstOn ⟨key, q, a, none, n, [], []⟩ left

/-- The payload of a push through the queue window (R155), with its TYPE. -/
def windowEntry (ws : List Nat) : BitVec 7 × Payload :=
  let w := fun k => BitVec.ofNat 24 (ws.getD k 0)
  (BitVec.ofNat 7 (ws.getD 0 0 / 2 ^ 24), ⟨w 0, w 1, w 2, w 3⟩)

/-- A write transfer at byte address `a` (R139 to R142, R155, R506, R564). -/
def State.hostWrite (s : State) (key : BurstKey) (q : Requester) (a : Nat) (ws : List WrittenWord) (left : Nat) : Done :=
  let n := ws.length
  let vs := ws.map (·.v.toNat)
  let whole := fun (r : State × Status) => (r.1, some (r.2, ([] : List Nat)))
  if n = 0 ∨ a % 4 ≠ 0 then (s, some (.refused, []))
  else if inPoints a then whole (s.outWrite q ((a - 0x80000000) / 4) (vs.map (BitVec.ofNat 24)))
  else if inQueues a then
    if !s.ready then (s, some (.notReady, []))
    else if n = 4 ∧ a % 16 = 0 then
      let e := windowEntry vs
      whole (s.outPush q ((a - 0x40000000) / 16) e.1 e.2)
    else (s, some (.refused, []))
  else if !oneBlock a n then (s, some (.refused, []))
  else s.burstOn ⟨key, q, a, some ws, n, [], []⟩ left

/-! ### SPI target (R504 to R506) -/

/-- The bytes of a transfer that the host's CRC covers (R505): CMD, ADDR and the data words, most significant byte first. -/
def transferBytes (cmd addr : Nat) (ws : List Nat) : List Nat := cmd :: bytesBE 4 addr ++ ws.flatMap (bytesBE 4)

/-- The response of a transfer (R505): STAT with the transfer count and the status, the data of a read, and their CRC. -/
def responseBytes (count : Nat) (st : Status) (ws : List Nat) : List (BitVec 8) :=
  let body := (count % 16 * 16 + st.code) :: ws.flatMap (bytesBE 4)
  (body ++ bytesBE 2 (crc16 body)).map (BitVec.ofNat 8)

/-- A transfer that reaches STAT: it is counted and answered (R505, R506), with the count that includes it (DESIGN CHOICE, log entry
60). -/
def State.spiDone (s : State) (st : Status) (ws : List Nat) : State :=
  let s := { s with spiLast := st }.incMod F.SPI_STAT_SEQ
  let ws := if st = .ok then ws else []
  { s.reply st ws with spiOut := responseBytes (s.get F.SPI_STAT_SEQ) st ws }

/-- A transfer whose host CRC fails (R506). -/
def State.spiBad (s : State) : State := (s.incSat F.SPI_STAT_CRC_CNT).spiDone .badCrc []

/-- The end of a transfer: none while its burst is not complete, nor after a package reset by its own write (R540). -/
def State.spiEnd (r : Done) : State :=
  match r.2 with
  | none => r.1
  | some x => if r.1.pkgState = 0 then r.1 else r.1.spiDone x.1 x.2

/-- The target takes a transfer of operation `op` (R505, R506): once its CRC checks. One whose OP is another, reserved ones among them,
is no such transfer and has no effect. -/
def State.spiTake (s : State) (op : Nat) (bytes : List Nat) (crc : BitVec 16) (run : State → State) : State :=
  if s.pkgState = 0 ∨ bytes.headD 0 / 64 ≠ op then s
  else if crc16 bytes ≠ crc.toNat then s.spiBad
  else run s

/-- The number of words that a CMD byte gives (R505). -/
def cmdWords (cmd : Nat) : Nat := cmd % 32 + 1

/-- SPI_READ (R505). An SPI read transfer returns status and N words after its CRC checks. -/
def execSpiRead (head : SpiHead) (part : BurstPart) (crc : BitVec 16) (s : State) : Host.Outcome State Fault Refusal
    :=
  guarded true s <|
    if part.cont then State.spiEnd (s.burstCont .spi part.left)
    else
     s.spiTake 0 (transferBytes head.cmd.toNat head.addr.toNat []) crc fun s =>
      State.spiEnd (s.hostRead .spi .host head.addr.toNat (cmdWords head.cmd.toNat) part.left)


/-- SPI_WRITE (R505). An SPI write transfer writes N words after its CRC checks and returns status. A transfer of
another length than its CMD gives is not complete and has no effect (R504). -/
def execSpiWrite (head : SpiHead) (ws : PartWords) (crc : BitVec 16) (s : State) : Host.Outcome State Fault Refusal :=
  guarded true s <|
    if ws.part.cont then State.spiEnd (s.burstCont .spi ws.part.left)
    else if ws.ws.length ≠ cmdWords head.cmd.toNat then s
    else
     s.spiTake 1 (transferBytes head.cmd.toNat head.addr.toNat (ws.ws.map (·.v.toNat))) crc fun s =>
      State.spiEnd (s.hostWrite .spi .host head.addr.toNat ws.ws ws.part.left)


/-- SPI_STATUS (R505). An SPI status transfer returns STAT of the last completed transfer. It returns STAT of the last
completed transfer, and is counted as one itself. -/
def execSpiStatus (st : SpiStatus) (s : State) : Host.Outcome State Fault Refusal :=
  guarded true s <|
    s.spiTake 2 [st.cmd.toNat] st.crc fun s =>
     { s.spiDone s.spiLast [] with spiOut := responseBytes (s.get F.SPI_STAT_SEQ) s.spiLast [] }


/-- SPI_ABANDON (R504). SPI_CS_N rising before the transfer ends abandons it with no effect. -/
def execSpiAbandon (s : State) : Host.Outcome State Fault Refusal :=
  guarded true s <|
    s


/-! ### Debug port (R508) -/

/-- The TAP takes an instruction. -/
def State.tapTake (s : State) (i : TapInstr) : State := { s with tap := { s.tap with instr := i } }

/-- BYPASS (R508). The TAP BYPASS instruction selects the bypass register. -/
def execBypass (s : State) : Host.Outcome State Fault Refusal :=
  guarded true s <|
    s.tapTake .bypass


/-- The identification code (R508). -/
def State.idCode (s : State) : Nat := s.get F.PKG_SLOT_SIREV % 16 * 2 ^ 28 + (0x5E00 + s.dies) * 2 ^ 12 + 0x4F1 * 2 + 1

/-- IDCODE (R508). The TAP IDCODE instruction returns the identification code. -/
def execIdcode (s : State) : Host.Outcome State Fault Refusal :=
  guarded true s <|
    (s.tapTake .idcode).reply .ok [s.idCode]


/-- SAMPLE_PRELOAD (R508). The TAP SAMPLE/PRELOAD instruction captures and loads boundary cells. -/
def execSamplePreload (cells : List Bool) (s : State) : Host.Outcome State Fault Refusal :=
  guarded true s <|
    let seen := (List.range ((cells.length + 31) / 32)).map fun k => Config.freeNat s.fresh / 2 ^ (32 * k)
    { s.nextFresh with tap := { s.tap with instr := .sample, cells := cells } }.reply .ok seen


/-- EXTEST is accepted (R508): every herd UNBOUND or BOUND, every zone disabled by both safety channels. -/
def State.extestOk (s : State) : Bool :=
  ((List.range (8 * s.dies)).all fun h => match s.herdState h with
    | .unbound | .bound => true
    | .armed | .running | .stopping | .faulted | .safe => false) &&
  decide (s.safety.driveA = 0) && decide (s.safety.driveB = 0)

/-- EXTEST (R508). The TAP EXTEST instruction drives boundary cells when all herds are BOUND or less and zones are
disabled. -/
def execExtest (s : State) : Host.Outcome State Fault Refusal :=
  guarded true s <|
    s.tapTake (if s.extestOk then .extest else .bypass)


/-- The levels of GH and GL of leg `n` at the pins (R508): those of the leg, but low under EXTEST, whose boundary cells can drive them
only low. -/
def State.gatePins (s : State) (d n : Nat) : Bool × Bool :=
  match s.tap.instr with
  | .extest => (false, false)
  | .bypass | .idcode | .sample | .hostacc => (s.bit F.LEG_STAT_GH d n, s.bit F.LEG_STAT_GL d n)

/-- The end of a HOSTACC transfer (R508): its data register holds the response in the format of R505, with a count of its own (DESIGN
CHOICE, log entry 60). -/
def State.tapEnd (r : Done) : State :=
  match r.2 with
  | none => r.1
  | some x =>
    if r.1.pkgState = 0 then r.1
    else
      let ws := if x.1 = .ok then x.2 else []
      let c := (r.1.tap.count + 1) % 16
      { r.1 with tap := { r.1.tap with count := c, last := x.1, out := responseBytes c x.1 ws } }.reply x.1 ws

/-- HOSTACC takes a transfer (R508) by its OP; a reserved one has no effect. -/
def State.hostAcc (s : State) (cmd addr : Nat) (ws : List WrittenWord) (crc : BitVec 16) (left : Nat) : State :=
  let bytes := match cmd / 64 with
    | 0 => transferBytes cmd addr []
    | 1 => transferBytes cmd addr (ws.map (·.v.toNat))
    | _ => [cmd]
  if s.pkgState = 0 ∨ 3 ≤ cmd / 64 ∨ (cmd / 64 = 1 ∧ ws.length ≠ cmdWords cmd) then s
  else if crc16 bytes ≠ crc.toNat then State.tapEnd (s, some (.badCrc, []))
  else
    match cmd / 64 with
    | 0 => State.tapEnd (s.hostRead .tap .debug addr (cmdWords cmd) left)
    | 1 => State.tapEnd (s.hostWrite .tap .debug addr ws left)
    | _ =>
      let t := State.tapEnd (s, some (s.tap.last, []))
      { t with tap := { t.tap with out := responseBytes s.tap.count s.tap.last [] } }

/-- HOSTACC (R508). The TAP HOSTACC instruction performs a host-map access in SPI format. -/
def execHostacc (cmd : BitVec 8) (addr : BitVec 32) (ws : PartWords) (crc : BitVec 16) (s : State) : Host.Outcome
    State Fault Refusal :=
  guarded true s <|
    let s := s.tapTake .hostacc
    if ws.part.cont then State.tapEnd (s.burstCont .tap ws.part.left)
    else s.hostAcc cmd.toNat addr.toNat ws.ws crc ws.part.left


/-- TAP_RESET (R508). TRST_N asserted resets the IEEE 1149.1 test access port to Test-Logic-Reset, ending any EXTEST
drive of the boundary cells. -/
def execTapReset (s : State) : Host.Outcome State Fault Refusal :=
  guarded true s <|
    { s with tap := TapRun.reset }


/-! ### Requests of other chain units (R522 to R527, R531) -/

/-- The RIDs that the window of a source and generation holds, newest first (R531). -/
def ChainRun.window (C : ChainRun) (src gen : Nat) : List Nat :=
  match C.windows.find? fun w => decide (w.1 = src ∧ w.2.1 = gen) with | some w => w.2.2 | none => []

/-- An executed request enters its window, which keeps the last 256 (R531). -/
def State.remember (s : State) (src gen rid : Nat) : State :=
  s.modChain fun C =>
    { C with windows := (src, gen, (rid :: C.window src gen).take 256) :: C.windows.filter fun w => !decide (w.1 = src ∧ w.2.1 = gen) }

/-- The RESP to a request leaves by the port at which the request came (R525, R527). -/
def State.answerReq (s : State) (fr : ChainHeader) (st orig : Status) (data : List Nat) : State :=
  s.sendFrame (!fr.up) (.resp fr.src.toNat (s.get F.CHN_STAT_ADDR) fr.gen.toNat fr.tag.toNat fr.rid.toNat st.code orig.code
    (if st = .ok then data else []))

/-- What a chain request asks for (R525). -/
inductive ChainAsk where
  | pRead (p n : Nat)
  | pWrite (p : Nat) (vs : List Word)
  | qPush (id : BitVec 16) (type : BitVec 7) (v : Payload)
  | rRead (addr n left : Nat)
  | rWrite (addr : Nat) (ws : List WrittenWord) (left : Nat)

/-- The TYPE code of a request (R525). -/
def ChainAsk.type : ChainAsk → Nat
  | .pRead _ _ => 0 | .pWrite _ _ => 1 | .qPush _ _ _ => 2 | .rRead _ _ _ => 3 | .rWrite _ _ _ => 4

/-- The payload words of a request (R525). -/
def ChainAsk.payload : ChainAsk → List Nat
  | .pRead p n => [p + (n - 1) * 2 ^ 20]
  | .pWrite p vs => (p + (vs.length - 1) * 2 ^ 20) :: vs.map (·.toNat)
  | .qPush id type v => [id.toNat, v.w0.toNat + type.toNat * 2 ^ 24, v.w1.toNat, v.w2.toNat, v.w3.toNat]
  | .rRead a n _ => [a, n]
  | .rWrite a ws _ => a :: ws.map (·.v.toNat)

/-- A request that changes the unit: its RID is kept, and it may be broadcast if it is P_WRITE or Q_PUSH (R526, R531). -/
def ChainAsk.writes : ChainAsk → Bool
  | .pRead _ _ | .rRead _ _ _ => false
  | .pWrite _ _ | .qPush _ _ _ | .rWrite _ _ _ => true

/-- A request may be broadcast (R526). -/
def ChainAsk.broadcast : ChainAsk → Bool
  | .pWrite _ _ | .qPush _ _ _ => true
  | .pRead _ _ | .rRead _ _ _ | .rWrite _ _ _ => false

/-- A request executed for the unit that sent it (R143, R525, R526); a count outside the range of R525 is refused. -/
def State.serve (s : State) (fr : ChainHeader) (k : ChainAsk) : Done :=
  let src := fr.src.toNat
  match k with
  | .pRead p n =>
    if n = 0 ∨ 64 < n then (s, some (.refused, []))
    else let r := s.outRead p n; (r.1, some (r.2.1, r.2.2))
  | .pWrite p vs =>
    if vs.length = 0 ∨ 63 < vs.length then (s, some (.refused, []))
    else let r := s.outWrite (.chain src) p vs; (r.1, some (r.2, []))
  | .qPush id type v => let r := s.outPush (.chain src) id.toNat type v; (r.1, some (r.2, []))
  | .rRead a n left => if 63 < n then (s, some (.refused, [])) else s.hostRead (.chain fr) (.chain src) a n left
  | .rWrite a ws left => if 63 < ws.length then (s, some (.refused, [])) else s.hostWrite (.chain fr) (.chain src) a ws left

/-- What follows a request that has been executed (R531): its RID enters the window where it writes and answers OK. After a package reset
by its own write nothing does (R540). -/
def State.served (fr : ChainHeader) (writes : Bool) (r : Done) : Done :=
  match r.2 with
  | some (.ok, _) => (if writes && decide (r.1.pkgState ≠ 0) then r.1.remember fr.src.toNat fr.gen.toNat fr.rid.toNat else r.1, r.2)
  | _ => r

/-- A request judged and executed (R527, R531): STALE where its generation is not the roster's for its source, DUPLICATE where it has
been executed before, both counted. -/
def State.judged (s : State) (fr : ChainHeader) (k : ChainAsk) : Done :=
  let src := fr.src.toNat
  let known := match s.rosterEntry src with | some e => decide (e.gen = fr.gen) | none => false
  if !known then (s.incSat F.CHN_CNT2_STALE_CNT, some (.stale, []))
  else if k.writes && (s.chain.window src fr.gen.toNat).contains fr.rid.toNat then (s.incSat F.CHN_CNT2_DUP_CNT, some (.duplicate, []))
  else State.served fr k.writes (s.serve fr k)

/-- The answer to a request for this unit, once it is complete. The original status of a DUPLICATE is OK, as only such requests are kept
(R531). -/
def State.answerDone (fr : ChainHeader) (r : Done) : State :=
  match r.2 with
  | none => r.1
  | some x => if r.1.pkgState = 0 then r.1 else r.1.answerReq fr x.1 .ok x.2

/-- A request frame at a port (R519, R522 to R527): discarded by a head on its upstream port, answered STALE from a segment that
is not enumerated yet, executed without an answer and passed on where it is broadcast, forwarded where it is for another unit, else
executed and answered. -/
def State.chainRequest (s : State) (fr : ChainHeader) (k : ChainAsk) : State :=
  let s := s.linkAnswer fr.up true
  let own := s.get F.CHN_STAT_ADDR
  let dst := fr.dst.toNat
  let msg := ChainMsg.request dst fr.src.toNat fr.gen.toNat k.type fr.tag.toNat fr.rid.toNat k.payload
  if fr.up && s.isHead then s
  else if dst = 0 then s.badFrame
  else if !fr.up && s.chain.segment then s.answerReq fr .stale .ok []
  else if dst = 63 then
    if !k.broadcast then s
    else
      let s := s.sendFrame fr.up msg
      if fr.src.toNat = own then s else (s.judged fr k).1
  else if dst ≠ own then s.sendFrame fr.up msg
  else State.answerDone fr (s.judged fr k)

/-- The register burst of a request goes on (R564). -/
def State.chainCont (s : State) (fr : ChainHeader) (writes : Bool) (left : Nat) : State :=
  State.answerDone fr (State.served fr writes (s.burstCont (.chain fr) left))

/-- P_READ (R526). A chain point-read request is served and answered with data. -/
def execPRead (fr : ChainHeader) (p : Nat) (n : Nat) (s : State) : Host.Outcome State Fault Refusal :=
  guarded true s <|
    s.chainRequest fr (.pRead p n)


/-- P_WRITE (R526). A chain point-write request is checked for generation and duplicates and applied. -/
def execPWrite (fr : ChainHeader) (p : Nat) (vs : List Word) (s : State) : Host.Outcome State Fault Refusal :=
  guarded true s <|
    s.chainRequest fr (.pWrite p vs)


/-- Q_PUSH (R526). A chain queue-push request is checked and pushed without blocking. -/
def execQPush (fr : ChainHeader) (id : BitVec 16) (type : BitVec 7) (payload : Payload) (s : State) : Host.Outcome
    State Fault Refusal :=
  guarded true s <|
    s.chainRequest fr (.qPush id type payload)


/-- R_READ (R526). A chain register-read request is served as the target's host requester. -/
def execRRead (fr : ChainHeader) (addr : Nat) (n : PartLen) (s : State) : Host.Outcome State Fault Refusal :=
  guarded true s <|
    if n.part.cont then s.chainCont fr false n.part.left else s.chainRequest fr (.rRead addr n.n n.part.left)


/-- R_WRITE (R526). A chain register-write request is checked and applied as the target's host requester. -/
def execRWrite (fr : ChainHeader) (addr : Nat) (ws : PartWords) (s : State) : Host.Outcome State Fault Refusal :=
  guarded true s <|
    if ws.part.cont then s.chainCont fr true ws.part.left else s.chainRequest fr (.rWrite addr ws.ws ws.part.left)


/-! ### CHAIN_OUT entries -/

/-- The chain port takes the oldest entry of a CHAIN_OUT queue (R532): one entry of a queue is in flight at a time, and it
waits for a free tag. A queue of another die is drained over the ring (R518), behind what D0 has sent there (R28). -/
def State.takeOut (s : State) (id : Nat) : State :=
  let d := id / 8192; let q := id % 8192
  let dst := s.get F.Q_CFG_OWNER d q % 64
  let busy := s.chain.outs.any fun o => decide (o.queue = id)
  let down := decide (s.get F.CHN_STAT_ADDR ≤ dst)
  let full := (List.range 64).all fun t => s.chain.reqs.any fun r => r.down == down && r.tag == t
  if busy || full || !decide (s.get F.Q_CFG_KIND d q = 5) then s
  else
    let x := (if d < s.dies then s.behind d else s).queuePop id .chain
    match x.2.2 with
    | none => s
    | some e =>
      let r := x.1.nextRid
      let o : OutEntry := ⟨id, r.2, e, dst, none⟩
      (r.1.modChain fun C => { C with outs := C.outs ++ [o] }).sendOut o

/-- CHAIN_OUT_SEND (R532). The chain port pops a CHAIN_OUT entry and sends it as Q_PUSH, discarding and recording it
on failure. -/
def execChainOutSend (id : BitVec 16) (s : State) : Host.Outcome State Fault Refusal :=
  guarded true s <|
    s.takeOut id.toNat


/-! ### The end of BOOT (R550) -/

/-- The image of die `d` loaded from slot `k` (R546, R550): its program memories, and what its header says of it. -/
def State.loadDie (s : State) (d k : Nat) : State :=
  let s := forEach (List.range 8) (fun s c => s.loadProgram d c k) s
  (s.put F.PKG_SLOT_PROTO (s.slotWord d k 1 / 65536 % 256) 0 d).put F.PKG_IMGID_ID (s.slotWord d k 8) 0 d

/-- The images of the dies whose checks passed loaded (R546). -/
def State.loadImages (s : State) : State :=
  match s.boot.slot with
  | none => s
  | some k =>
    let s := forEach (s.allDies.filter fun d => !s.boot.failed.contains d) (fun s d => s.loadDie d k) s
    s.put F.CHN_PROTO_PROTO (s.slotWord 0 k 1 / 65536 % 256)

/-- Every cluster settled at the level that the image selected (R550, step 4). -/
def State.settleRails (s : State) : State :=
  forEach s.allDies (fun s d => forEach (List.range 8)
    (fun s c => (s.put F.CLU_OP_VNOW (s.get F.CLU_OP_VSEL d c) d c).put F.CLU_OP_VOK 1 d c) s) s

/-- The REC_INTAKE queue that BOOT enables on D0 (R146): `q`, of depth 256, from entry `base` on. -/
def State.bootIntake (s : State) (q base : Nat) : State :=
  let s := ((s.put F.Q_CFG_KIND 4 0 q).put F.Q_SIZE_DEPTH 256 0 q).put F.Q_BASE_BASE base 0 q
  (s.queueEnable 0 q 0).1.put F.Q_STAT_BUSY 0 0 q

/-- The settings of the image written in order (R550, step 4); queues that they enable are ready at the end of BOOT. -/
def State.bootSettings (s : State) (settings : List (Nat × Nat)) : State :=
  let s := settings.foldl (fun s p => (s.regWrite .unit p.1 p.2).1.settleRails) s
  let s := forEach s.allDies (fun s d => (s.enabledQueues d).foldl (fun s q => s.put F.Q_STAT_BUSY 0 d q) s) s
  forEach s.allDies (fun s d => (s.put F.Q_SEL_QUEUE 0 d 0).put F.Q_RES_RES 0 d 0) s

/-- Package skew calibration (R179, R550 step 5): of each die, whether it failed, and else its trim against D0. -/
def State.bootSkew (s : State) (skew : List (Bool × Nat)) : State :=
  forEach s.allDies (fun s d =>
    match skew[d]? with
    | some (true, _) => (s.put F.ADC_SKEW_FAIL 1 d).bootRecord 0x0202 d 0 0
    | some (false, trim) => s.put F.ADC_SKEW_TRIM (if d = 0 then 0 else trim) d
    | none => s) s

/-- The records that waited for the intake reach it. -/
def State.flushBoot (s : State) : State :=
  s.boot.records.foldl (fun s r => s.hwRecord 0 r.1 none noLeg r.2.1 r.2.2.1 r.2.2.2) (s.modBoot fun B => { B with records := [] })

/-- The last steps of BOOT (R550): images loaded, the intake and the image's settings in place, the skew calibrated, the hashes formed,
and AGREE entered, where the TICK item counts whistles anew (R551). -/
def State.finishBoot (s : State) (intake base : Nat) (settings : List (Nat × Nat)) (skew : List (Bool × Nat)) : State :=
  if s.pkgState ≠ 1 || !s.boot.begun || s.allDies.any fun d => (s.flashRun d).busy.isSome then s
  else
    let now := s.tick 0
    let s := (s.loadImages.put F.PKG_STATE_STATE 2).modBoot fun B => { B with agreeAt := now, good := 0 }
    let s := if s.recQueue.isSome then s else s.bootIntake intake base
    (((s.bootSettings settings).bootSkew skew).formHashes).flushBoot

/-- BOOT_COMPLETE (R550). When every die has loaded and checked its image, the package enters AGREE. -/
def execBootComplete (intake : BitVec 13) (base : BitVec 14) (e : BootLoad) (s : State) : Host.Outcome State Fault
    Refusal :=
  guarded true s <|
    s.finishBoot intake.toNat base.toNat (e.settings.map fun p => (p.1, p.2.toNat)) (e.skew.map fun p => (p.1, p.2.toNat))


end Sys2Proof.Machine
end

