-- ==== Sys2Proof/Machine/HostRows.lean ====
section
/-!
DEFINITION. The commands that name their requester: a register access takes effect on its die behind what D0 has sent there before it,
where it comes from outside (R28), and where its block answers (R538, R565). The operations stand with their chapters.
-/
namespace Sys2Proof.Machine

/-! ### Acquire -/

/-- ADC_DATA_READ (R182). A read of ADC_DATA returns the result and clears NEW and OVR. -/
def execAdcDataRead (q : Requester) (d : Nat) (n : Nat) (s : State) : Host.Outcome State Fault Refusal :=
  guarded (decide (d < s.dies) && decide (n < 8)) s <| s.arrived q d fun s => s.whenAnswers 2 <|
    (s.answerWord (s.adcDataWord d n)).adcDataTaken d n

/-- CAP_MK_READ (R186). A read of CAP_MK pops the oldest marker. -/
def execCapMkRead (q : Requester) (d : Nat) (n : Nat) (s : State) : Host.Outcome State Fault Refusal :=
  guarded (decide (d < s.dies) && decide (n < 8)) s <| s.arrived q d fun s => s.whenAnswers 2 <|
    (s.answerWord (s.capMkWord d n)).capMkTaken d n

/-- CAP_DATA_READ (R184). A read of CAP_DATA returns the ring word at PTR and advances PTR. -/
def execCapDataRead (q : Requester) (d : Nat) (n : Nat) (s : State) : Host.Outcome State Fault Refusal :=
  guarded (decide (d < s.dies) && decide (n < 8)) s <| s.arrived q d fun s => s.whenAnswers 2 <|
    (s.answerWord (s.captureWord d n (s.get F.CAP_PTR_PTR d n)).toNat).capDataTaken d n

/-- CAP_UNFREEZE (R186). Clearing FROZEN restarts a frozen capture ring at the current index. -/
def execCapUnfreeze (q : Requester) (d : Nat) (ring : RingClear) (s : State) : Host.Outcome State Fault Refusal :=
  guarded (decide (d < s.dies)) s <| s.arrived q d fun s => s.whenAnswers 2 <|
    if ring.again then s else s.unfreezeRing d ring.n.toNat

/-- URGENT_REQUEST (R187). A write of ADC_URG.GO requests one urgent conversion, or counts URG_FULL when one is
pending. -/
def execUrgentRequest (q : Requester) (d : Nat) (n : Nat) (inp : BitVec 3) (avg : BitVec 4) (win : BitVec 8) (s :
    State) : Host.Outcome State Fault Refusal :=
  guarded (decide (d < s.dies) && decide (n < 8)) s <| s.arrived q d fun s => s.whenAnswers 2 <|
    (((s.put F.ADC_URG_INP inp.toNat d n).put F.ADC_URG_AVG avg.toNat d n).put F.ADC_URG_WIN win.toNat d n).urgentRequest d n

/-! ### Angle -/

/-- AB_RUN_WRITE (R50). A write of AB_CFG.RUN starts or stops a base, immediately or after the next whistle. -/
def execAbRunWrite (q : Requester) (d : Nat) (b : Nat) (run : Bool) (s : State) : Host.Outcome State Fault Refusal :=
  guarded (decide (d < s.dies) && decide (b < 16)) s <| s.arrived q d fun s => s.whenAnswers 2 <|
    s.runBase d b run

/-- AB_ANGLE_WRITE (R48). A write of AB_ANGLE sets the angle, as a jump on the next tick when the base runs, and is
refused on a running MAINS base. -/
def execAbAngleWrite (q : Requester) (d : Nat) (b : Nat) (angle : BitVec 32) (s : State) : Host.Outcome State Fault
    Refusal :=
  guarded (decide (d < s.dies) && decide (b < 16)) s <| s.arrived q d fun s => s.whenAnswers 2 <|
    (s.writeAngle q d b angle).1

/-- AB_CORR_WRITE (R52). A write of AB_CORR adds a correction to a SHAFT base's remaining correction, applied slewed
or as a STEP jump. -/
def execAbCorrWrite (q : Requester) (d : Nat) (b : Nat) (corr : BitVec 32) (s : State) : Host.Outcome State Fault
    Refusal :=
  guarded (decide (d < s.dies) && decide (b < 16)) s <| s.arrived q d fun s => s.whenAnswers 2 <|
    s.writeCorr d b corr

/-- MAINS_TRACKER_ENABLE (R56). Enabling a mains tracker starts it in holdover at nominal frequency with no history.
-/
def execMainsTrackerEnable (q : Requester) (d : Nat) (m : Nat) (s : State) : Host.Outcome State Fault Refusal :=
  guarded (decide (d < s.dies) && decide (m < 2)) s <| s.arrived q d fun s => s.whenAnswers 2 <|
    s.trackerEnable d m

/-- TICK_LO_READ (R40). A read of TICK_LO latches the upper tick bits into TICK_HI for that requester. -/
def execTickLoRead (q : Requester) (d : Nat) (s : State) : Host.Outcome State Fault Refusal :=
  guarded (decide (d < s.dies)) s <| s.arrived q d fun s => s.whenAnswers 1 <|
    (s.answerWord (s.tick d % 2 ^ 32)).setLatch q d 2 (s.tick d / 2 ^ 32)

/-! ### Boot -/

/-- PKG_CMD_RESET (R539). A write of 0x5E to PKG_CMD resets the package with cause 3. -/
def execPkgCmdReset (_q : Requester) (s : State) : Host.Outcome State Fault Refusal :=
  guarded true s <| s.whenAnswers 1 <|
    s.packageReset 3

/-- SWITCH (R555). PKG_CMD SWITCH programs a valid NEW slot TRIAL on every die. -/
def execSwitch (_q : Requester) (s : State) : Host.Outcome State Fault Refusal :=
  guarded true s <| s.whenAnswers 1 <|
    s.switchSlot

/-- CONFIRM (R556). PKG_CMD CONFIRM programs the TRIED slot GOOD and records SLOT_CONFIRMED. -/
def execConfirm (_q : Requester) (s : State) : Host.Outcome State Fault Refusal :=
  guarded true s <| s.whenAnswers 1 <|
    s.confirmSlot

/-- PROGRAM_KEY_HASH (R548). PKG_OTPCMD 1 programs the key hash into OTP of every die. -/
def execProgramKeyHash (_q : Requester) (s : State) : Host.Outcome State Fault Refusal :=
  guarded true s <| s.whenAnswers 1 <|
    s.otpCommand 1

/-- PROGRAM_SIG_REQ (R548). PKG_OTPCMD 2 programs SIG_REQ once the key hash is set. -/
def execProgramSigReq (_q : Requester) (s : State) : Host.Outcome State Fault Refusal :=
  guarded true s <| s.whenAnswers 1 <|
    s.otpCommand 2

/-! ### Chain -/

/-- CH_HCMD (R530). A write of CH_HCMD starts a host chain transaction on a free tag. -/
def execChHcmd (q : Requester) (dst : BitVec 6) (type : BitVec 4) (reuse : Bool) (n1 : BitVec 6) (s : State) :
    Host.Outcome State Fault Refusal :=
  guarded true s <| s.whenAnswers 2 <|
    (s.hostChain q dst.toNat type.toNat reuse n1.toNat).1

/-! ### Chop -/

/-- CHOP_ENABLE (R349). Writing CH_CFG.EN from 0 to 1 checks sections, turns them off and seeds the estimates. -/
def execChopEnable (q : Requester) (h : Nat) (s : State) : Host.Outcome State Fault Refusal :=
  guarded (decide (h < 8 * s.dies)) s <| s.arrived q (h / 8) fun s => s.whenAnswers 2 <|
    s.chopEnable q h

/-! ### Clock -/

/-- IRQ_SWSET (R476). A write of IRQ_SWSET raises a software interrupt source event. -/
def execIrqSwset (q : Requester) (d : Nat) (src : BitVec 9) (s : State) : Host.Outcome State Fault Refusal :=
  guarded (decide (d < s.dies)) s <| s.arrived q d fun s => s.whenAnswers 2 <|
    (s.swSet q d src.toNat).1

/-- IRQ_HPEND_CLEAR (R486). A W1C write of IRQ_HPEND clears host-pending bits, re-set for active level lines, and
updates IRQ_N. A bit that an event sets in the same cycle stays set (R13). -/
def execIrqHpendClear (q : Requester) (d : Nat) (w : Nat) (bits : WrittenWord) (s : State) : Host.Outcome State Fault
    Refusal :=
  guarded (decide (d < s.dies) && decide (w < 16)) s <| s.arrived q d fun s => s.whenAnswers 2 <|
    s.hpendClear d w (bits.v &&& ~~~bits.hw).toNat

/-- RAMP_RUN (R494). A write of RG_CFG.RUN = 1 starts a ramp generator from the present ratio. -/
def execRampRun (q : Requester) (d : Nat) (r : Nat) (s : State) : Host.Outcome State Fault Refusal :=
  guarded (decide (d < s.dies) && decide (r < 2)) s <| s.arrived q d fun s => s.whenAnswers 2 <|
    (s.rampRun d r).1

/-- RAMP_STOP (R494). A write of RUN = 0 in LOOP mode ends the ramp at point 0. -/
def execRampStop (q : Requester) (d : Nat) (r : Nat) (s : State) : Host.Outcome State Fault Refusal :=
  guarded (decide (d < s.dies) && decide (r < 2)) s <| s.arrived q d fun s => s.whenAnswers 2 <|
    s.rampStop d r

/-- OP_WRITE (R496). A write of CLU_OP changes a cluster's rail or clock level under the ordering rules. -/
def execOpWrite (q : Requester) (d : Nat) (c : Nat) (vsel : BitVec 2) (fsel : BitVec 2) (s : State) : Host.Outcome
    State Fault Refusal :=
  guarded (decide (d < s.dies) && decide (c < 8)) s <| s.arrived q d fun s => s.whenAnswers 2 <|
    (s.opWrite d c vsel.toNat fsel.toNat).1

/-- PWR_ON (R498). A request for a domain to go ON starts its transition or is held while busy. -/
def execPwrOn (q : Requester) (d : Nat) (dom : Nat) (s : State) : Host.Outcome State Fault Refusal :=
  guarded (decide (d < s.dies) && decide (dom < 13)) s <| s.arrived q d fun s => s.whenAnswers 2 <|
    s.pwrRequest d dom 0 false

/-- PWR_RETAIN (R499). A request for RETAIN is checked for transfers in flight and refused or entered, forced if
requested. -/
def execPwrRetain (q : Requester) (d : Nat) (dom : Nat) (force : Bool) (s : State) : Host.Outcome State Fault Refusal
    :=
  guarded (decide (d < s.dies) && decide (dom < 13)) s <| s.arrived q d fun s => s.whenAnswers 2 <|
    s.pwrRequest d dom 1 force

/-- PWR_OFF (R499). A request for OFF is checked for transfers in flight and refused or entered, forced if requested.
-/
def execPwrOff (q : Requester) (d : Nat) (dom : Nat) (force : Bool) (s : State) : Host.Outcome State Fault Refusal :=
  guarded (decide (d < s.dies) && decide (dom < 13)) s <| s.arrived q d fun s => s.whenAnswers 2 <|
    s.pwrRequest d dom 2 force

/-! ### Drive -/

/-- DRIVE_ENABLE (R334). Writing DRV_CFG.EN from 0 to 1 checks position source and quiet groups and starts the DRIVE
units. -/
def execDriveEnable (q : Requester) (h : Nat) (s : State) : Host.Outcome State Fault Refusal :=
  guarded (decide (h < 8 * s.dies)) s <| s.arrived q (h / 8) fun s => s.whenAnswers 2 <|
    s.driveEnable q h

/-- WS_LOW (R346). DRV_WSCMD LOW shorts the phase legs low at priority 3 and arms the current watch. -/
def execWsLow (q : Requester) (h : Nat) (s : State) : Host.Outcome State Fault Refusal :=
  guarded (decide (h < 8 * s.dies)) s <| s.arrived q (h / 8) fun s => s.whenAnswers 2 <|
    s.shortCommand h 1

/-- WS_HIGH (R346). DRV_WSCMD HIGH shorts the phase legs high at priority 3 and arms the current watch. -/
def execWsHigh (q : Requester) (h : Nat) (s : State) : Host.Outcome State Fault Refusal :=
  guarded (decide (h < 8 * s.dies)) s <| s.arrived q (h / 8) fun s => s.whenAnswers 2 <|
    s.shortCommand h 2

/-- WS_RELEASE (R348). DRV_WSCMD release ends the short at each leg's next boundary. -/
def execWsRelease (q : Requester) (h : Nat) (s : State) : Host.Outcome State Fault Refusal :=
  guarded (decide (h < 8 * s.dies)) s <| s.arrived q (h / 8) fun s => s.whenAnswers 2 <|
    s.shortRelease h

/-- SEEDED (R343). A write of DRV_FCMD.SEEDED marks the catch seeding done. -/
def execSeeded (q : Requester) (h : Nat) (s : State) : Host.Outcome State Fault Refusal :=
  guarded (decide (h < 8 * s.dies)) s <| s.arrived q (h / 8) fun s => s.whenAnswers 2 <|
    s.modDrv h fun D => { D with seeded := true }

/-! ### Engine -/

/-- ENG_DISP (R92). A write of ENG_DISP dispatches a task, setting PEND or starting it. -/
def execEngDisp (q : Requester) (pe : Nat) (arg : BitVec 16) (task : BitVec 5) (s : State) : Host.Outcome State Fault
    Refusal :=
  guarded (decide (pe < 32 * s.dies)) s <| s.arrived q (pe / 32) fun s => s.whenAnswers 2 <|
    s.engDisp q pe arg.toNat task.toNat

/-- ENGINE_STOP (R103). A write of ENG_CTL.STOP = 1 stops the engine after the current instruction in HALTED. -/
def execEngineStop (q : Requester) (pe : Nat) (s : State) : Host.Outcome State Fault Refusal :=
  guarded (decide (pe < 32 * s.dies)) s <| s.arrived q (pe / 32) fun s => s.whenAnswers 2 <|
    s.engStop pe true

/-- ENGINE_RESUME (R103). A write of ENG_CTL.STOP = 0 resumes a stopped engine where it stopped. -/
def execEngineResume (q : Requester) (pe : Nat) (s : State) : Host.Outcome State Fault Refusal :=
  guarded (decide (pe < 32 * s.dies)) s <| s.arrived q (pe / 32) fun s => s.whenAnswers 2 <|
    s.engStop pe false

/-- ENGINE_RESET (R103). ENG_CTL.RST resets the engine's registers, windows, resume state, PEND bits, DFAULT and
frozen stack. -/
def execEngineReset (q : Requester) (pe : Nat) (s : State) : Host.Outcome State Fault Refusal :=
  guarded (decide (pe < 32 * s.dies)) s <| s.arrived q (pe / 32) fun s => s.whenAnswers 2 <|
    (s.engRst q pe).1

/-- ENG_TFLG_READ (R75). A read of ENG_TFLG returns the task's accumulated flags and clears them. -/
def execEngTflgRead (q : Requester) (pe : Nat) (s : State) : Host.Outcome State Fault Refusal :=
  guarded (decide (pe < 32 * s.dies)) s <| s.arrived q (pe / 32) fun s => s.whenAnswers 2 <|
    let t := s.get F.ENG_TSEL_TASK (pe / 32) (pe % 32) q.index
    (s.answerWord (s.get F.ENG_TFLG_FLAGS (pe / 32) (pe % 32) t)).put F.ENG_TFLG_FLAGS 0 (pe / 32) (pe % 32) t

/-! ### Grid -/

/-- GRID_ENABLE (R356). Writing GRD_CFG.EN from 0 to 1 checks the MAINS base and points and starts the monitor. -/
def execGridEnable (q : Requester) (h : Nat) (s : State) : Host.Outcome State Fault Refusal :=
  guarded (decide (h < 8 * s.dies)) s <| s.arrived q (h / 8) fun s => s.whenAnswers 2 <|
    s.gridEnable q h

/-! ### HerdCmd -/

/-- BIND (R294). Moves the herd from UNBOUND to BOUND when it owns a leg and a task. -/
def execBind (q : Requester) (h : Nat) (s : State) : Host.Outcome State Fault Refusal :=
  guarded (decide (h < 8 * s.dies)) s <| s.arrived q (h / 8) fun s => s.whenAnswers 2 <|
    s.meetCommand h 1 false fun s => s.herdBind h

/-- UNBIND (R294). Moves the herd to UNBOUND and clears its owner entries on every die. -/
def execUnbind (q : Requester) (h : Nat) (s : State) : Host.Outcome State Fault Refusal :=
  guarded (decide (h < 8 * s.dies)) s <| s.arrived q (h / 8) fun s => s.whenAnswers 2 <|
    s.meetCommand h 2 false fun s => s.herdUnbind h

/-- OWNER_WRITE (R293). A write of an owner table entry binds or frees a resource when both herds are UNBOUND or
BOUND. -/
def execOwnerWrite (q : Requester) (d : Nat) (kind : OwnKind) (n : Nat) (en : Bool) (herd : BitVec 6) (s : State) :
    Host.Outcome State Fault Refusal :=
  guarded (decide (d < s.dies)) s <| s.arrived q d fun s => s.whenAnswers 2 <|
    (s.ownerWrite q d kind n en herd.toNat).1

/-- ROLE_WRITE (R304). A write of HERD_CTL.ROLE in UNBOUND or BOUND changes the role. -/
def execRoleWrite (q : Requester) (h : Nat) (role : BitVec 3) (s : State) : Host.Outcome State Fault Refusal :=
  guarded (decide (h < 8 * s.dies)) s <| s.arrived q (h / 8) fun s => s.whenAnswers 2 <|
    (s.roleWrite q h role.toNat).1

/-- ARM (R305). Starts the arming checks of a BOUND herd. -/
def execArm (q : Requester) (h : Nat) (s : State) : Host.Outcome State Fault Refusal :=
  guarded (decide (h < 8 * s.dies)) s <| s.arrived q (h / 8) fun s => s.whenAnswers 2 <|
    s.meetCommand h 3 false fun s => s.herdArm h

/-- RUN (R303). Moves an ARMED herd to RUNNING, setting COLD and starting heels and detectors. -/
def execRun (q : Requester) (h : Nat) (s : State) : Host.Outcome State Fault Refusal :=
  guarded (decide (h < 8 * s.dies)) s <| s.arrived q (h / 8) fun s => s.whenAnswers 2 <|
    s.meetCommand h 4 false fun s => s.herdRunCmd h

/-- STOP (R298). Stops a herd, to STOPPING or BOUND or abandoning checks. -/
def execStop (q : Requester) (h : Nat) (s : State) : Host.Outcome State Fault Refusal :=
  guarded (decide (h < 8 * s.dies)) s <| s.arrived q (h / 8) fun s => s.whenAnswers 2 <|
    s.meetCommand h 5 false fun s => s.stop h

/-- STOPPED (R298). A task's STOPPED command moves a STOPPING herd to BOUND. -/
def execStopped (q : Requester) (h : Nat) (s : State) : Host.Outcome State Fault Refusal :=
  guarded (decide (h < 8 * s.dies)) s <| s.arrived q (h / 8) fun s => s.whenAnswers 2 <|
    s.meetCommand h 6 (s.fromTask q h) fun s => s.herdStopped h (s.fromTask q h)

/-- SAFE (R298). Puts the herd into SAFE with its legs at SAFE_MODE. -/
def execSafe (q : Requester) (h : Nat) (s : State) : Host.Outcome State Fault Refusal :=
  guarded (decide (h < 8 * s.dies)) s <| s.arrived q (h / 8) fun s => s.whenAnswers 2 <|
    s.meetSafe h true

/-- RECOVER (R301). Returns a FAULTED or SAFE herd to BOUND and clears FAULT_CAUSE. -/
def execRecover (q : Requester) (h : Nat) (s : State) : Host.Outcome State Fault Refusal :=
  guarded (decide (h < 8 * s.dies)) s <| s.arrived q (h / 8) fun s => s.whenAnswers 2 <|
    s.meetCommand h 8 false fun s => s.herdRecover h

/-- FAULT (R300). Faults the herd with cause PROG, or ORs the cause in FAULTED or SAFE. -/
def execFault (q : Requester) (h : Nat) (s : State) : Host.Outcome State Fault Refusal :=
  guarded (decide (h < 8 * s.dies)) s <| s.arrived q (h / 8) fun s => s.whenAnswers 2 <|
    s.meetFault h

/-! ### Law -/

/-- HEEL_RESTART (R285). A write of HEEL_CMD.RESTART starts a heel with OUT set to the measured value. -/
def execHeelRestart (q : Requester) (h : Nat) (mask : BitVec 4) (s : State) : Host.Outcome State Fault Refusal :=
  guarded (decide (h < 8 * s.dies)) s <| s.arrived q (h / 8) fun s => s.whenAnswers 2 <|
    s.oneCycle fun s => forEach ((List.range 4).filter fun j => mask.getLsbD j) (fun s j => s.heelStart h j) s

/-- HEEL_ENABLE (R285). Enabling a heel while the herd runs starts it from the measured value. -/
def execHeelEnable (q : Requester) (h : Nat) (j : Nat) (s : State) : Host.Outcome State Fault Refusal :=
  guarded (decide (h < 8 * s.dies) && decide (j < 4)) s <| s.arrived q (h / 8) fun s => s.whenAnswers 2 <|
    s.heelEnable h j

/-- OSC_ENABLE (R289). Enabling a detector channel resets it and starts its history windows. -/
def execOscEnable (q : Requester) (h : Nat) (c : Nat) (s : State) : Host.Outcome State Fault Refusal :=
  guarded (decide (h < 8 * s.dies) && decide (c < 4)) s <| s.arrived q (h / 8) fun s => s.whenAnswers 2 <|
    s.oscEnable q h c

/-! ### LegCmd -/

/-- LEG_ENABLE (R236). Writing LEG_MODE.EN from 0 to 1 copies the shadow set to active and starts from the present
angle. -/
def execLegEnable (q : Requester) (d : Nat) (n : Nat) (s : State) : Host.Outcome State Fault Refusal :=
  guarded (decide (d < s.dies) && decide (n < 24)) s <| s.arrived q d fun s => s.whenAnswers 2 <|
    s.legEnable q d n

/-- LEG_FORCE (R241). A write of LEG_FORCE drives an F-leg high, low, off or releases it at the next PWM clock. -/
def execLegForce (q : Requester) (d : Nat) (n : Nat) (force : BitVec 2) (s : State) : Host.Outcome State Fault Refusal
    :=
  guarded (decide (d < s.dies) && decide (n < 24)) s <| s.arrived q d fun s => s.whenAnswers 2 <|
    (s.writeForce q d n force.toNat).1

/-- GRP_MASK_WRITE (R238). A write of GRP_MASK changes the effective mask at the next PWM clock. -/
def execGrpMaskWrite (q : Requester) (d : Nat) (g : Nat) (mask : BitVec 6) (s : State) : Host.Outcome State Fault
    Refusal :=
  guarded (decide (d < s.dies) && decide (g < 4)) s <| s.arrived q d fun s => s.whenAnswers 2 <|
    s.writeMask q d g mask.toNat

/-- GATE_ENABLE (R254). Writing GATE_CFG.EN from 0 to 1 starts frames and returns. -/
def execGateEnable (q : Requester) (d : Nat) (n : Nat) (s : State) : Host.Outcome State Fault Refusal :=
  guarded (decide (d < s.dies) && decide (n < 24)) s <| s.arrived q d fun s => s.whenAnswers 2 <|
    s.gateEnable q d n

/-- TRIP_CLEAR (R270). A write of GATE_TCLR.CLR re-arms a tripped leg when all sources are inactive, sending preload
frames. -/
def execTripClear (q : Requester) (d : Nat) (n : Nat) (s : State) : Host.Outcome State Fault Refusal :=
  guarded (decide (d < s.dies) && decide (n < 24)) s <| s.arrived q d fun s => s.whenAnswers 2 <|
    s.tripClear d n

/-! ### LoadAll -/

/-- LA_CMD (R229). A write of LA_CMD.HERD issues the load-all of a local herd. -/
def execLaCmd (q : Requester) (d : Nat) (h : Nat) (s : State) : Host.Outcome State Fault Refusal :=
  guarded (decide (d < s.dies) && decide (h < 8)) s <| s.arrived q d fun s => s.whenAnswers 2 <|
    s.loadAllWith (d * 8 + h) true

/-! ### Metrology -/

/-- PAIL_LO_READ (R401). A read of a 64-bit counter's low word latches its high word for that requester. -/
def execPailLoRead (q : Requester) (d : Nat) (c : WideCounter) (s : State) : Host.Outcome State Fault Refusal :=
  guarded (decide (d < s.dies) && c.valid) s <| s.arrived q d fun s => s.whenAnswers 2 <|
    (s.answerWord (s.wide d c)).wideTaken q d c

/-- PAIL_WRITE (R402). A low-word write applies a held high word as one 64-bit write, overriding any same-cycle
update. -/
def execPailWrite (q : Requester) (d : Nat) (c : WideCounter) (v : BitVec 32) (collides : Bool) (s : State) :
    Host.Outcome State Fault Refusal :=
  guarded (decide (d < s.dies) && c.valid) s <| s.arrived q d fun s => s.whenAnswers 2 <|
    s.wideWrite q d c v.toNat collides

/-- PULSE_OUTPUT_ENABLE (R404). Writing PO_CFG.EN from 0 to 1 checks threshold, quantity and width and starts the
output. -/
def execPulseOutputEnable (q : Requester) (d : Nat) (k : Nat) (s : State) : Host.Outcome State Fault Refusal :=
  guarded (decide (d < s.dies) && decide (k < 8)) s <| s.arrived q d fun s => s.whenAnswers 2 <|
    s.pulseEnable q d k

/-- CALCHK (R411). MU_CMD.CALCHK checks the calibration record against the correction registers. -/
def execCalchk (q : Requester) (d : Nat) (u : Nat) (s : State) : Host.Outcome State Fault Refusal :=
  guarded (decide (d < s.dies) && decide (u < 2)) s <| s.arrived q d fun s => s.whenAnswers 2 <|
    s.calCheck d u

/-- MC_CORRECTION_WRITE (R393). A write of MC_OFS, MC_GAIN or MC_DLY takes effect at the next sample and clears
CAL_OK. -/
def execMcCorrectionWrite (q : Requester) (d : Nat) (u : Nat) (c : Nat) (f : Correction) (v : BitVec 24) (s : State) :
    Host.Outcome State Fault Refusal :=
  guarded (decide (d < s.dies) && decide (u < 2) && decide (c < 8)) s <| s.arrived q d fun s => s.whenAnswers 2 <|
    s.correctionWrite d u c f v.toNat

/-- METER_ENABLE (R390). Writing MU_CFG.EN from 0 to 1 checks the channels and starts metering. -/
def execMeterEnable (q : Requester) (d : Nat) (u : Nat) (s : State) : Host.Outcome State Fault Refusal :=
  guarded (decide (d < s.dies) && decide (u < 2)) s <| s.arrived q d fun s => s.whenAnswers 2 <|
    s.meterEnable d u

/-- SNAP (R403). MU_CMD.SNAP copies pails, S0 counts and tick into the snapshot bank. -/
def execSnap (q : Requester) (d : Nat) (u : Nat) (s : State) : Host.Outcome State Fault Refusal :=
  guarded (decide (d < s.dies) && decide (u < 2)) s <| s.arrived q d fun s => s.whenAnswers 2 <|
    s.snapshot d u

/-- S0_CNT_WRITE (R409). A write presets S0_CNT under the collision rule. -/
def execS0CntWrite (q : Requester) (d : Nat) (k : Nat) (v : BitVec 32) (collides : Bool) (s : State) : Host.Outcome
    State Fault Refusal :=
  guarded (decide (d < s.dies) && decide (k < 8)) s <| s.arrived q d fun s => s.whenAnswers 2 <|
    s.s0Write d k v.toNat collides

/-! ### Points -/

/-- QUEUE_ENABLE (R145). A write of Q_CFG.EN from 0 to 1 checks the configuration and budget and starts enabling the
queue. -/
def execQueueEnable (q : Requester) (d : Nat) (s : State) : Host.Outcome State Fault Refusal :=
  guarded (decide (d < s.dies)) s <| s.arrived q d fun s => s.whenAnswers 2 <|
    let n := s.get F.Q_SEL_QUEUE d q.index
    if s.bit F.Q_CFG_EN d n then s else (s.queueEnable d n q.index).1

/-- QUEUE_DISABLE (R146). A write of EN = 0 disables an empty queue, frees its budget and notifies waiters. -/
def execQueueDisable (q : Requester) (d : Nat) (s : State) : Host.Outcome State Fault Refusal :=
  guarded (decide (d < s.dies)) s <| s.arrived q d fun s => s.whenAnswers 2 <|
    let n := s.get F.Q_SEL_QUEUE d q.index
    if s.bit F.Q_CFG_EN d n then (s.queueDisable d n q.index).1 else s

/-- Q_FLUSH (R146). A flush discards a queue's entries, counts them and sends space notices. -/
def execQFlush (q : Requester) (d : Nat) (s : State) : Host.Outcome State Fault Refusal :=
  guarded (decide (d < s.dies)) s <| s.arrived q d fun s => s.whenAnswers 2 <|
    s.flushQueue d (s.get F.Q_SEL_QUEUE d q.index)

/-! ### Recorder -/

/-- FLASH_READ (R474). FL_CMD READ reads a flash row into FL_DATA. -/
def execFlashRead (q : Requester) (d : Nat) (s : State) : Host.Outcome State Fault Refusal :=
  guarded (decide (d < s.dies)) s <| s.arrived q d fun s => s.whenAnswers 1 <|
    (s.flashCommand d 1).1

/-- FLASH_PROGRAM (R474). FL_CMD PROGRAM programs a row unless its sector is protected. -/
def execFlashProgram (q : Requester) (d : Nat) (s : State) : Host.Outcome State Fault Refusal :=
  guarded (decide (d < s.dies)) s <| s.arrived q d fun s => s.whenAnswers 1 <|
    (s.flashCommand d 2).1

/-- FLASH_ERASE (R474). FL_CMD ERASE erases a sector unless it is protected. -/
def execFlashErase (q : Requester) (d : Nat) (s : State) : Host.Outcome State Fault Refusal :=
  guarded (decide (d < s.dies)) s <| s.arrived q d fun s => s.whenAnswers 1 <|
    (s.flashCommand d 3).1

/-- COMMISSION (R467). REC_CMD COMMISSION commits COMMISSIONED and directs records to the permanent area. -/
def execCommission (_q : Requester) (s : State) : Host.Outcome State Fault Refusal :=
  guarded true s <| s.whenAnswers 2 <|
    s.commission

/-- FREEZE (R470). REC_CMD FREEZE stops recorder commits and erases and restarts the freeze timer. -/
def execFreeze (_q : Requester) (s : State) : Host.Outcome State Fault Refusal :=
  guarded true s <| s.whenAnswers 2 <|
    s.freeze

/-- UNFREEZE (R470). REC_CMD UNFREEZE clears FROZEN and commits resume. -/
def execUnfreeze (_q : Requester) (s : State) : Host.Outcome State Fault Refusal :=
  guarded true s <| s.whenAnswers 2 <|
    s.unfreeze

/-- RECORD_SELECT (R469). A write of REC_CURSOR starts locating a record, with WSTAT NOT_READY. -/
def execRecordSelect (q : Requester) (seq : BitVec 32) (s : State) : Host.Outcome State Fault Refusal :=
  guarded true s <| s.whenAnswers 2 <|
    s.selectRecord q.index seq.toNat

/-- RECORD_LOCATED (R469). The recorder presents the selected record in REC_WIN with WSTAT OK, EMPTY or BAD_CRC. -/
def execRecordLocated (q : Requester) (s : State) : Host.Outcome State Fault Refusal :=
  guarded true s <| s.whenAnswers 2 <|
    s.recordLocated q.index

/-- REC_WIN_READ (R469). A read of REC_WIN[7] with AUTO advances the cursor SEQ. -/
def execRecWinRead (q : Requester) (s : State) : Host.Outcome State Fault Refusal :=
  guarded true s <| s.whenAnswers 2 <|
    (s.answerWord (s.get F.REC_WIN 0 q.index 7)).winTaken q.index

/-! ### RegWrite -/

/-- WREF_CLR (R570). A write of DIE_WREF.CLR or PKG_WREF.CLR clears the refused-write count. -/
def execWrefClr (q : Requester) (d : Option Nat) (s : State) : Host.Outcome State Fault Refusal :=
  guarded (decide (d.getD 0 < s.dies)) s <| s.arrived q (d.getD 0) fun s => s.whenAnswers 1 <|
    match d with
    | some d => s.put F.DIE_WREF_CNT 0 d
    | none => s.put F.PKG_WREF_CNT 0

/-! ### Regulate -/

/-- REG_ENABLE (R312). Writing REG_CFG.EN from 0 to 1 checks the phases and configuration and starts the manager. -/
def execRegEnable (q : Requester) (h : Nat) (s : State) : Host.Outcome State Fault Refusal :=
  guarded (decide (h < 8 * s.dies)) s <| s.arrived q (h / 8) fun s => s.whenAnswers 2 <|
    s.regEnable q h

/-- BURST_DISABLE (R330). A write of BURST_EN = 0 ends burst mode. -/
def execBurstDisable (q : Requester) (h : Nat) (s : State) : Host.Outcome State Fault Refusal :=
  guarded (decide (h < 8 * s.dies)) s <| s.arrived q (h / 8) fun s => s.whenAnswers 2 <|
    s.burstDisable h

/-! ### Track -/

/-- TRACK_ENABLE (R378). Writing TRK_CFG.EN from 0 to 1 checks points and limits and starts the tracking unit. -/
def execTrackEnable (q : Requester) (h : Nat) (s : State) : Host.Outcome State Fault Refusal :=
  guarded (decide (h < 8 * s.dies)) s <| s.arrived q (h / 8) fun s => s.whenAnswers 2 <|
    s.trackEnable q h

/-- TRK_GMP (R384). A write of TRK_GMP while waiting sets VREF to the global maximum and ends the sweep. -/
def execTrkGmp (q : Requester) (h : Nat) (volt : Word) (s : State) : Host.Outcome State Fault Refusal :=
  guarded (decide (h < 8 * s.dies)) s <| s.arrived q (h / 8) fun s => s.whenAnswers 2 <|
    s.trackGmp q h volt

end Sys2Proof.Machine
end

