-- ==== Sys2Proof/Machine/Dispatch.lean ====
section
/-!
DEFINITION. Dispatch: one arm per constructor of `Instr`, each one direct call of its meaning.
-/
namespace Sys2Proof.Machine

/-- The effect of a command on everything but the queue. -/
def exec (i : Instr) (s : State) : Host.Outcome State Fault Refusal :=
  match i with
  | .angleBaseTick d grid => Sys2Proof.Machine.execAngleBaseTick d grid s
  | .deadTimeEnd d n => Sys2Proof.Machine.execDeadTimeEnd d n s
  | .legBoundary d n => Sys2Proof.Machine.execLegBoundary d n s
  | .periodApply d b => Sys2Proof.Machine.execPeriodApply d b s
  | .whistle arrivals => Sys2Proof.Machine.execWhistle arrivals s
  | .whistleMiss d => Sys2Proof.Machine.execWhistleMiss d s
  | .baseWhistleStart d b => Sys2Proof.Machine.execBaseWhistleStart d b s
  | .abRunWrite q d b run => Sys2Proof.Machine.execAbRunWrite q d b run s
  | .abAngleWrite q d b angle => Sys2Proof.Machine.execAbAngleWrite q d b angle s
  | .abCorrWrite q d b corr => Sys2Proof.Machine.execAbCorrWrite q d b corr s
  | .mainsTrackerEnable q d m => Sys2Proof.Machine.execMainsTrackerEnable q d m s
  | .mainsCycle d m meas => Sys2Proof.Machine.execMainsCycle d m meas s
  | .mainsLock d m => Sys2Proof.Machine.execMainsLock d m s
  | .pulseEdge d k edge => Sys2Proof.Machine.execPulseEdge d k edge s
  | .positionStateAccept d k state => Sys2Proof.Machine.execPositionStateAccept d k state s
  | .time headTick => Sys2Proof.Machine.execTime headTick s
  | .chainDelayMeasure delayNs => Sys2Proof.Machine.execChainDelayMeasure delayNs s
  | .chainTickSlew late => Sys2Proof.Machine.execChainTickSlew late s
  | .ld pe rd ra imm => Sys2Proof.Machine.execLd pe rd ra imm s
  | .st pe rd ra imm => Sys2Proof.Machine.execSt pe rd ra imm s
  | .ldl pe rd imm => Sys2Proof.Machine.execLdl pe rd imm s
  | .ldh pe rd imm => Sys2Proof.Machine.execLdh pe rd imm s
  | .adda pe rd ra imm => Sys2Proof.Machine.execAdda pe rd ra imm s
  | .mov pe rd ra => Sys2Proof.Machine.execMov pe rd ra s
  | .addar pe rd ra rb => Sys2Proof.Machine.execAddar pe rd ra rb s
  | .ldx pe rd ra rb => Sys2Proof.Machine.execLdx pe rd ra rb s
  | .stx pe rd ra rb => Sys2Proof.Machine.execStx pe rd ra rb s
  | .add pe rd ra rb => Sys2Proof.Machine.execAdd pe rd ra rb s
  | .sub pe rd ra rb => Sys2Proof.Machine.execSub pe rd ra rb s
  | .neg pe rd ra => Sys2Proof.Machine.execNeg pe rd ra s
  | .abs pe rd ra => Sys2Proof.Machine.execAbs pe rd ra s
  | .min pe rd ra rb => Sys2Proof.Machine.execMin pe rd ra rb s
  | .max pe rd ra rb => Sys2Proof.Machine.execMax pe rd ra rb s
  | .clamp pe rd ra rb => Sys2Proof.Machine.execClamp pe rd ra rb s
  | .and pe rd ra rb => Sys2Proof.Machine.execAnd pe rd ra rb s
  | .or pe rd ra rb => Sys2Proof.Machine.execOr pe rd ra rb s
  | .xor pe rd ra rb => Sys2Proof.Machine.execXor pe rd ra rb s
  | .not pe rd ra => Sys2Proof.Machine.execNot pe rd ra s
  | .addi pe rd ra imm => Sys2Proof.Machine.execAddi pe rd ra imm s
  | .shl pe rd ra amt => Sys2Proof.Machine.execShl pe rd ra amt s
  | .shr pe rd ra amt => Sys2Proof.Machine.execShr pe rd ra amt s
  | .shrr pe rd ra amt => Sys2Proof.Machine.execShrr pe rd ra amt s
  | .lsr pe rd ra amt => Sys2Proof.Machine.execLsr pe rd ra amt s
  | .lsl pe rd ra amt => Sys2Proof.Machine.execLsl pe rd ra amt s
  | .norm pe rd ra => Sys2Proof.Machine.execNorm pe rd ra s
  | .mul pe rd ra rb => Sys2Proof.Machine.execMul pe rd ra rb s
  | .mulq8 pe rd ra rb => Sys2Proof.Machine.execMulq8 pe rd ra rb s
  | .mac pe acc ra rb => Sys2Proof.Machine.execMac pe acc ra rb s
  | .msu pe acc ra rb => Sys2Proof.Machine.execMsu pe acc ra rb s
  | .macq8 pe acc ra rb => Sys2Proof.Machine.execMacq8 pe acc ra rb s
  | .msuq8 pe acc ra rb => Sys2Proof.Machine.execMsuq8 pe acc ra rb s
  | .div pe rd ra rb => Sys2Proof.Machine.execDiv pe rd ra rb s
  | .accv pe rd acc sel => Sys2Proof.Machine.execAccv pe rd acc sel s
  | .accvq8 pe rd acc => Sys2Proof.Machine.execAccvq8 pe rd acc s
  | .acclo pe rd acc => Sys2Proof.Machine.execAcclo pe rd acc s
  | .accmid pe rd acc => Sys2Proof.Machine.execAccmid pe rd acc s
  | .acchi pe rd acc => Sys2Proof.Machine.execAcchi pe rd acc s
  | .accphm pe acc ra rb => Sys2Proof.Machine.execAccphm pe acc ra rb s
  | .accplo pe acc ra => Sys2Proof.Machine.execAccplo pe acc ra s
  | .accadd pe acc ra => Sys2Proof.Machine.execAccadd pe acc ra s
  | .lsh pe rd ra k => Sys2Proof.Machine.execLsh pe rd ra k s
  | .cmp pe ra rb => Sys2Proof.Machine.execCmp pe ra rb s
  | .cmpi pe ra imm => Sys2Proof.Machine.execCmpi pe ra imm s
  | .br pe cond ra off => Sys2Proof.Machine.execBr pe cond ra off s
  | .call pe off => Sys2Proof.Machine.execCall pe off s
  | .callr pe ra => Sys2Proof.Machine.execCallr pe ra s
  | .ret pe => Sys2Proof.Machine.execRet pe s
  | .jr pe ra => Sys2Proof.Machine.execJr pe ra s
  | .mvm pe base rows1 cols1 dst fmt neg osh cut => Sys2Proof.Machine.execMvm pe base rows1 cols1 dst fmt neg osh cut s
  | .mva pe base rows1 cols1 dst fmt neg osh cut => Sys2Proof.Machine.execMva pe base rows1 cols1 dst fmt neg osh cut s
  | .fir pe base n1 dst osh cut => Sys2Proof.Machine.execFir pe base n1 dst osh cut s
  | .bcopy pe base n1 dst cut => Sys2Proof.Machine.execBcopy pe base n1 dst cut s
  | .sincos pe rd ra => Sys2Proof.Machine.execSincos pe rd ra s
  | .atan2 pe rd ra rb => Sys2Proof.Machine.execAtan2 pe rd ra rb s
  | .sqrt pe rd ra => Sys2Proof.Machine.execSqrt pe rd ra s
  | .mag pe rd ra rb => Sys2Proof.Machine.execMag pe rd ra rb s
  | .clarke pe rd ra => Sys2Proof.Machine.execClarke pe rd ra s
  | .park pe rd ra rb => Sys2Proof.Machine.execPark pe rd ra rb s
  | .ipark pe rd ra rb => Sys2Proof.Machine.execIpark pe rd ra rb s
  | .aget pe rd b => Sys2Proof.Machine.execAget pe rd b s
  | .aturn pe rd b => Sys2Proof.Machine.execAturn pe rd b s
  | .ainc pe ra b => Sys2Proof.Machine.execAinc pe ra b s
  | .acorr pe ra b => Sys2Proof.Machine.execAcorr pe ra b s
  | .aadd pe rd ra rb => Sys2Proof.Machine.execAadd pe rd ra rb s
  | .asub pe rd ra rb => Sys2Proof.Machine.execAsub pe rd ra rb s
  | .amuli pe rd ra rb => Sys2Proof.Machine.execAmuli pe rd ra rb s
  | .qpush pe rd ra rb nb type => Sys2Proof.Machine.execQpush pe rd ra rb nb type s
  | .qpop pe rd ra rb => Sys2Proof.Machine.execQpop pe rd ra rb s
  | .qstat pe rd ra => Sys2Proof.Machine.execQstat pe rd ra s
  | .sget pe rd ra rb nb o => Sys2Proof.Machine.execSget pe rd ra rb nb o s
  | .sput pe rd ra rb nb o => Sys2Proof.Machine.execSput pe rd ra rb nb o s
  | .sputg pe rd ra rb nb n1 o => Sys2Proof.Machine.execSputg pe rd ra rb nb n1 o s
  | .lset pe rd ra rb sel => Sys2Proof.Machine.execLset pe rd ra rb sel s
  | .loadall pe => Sys2Proof.Machine.execLoadall pe s
  | .nop pe => Sys2Proof.Machine.execNop pe s
  | .clrstk pe => Sys2Proof.Machine.execClrstk pe s
  | .fence pe => Sys2Proof.Machine.execFence pe s
  | .halt pe => Sys2Proof.Machine.execHalt pe s
  | .trap pe => Sys2Proof.Machine.execTrap pe s
  | .eoi pe ra => Sys2Proof.Machine.execEoi pe ra s
  | .tret pe => Sys2Proof.Machine.execTret pe s
  | .wspill pe => Sys2Proof.Machine.execWspill pe s
  | .wfill pe => Sys2Proof.Machine.execWfill pe s
  | .disp pe ra rb => Sys2Proof.Machine.execDisp pe ra rb s
  | .oddWordWrite pe addr v => Sys2Proof.Machine.execOddWordWrite pe addr v s
  | .taskStart pe => Sys2Proof.Machine.execTaskStart pe s
  | .taskEnd pe => Sys2Proof.Machine.execTaskEnd pe s
  | .engDisp q pe arg task => Sys2Proof.Machine.execEngDisp q pe arg task s
  | .engineStop q pe => Sys2Proof.Machine.execEngineStop q pe s
  | .engineResume q pe => Sys2Proof.Machine.execEngineResume q pe s
  | .engineReset q pe => Sys2Proof.Machine.execEngineReset q pe s
  | .engTflgRead q pe => Sys2Proof.Machine.execEngTflgRead q pe s
  | .tickLoRead q d => Sys2Proof.Machine.execTickLoRead q d s
  | .fastInterruptEntry pe => Sys2Proof.Machine.execFastInterruptEntry pe s
  | .normalInterruptEntry pe => Sys2Proof.Machine.execNormalInterruptEntry pe s
  | .blockingStallRelease pe => Sys2Proof.Machine.execBlockingStallRelease pe s
  | .queuePushRetry pe => Sys2Proof.Machine.execQueuePushRetry pe s
  | .ringPointRead d src => Sys2Proof.Machine.execRingPointRead d src s
  | .ringPointWrite d src => Sys2Proof.Machine.execRingPointWrite d src s
  | .ringGroupCommit d src => Sys2Proof.Machine.execRingGroupCommit d src s
  | .ringQueuePush d src => Sys2Proof.Machine.execRingQueuePush d src s
  | .ringLset d src => Sys2Proof.Machine.execRingLset d src s
  | .ringLoadall d src => Sys2Proof.Machine.execRingLoadall d src s
  | .spaceNotice d src => Sys2Proof.Machine.execSpaceNotice d src s
  | .ringRegisterAccess d src => Sys2Proof.Machine.execRingRegisterAccess d src s
  | .ringResponse d src => Sys2Proof.Machine.execRingResponse d src s
  | .hostPointRead q p n => Sys2Proof.Machine.execHostPointRead q p n s
  | .hostPointWrite q p vs => Sys2Proof.Machine.execHostPointWrite q p vs s
  | .hostQueuePush q id type payload => Sys2Proof.Machine.execHostQueuePush q id type payload s
  | .hostQueuePop q id => Sys2Proof.Machine.execHostQueuePop q id s
  | .queueEnable q d => Sys2Proof.Machine.execQueueEnable q d s
  | .queueEnableDone id => Sys2Proof.Machine.execQueueEnableDone id s
  | .queueDisable q d => Sys2Proof.Machine.execQueueDisable q d s
  | .qFlush q d => Sys2Proof.Machine.execQFlush q d s
  | .slotResult d n codes => Sys2Proof.Machine.execSlotResult d n codes s
  | .referenceSlot d => Sys2Proof.Machine.execReferenceSlot d s
  | .referenceSlotDone d chk ext => Sys2Proof.Machine.execReferenceSlotDone d chk ext s
  | .refAverage d => Sys2Proof.Machine.execRefAverage d s
  | .refSwitch d => Sys2Proof.Machine.execRefSwitch d s
  | .churnRotate d n inRange => Sys2Proof.Machine.execChurnRotate d n inRange s
  | .urgentRequest q d n inp avg win => Sys2Proof.Machine.execUrgentRequest q d n inp avg win s
  | .urgentStart d n => Sys2Proof.Machine.execUrgentStart d n s
  | .urgentResult d n codes => Sys2Proof.Machine.execUrgentResult d n codes s
  | .adcDataRead q d n => Sys2Proof.Machine.execAdcDataRead q d n s
  | .capMkRead q d n => Sys2Proof.Machine.execCapMkRead q d n s
  | .capDataRead q d n => Sys2Proof.Machine.execCapDataRead q d n s
  | .capUnfreeze q d ring => Sys2Proof.Machine.execCapUnfreeze q d ring s
  | .modOutput d m bits => Sys2Proof.Machine.execModOutput d m bits s
  | .modScOutput d m bits => Sys2Proof.Machine.execModScOutput d m bits s
  | .modStuck d m => Sys2Proof.Machine.execModStuck d m s
  | .comparatorLatch d e => Sys2Proof.Machine.execComparatorLatch d e s
  | .blankingEnd d n pos => Sys2Proof.Machine.execBlankingEnd d n pos s
  | .aonCmpDecision k e => Sys2Proof.Machine.execAonCmpDecision k e s
  | .laCmd q d h => Sys2Proof.Machine.execLaCmd q d h s
  | .legEnable q d n => Sys2Proof.Machine.execLegEnable q d n s
  | .legForce q d n force => Sys2Proof.Machine.execLegForce q d n force s
  | .grpMaskWrite q d g mask => Sys2Proof.Machine.execGrpMaskWrite q d g mask s
  | .strengthFrame d n => Sys2Proof.Machine.execStrengthFrame d n s
  | .gateEnable q d n => Sys2Proof.Machine.execGateEnable q d n s
  | .gfPulse d n w => Sys2Proof.Machine.execGfPulse d n w s
  | .returnMiss d n => Sys2Proof.Machine.execReturnMiss d n s
  | .gfFault d n => Sys2Proof.Machine.execGfFault d n s
  | .tripMesh d => Sys2Proof.Machine.execTripMesh d s
  | .tripClear q d n => Sys2Proof.Machine.execTripClear q d n s
  | .vsatLong h => Sys2Proof.Machine.execVsatLong h s
  | .heelRestart q h mask => Sys2Proof.Machine.execHeelRestart q h mask s
  | .heelEnable q h j => Sys2Proof.Machine.execHeelEnable q h j s
  | .oscSample h => Sys2Proof.Machine.execOscSample h s
  | .oscEnable q h c => Sys2Proof.Machine.execOscEnable q h c s
  | .bind q h => Sys2Proof.Machine.execBind q h s
  | .unbind q h => Sys2Proof.Machine.execUnbind q h s
  | .arm q h => Sys2Proof.Machine.execArm q h s
  | .armCheckComplete h mismatch => Sys2Proof.Machine.execArmCheckComplete h mismatch s
  | .armCheckTimeout h => Sys2Proof.Machine.execArmCheckTimeout h s
  | .run q h => Sys2Proof.Machine.execRun q h s
  | .stop q h => Sys2Proof.Machine.execStop q h s
  | .stopped q h => Sys2Proof.Machine.execStopped q h s
  | .safe q h => Sys2Proof.Machine.execSafe q h s
  | .recover q h => Sys2Proof.Machine.execRecover q h s
  | .fault q h => Sys2Proof.Machine.execFault q h s
  | .stopTimeout h => Sys2Proof.Machine.execStopTimeout h s
  | .ownerWrite q d kind n en herd => Sys2Proof.Machine.execOwnerWrite q d kind n en herd s
  | .roleWrite q h role => Sys2Proof.Machine.execRoleWrite q h role s
  | .roleChangeDone h => Sys2Proof.Machine.execRoleChangeDone h s
  | .herdStateCopy d h => Sys2Proof.Machine.execHerdStateCopy d h s
  | .commandPointStale h j => Sys2Proof.Machine.execCommandPointStale h j s
  | .regEnable q h => Sys2Proof.Machine.execRegEnable q h s
  | .regOverload h => Sys2Proof.Machine.execRegOverload h s
  | .burstSleep h => Sys2Proof.Machine.execBurstSleep h s
  | .burstDisable q h => Sys2Proof.Machine.execBurstDisable q h s
  | .driveEnable q h => Sys2Proof.Machine.execDriveEnable q h s
  | .catchWindowEnd h => Sys2Proof.Machine.execCatchWindowEnd h s
  | .ascPeriodEnd h => Sys2Proof.Machine.execAscPeriodEnd h s
  | .seeded q h => Sys2Proof.Machine.execSeeded q h s
  | .wsLow q h => Sys2Proof.Machine.execWsLow q h s
  | .wsHigh q h => Sys2Proof.Machine.execWsHigh q h s
  | .wsRelease q h => Sys2Proof.Machine.execWsRelease q h s
  | .chopEnable q h => Sys2Proof.Machine.execChopEnable q h s
  | .chopSample h => Sys2Proof.Machine.execChopSample h s
  | .gridEnable q h => Sys2Proof.Machine.execGridEnable q h s
  | .gridTrip h n => Sys2Proof.Machine.execGridTrip h n s
  | .mcRestore h => Sys2Proof.Machine.execMcRestore h s
  | .holdoverTimeout h => Sys2Proof.Machine.execHoldoverTimeout h s
  | .probeStart h => Sys2Proof.Machine.execProbeStart h s
  | .probeEnd h => Sys2Proof.Machine.execProbeEnd h s
  | .enterService h => Sys2Proof.Machine.execEnterService h s
  | .trackEnable q h => Sys2Proof.Machine.execTrackEnable q h s
  | .trackStep h => Sys2Proof.Machine.execTrackStep h s
  | .sweepStart h => Sys2Proof.Machine.execSweepStart h s
  | .sweepRampStep h => Sys2Proof.Machine.execSweepRampStep h s
  | .sweepFrozen h => Sys2Proof.Machine.execSweepFrozen h s
  | .trkGmp q h volt => Sys2Proof.Machine.execTrkGmp q h volt s
  | .sweepFail h => Sys2Proof.Machine.execSweepFail h s
  | .meterEnable q d u => Sys2Proof.Machine.execMeterEnable q d u s
  | .meterSample d u => Sys2Proof.Machine.execMeterSample d u s
  | .zcTimeout d u k => Sys2Proof.Machine.execZcTimeout d u k s
  | .snap q d u => Sys2Proof.Machine.execSnap q d u s
  | .calchk q d u => Sys2Proof.Machine.execCalchk q d u s
  | .calCheck d u => Sys2Proof.Machine.execCalCheck d u s
  | .pailLoRead q d c => Sys2Proof.Machine.execPailLoRead q d c s
  | .pailWrite q d c v collides => Sys2Proof.Machine.execPailWrite q d c v collides s
  | .mcCorrectionWrite q d u c f v => Sys2Proof.Machine.execMcCorrectionWrite q d u c f v s
  | .pulseOutputEnable q d k => Sys2Proof.Machine.execPulseOutputEnable q d k s
  | .pulseEnd d k => Sys2Proof.Machine.execPulseEnd d k s
  | .gapEnd d k => Sys2Proof.Machine.execGapEnd d k s
  | .s0LevelAccept d k e => Sys2Proof.Machine.execS0LevelAccept d k e s
  | .s0PulseCount d k => Sys2Proof.Machine.execS0PulseCount d k s
  | .s0CntWrite q d k v collides => Sys2Proof.Machine.execS0CntWrite q d k v collides s
  | .safetyChannelCycle chan osc => Sys2Proof.Machine.execSafetyChannelCycle chan osc s
  | .contactAccept chanB k closed => Sys2Proof.Machine.execContactAccept chanB k closed s
  | .ss1Expiry z => Sys2Proof.Machine.execSs1Expiry z s
  | .discrepancyTimeout k => Sys2Proof.Machine.execDiscrepancyTimeout k s
  | .testPulse chanB k e => Sys2Proof.Machine.execTestPulse chanB k e s
  | .sealRead a b => Sys2Proof.Machine.execSealRead a b s
  | .safetySelftest e => Sys2Proof.Machine.execSafetySelftest e s
  | .pathFault d differs => Sys2Proof.Machine.execPathFault d differs s
  | .rstStuck => Sys2Proof.Machine.execRstStuck s
  | .legEnableLoss chanB d => Sys2Proof.Machine.execLegEnableLoss chanB d s
  | .legEnableRestore d => Sys2Proof.Machine.execLegEnableRestore d s
  | .safeResetEdge lowMs widthMs e => Sys2Proof.Machine.execSafeResetEdge lowMs widthMs e s
  | .mainLost => Sys2Proof.Machine.execMainLost s
  | .mainReturn => Sys2Proof.Machine.execMainReturn s
  | .powerCycleCount => Sys2Proof.Machine.execPowerCycleCount s
  | .aonSecond => Sys2Proof.Machine.execAonSecond s
  | .gaugeUpdate vlarge vsmall draw harvest => Sys2Proof.Machine.execGaugeUpdate vlarge vsmall draw harvest s
  | .harvesterVocMeasure voc => Sys2Proof.Machine.execHarvesterVocMeasure voc s
  | .aonRecordWrite => Sys2Proof.Machine.execAonRecordWrite s
  | .darkBinClose energy => Sys2Proof.Machine.execDarkBinClose energy s
  | .darkCutoff => Sys2Proof.Machine.execDarkCutoff s
  | .darkTimerExpired => Sys2Proof.Machine.execDarkTimerExpired s
  | .darkWake hours main => Sys2Proof.Machine.execDarkWake hours main s
  | .recordCommit => Sys2Proof.Machine.execRecordCommit s
  | .mirrorCommit => Sys2Proof.Machine.execMirrorCommit s
  | .mirrorCopy => Sys2Proof.Machine.execMirrorCopy s
  | .mirrorCompare => Sys2Proof.Machine.execMirrorCompare s
  | .flashOpDone d => Sys2Proof.Machine.execFlashOpDone d s
  | .eraseResume d => Sys2Proof.Machine.execEraseResume d s
  | .commission q => Sys2Proof.Machine.execCommission q s
  | .freeze q => Sys2Proof.Machine.execFreeze q s
  | .unfreeze q => Sys2Proof.Machine.execUnfreeze q s
  | .freezeExpiry => Sys2Proof.Machine.execFreezeExpiry s
  | .recordSelect q seq => Sys2Proof.Machine.execRecordSelect q seq s
  | .recordLocated q => Sys2Proof.Machine.execRecordLocated q s
  | .recWinRead q => Sys2Proof.Machine.execRecWinRead q s
  | .flashRead q d => Sys2Proof.Machine.execFlashRead q d s
  | .flashProgram q d => Sys2Proof.Machine.execFlashProgram q d s
  | .flashErase q d => Sys2Proof.Machine.execFlashErase q d s
  | .irqSwset q d src => Sys2Proof.Machine.execIrqSwset q d src s
  | .irqHpendClear q d w bits => Sys2Proof.Machine.execIrqHpendClear q d w bits s
  | .pllLock d band => Sys2Proof.Machine.execPllLock d band s
  | .pllUnlock d => Sys2Proof.Machine.execPllUnlock d s
  | .rampRun q d r => Sys2Proof.Machine.execRampRun q d r s
  | .rampStop q d r => Sys2Proof.Machine.execRampStop q d r s
  | .rampSegmentEnd d r => Sys2Proof.Machine.execRampSegmentEnd d r s
  | .opWrite q d c vsel fsel => Sys2Proof.Machine.execOpWrite q d c vsel fsel s
  | .railSettled d c => Sys2Proof.Machine.execRailSettled d c s
  | .pwrOn q d dom => Sys2Proof.Machine.execPwrOn q d dom s
  | .pwrRetain q d dom force => Sys2Proof.Machine.execPwrRetain q d dom force s
  | .pwrOff q d dom force => Sys2Proof.Machine.execPwrOff q d dom force s
  | .domainWaitDone d dom => Sys2Proof.Machine.execDomainWaitDone d dom s
  | .domainTransitionDone d dom => Sys2Proof.Machine.execDomainTransitionDone d dom s
  | .spiRead head part crc => Sys2Proof.Machine.execSpiRead head part crc s
  | .spiWrite head ws crc => Sys2Proof.Machine.execSpiWrite head ws crc s
  | .spiStatus st => Sys2Proof.Machine.execSpiStatus st s
  | .spiAbandon => Sys2Proof.Machine.execSpiAbandon s
  | .bypass => Sys2Proof.Machine.execBypass s
  | .idcode => Sys2Proof.Machine.execIdcode s
  | .samplePreload cells => Sys2Proof.Machine.execSamplePreload cells s
  | .extest => Sys2Proof.Machine.execExtest s
  | .hostacc cmd addr ws crc => Sys2Proof.Machine.execHostacc cmd addr ws crc s
  | .canRxFrame c frame => Sys2Proof.Machine.execCanRxFrame c frame s
  | .canTxFrame c j => Sys2Proof.Machine.execCanTxFrame c j s
  | .canBusOff c => Sys2Proof.Machine.execCanBusOff c s
  | .canBusOffRecovery c => Sys2Proof.Machine.execCanBusOffRecovery c s
  | .page page pec => Sys2Proof.Machine.execPage page pec s
  | .operation v pec => Sys2Proof.Machine.execOperation v pec s
  | .onOffConfig v pec => Sys2Proof.Machine.execOnOffConfig v pec s
  | .clearFaults pec => Sys2Proof.Machine.execClearFaults pec s
  | .voutCommand v pec => Sys2Proof.Machine.execVoutCommand v pec s
  | .statusWord => Sys2Proof.Machine.execStatusWord s
  | .readVout => Sys2Proof.Machine.execReadVout s
  | .readIout => Sys2Proof.Machine.execReadIout s
  | .pmbusUnsupported code => Sys2Proof.Machine.execPmbusUnsupported code s
  | .avsVoutWrite rail mv crcOk => Sys2Proof.Machine.execAvsVoutWrite rail mv crcOk s
  | .avsVoutRead rail crcOk => Sys2Proof.Machine.execAvsVoutRead rail crcOk s
  | .avsStatusRead rail crcOk => Sys2Proof.Machine.execAvsStatusRead rail crcOk s
  | .linkUp down => Sys2Proof.Machine.execLinkUp down s
  | .ack down id => Sys2Proof.Machine.execAck down id s
  | .nak down id => Sys2Proof.Machine.execNak down id s
  | .chainRetry down id => Sys2Proof.Machine.execChainRetry down id s
  | .linkLost down => Sys2Proof.Machine.execLinkLost down s
  | .linkDown up at_ => Sys2Proof.Machine.execLinkDown up at_ s
  | .enumStart => Sys2Proof.Machine.execEnumStart s
  | .enum addr gen upPort => Sys2Proof.Machine.execEnum addr gen upPort s
  | .enumAck addr proto sirev nd last => Sys2Proof.Machine.execEnumAck addr proto sirev nd last s
  | .enumComplete => Sys2Proof.Machine.execEnumComplete s
  | .roster entries => Sys2Proof.Machine.execRoster entries s
  | .enumWaitTimeout => Sys2Proof.Machine.execEnumWaitTimeout s
  | .headEnumTimeout => Sys2Proof.Machine.execHeadEnumTimeout s
  | .pRead fr p n => Sys2Proof.Machine.execPRead fr p n s
  | .pWrite fr p vs => Sys2Proof.Machine.execPWrite fr p vs s
  | .qPush fr id type payload => Sys2Proof.Machine.execQPush fr id type payload s
  | .rRead fr addr n => Sys2Proof.Machine.execRRead fr addr n s
  | .rWrite fr addr ws => Sys2Proof.Machine.execRWrite fr addr ws s
  | .resp fr st orig data => Sys2Proof.Machine.execResp fr st orig data s
  | .chainTimeout down tag => Sys2Proof.Machine.execChainTimeout down tag s
  | .chHcmd q dst type reuse n1 => Sys2Proof.Machine.execChHcmd q dst type reuse n1 s
  | .chainOutSend id => Sys2Proof.Machine.execChainOutSend id s
  | .chainOutResend id => Sys2Proof.Machine.execChainOutResend id s
  | .powerOn => Sys2Proof.Machine.execPowerOn s
  | .resetN => Sys2Proof.Machine.execResetN s
  | .supplyLow => Sys2Proof.Machine.execSupplyLow s
  | .pkgCmdReset q => Sys2Proof.Machine.execPkgCmdReset q s
  | .resetRelease pins => Sys2Proof.Machine.execResetRelease pins s
  | .bootComplete intake base e => Sys2Proof.Machine.execBootComplete intake base e s
  | .dieMissing d => Sys2Proof.Machine.execDieMissing d s
  | .trialFallback => Sys2Proof.Machine.execTrialFallback s
  | .switch q => Sys2Proof.Machine.execSwitch q s
  | .confirm q => Sys2Proof.Machine.execConfirm q s
  | .programKeyHash q => Sys2Proof.Machine.execProgramKeyHash q s
  | .programSigReq q => Sys2Proof.Machine.execProgramSigReq q s
  | .wrefClr q d => Sys2Proof.Machine.execWrefClr q d s
  | .registerWrite q addr e => Sys2Proof.Machine.execRegisterWrite q addr e s
  | .undefinedEncoding pe w => Sys2Proof.Machine.execUndefinedEncoding pe w s
  | .canError c err => Sys2Proof.Machine.execCanError c err s
  | .chainBadFrame up fr => Sys2Proof.Machine.execChainBadFrame up fr s
  | .railLevelMet d c level => Sys2Proof.Machine.execRailLevelMet d c level s
  | .harvesterStart cold => Sys2Proof.Machine.execHarvesterStart cold s
  | .harvesterStop => Sys2Proof.Machine.execHarvesterStop s
  | .tapReset => Sys2Proof.Machine.execTapReset s

end Sys2Proof.Machine
end

