-- ==== Sys2Proof/Safety.lean ====
section
/-!
DEFINITION. What counts as a safe run, and the words in which statements about commands are made: which instruction an engine
can execute, what a completed instruction leaves, and what a command leaves as it was.
-/
namespace Sys2Proof.Machine

/-! ### Safe runs -/

/-- Every waiting command names units that the member has. -/
def State.Inv (s : State) : Prop := ∀ c ∈ s.pending, c.wf s.dies = true

/-- The memories are in canonical form: signal points, engine memories, capture rings read 0 where nothing is listed,
program memories and flash rows as erased. -/
def State.memoryWf (s : State) : Bool :=
  [Store.wf 0 s.points, Store.wf 0 s.priv, Store.wf 0 s.shared, Store.wf 0 s.capture].all id &&
    Store.wf noWord s.program && Store.wf (BitVec.allOnes 256) s.flash

/-- A step is safe where it answers a next state: it neither stops on a fault nor refuses its command. -/
def State.SafeStep (s : State) : Prop := ∃ t, step s = .next t

/-! ### Instructions of an engine -/

/-- Engine `pe` of the member can execute an instruction that uses the registers `sps`: it runs, and neither one of them nor STK, in
which it may raise a flag, awaits data (R97, R102, R131). -/
def State.Ready (s : State) (pe : Nat) (sps : List Spec) : Prop :=
  pe < 32 * s.dies ∧ s.canRun pe = true ∧ s.awaited pe (specSTK :: sps) = false

/-- An engine after an instruction that puts `v` into the register `x`, raises the sticky flags `m` (STK [6:0]) and is followed by
the next one (R72, R76, R107). -/
def Engine.after (E : Engine) (x : Slot) (v : Word) (m : Nat) : Engine :=
  let E' := E.store v x
  { E'.setStk (E'.stkNow ||| BitVec.ofNat 24 (m % 128)) with pc := E.pc + 1 }

/-- The part after an instruction of engine `pe` that puts `v` into `rd`, raises the flags `m` and the flags that the views of
the accumulators among the registers `rs` that it reads raise (R70), and is followed by the next one. -/
def State.wrote (s : State) (pe : Nat) (rd : Spec) (v : Word) (m : Nat) (rs : List Spec) : State :=
  s.modEng pe fun E => E.after (s.slotOf pe rd) v (m ||| s.readFlags pe rs)

/-- Nothing but engine `pe` differs between the two states. -/
def OnlyEngine (s t : State) (pe : Nat) : Prop :=
  { t with engines := s.engines } = s ∧ ∀ p, p ≠ pe → t.eng p = s.eng p

/-- The part after an instruction of engine `pe` that raises the flags `m` and is followed by the next one (R72, R107). -/
def advanced (s : State) (pe m : Nat) : State :=
  s.modEng pe fun E => { E.setStk (E.stkNow ||| BitVec.ofNat 24 (m % 128)) with pc := E.pc + 1 }

/-- The angle in a register pair (R71): its bits [31:8] in the even register, [7:0] in bits [7:0] of the odd one. -/
def angleOf (s : State) (pe : Nat) (sp : Spec) : BitVec 32 := s.val pe sp ++ (s.val pe (sp + 1)).extractLsb' 0 8

/-- The part with an angle put into a register pair (R71). -/
def withPair (s : State) (pe : Nat) (sp : Spec) (v : BitVec 32) : State :=
  (s.setVal pe sp (v.extractLsb' 8 24)).setVal pe (sp + 1) ((v.extractLsb' 0 8).zeroExtend 24)

/-- The number of places that a shift amount gives (R113). -/
def shiftPlaces (s : State) (pe : Nat) : ShiftAmount → Nat
  | .imm n => n.toNat
  | .reg rb => (s.val pe rb).toNat % 32

/-- The registers that a shift reads (R113). -/
def shiftReads (ra : Spec) : ShiftAmount → List Spec
  | .imm _ => [ra]
  | .reg rb => [ra, rb]

/-- The part after an instruction of engine `pe` that puts 56 bits into the accumulator `acc` and raises flags (R69, R72). -/
def accWrote (s : State) (pe : Nat) (acc : Spec) (v : Acc) (m : Nat) (rs : List Spec) : State :=
  s.modEng pe fun E =>
    let E := { E with accs := Store.set E.accs 0 (if E.fast then acc.toNat - 20 else acc.toNat - 24) v, pc := E.pc + 1 }
    E.setStk (E.stkNow ||| BitVec.ofNat 24 ((m ||| s.readFlags pe rs) % 128))

/-- The engine whose instruction a command is, if it is an instruction of Uselo (chapter 5). -/
def engineOf : Instr → Option Nat
  | .ld pe _ _ _ | .st pe _ _ _ | .ldl pe _ _ | .ldh pe _ _ | .adda pe _ _ _ | .mov pe _ _ | .addar pe _ _ _ | .ldx pe _ _ _
  | .stx pe _ _ _ | .add pe _ _ _ | .sub pe _ _ _ | .neg pe _ _ | .abs pe _ _ | .min pe _ _ _ | .max pe _ _ _
  | .clamp pe _ _ _ | .and pe _ _ _ | .or pe _ _ _ | .xor pe _ _ _ | .not pe _ _ | .addi pe _ _ _ | .shl pe _ _ _
  | .shr pe _ _ _ | .shrr pe _ _ _ | .lsr pe _ _ _ | .lsl pe _ _ _ | .norm pe _ _ | .mul pe _ _ _ | .mulq8 pe _ _ _
  | .mac pe _ _ _ | .msu pe _ _ _ | .macq8 pe _ _ _ | .msuq8 pe _ _ _ | .div pe _ _ _ | .accv pe _ _ _ | .accvq8 pe _ _
  | .acclo pe _ _ | .accmid pe _ _ | .acchi pe _ _ | .accphm pe _ _ _ | .accplo pe _ _ | .accadd pe _ _ | .lsh pe _ _ _
  | .cmp pe _ _ | .cmpi pe _ _ | .br pe _ _ _ | .call pe _ | .callr pe _ | .ret pe | .jr pe _ | .mvm pe _ _ _ _ _ _ _ _
  | .mva pe _ _ _ _ _ _ _ _ | .fir pe _ _ _ _ _ | .bcopy pe _ _ _ _ | .sincos pe _ _ | .atan2 pe _ _ _ | .sqrt pe _ _
  | .mag pe _ _ _ | .clarke pe _ _ | .park pe _ _ _ | .ipark pe _ _ _ | .aget pe _ _ | .aturn pe _ _ | .ainc pe _ _
  | .acorr pe _ _ | .aadd pe _ _ _ | .asub pe _ _ _ | .amuli pe _ _ _ | .qpush pe _ _ _ _ _ | .qpop pe _ _ _ | .qstat pe _ _
  | .sget pe _ _ _ _ _ | .sput pe _ _ _ _ _ | .sputg pe _ _ _ _ _ _ | .lset pe _ _ _ _ | .loadall pe | .nop pe | .clrstk pe
  | .fence pe | .halt pe | .trap pe | .eoi pe _ | .tret pe | .wspill pe | .wfill pe | .disp pe _ _ => some pe
  | _ => none

/-- The requester that a register command names and the die on which its register lies, where it is a command of HostRows.lean. -/
def hostRow : Instr → Option (Requester × Nat)
  | .abRunWrite q d _ _ | .abAngleWrite q d _ _ | .abCorrWrite q d _ _ | .mainsTrackerEnable q d _ | .tickLoRead q d
  | .queueEnable q d | .queueDisable q d | .qFlush q d | .urgentRequest q d _ _ _ _ | .adcDataRead q d _
  | .capMkRead q d _ | .capDataRead q d _ | .capUnfreeze q d _ | .laCmd q d _ | .legEnable q d _ | .legForce q d _ _
  | .grpMaskWrite q d _ _ | .gateEnable q d _ | .tripClear q d _ | .ownerWrite q d _ _ _ _ | .meterEnable q d _
  | .snap q d _ | .calchk q d _ | .pailLoRead q d _ | .pailWrite q d _ _ _ | .mcCorrectionWrite q d _ _ _ _
  | .pulseOutputEnable q d _ | .s0CntWrite q d _ _ _ | .flashRead q d | .flashProgram q d | .flashErase q d
  | .irqSwset q d _ | .irqHpendClear q d _ _ | .rampRun q d _ | .rampStop q d _ | .opWrite q d _ _ _ | .pwrOn q d _
  | .pwrRetain q d _ _ | .pwrOff q d _ _ => some (q, d)
  | .engDisp q pe _ _ | .engineStop q pe | .engineResume q pe | .engineReset q pe | .engTflgRead q pe => some (q, pe / 32)
  | .heelRestart q h _ | .heelEnable q h _ | .oscEnable q h _ | .bind q h | .unbind q h | .arm q h | .run q h
  | .stop q h | .stopped q h | .safe q h | .recover q h | .fault q h | .roleWrite q h _ | .regEnable q h
  | .burstDisable q h | .driveEnable q h | .seeded q h | .wsLow q h | .wsHigh q h | .wsRelease q h | .chopEnable q h
  | .gridEnable q h | .trackEnable q h | .trkGmp q h _ => some (q, h / 8)
  | .wrefClr q d => some (q, d.getD 0)
  | _ => none

/-! ### Arithmetic of the spec's tables -/

/-- A value lies in the 24-bit range (R68). -/
abbrev Fits24 (v : Int) : Prop := -8388608 ≤ v ∧ v ≤ 8388607

/-- A value saturated to the 24-bit range (R68). -/
def cut24 (v : Int) : Word :=
  BitVec.ofInt 24 (if v < -8388608 then -8388608 else if 8388607 < v then 8388607 else v)

/-- A value lies in the 56-bit range (R69). -/
abbrev Fits56 (v : Int) : Prop := -(2 ^ 55) ≤ v ∧ v ≤ 2 ^ 55 - 1

/-- A value saturated to the 56-bit range (R69). -/
def cut56 (v : Int) : Acc :=
  BitVec.ofInt 56 (if v < -(2 ^ 55) then -(2 ^ 55) else if 2 ^ 55 - 1 < v then 2 ^ 55 - 1 else v)

/-- `n` / `d` rounded to nearest, ties away from zero (R70, R114). -/
def nearest (n : Int) (d : Nat) : Int := n.sign * ((2 * n.natAbs + d) / (2 * d) : Nat)

/-! ### Frames of the other commands -/

/-- Registers: every field value with a key outside `ks` is as it was. -/
def RegsBut (s t : State) (ks : List Nat) : Prop :=
  ∀ k e, k ∉ ks → Store.get t.cells e k = Store.get s.cells e k

/-- Only register fields with keys in `ks` differ between the two states. -/
def OnlyRegs (s t : State) (ks : List Nat) : Prop := { t with cells := s.cells } = s ∧ RegsBut s t ks

end Sys2Proof.Machine
end

