-- ==== Sys2Proof/Certificates/Slice0/Obligations.lean ====
section
/-!
DEFINITION. The statements about the model, for the provers. Each one's docstring names the rules of spec/ that it formalises, and
the log entries for what is the model's own choice; the tests named witness_… meet every statement's hypotheses.
-/
open Sys2Proof Sys2Proof.Machine

/-! ### Every command -/

/-- Log entry 3 and the form of a block: a step runs the command at the front of the queue on the state with the queue's
rest, and an empty queue leaves the part as it is (the model's own choice). -/
def Obligations.StepRunsTheFrontCommand : Prop :=
  (∀ (s : State) (c : Instr) (cs : List Instr), step { s with pending := c :: cs } = exec c { s with pending := cs }) ∧
  (∀ s : State, s.pending = [] → step s = .next s)

/-- R538, R571 and the reset tables: right after reset no command waits, every register field reads the reset value that the
spec lists or the model names, and every memory reads as empty; the member of State.reset is the model's own choice (log
entry 1). -/
def Obligations.ResetIsTheStateAfterReset : Prop :=
  ∀ m : Member, (State.resetFor m).Inv ∧ State.reset = State.resetFor .evh2 ∧ (State.resetFor m).dies = m.dies ∧
    (∀ (G : Fld) (d i j : Nat), (State.resetFor m).get G d i j = G.reset i j) ∧
    (∀ p, (State.resetFor m).point p = 0) ∧ (∀ id, (State.resetFor m).entries id = []) ∧
    (∀ d n, (State.resetFor m).flashRow d n = BitVec.allOnes 256) ∧
    (∀ h, (State.resetFor m).herdState h = .unbound) ∧ (∀ d, (State.resetFor m).tick d = 0) ∧
    (∀ pe, (State.resetFor m).eng pe = Engine.reset)

/-- R1, R84 and the spec's rules together: in every state whose waiting commands name units that the member has, a step
answers a next state, takes exactly the front command off the queue, keeps the member, and leaves such a state again. -/
def Obligations.EveryStepAnswersAndKeepsTheInvariant : Prop :=
  ∀ s : State, s.Inv → ∃ t, step s = .next t ∧ t.pending = s.pending.tail ∧ t.member = s.member ∧ t.Inv

/-- A step keeps the memories in canonical form (the model's own form of them, log entry 9): signal points, engine memories,
capture rings, program memories and flash list their entries in rising order and none that equals what an unlisted address
reads as; and reset has that form. -/
def Obligations.EveryStepKeepsTheFormOfTheMemories : Prop :=
  (∀ m, (State.resetFor m).memoryWf = true) ∧
  ∀ s : State, s.Inv → s.memoryWf = true → ∃ t, step s = .next t ∧ t.memoryWf = true

/-- R1, R94, R97, R102, R103, R481: a command for a unit that the member does not have is refused by name; and an instruction
of an engine that cannot run (nothing runs on it, it is stopped, frozen, in DFAULT, waiting for data or stalled at a bound,
or its cluster is not ON) has no effect. Those two are the model's own choice for a command that no part of that member, or
no such engine, receives (log entries 4 and 41). R131: an instruction that uses a register whose data is awaited waits, STK
among them: for a comparison, for CLRSTK, and for an addition that would raise a flag. -/
def Obligations.AbsentUnitsAreRefusedAndIdleEnginesDoNothing : Prop :=
  (∀ (s : State) (c : Instr), c.wf s.dies = false → exec c s = .refused .noSuchUnit) ∧
  (∀ (s : State) (c : Instr) (pe : Nat), engineOf c = some pe → c.wf s.dies = true → s.canRun pe = false → exec c s = .next s) ∧
  (∀ (s : State) (pe : Nat) (rd ra rb : Spec), pe < 32 * s.dies → s.canRun pe = true →
    (s.awaited pe [ra, rb, rd] = true → exec (.add pe rd ra rb) s = .next s) ∧
    (s.awaited pe [specSTK] = true → exec (.cmp pe ra rb) s = .next s ∧ exec (.clrstk pe) s = .next s ∧
      (¬ Fits24 ((s.val pe ra).toInt + (s.val pe rb).toInt) → (s.eng pe).stkNow.getLsbD 0 = false →
        exec (.add pe rd ra rb) s = .next s)))

/-! ### Uselo: operands, arithmetic and accumulators -/

/-- R70, R73, R76, R98: what each register specifier reads and what a write through it does, shown by MOV. -/
def Obligations.OperandsReadAndWriteAsTheTableGives : Prop :=
  ∀ (s : State) (pe : Nat) (rd ra : Spec), s.Ready pe [ra, rd] →
    let E := s.eng pe
    let d := pe / 32
    let e := pe % 32
    let v := s.val pe ra
    let A := s.accVal pe ra
    let w := nearest A.toInt (2 ^ 23)
    let cvt := 24 ≤ ra.toNat ∧ ra.toNat < 28 ∧ ¬ Fits24 w
    let cwp := s.get F.ENG_WIN_CWP d e
    (24 ≤ ra.toNat → ra.toNat < 28 → v = cut24 w) ∧
    (ra = 28 → v = E.stkNow) ∧ (ra = 29 → v = if E.fast then E.fastHc else E.hc) ∧ (ra = 30 → v = E.taskReg) ∧ (ra = 31 → v = 0) ∧
    (ra.toNat < 16 → E.trap = true → v = Store.get E.regs 0 (96 + ra.toNat)) ∧
    (ra.toNat < 16 → E.trap = false → E.fast = true → v = Store.get E.regs 0 (112 + ra.toNat)) ∧
    (ra.toNat < 12 → E.trap = false → E.fast = false → v = Store.get E.regs 0 (12 * (cwp % 8) + ra.toNat)) ∧
    (12 ≤ ra.toNat → ra.toNat < 16 → E.trap = false → E.fast = false →
      v = Store.get E.regs 0 (12 * ((cwp + 1) % 8) + (ra.toNat - 12))) ∧
    (16 ≤ ra.toNat → ra.toNat < 24 → v = Store.get E.regs 0 (112 + ra.toNat)) ∧
    ∃ t, exec (.mov pe rd ra) s = .next t ∧ (t.eng pe).pc = E.pc + 1 ∧ OnlyEngine s t pe ∧
      (rd.toNat < 24 → t.val pe rd = v ∧ (∀ r : Spec, r.toNat < 24 → r ≠ rd → t.val pe r = s.val pe r) ∧
        (t.eng pe).accs = E.accs ∧ (t.eng pe).hc = E.hc ∧ (t.eng pe).fastHc = E.fastHc) ∧
      (24 ≤ rd.toNat → rd.toNat < 28 → t.accVal pe rd = BitVec.ofInt 56 (v.toInt * 2 ^ 23) ∧ (t.eng pe).regs = E.regs ∧
        ∀ r : Spec, 24 ≤ r.toNat → r.toNat < 28 → r ≠ rd → t.accVal pe r = s.accVal pe r) ∧
      (rd = 28 → (t.eng pe).regs = E.regs ∧ (t.eng pe).accs = E.accs ∧
        ∀ b < 24, ((t.eng pe).stkNow).getLsbD b =
          if b < 7 then E.stkNow.getLsbD b || v.getLsbD b || (decide (b = 4) && decide cvt)
          else if 8 ≤ b ∧ b < 11 then v.getLsbD b else false) ∧
      (rd ≠ 28 → (t.eng pe).stkNow = if cvt then E.stkNow ||| 0x10#24 else E.stkNow) ∧
      (rd = 29 → (if E.fast then (t.eng pe).fastHc = v ∧ (t.eng pe).hc = E.hc else (t.eng pe).hc = v) ∧ (t.eng pe).regs = E.regs ∧ (t.eng pe).accs = E.accs) ∧
      (rd = 30 ∨ rd = 31 → (t.eng pe).regs = E.regs ∧ (t.eng pe).accs = E.accs ∧ (t.eng pe).hc = E.hc ∧ (t.eng pe).fastHc = E.fastHc ∧
        (t.eng pe).taskReg = E.taskReg)

/-- R112 (and R68): what every operation of the saturating ALU writes, the flag it raises, and that nothing else changes. -/
def Obligations.SaturatingAluWritesItsResult : Prop :=
  ∀ (s : State) (pe : Nat) (rd ra rb : Spec),
    (s.Ready pe [ra, rb, rd] →
      let a := s.val pe ra
      let b := s.val pe rb
      let sum := a.toInt + b.toInt
      let dif := a.toInt - b.toInt
      exec (.add pe rd ra rb) s = .next (s.wrote pe rd (cut24 sum) (if Fits24 sum then 0 else 1) [ra, rb]) ∧
      exec (.sub pe rd ra rb) s = .next (s.wrote pe rd (cut24 dif) (if Fits24 dif then 0 else 1) [ra, rb]) ∧
      exec (.min pe rd ra rb) s = .next (s.wrote pe rd (if a.toInt < b.toInt then a else b) 0 [ra, rb]) ∧
      exec (.max pe rd ra rb) s = .next (s.wrote pe rd (if a.toInt < b.toInt then b else a) 0 [ra, rb]) ∧
      exec (.and pe rd ra rb) s = .next (s.wrote pe rd (a &&& b) 0 [ra, rb]) ∧
      exec (.or pe rd ra rb) s = .next (s.wrote pe rd (a ||| b) 0 [ra, rb]) ∧
      exec (.xor pe rd ra rb) s = .next (s.wrote pe rd (a ^^^ b) 0 [ra, rb])) ∧
    (s.Ready pe [ra, rd] →
      let a := s.val pe ra
      exec (.neg pe rd ra) s =
        .next (s.wrote pe rd (if a.toInt = -8388608 then 0x7FFFFF else -a) (if a.toInt = -8388608 then 1 else 0) [ra]) ∧
      exec (.abs pe rd ra) s =
        .next (s.wrote pe rd (cut24 |a.toInt|) (if a.toInt = -8388608 then 1 else 0) [ra]) ∧
      exec (.not pe rd ra) s = .next (s.wrote pe rd (~~~a) 0 [ra]) ∧
      ∀ imm : BitVec 16,
        let sum := a.toInt + imm.toInt
        exec (.addi pe rd ra imm) s = .next (s.wrote pe rd (cut24 sum) (if Fits24 sum then 0 else 1) [ra])) ∧
    (s.Ready pe [rd, ra, rb] →
      let c := s.val pe rd
      let a := s.val pe ra
      let b := s.val pe rb
      let r := if a.toInt > b.toInt then b else if c.toInt < a.toInt then a else if c.toInt > b.toInt then b else c
      exec (.clamp pe rd ra rb) s = .next (s.wrote pe rd r (if r = c then 0 else 1) [rd, ra, rb]))

/-- R111: the moves and the address arithmetic, which wraps modulo 2²⁴ and raises no flag of its own. R117: a compare
replaces CN, CZ and CU by the signed, the equal and the unsigned result, and writes no register. -/
def Obligations.MovesWrapAndComparesSetFlags : Prop :=
  (∀ (s : State) (pe : Nat) (rd ra rb : Spec),
     (s.Ready pe [ra, rd] →
       exec (.mov pe rd ra) s = .next (s.wrote pe rd (s.val pe ra) 0 [ra]) ∧
       ∀ imm : BitVec 16, exec (.adda pe rd ra imm) s =
         .next (s.wrote pe rd (BitVec.ofInt 24 ((s.val pe ra).toInt + imm.toInt)) 0 [ra])) ∧
     (s.Ready pe [ra, rb, rd] →
       exec (.addar pe rd ra rb) s =
         .next (s.wrote pe rd (BitVec.ofNat 24 ((s.val pe ra).toNat + (s.val pe rb).toNat)) 0 [ra, rb])) ∧
     (s.Ready pe [rd] → ∀ imm : BitVec 21,
       exec (.ldl pe rd imm) s = .next (s.wrote pe rd (BitVec.ofInt 24 imm.toInt) 0 [])) ∧
     (s.Ready pe [rd, rd] → ∀ imm : BitVec 21,
       exec (.ldh pe rd imm) s =
         if imm.toNat < 8 then .next (s.wrote pe rd (imm.extractLsb' 0 3 ++ (s.val pe rd).extractLsb' 0 21) 0 [rd])
         else .next (s.takeTrap pe 3))) ∧
  (∀ (s : State) (pe : Nat) (ra rb : Spec) (imm : BitVec 16),
     let conds := fun (a b : Word) (stk : Word) =>
       0#13 ++ BitVec.ofBool (decide (a.toNat < b.toNat)) ++ BitVec.ofBool (decide (a = b)) ++
         BitVec.ofBool (decide (a.toInt < b.toInt)) ++ 0#1 ++ stk.extractLsb' 0 7
     let after := fun (a b : Word) (m : Nat) => s.modEng pe fun E =>
       { E.setStk (conds a b E.stkNow ||| BitVec.ofNat 24 (m % 128)) with pc := E.pc + 1 }
     (s.Ready pe [ra, rb] →
       exec (.cmp pe ra rb) s = .next (after (s.val pe ra) (s.val pe rb) (s.readFlags pe [ra, rb]))) ∧
     (s.Ready pe [ra] →
       exec (.cmpi pe ra imm) s = .next (after (s.val pe ra) (BitVec.ofInt 24 imm.toInt) (s.readFlags pe [ra]))))

/-- R113: what every shift writes, for both forms of the amount, and the count that NORM writes. R114: products and
quotients, rounded to nearest with ties away from zero, and the corners of DIV. -/
def Obligations.ShiftsProductsAndQuotientsRound : Prop :=
  (∀ (s : State) (pe : Nat) (rd ra : Spec),
     (∀ amt : ShiftAmount, s.Ready pe (shiftReads ra amt ++ [rd]) →
       let a := s.val pe ra
       let n := shiftPlaces s pe amt
       let rs := shiftReads ra amt
       exec (.shl pe rd ra amt) s =
         .next (s.wrote pe rd (cut24 (a.toInt * 2 ^ n)) (if Fits24 (a.toInt * 2 ^ n) then 0 else 8) rs) ∧
       exec (.shr pe rd ra amt) s = .next (s.wrote pe rd (BitVec.ofInt 24 (a.toInt / 2 ^ n)) 0 rs) ∧
       exec (.shrr pe rd ra amt) s =
         .next (s.wrote pe rd (if n = 0 then a else BitVec.ofInt 24 ((a.toInt + 2 ^ (n - 1)) / 2 ^ n)) 0 rs) ∧
       exec (.lsr pe rd ra amt) s = .next (s.wrote pe rd (BitVec.ofNat 24 (a.toNat / 2 ^ n)) 0 rs) ∧
       exec (.lsl pe rd ra amt) s = .next (s.wrote pe rd (BitVec.ofNat 24 (a.toNat * 2 ^ n)) 0 rs)) ∧
     (s.Ready pe [ra, rd] →
       let a := s.val pe ra
       ∃ n : Nat, exec (.norm pe rd ra) s = .next (s.wrote pe rd (BitVec.ofNat 24 n) 0 [ra]) ∧ n ≤ 23 ∧
         (∀ k < n, a.getLsbD (22 - k) = a.getLsbD 23) ∧ (n < 23 → a.getLsbD (22 - n) ≠ a.getLsbD 23))) ∧
  (∀ (s : State) (pe : Nat) (rd ra rb : Spec), s.Ready pe [ra, rb, rd] →
     let a := (s.val pe ra).toInt
     let b := (s.val pe rb).toInt
     let p := nearest (a * b) (2 ^ 23)
     let p8 := nearest (a * b) (2 ^ 16)
     let q := nearest (a * 2 ^ 23 * b.sign) b.natAbs
     exec (.mul pe rd ra rb) s = .next (s.wrote pe rd (cut24 p) (if Fits24 p then 0 else 2) [ra, rb]) ∧
     exec (.mulq8 pe rd ra rb) s = .next (s.wrote pe rd (cut24 p8) (if Fits24 p8 then 0 else 2) [ra, rb]) ∧
     (b ≠ 0 → exec (.div pe rd ra rb) s = .next (s.wrote pe rd (cut24 q) (if Fits24 q then 0 else 16) [ra, rb])) ∧
     (b = 0 → exec (.div pe rd ra rb) s =
       .next (s.wrote pe rd (if a = 0 then 0 else if a > 0 then 0x7FFFFF else 0x800000) 32 [ra, rb])))

/-- R115: the seven reads of an accumulator. R114, R115: multiply-accumulate in its four forms and the three writes of an
accumulator; any other rd raises ILL. -/
def Obligations.AccumulatorsReadAndTakeExactSums : Prop :=
  (∀ (s : State) (pe : Nat) (rd acc : Spec), 24 ≤ acc.toNat → acc.toNat < 28 → s.Ready pe [acc, rd] →
     let a := s.accVal pe acc
     let w := nearest a.toInt (2 ^ 16)
     (∀ sel : BitVec 3,
       let v := nearest (a.toInt * 2 ^ sel.toNat) (2 ^ 23)
       exec (.accv pe rd acc sel) s = .next (s.wrote pe rd (cut24 v) (if Fits24 v then 0 else 16) [])) ∧
     exec (.accvq8 pe rd acc) s = .next (s.wrote pe rd (cut24 w) (if Fits24 w then 0 else 16) []) ∧
     exec (.acclo pe rd acc) s = .next (s.wrote pe rd (BitVec.ofNat 24 a.toNat) 0 []) ∧
     exec (.accmid pe rd acc) s = .next (s.wrote pe rd (BitVec.ofNat 24 (a.toNat / 2 ^ 24)) 0 []) ∧
     exec (.acchi pe rd acc) s = .next (s.wrote pe rd (BitVec.ofInt 24 (a.toInt / 2 ^ 48)) 0 [])) ∧
  (∀ (s : State) (pe : Nat) (acc ra rb : Spec),
     (24 ≤ acc.toNat → acc.toNat < 28 → s.Ready pe [ra, rb, acc] →
       let A := s.accVal pe acc
       let a := s.val pe ra
       let b := s.val pe rb
       let plus := A.toInt + a.toInt * b.toInt
       let minus := A.toInt - a.toInt * b.toInt
       exec (.mac pe acc ra rb) s = .next (accWrote s pe acc (cut56 plus) (if Fits56 plus then 0 else 4) [ra, rb]) ∧
       exec (.macq8 pe acc ra rb) s = .next (accWrote s pe acc (cut56 plus) (if Fits56 plus then 0 else 4) [ra, rb]) ∧
       exec (.msu pe acc ra rb) s = .next (accWrote s pe acc (cut56 minus) (if Fits56 minus then 0 else 4) [ra, rb]) ∧
       exec (.msuq8 pe acc ra rb) s = .next (accWrote s pe acc (cut56 minus) (if Fits56 minus then 0 else 4) [ra, rb]) ∧
       exec (.accphm pe acc ra rb) s = .next (accWrote s pe acc (a.extractLsb' 0 8 ++ b ++ 0#24) 0 [ra, rb])) ∧
     (24 ≤ acc.toNat → acc.toNat < 28 → s.Ready pe [ra, acc] →
       exec (.accplo pe acc ra) s =
         .next (accWrote s pe acc ((s.accVal pe acc).extractLsb' 24 32 ++ s.val pe ra) 0 [ra])) ∧
     (24 ≤ acc.toNat → acc.toNat < 28 → 24 ≤ ra.toNat → ra.toNat < 28 → s.Ready pe [acc, ra] →
       let sum := (s.accVal pe acc).toInt + (s.accVal pe ra).toInt
       exec (.accadd pe acc ra) s = .next (accWrote s pe acc (cut56 sum) (if Fits56 sum then 0 else 4) [])) ∧
     (¬ (24 ≤ acc.toNat ∧ acc.toNat < 28) → pe < 32 * s.dies → s.canRun pe = true →
       exec (.mac pe acc ra rb) s = .next (s.takeTrap pe 3) ∧ exec (.macq8 pe acc ra rb) s = .next (s.takeTrap pe 3) ∧
       exec (.msu pe acc ra rb) s = .next (s.takeTrap pe 3) ∧ exec (.msuq8 pe acc ra rb) s = .next (s.takeTrap pe 3)))

/-! ### Uselo: angles, memory, points, queues and legs -/

/-- R128 (and R71): angle arithmetic modulo 2³² on pairs, the reads of a base, and the writes of AB_INC and AB_CORR. -/
def Obligations.AngleInstructionsActOnPairsAndBases : Prop :=
  ∀ (s : State) (pe : Nat) (rd ra rb : Spec) (b : BitVec 4),
    let d := pe / 32
    (isPair rd = true → isPair ra = true → isPair rb = true → s.Ready pe [ra, ra + 1, rb, rb + 1, rd, rd + 1] →
      exec (.aadd pe rd ra rb) s = .next (advanced (withPair s pe rd (angleOf s pe ra + angleOf s pe rb)) pe 0) ∧
      exec (.asub pe rd ra rb) s = .next (advanced (withPair s pe rd (angleOf s pe ra - angleOf s pe rb)) pe 0)) ∧
    (isPair rd = true → isPair ra = true → s.Ready pe [ra, ra + 1, rb, rd, rd + 1] →
      exec (.amuli pe rd ra rb) s =
        .next (advanced (withPair s pe rd (angleOf s pe ra * BitVec.ofNat 32 ((s.val pe rb).toNat % 256))) pe
          (s.readFlags pe [rb]))) ∧
    (isPair rd = true → s.Ready pe [rd, rd + 1] →
      exec (.aget pe rd b) s =
        .next (advanced (withPair s pe rd (BitVec.ofNat 32 (s.get F.AB_ANGLE_ANGLE d b.toNat))) pe 0)) ∧
    (s.Ready pe [rd] →
      exec (.aturn pe rd b) s = .next (s.wrote pe rd (BitVec.ofInt 24 (s.getI F.AB_TURN_TURN d b.toNat)) 0 [])) ∧
    (isPair ra = true → s.Ready pe [ra, ra + 1] →
      s.get F.AB_CFG_RUN d b.toNat ≠ 0 →
      (s.get F.AB_CFG_TYPE d b.toNat = 0 ∨ s.get F.AB_CFG_TYPE d b.toNat = 2 →
        exec (.ainc pe ra b) s = .next (advanced (s.put F.AB_INC_INC (angleOf s pe ra).toNat d b.toNat) pe 0)) ∧
      (s.get F.AB_CFG_TYPE d b.toNat = 2 → exec (.acorr pe ra b) s =
        .next (advanced (s.modBase d b.toNat fun B =>
          { B with rem := max (-(2 ^ 31)) (min (2 ^ 31 - 1) (B.rem + (angleOf s pe ra).toInt)) }) pe 0)))

/-- R87, R89, R90, R111, R142, R165: what a load reads from each region of the engine's data address space: of a register the
even word, which latches bits [31:24] for the odd one; of a point or package register that another die serves the load sends
a request and awaits its data. R87, R89, R90, R91, R111, R142, R165: what a store writes in each region, and that it writes
nothing else: the odd word of a register is held and written with the even one; a write that another die serves is posted,
and one that no store answers has no effect. R89: a write of the odd word of a register is held for the running context, with
the identity of the register. -/
def Obligations.LoadsStoresAndHeldOddWords : Prop :=
  (∀ (s : State) (pe : Nat) (rd ra rb : Spec) (imm : BitVec 16),
     let clause := fun (c : Instr) (rs : List Spec) (ea : Nat) =>
       (ea < 0x800 → exec c s = .next (s.wrote pe rd (Store.get s.priv 0 (pe * 2048 + ea)) 0 rs)) ∧
       (0x10000 ≤ ea → ea < 0x14000 →
         exec c s = .next (s.wrote pe rd (Store.get s.shared 0 (pe / 4 * 16384 + (ea - 0x10000))) 0 rs)) ∧
       (0x400000 ≤ ea → ea < 0x410000 →
         exec c s = .next (s.wrote pe rd (Store.get s.capture 0 (pe / 32 * 65536 + (ea - 0x400000))) 0 rs)) ∧
       (0x800000 ≤ ea → ea < 0x900000 → (ea - 0x800000) / 131072 = pe / 32 → s.memOn (pe / 32) = true →
         exec c s = .next (s.wrote pe rd (s.point (ea - 0x800000)) 0 rs)) ∧
       (0x800000 ≤ ea → ea < 0x900000 → (ea - 0x800000) / 131072 = pe / 32 → s.memOn (pe / 32) = false →
         exec c s = .next (advanced s pe (s.readFlags pe rs))) ∧
       (0x800000 ≤ ea → ea < 0x900000 → s.dies ≤ (ea - 0x800000) / 131072 → exec c s = .next (s.wrote pe rd 0 0 rs)) ∧
       (let asks := fun (d : Nat) (op : RingOp) => s.readsFull pe = false → s.slotOf pe rd ≠ .none →
          ∃ t, exec c s = .next t ∧
            t.ring = s.ring ++ [⟨s.nextXfer, pe / 32, d, .engine pe, s.runningHerd pe, op, .request⟩] ∧
            (t.eng pe).awaits = (s.eng pe).awaits ++ [⟨s.nextXfer, s.slotOf pe rd, false⟩] ∧ (t.eng pe).pc = (s.eng pe).pc + 1 ∧
            (t.eng pe).regs = (s.eng pe).regs ∧ t.points = s.points ∧ t.priv = s.priv
        let ctx := (s.eng pe).ctx
        let byte := if ea < 0x680000 then 0x10000000 + pe / 32 * 0x1000000 + (ea - 0x600000) / 2 * 4 else (ea - 0x680000) / 2 * 4
        let latch := Store.get (s.eng pe).latches (0, 0) ctx
        let r := s.regRead (.engine pe) byte
        (0x800000 ≤ ea → ea < 0x900000 → (ea - 0x800000) / 131072 ≠ pe / 32 → (ea - 0x800000) / 131072 < s.dies →
          asks ((ea - 0x800000) / 131072) (.read (ea - 0x800000))) ∧
        (0x600000 ≤ ea → ea < 0x6B0000 →
          (ea % 2 = 1 → latch.1 = byte + 1 → exec c s = .next (s.wrote pe rd (BitVec.ofNat 24 latch.2) 0 rs)) ∧
          (ea % 2 = 0 → ea < 0x680000 ∨ pe / 32 = 0 → ∃ t, exec c s = .next t ∧
            Store.get (t.eng pe).latches (0, 0) ctx = (byte + 1, r.2.2 / 2 ^ 24) ∧
            ∀ k, r.1.slotOf pe rd = .reg k → Store.get (t.eng pe).regs 0 k = BitVec.ofNat 24 r.2.2) ∧
          (0x680000 ≤ ea → pe / 32 ≠ 0 → ea % 2 = 0 ∨ latch.1 ≠ byte + 1 → asks 0 (.regRead byte (decide (ea % 2 = 1)))))) ∧
       ((0x800 ≤ ea ∧ ea < 0x10000) ∨ (0x14000 ≤ ea ∧ ea < 0x400000) ∨ (0x410000 ≤ ea ∧ ea < 0x600000) ∨
           (0x6B0000 ≤ ea ∧ ea < 0x800000) ∨ 0x900000 ≤ ea → exec c s = .next (s.takeTrap pe 2))
     (s.Ready pe [ra, rd] → clause (.ld pe rd ra imm) [ra] (BitVec.ofInt 24 ((s.val pe ra).toInt + imm.toInt)).toNat) ∧
     (s.Ready pe [ra, rb, rd] → clause (.ldx pe rd ra rb) [ra, rb] (((s.val pe ra).toNat + (s.val pe rb).toNat) % 2 ^ 24))) ∧
  (∀ (s : State) (pe : Nat) (rd ra rb : Spec) (imm : BitVec 16),
     let v := s.val pe rd
     let clause := fun (c : Instr) (rs : List Spec) (ea : Nat) =>
       (ea < 0x800 →
         exec c s = .next (advanced { s with priv := Store.set s.priv 0 (pe * 2048 + ea) v } pe (s.readFlags pe rs))) ∧
       (0x10000 ≤ ea → ea < 0x14000 →
         exec c s = .next (advanced { s with shared := Store.set s.shared 0 (pe / 4 * 16384 + (ea - 0x10000)) v } pe
           (s.readFlags pe rs))) ∧
       (0x800000 ≤ ea → ea < 0x900000 → (ea - 0x800000) / 131072 = pe / 32 → s.memOn (pe / 32) = true →
         exec c s = .next (advanced (s.writePoint (ea - 0x800000) v (.engine pe) (s.runningHerd pe)) pe (s.readFlags pe rs))) ∧
       (0x800000 ≤ ea → ea < 0x900000 → (ea - 0x800000) / 131072 ≠ pe / 32 → (ea - 0x800000) / 131072 < s.dies → s.postsFull pe = false →
         exec c s = .next (advanced (s.sendXfer (pe / 32) ((ea - 0x800000) / 131072) (.engine pe) (s.runningHerd pe)
           (.write (ea - 0x800000) v)) pe (s.readFlags pe rs))) ∧
       (0x800000 ≤ ea → ea < 0x900000 → s.dies ≤ (ea - 0x800000) / 131072 ∨
           ((ea - 0x800000) / 131072 = pe / 32 ∧ s.memOn (pe / 32) = false) →
         exec c s = .next (advanced s pe (s.readFlags pe rs))) ∧
       (let ctx := (s.eng pe).ctx
        let byte := if ea < 0x680000 then 0x10000000 + pe / 32 * 0x1000000 + (ea - 0x600000) / 2 * 4 else (ea - 0x680000) / 2 * 4
        let h := Store.get (s.eng pe).holds (0, 0) ctx
        let hold := if h.1 = byte + 1 then some h.2 else none
        let free := s.modEng pe fun E => { E with holds := Store.set E.holds (0, 0) ctx (0, 0) }
        0x600000 ≤ ea → ea < 0x6B0000 →
          (ea % 2 = 1 → exec c s = .next (advanced (s.modEng pe fun E =>
            { E with holds := Store.set E.holds (0, 0) ctx (byte + 1, v.toNat % 256) }) pe (s.readFlags pe rs))) ∧
          (ea % 2 = 0 → ea < 0x680000 ∨ pe / 32 = 0 → exec c s =
            .next ((free.regWriteLow (.engine pe) byte v.toNat hold).1.complete pe (s.readFlags pe rs) ((s.eng pe).pc + 1))) ∧
          (ea % 2 = 0 → 0x680000 ≤ ea → pe / 32 ≠ 0 → s.postsFull pe = false → exec c s =
            .next (advanced (free.sendXfer (pe / 32) 0 (.engine pe) (s.runningHerd pe)
              (.regWrite byte (BitVec.ofNat 32 (hold.getD 0 * 2 ^ 24 + v.toNat)) hold.isSome)) pe (s.readFlags pe rs)))) ∧
       ((0x800 ≤ ea ∧ ea < 0x10000) ∨ (0x14000 ≤ ea ∧ ea < 0x600000) ∨ (0x6B0000 ≤ ea ∧ ea < 0x800000) ∨ 0x900000 ≤ ea →
         exec c s = .next (s.takeTrap pe 2))
     (s.Ready pe [rd, ra] → clause (.st pe rd ra imm) [rd, ra] (BitVec.ofInt 24 ((s.val pe ra).toInt + imm.toInt)).toNat) ∧
     (s.Ready pe [rd, ra, rb] →
       clause (.stx pe rd ra rb) [rd, ra, rb] (((s.val pe ra).toNat + (s.val pe rb).toNat) % 2 ^ 24))) ∧
  (∀ (s : State) (pe : Nat) (addr : BitVec 24) (v : Word), s.Ready pe [] → addr.toNat % 2 = 1 →
     0x600000 ≤ addr.toNat → addr.toNat < 0x6B0000 →
     let byte := if addr.toNat < 0x680000 then 0x10000000 + pe / 32 * 0x1000000 + (addr.toNat - 0x600000) / 2 * 4
       else (addr.toNat - 0x680000) / 2 * 4
     let ctx := if (s.eng pe).fast then 2 else if (s.eng pe).normal then 1 else 0
     ∃ t, exec (.oddWordWrite pe addr v) s = .next t ∧ OnlyEngine s t pe ∧ (t.eng pe).pc = (s.eng pe).pc + 1 ∧
       Store.get (t.eng pe).holds (0, 0) ctx = (byte + 1, v.toNat % 256) ∧
       (∀ k, k ≠ ctx → Store.get (t.eng pe).holds (0, 0) k = Store.get (s.eng pe).holds (0, 0) k) ∧
       (t.eng pe).regs = (s.eng pe).regs ∧ (t.eng pe).accs = (s.eng pe).accs)

/-- R130, R131, R139, R142, R165: the point instructions on a point of the engine's own die, of a die that the member lacks,
and, posted, of another die; SPUTG of one point takes any register, as SPUT does. -/
def Obligations.PointInstructionsReadWriteAndReport : Prop :=
  ∀ (s : State) (pe : Nat) (rd ra rb : Spec) (nb : Bool) (n1 : BitVec 3) (o : BitVec 5),
    let p := ((s.val pe ra).toNat % 2 ^ 20 + o.toNat) % 2 ^ 20
    let there := fun (st : State) => p / 131072 = pe / 32 ∧ st.memOn (pe / 32) = true
    (s.Ready pe [ra, rd, rb] →
      let fl := s.readFlags pe [ra]
      (there s → exec (.sget pe rd ra rb nb o) s =
        .next (advanced ((s.setVal pe rd (s.point p)).setVal pe rb 0) pe fl)) ∧
      (s.dies ≤ p / 131072 → exec (.sget pe rd ra rb nb o) s = .next (advanced ((s.setVal pe rd 0).setVal pe rb 3) pe fl)) ∧
      (p / 131072 = pe / 32 → s.memOn (pe / 32) = false → exec (.sget pe rd ra rb nb o) s =
        .next (advanced (s.setVal pe rb 10) pe fl))) ∧
    (s.Ready pe [rd, ra, rb] →
      let fl := s.readFlags pe [rd, ra]
      let v := s.val pe rd
      (there s → exec (.sput pe rd ra rb nb o) s =
        .next (advanced ((s.writePoint p v (.engine pe) (s.runningHerd pe)).setVal pe rb 0) pe fl)) ∧
      (s.dies ≤ p / 131072 → exec (.sput pe rd ra rb nb o) s = .next (advanced (s.setVal pe rb 3) pe fl)) ∧
      (p / 131072 < s.dies → p / 131072 ≠ pe / 32 → s.postsFull pe = false → exec (.sput pe rd ra rb nb o) s =
        .next (advanced ((s.sendXfer (pe / 32) (p / 131072) (.engine pe) (s.runningHerd pe) (.write p v)).setVal pe rb 0)
          pe fl))) ∧
    (let n := n1.toNat + 1
     isGroup rd n = true → s.Ready pe (ra :: groupOf rd n ++ [rb]) →
      let fl := s.readFlags pe [ra]
      (there s → p % 131072 + n ≤ 131072 → exec (.sputg pe rd ra rb nb n1 o) s =
        .next (advanced ((s.writeGroup p (s.groupVals pe rd n) (.engine pe) (s.runningHerd pe)).setVal pe rb 0) pe fl)) ∧
      (131072 < p % 131072 + n → exec (.sputg pe rd ra rb nb n1 o) s = .next (s.takeTrap pe 2))) ∧
    (s.Ready pe [ra, rd, rb] → there s → exec (.sputg pe rd ra rb nb 0 o) s =
      .next (advanced ((s.writePoint p (s.val pe rd) (.engine pe) (s.runningHerd pe)).setVal pe rb 0) pe (s.readFlags pe [ra, rd])))

/-- R129, R144, R151, R152: the queue instructions on a queue of the engine's own die. -/
def Obligations.QueueInstructionsPushPopAndReport : Prop :=
  ∀ (s : State) (pe : Nat) (rd ra rb : Spec) (nb : Bool) (type : BitVec 7),
    let id := (s.val pe ra).toNat % 65536
    let d := id / 8192
    let q := id % 8192
    d = pe / 32 → s.queueStatus id = .ok →
    (isGroup rb 4 = true → s.Ready pe (ra :: groupOf rb 4 ++ [rd]) →
      let e : QEntry := ⟨BitVec.ofNat 16 (pe * 128 + type.toNat),
        ⟨s.val pe rb, s.val pe (rb + 1), s.val pe (rb + 2), s.val pe (rb + 3)⟩⟩
      let fl := s.readFlags pe [ra]
      (s.get F.Q_CFG_KIND d q = 0 → (s.entries id).length < s.get F.Q_SIZE_DEPTH d q →
        exec (.qpush pe rd ra rb nb type) s =
          .next (advanced ((s.queuePush id (.engine pe) e true).1.setVal pe rd 0) pe fl) ∧
        (s.queuePush id (.engine pe) e true).1.entries id = s.entries id ++ [e]) ∧
      (s.get F.Q_CFG_KIND d q = 0 → 0 < s.get F.Q_SIZE_DEPTH d q →
        s.get F.Q_SIZE_DEPTH d q ≤ (s.entries id).length → nb = true →
        exec (.qpush pe rd ra rb nb type) s = .next (advanced ((s.incSat F.Q_STAT_FULL_CNT d q).setVal pe rd 1) pe fl)) ∧
      (s.get F.Q_CFG_KIND d q = 2 ∨ s.get F.Q_SIZE_DEPTH d q = 0 →
        exec (.qpush pe rd ra rb nb type) s = .next (advanced (s.setVal pe rd 3) pe fl))) ∧
    (isGroup rd 4 = true → s.Ready pe (ra :: rb :: groupOf rd 4) → s.get F.Q_CFG_KIND d q = 0 →
      let fl := s.readFlags pe [ra]
      (∀ e es, s.entries id = e :: es →
        exec (.qpop pe rd ra rb) s =
          .next (advanced (((s.queuePop id (.engine pe)).1.setGroup pe rd
            [e.payload.w0, e.payload.w1, e.payload.w2, e.payload.w3]).setVal pe rb (e.hdr.zeroExtend 24)) pe fl) ∧
        (s.queuePop id (.engine pe)).1.entries id = es) ∧
      (s.entries id = [] → ∃ h : Nat, exec (.qpop pe rd ra rb) s =
        .next (advanced (s.nextFresh.setVal pe rb (BitVec.ofNat 24 (2 * 65536 + h))) pe fl) ∧ h < 65536)) ∧
    (s.Ready pe [ra, rd] →
      let n := s.get F.Q_STAT_COUNT d q
      exec (.qstat pe rd ra) s = .next (s.wrote pe rd (BitVec.ofNat 24
        ((if n = s.get F.Q_SIZE_DEPTH d q then 131072 else 0) + s.get F.Q_STAT_WM d q * 65536 + n)) 0 [ra]))

/-- R116, R132, R133: the leg instructions act for the herd of the task, and raise ILL in a task without one. LSET of each
SEL writes the field of the table where the leg register accepts it, is refused for another herd's leg, posts the write to a
leg of another die, and raises ILL for SEL 7 to 15 and for a PHASE that is no pair. -/
def Obligations.LegInstructionsActForTheTasksHerd : Prop :=
  ∀ (s : State) (pe : Nat) (rd ra rb : Spec) (sel k : BitVec 4),
    (∀ h, s.runningHerd pe = some h →
      (let rs := if sel = 3 then [ra, rb, rb + 1] else [ra, rb]
       s.Ready pe (rs ++ [rd]) → sel.toNat < 7 → (sel = 3 → isPair rb = true) →
        let leg := (s.val pe ra).toNat % 256
        let d := leg / 24
        let n := leg % 24
        let fl := s.readFlags pe rs
        let v := if sel = 3 then (angleOf s pe rb).toNat else (s.val pe rb).toNat
        let r := s.lsetWrite (.engine pe) h d n sel.toNat v
        (d < s.dies → d = pe / 32 → s.legHerd d n = some h → (sel = 6 → 20 ≤ n) →
          exec (.lset pe rd ra rb sel) s = .next (advanced (r.1.setVal pe rd (BitVec.ofNat 24 r.2.code)) pe fl) ∧
          (r.2 = .ok →
            (sel = 0 → r.1.getSh F.LEG_DUTY_DUTY d n = v) ∧ (sel = 1 → r.1.getSh F.LEG_CFG_RISE_DLY d n = v % 65536) ∧
            (sel = 2 → r.1.getSh F.LEG_CFG_FALL_DLY d n = v % 65536) ∧ (sel = 3 → r.1.getSh F.LEG_PHASE_PHASE d n = v) ∧
            (sel = 4 → r.1.getSh F.LEG_PER_PERIOD d n = v) ∧ (sel = 6 → r.1.get F.LEG_FORCE_FORCE d n = v % 4) ∧
            (sel = 5 → ∀ k < 6, r.1.getBit F.GRP_MASK_MASK k d (n / 6) =
              if s.legHerd d (6 * (n / 6) + k) = some h then v.testBit k else s.getBit F.GRP_MASK_MASK k d (n / 6)))) ∧
        (s.dies ≤ d ∨ s.legHerd d n ≠ some h ∨ (sel = 6 ∧ n < 20) →
          exec (.lset pe rd ra rb sel) s = .next (advanced (s.setVal pe rd 3) pe fl)) ∧
        (d < s.dies → d ≠ pe / 32 → s.legHerd d n = some h → (sel = 6 → 20 ≤ n) → s.postsFull pe = false →
          exec (.lset pe rd ra rb sel) s = .next (advanced ((s.sendXfer (pe / 32) d (.engine pe) (some h)
            (.lset leg sel.toNat (BitVec.ofNat 32 v))).setVal pe rd 0) pe fl))) ∧
      (pe < 32 * s.dies → s.canRun pe = true → 7 ≤ sel.toNat ∨ (sel = 3 ∧ isPair rb = false) →
        exec (.lset pe rd ra rb sel) s = .next (s.takeTrap pe 3)) ∧
      (s.Ready pe [] → exec (.loadall pe) s = .next (advanced (s.loadAll h) pe 0)) ∧
      (s.Ready pe [ra, rd] → s.get F.LEASH_RATE_RATE (h / 8) (h % 8) k.toNat = 0 →
        s.get F.LAW_STAT_DERATED (h / 8) (h % 8) = 0 →
        let a := (s.val pe ra).toInt
        let lo := s.getI F.LEASH_LO_LO (h / 8) (h % 8) k.toNat
        let hi := s.getI F.LEASH_HI_HI (h / 8) (h % 8) k.toNat
        let v := min (max a lo) hi
        exec (.lsh pe rd ra k) s =
          .next ((s.leashClamp h k.toNat a).2.wrote pe rd (BitVec.ofInt 24 v) (if v = a then 0 else 64) [ra]) ∧
        (s.leashClamp h k.toNat a).2.getI F.LEASH_LAST_LAST (h / 8) (h % 8) k.toNat = v)) ∧
    (s.runningHerd pe = none → pe < 32 * s.dies → s.canRun pe = true →
      exec (.lset pe rd ra rb sel) s = .next (s.takeTrap pe 3) ∧ exec (.loadall pe) s = .next (s.takeTrap pe 3) ∧
      exec (.lsh pe rd ra k) s = .next (s.takeTrap pe 3))

/-! ### Uselo: control -/

/-- R118: BR takes its branch exactly where its condition holds, JR jumps, and condition 15 raises ILL. R78, R80, R119, R120:
a call advances the window by one frame, puts the return address into its w11 and jumps; with every window in use it takes
WOVF, and in the fast bank or the trap window ILL. R78, R81, R119, R120: a return moves the window back and continues at the
w11 of the frame it leaves; where the frame below is spilled it takes WUNF first, and in the fast bank or the trap window
ILL. -/
def Obligations.BranchesCallsAndReturnsMove : Prop :=
  (∀ (s : State) (pe : Nat) (ra : Spec) (cond : BitVec 4) (off : BitVec 17),
     let stk := (s.eng pe).stkNow
     let a := s.val pe ra
     let cn := stk.getLsbD 8
     let cz := stk.getLsbD 9
     let cu := stk.getLsbD 10
     let holds : Bool := match cond.toNat with
       | 0 => true | 1 => cz | 2 => !cz | 3 => cn | 4 => !cn | 5 => cn || cz | 6 => !(cn || cz) | 7 => cu | 8 => !cu
       | 9 => decide (a = 0) | 10 => decide (a ≠ 0) | 11 => decide (a.toInt < 0) | 12 => decide (0 ≤ a.toInt)
       | 13 => decide ((stk &&& a).extractLsb' 0 7 ≠ 0) | _ => decide ((stk &&& a).extractLsb' 0 7 = 0)
     let target := BitVec.ofInt 15 ((s.eng pe).pc.toNat + 1 + off.toInt)
     let goes := fun (m : Nat) (pc : BitVec 15) =>
       s.modEng pe fun E => { E.setStk (E.stkNow ||| BitVec.ofNat 24 (m % 128)) with pc := pc }
     (s.Ready pe [] → cond.toNat < 9 → ra = 0 →
       exec (.br pe cond ra off) s = .next (goes 0 (if holds then target else (s.eng pe).pc + 1))) ∧
     (s.Ready pe [ra] → 9 ≤ cond.toNat → cond.toNat < 15 →
       exec (.br pe cond ra off) s = .next (goes (s.readFlags pe [ra]) (if holds then target else (s.eng pe).pc + 1))) ∧
     (pe < 32 * s.dies → s.canRun pe = true → cond = 15 → exec (.br pe cond ra off) s = .next (s.takeTrap pe 3)) ∧
     (s.Ready pe [ra] → exec (.jr pe ra) s = .next (goes (s.readFlags pe [ra]) (a.extractLsb' 0 15)))) ∧
  (∀ (s : State) (pe : Nat) (ra : Spec) (off : BitVec 17),
     let d := pe / 32
     let e := pe % 32
     let E := s.eng pe
     let w := s.get F.ENG_WIN_CWP d e
     let used := s.get F.ENG_WIN_WIN_USED d e
     let clause := fun (c : Instr) (target : BitVec 15) =>
       (E.fast = false → E.trap = false → E.awaits = [] → w < 8 → used < 8 →
         ∃ t, exec c s = .next t ∧ t.get F.ENG_WIN_CWP d e = (w + 1) % 8 ∧ t.get F.ENG_WIN_WIN_USED d e = used + 1 ∧
           (t.eng pe).pc = target ∧
           (∀ k, Store.get (t.eng pe).regs 0 k =
             if k = 12 * ((w + 1) % 8) + 11 then (E.pc + 1).zeroExtend 24 else Store.get E.regs 0 k) ∧
           (t.eng pe).accs = E.accs ∧ (t.eng pe).hc = E.hc ∧ (t.eng pe).task = E.task ∧
           RegsBut s t [F.ENG_WIN_CWP.key d e 0, F.ENG_WIN_WIN_USED.key d e 0] ∧ t.points = s.points ∧ t.priv = s.priv ∧
           t.shared = s.shared) ∧
       (E.fast = false → E.trap = false → used = 8 → exec c s = .next (s.takeTrap pe 0)) ∧
       (E.fast = true ∨ E.trap = true → exec c s = .next (s.takeTrap pe 3))
     (s.Ready pe [] → clause (.call pe off) (BitVec.ofInt 15 (E.pc.toNat + 1 + off.toInt))) ∧
     (s.Ready pe [ra] → clause (.callr pe ra) ((s.val pe ra).extractLsb' 0 15))) ∧
  (∀ (s : State) (pe : Nat), s.Ready pe [11] →
     let d := pe / 32
     let e := pe % 32
     let E := s.eng pe
     let w := s.get F.ENG_WIN_CWP d e
     let used := s.get F.ENG_WIN_WIN_USED d e
     (E.fast = false → E.trap = false → w < 8 → 2 < used → used ≤ 8 →
       ∃ t, exec (.ret pe) s = .next t ∧ t.get F.ENG_WIN_CWP d e = (w + 7) % 8 ∧ t.get F.ENG_WIN_WIN_USED d e = used - 1 ∧
         (t.eng pe).pc = (s.val pe 11).extractLsb' 0 15 ∧ (t.eng pe).regs = E.regs ∧ (t.eng pe).accs = E.accs ∧
         RegsBut s t [F.ENG_WIN_CWP.key d e 0, F.ENG_WIN_WIN_USED.key d e 0] ∧ t.points = s.points ∧ t.priv = s.priv ∧
         t.shared = s.shared) ∧
     (E.fast = false → E.trap = false → used = 2 → s.get F.ENG_WIN_SPILLED d e ≠ 0 →
       exec (.ret pe) s = .next (s.takeTrap pe 1)) ∧
     (E.fast = true ∨ E.trap = true → exec (.ret pe) s = .next (s.takeTrap pe 3)))

/-- R84, R85, R105: a trap outside the trap window saves the PC and the cause, enters the trap window and continues in the
cause's slot of the vector; nothing else changes. TRAP takes cause 5, a word that the instruction set does not list cause 3.
A trap in the trap window is a double fault. R84: TRET leaves the trap window; after a window trap or ADDR it resumes at the
trapping instruction, after another cause at the next one. Outside the trap window it raises ILL. R80, R81, R83, R134: WSPILL
puts the twelve registers of the oldest frame into private data above the spill pointer, WFILL brings the frame below back;
outside the trap window both raise ILL, past a limit SPLIM. -/
def Obligations.TrapsReturnsSpillsAndFills : Prop :=
  (∀ (s : State) (pe : Nat), pe < 32 * s.dies → s.canRun pe = true →
     let d := pe / 32
     let e := pe % 32
     let E := s.eng pe
     let enters := fun (c : Instr) (cause : Nat) =>
       (E.trap = false → ∃ t, exec c s = .next t ∧ t.get F.ENG_TRAP_TPC d e = E.pc.toNat ∧ t.get F.ENG_TRAP_CAUSE d e = cause ∧
         t.eng pe = { E with trap := true, pc := BitVec.ofNat 15 (s.get F.ENG_TVEC_BASE d e * 32 + 4 * cause) } ∧
         (∀ p, p ≠ pe → t.eng p = s.eng p) ∧ { t with cells := s.cells, engines := s.engines } = s ∧
         RegsBut s t [F.ENG_TRAP_TPC.key d e 0, F.ENG_TRAP_CAUSE.key d e 0]) ∧
       (E.trap = true → ∃ t, exec c s = .next t ∧ (t.eng pe).dfault = true ∧ t.points = s.points ∧ t.priv = s.priv)
     enters (.trap pe) 5 ∧
     (∀ w : BitVec 32, isDefined w.toNat = false → enters (.undefinedEncoding pe w) 3) ∧
     (∀ w : BitVec 32, w.toNat / 2 ^ 26 ∉ [1, 2, 3, 4, 5, 6, 7, 8, 16, 17, 18, 19, 20, 24, 25, 26, 32, 33, 34, 36, 37, 38, 48] →
       isDefined w.toNat = false)) ∧
  (∀ (s : State) (pe : Nat), s.Ready pe [] →
     let tpc := BitVec.ofNat 15 (s.get F.ENG_TRAP_TPC (pe / 32) (pe % 32))
     let cause := s.get F.ENG_TRAP_CAUSE (pe / 32) (pe % 32)
     ((s.eng pe).trap = true → exec (.tret pe) s =
       .next (s.modEng pe fun E => { E with trap := false, pc := if cause < 3 then tpc else tpc + 1 })) ∧
     ((s.eng pe).trap = false → exec (.tret pe) s = .next (s.takeTrap pe 3))) ∧
  (∀ (s : State) (pe : Nat), s.Ready pe [] → (s.eng pe).awaits = [] →
     let d := pe / 32
     let e := pe % 32
     let E := s.eng pe
     let w := s.get F.ENG_WIN_CWP d e
     let used := s.get F.ENG_WIN_WIN_USED d e
     let spp := s.get F.ENG_SPP_SPP d e
     let spilled := s.get F.ENG_WIN_SPILLED d e
     (E.trap = true → 2 ≤ used → used ≤ 8 → spilled < 63 → spp + 12 ≤ s.get F.ENG_SPB_SPLIM d e → spp + 12 < 2048 →
       ∃ t, exec (.wspill pe) s = .next t ∧
         (∀ r < 12, Store.get t.priv 0 (pe * 2048 + spp + r) = Store.get E.regs 0 (12 * ((w + 10 - used) % 8) + r)) ∧
         (∀ a, (a < pe * 2048 + spp ∨ pe * 2048 + spp + 12 ≤ a) → Store.get t.priv 0 a = Store.get s.priv 0 a) ∧
         t.get F.ENG_SPP_SPP d e = spp + 12 ∧ t.get F.ENG_WIN_WIN_USED d e = used - 1 ∧
         t.get F.ENG_WIN_SPILLED d e = spilled + 1 ∧ t.get F.ENG_WIN_CWP d e = w ∧ (t.eng pe).regs = E.regs ∧
         (t.eng pe).pc = E.pc + 1) ∧
     (E.trap = true → 2 ≤ used → used < 8 → 0 < spilled → s.get F.ENG_SPB_SPBASE d e + 12 ≤ spp →
       ∃ t, exec (.wfill pe) s = .next t ∧
         (∀ r < 12, Store.get (t.eng pe).regs 0 (12 * ((w + 7) % 8) + r) =
           Store.get s.priv 0 (pe * 2048 + (spp - 12 + r) % 2048)) ∧
         (∀ k, (k < 12 * ((w + 7) % 8) ∨ 12 * ((w + 7) % 8) + 12 ≤ k) →
           Store.get (t.eng pe).regs 0 k = Store.get E.regs 0 k) ∧
         t.priv = s.priv ∧ t.get F.ENG_SPP_SPP d e = spp - 12 ∧ t.get F.ENG_WIN_WIN_USED d e = used + 1 ∧
         t.get F.ENG_WIN_SPILLED d e = spilled - 1 ∧ (t.eng pe).pc = E.pc + 1) ∧
     (E.trap = true → s.get F.ENG_SPB_SPLIM d e < spp + 12 → exec (.wspill pe) s = .next (s.takeTrap pe 4)) ∧
     (E.trap = true → spp < s.get F.ENG_SPB_SPBASE d e + 12 → exec (.wfill pe) s = .next (s.takeTrap pe 4)) ∧
     (E.trap = false → exec (.wspill pe) s = .next (s.takeTrap pe 3) ∧ exec (.wfill pe) s = .next (s.takeTrap pe 3)))

/-- R91, R96, R110, R134: NOP, CLRSTK and FENCE, and HALT while something of the engine is outstanding. R74, R75, R82, R93,
R96: a task ends with HALT, the RET of its first frame, or, once nothing is outstanding, after either: its flags reach
ENG_TFLG, RUN is clear, its STK is kept, and the engine is free. The case without level sources that dispatch. -/
def Obligations.SystemInstructionsAndTheEndOfTasks : Prop :=
  (∀ (s : State) (pe : Nat), s.Ready pe [] →
     let E := s.eng pe
     exec (.nop pe) s = .next (s.modEng pe fun E => { E with pc := E.pc + 1 }) ∧
     exec (.clrstk pe) s =
       .next (s.modEng pe fun E => { E.setStk (E.stkNow &&& 0xFFFF80#24) with pc := E.pc + 1 }) ∧
     (s.outstanding pe = false → exec (.fence pe) s = .next (s.modEng pe fun E => { E with pc := E.pc + 1 })) ∧
     (s.outstanding pe = true → exec (.fence pe) s = .next s) ∧
     (E.fast = false → E.normal = false → E.trap = false → s.outstanding pe = true →
       exec (.halt pe) s = .next (s.modEng pe fun E => { E with ending := true })) ∧
     (E.fast = true ∨ E.normal = true ∨ E.trap = true → exec (.halt pe) s = .next (s.takeTrap pe 3))) ∧
  (∀ (s : State) (pe tk : Nat), pe < 32 * s.dies → tk < 32 → (∀ src < 256, s.get F.IRQ_SRC_MODE (pe / 32) src = 0) →
     let d := pe / 32
     let e := pe % 32
     let E := s.eng pe
     E.task = some tk → E.fast = false → E.normal = false → E.trap = false → s.outstanding pe = false →
     s.get F.ENG_TFLG_FLAGS d e tk < 128 →
     let ends := fun (c : Instr) => ∃ t, exec c s = .next t ∧ (t.eng pe).task = none ∧ (t.eng pe).ending = false ∧
       t.get F.ENG_TSTAT_RUN d e tk = 0 ∧
       t.get F.ENG_TFLG_FLAGS d e tk = s.get F.ENG_TFLG_FLAGS d e tk ||| E.stk.toNat % 128 ∧
       Store.get t.taskStk 0 (pe * 32 + tk) = E.stk ∧ (t.eng pe).regs = E.regs ∧ t.points = s.points ∧ t.priv = s.priv ∧
       t.queues = s.queues
     (s.Ready pe [] → ends (.halt pe)) ∧
     (s.Ready pe [11] → s.get F.ENG_WIN_WIN_USED d e = 2 → s.get F.ENG_WIN_SPILLED d e = 0 → ends (.ret pe)) ∧
     (s.engOn pe = true → E.ending = true → ends (.taskEnd pe)))

/-! ### Engines: tasks, handlers, control and long instructions -/

/-- R77, R92, R94, R103: a dispatch of an enabled entry on a free engine starts the task: its argument and source, its entry,
its saved STK, cleared registers; on a busy one it waits as PEND, and TASK_START then starts the lowest waiting task. DISP
dispatches as an ENG_DISP write does. -/
def Obligations.DispatchStartsOrPendsATask : Prop :=
  ∀ (s : State) (pe tk : Nat) (arg : BitVec 16), pe < 32 * s.dies → tk < 32 →
    let d := pe / 32
    let e := pe % 32
    let starts := fun (t : State) (code : Nat) =>
      (t.eng pe).task = some tk ∧ (t.eng pe).pc = BitVec.ofNat 15 (s.get F.ENG_TCFG_ENTRY d e tk) ∧
      (t.eng pe).hc = BitVec.ofNat 24 (s.get F.ENG_THC_HC d e tk) ∧ (t.eng pe).stk = Store.get s.taskStk 0 (pe * 32 + tk) ∧
      (t.eng pe).taskReg = BitVec.ofNat 24 (code * 32 + tk) ∧ (∀ k < 16, Store.get (t.eng pe).regs 0 k = 0) ∧
      (∀ k < 4, Store.get (t.eng pe).accs 0 k = 0) ∧ (∀ k, 96 ≤ k → Store.get (t.eng pe).regs 0 k = Store.get (s.eng pe).regs 0 k) ∧
      t.get F.ENG_TSTAT_RUN d e tk = 1 ∧ t.get F.ENG_TSTAT_PEND d e tk = 0 ∧ t.get F.ENG_WIN_WIN_USED d e = 2 ∧
      t.get F.ENG_WIN_CWP d e = 0 ∧ t.get F.ENG_WIN_SPILLED d e = 0 ∧ t.points = s.points ∧ t.priv = s.priv
    (s.dispatchDiscarded pe tk = false → s.dispatchOverrun pe tk = false → 2 ≤ s.pkgState → s.reached .host d = s →
      (s.engineFree pe = true → s.anyTaskPend pe = false → s.pendingSource pe 0 = none →
        ∃ t, exec (.engDisp .host pe arg (BitVec.ofNat 5 tk)) s = .next t ∧ starts t (arg.toNat * 8 + 3)) ∧
      (s.engineFree pe = false → exec (.engDisp .host pe arg (BitVec.ofNat 5 tk)) s =
        .next ({ s with pendArg := Store.set s.pendArg 0 (pe * 32 + tk) (arg.toNat * 8 + 3) }.put F.ENG_TSTAT_PEND 1 d e tk))) ∧
    (s.dispatchDiscarded pe tk = true → 2 ≤ s.pkgState → s.reached .host d = s → exec (.engDisp .host pe arg (BitVec.ofNat 5 tk)) s =
        .next (s.incSat F.ENG_TSTAT_OVR_CNT d e tk)) ∧
    (s.engineFree pe = true → s.pendingSource pe 0 = none → s.pendingSource pe 1 = none → s.get F.ENG_TSTAT_PEND d e tk = 1 →
      (∀ k < tk, s.get F.ENG_TSTAT_PEND d e k = 0) →
      ∃ t, exec (.taskStart pe) s = .next t ∧ starts t (Store.get s.pendArg 0 (pe * 32 + tk))) ∧
    (∀ (from_ : Nat) (ra rb : Spec), s.Ready from_ [ra, rb] → from_ / 32 = d → (s.val from_ ra).toNat % 1024 = e * 32 + tk →
      s.dispatchDiscarded pe tk = false → s.dispatchOverrun pe tk = false → s.engineFree pe = false →
      exec (.disp from_ ra rb) s = .next (advanced
        ({ s with pendArg := Store.set s.pendArg 0 (pe * 32 + tk) ((s.val from_ rb).toNat % 65536 * 8 + 4) }.put
          F.ENG_TSTAT_PEND 1 d e tk) from_ (s.readFlags from_ [ra, rb])))

/-- R98, R99, R481, R482: a fast source enters the fast bank over anything but the trap window, a normal source enters idle
engines with fresh windows and running tasks as a call; its pending bit clears, it is in service, and the stack holds it.
R131, R483, R484: EOI of the source on top of the stack completes it and returns to the interrupted context, stalling where
the return needs a w11 that awaits its data. The case of an edge source; EOI outside a handler raises ILL (R134). -/
def Obligations.HandlersAreEnteredAndLeft : Prop :=
  (∀ (s : State) (pe src : Nat), pe < 32 * s.dies → src < 512 → s.engOn pe = true → (s.eng pe).trap = false →
     (s.eng pe).fast = false →
     let d := pe / 32
     let e := pe % 32
     let E := s.eng pe
     let n := s.get F.IRQ_STK_DEPTH d e
     let pc := BitVec.ofNat 15 (s.get F.IRQ_SRC_TARGET d src)
     let taken := fun (t : State) => t.get F.IRQ_SRC_ACTIVE d src = 1 ∧ t.isPend d src = false ∧
       t.get F.IRQ_STK_DEPTH d e = n + 1 ∧
       (n = 0 → t.get F.IRQ_STK_LOWER d e = src) ∧ (n ≠ 0 → t.get F.IRQ_STK_UPPER d e = src) ∧ (t.eng pe).pc = pc ∧
       t.points = s.points ∧ t.priv = s.priv ∧ t.queues = s.queues
     n < 2 →
     (s.pendingSource pe 1 = some src → ∃ t, exec (.fastInterruptEntry pe) s = .next t ∧ taken t ∧
       t.eng pe = { E with fast := true, fastPc := E.pc, fastHc := E.hc, pc := pc }) ∧
     (s.pendingSource pe 0 = some src → s.pendingSource pe 1 = none → E.normal = false → E.resume = none →
       (E.task = none → ∃ t, exec (.normalInterruptEntry pe) s = .next t ∧ taken t ∧ (t.eng pe).normal = true ∧
         (t.eng pe).normalIdle = true ∧ t.get F.ENG_WIN_CWP d e = 0 ∧ t.get F.ENG_WIN_WIN_USED d e = 2 ∧
         ∀ k < 16, Store.get (t.eng pe).regs 0 k = 0) ∧
       (E.task ≠ none → s.get F.ENG_WIN_WIN_USED d e < 8 → s.get F.ENG_WIN_CWP d e < 8 →
         ∃ t, exec (.normalInterruptEntry pe) s = .next t ∧ taken t ∧ (t.eng pe).normal = true ∧ (t.eng pe).normalIdle = false ∧
         t.get F.ENG_WIN_CWP d e = (s.get F.ENG_WIN_CWP d e + 1) % 8 ∧
         Store.get (t.eng pe).regs 0 (12 * ((s.get F.ENG_WIN_CWP d e + 1) % 8) + 11) = E.pc.zeroExtend 24 ∧
         (t.eng pe).task = E.task) ∧
       (E.task ≠ none → s.get F.ENG_WIN_WIN_USED d e = 8 →
         exec (.normalInterruptEntry pe) s = .next (s.takeTrap pe 0)))) ∧
  (∀ (s : State) (pe : Nat) (ra : Spec), s.Ready pe [ra] → isAcc ra = false →
     let d := pe / 32
     let e := pe % 32
     let E := s.eng pe
     let src := (s.val pe ra).toNat % 512
     let n := s.get F.IRQ_STK_DEPTH d e
     let done := fun (t : State) => t.get F.IRQ_STK_DEPTH d e = n - 1 ∧ t.get F.IRQ_SRC_ACTIVE d src = 0 ∧ t.points = s.points ∧
       t.priv = s.priv ∧ t.queues = s.queues
     (E.trap = false → isLevel src = false → 0 < n → n ≤ 2 →
       src = (if n = 2 then s.get F.IRQ_STK_UPPER d e else s.get F.IRQ_STK_LOWER d e) →
       (E.fast = true → ∃ t, exec (.eoi pe ra) s = .next t ∧ done t ∧ t.eng pe = { E with fast := false, pc := E.fastPc }) ∧
       (E.fast = false → E.normal = true → E.normalIdle = true → ∃ t, exec (.eoi pe ra) s = .next t ∧ done t ∧
         t.eng pe = { E with normal := false, normalIdle := false }) ∧
       (E.fast = false → E.normal = true → E.normalIdle = false → s.awaited pe [11] = true → exec (.eoi pe ra) s = .next s) ∧
       (E.fast = false → E.normal = true → E.normalIdle = false → s.awaited pe [11] = false → s.get F.ENG_WIN_CWP d e < 8 →
         ∃ t, exec (.eoi pe ra) s = .next t ∧ done t ∧ (t.eng pe).normal = false ∧
         t.get F.ENG_WIN_CWP d e = (s.get F.ENG_WIN_CWP d e + 7) % 8 ∧
         (t.eng pe).pc = (Store.get E.regs 0 (12 * s.get F.ENG_WIN_CWP d e + 11)).extractLsb' 0 15 ∧
         (t.eng pe).regs = E.regs)) ∧
     (E.trap = true ∨ (E.fast = false ∧ E.normal = false) → exec (.eoi pe ra) s = .next (s.takeTrap pe 3)))

/-- R75, R103, R402, R485: the engine's control commands: STOP and its end, RST, the read of ENG_TFLG, which clears it, and
the read of the low word of the tick, which latches the high word. -/
def Obligations.EngineControlStopsResumesAndResets : Prop :=
  ∀ (s : State) (q : Requester) (pe d : Nat), 2 ≤ s.pkgState →
    (pe < 32 * s.dies → s.reached q (pe / 32) = s →
      let D := pe / 32
      let e := pe % 32
      let tk := s.get F.ENG_TSEL_TASK D e q.index
      exec (.engineStop q pe) s =
        .next ((s.put F.ENG_CTL_STOP 1 D e).modEng pe fun E => { E with stopped := true }) ∧
      exec (.engineResume q pe) s =
        .next ((s.put F.ENG_CTL_STOP 0 D e).modEng pe fun E => { E with stopped := false }) ∧
      (s.engineLocked pe = false → ∃ t, exec (.engineReset q pe) s = .next t ∧
        t.eng pe = { Engine.reset with stopped := s.bit F.ENG_CTL_STOP D e } ∧ (∀ p, p ≠ pe → t.eng p = s.eng p) ∧
        t.get F.IRQ_STK_DEPTH D e = 0 ∧ t.get F.IRQ_STK_LOWER D e = 0x1FF ∧ t.get F.IRQ_STK_UPPER D e = 0x1FF ∧
        t.get F.IRQ_STK_FROZEN D e = 0 ∧ (∀ k < 32, t.get F.ENG_TSTAT_PEND D e k = 0 ∧ t.get F.ENG_TSTAT_RUN D e k = 0) ∧
        t.points = s.points ∧ t.priv = s.priv ∧ t.queues = s.queues) ∧
      (s.engineLocked pe = true → ∃ t, exec (.engineReset q pe) s = .next t ∧ t.engines = s.engines ∧
        t.get F.DIE_WREF_CNT D = min (s.get F.DIE_WREF_CNT D + 1) 0xFFFF) ∧
      (tk < 32 → ∃ t, exec (.engTflgRead q pe) s = .next t ∧ t.answer = [BitVec.ofNat 32 (s.get F.ENG_TFLG_FLAGS D e tk)] ∧
        t.get F.ENG_TFLG_FLAGS D e tk = 0 ∧ RegsBut s t [F.ENG_TFLG_FLAGS.key D e tk] ∧ t.engines = s.engines)) ∧
    (d < s.dies → s.reached q d = s → ∃ t, exec (.tickLoRead q d) s = .next t ∧ t.answer = [BitVec.ofNat 32 (s.tick d)] ∧
      Store.get t.latches 0 (latchKey q d 2) = s.tick d / 2 ^ 32 ∧ t.cells = s.cells ∧ t.dieRuns = s.dieRuns)

/-- R121 to R125: MVM and MVA on private data, uninterrupted: every element of the result is the exact sum of its row,
negated where NEG asks for it, plus the old element for MVA, saturated to 56 bits, scaled by 2^OSH and rounded to the format;
no other word of private data changes. R124, R125: FIR on private data and BCOPY within it, uninterrupted; an operand outside
the readable regions raises ADDR. -/
def Obligations.LongInstructionsRunToTheirEnd : Prop :=
  (∀ (s : State) (pe : Nat) (base dst : Spec) (rows1 cols1 : BitVec 3) (fmt neg : Bool) (osh : BitVec 2),
     isPair base = true → s.Ready pe [base, base + 1, dst] → (s.eng pe).resume = none →
     let rows := rows1.toNat + 1
     let cols := cols1.toNat + 1
     let m := (s.val pe base).toNat
     let x := (s.val pe (base + 1)).toNat
     let y := (s.val pe dst).toNat
     m + rows * cols ≤ 2048 → x + cols ≤ 2048 → y + rows ≤ 2048 → (y + rows ≤ m ∨ m + rows * cols ≤ y) →
     let at_ := fun (st : State) (a : Nat) => Store.get st.priv 0 (pe * 2048 + a)
     let sum := fun (i : Nat) => ((List.range cols).map fun k => (at_ s (m + i * cols + k)).toInt * (at_ s (x + k)).toInt).sum
     let point := if fmt then 16 else 23
     let view := fun (v : Int) => cut24 (nearest ((cut56 v).toInt * 2 ^ osh.toNat) (2 ^ point))
     let signed := fun (v : Int) => if neg then -v else v
     (∃ t, exec (.mvm pe base rows1 cols1 dst fmt neg osh none) s = .next t ∧
       (∀ i < rows, at_ t (y + i) = view (signed (sum i))) ∧
       (∀ a, (a < pe * 2048 + y ∨ pe * 2048 + y + rows ≤ a) → Store.get t.priv 0 a = Store.get s.priv 0 a) ∧
       (t.eng pe).pc = (s.eng pe).pc + 1 ∧ (t.eng pe).regs = (s.eng pe).regs ∧ (t.eng pe).accs = (s.eng pe).accs ∧
       t.cells = s.cells ∧ t.points = s.points ∧ t.shared = s.shared) ∧
     (∃ t, exec (.mva pe base rows1 cols1 dst fmt neg osh none) s = .next t ∧
       (∀ i < rows, at_ t (y + i) = view ((at_ s (y + i)).toInt * 2 ^ point + signed (sum i))) ∧
       (∀ a, (a < pe * 2048 + y ∨ pe * 2048 + y + rows ≤ a) → Store.get t.priv 0 a = Store.get s.priv 0 a) ∧
       (t.eng pe).pc = (s.eng pe).pc + 1 ∧ (t.eng pe).regs = (s.eng pe).regs ∧ (t.eng pe).accs = (s.eng pe).accs ∧
       t.cells = s.cells ∧ t.points = s.points ∧ t.shared = s.shared)) ∧
  (∀ (s : State) (pe : Nat) (base dst : Spec) (n1 : BitVec 6) (c1 : BitVec 8) (osh : BitVec 2), (s.eng pe).resume = none →
     let at_ := fun (st : State) (a : Nat) => Store.get st.priv 0 (pe * 2048 + a)
     (isPair base = true → s.Ready pe [base, base + 1, dst] →
       let n := n1.toNat + 1
       let h := (s.val pe base).toNat
       let x := (s.val pe (base + 1)).toNat
       let sum := ((List.range n).map fun k => (at_ s (h + k)).toInt * (at_ s (x + k)).toInt).sum
       let v := nearest ((cut56 sum).toInt * 2 ^ osh.toNat) (2 ^ 23)
       (h + n ≤ 2048 → x + n ≤ 2048 → dst.toNat < 24 →
         exec (.fir pe base n1 dst osh none) s = .next (s.wrote pe dst (cut24 v)
           ((if Fits56 sum then 0 else 4) ||| (if Fits24 v then 0 else 16)) [base, base + 1])) ∧
       (0x14000 ≤ h → h < 0x400000 → exec (.fir pe base n1 dst osh none) s = .next (s.takeTrap pe 2))) ∧
     (isGeneral base = true → s.Ready pe [base, dst] →
       let n := c1.toNat + 1
       let a := (s.val pe base).toNat
       let b := (s.val pe dst).toNat
       (a + n ≤ 2048 → b + n ≤ 2048 → (a + n ≤ b ∨ b + n ≤ a) →
         ∃ t, exec (.bcopy pe base c1 dst none) s = .next t ∧ (∀ k < n, at_ t (b + k) = at_ s (a + k)) ∧
           (∀ k, (k < pe * 2048 + b ∨ pe * 2048 + b + n ≤ k) → Store.get t.priv 0 k = Store.get s.priv 0 k) ∧
           (t.eng pe).pc = (s.eng pe).pc + 1 ∧ (t.eng pe).regs = (s.eng pe).regs ∧ t.cells = s.cells ∧ t.points = s.points)))

/-- R127: the transforms, within their accuracies and exact at ±1: which of the admitted numbers the part gives is open. The
sine, the cosine and 1/√3 are the model's, exact to 2⁻⁵⁸ or better. -/
def Obligations.TransformsAreAccurate : Prop :=
  ∀ (s : State) (pe : Nat) (rd ra rb : Spec),
    let near := fun (tol : Nat) (r e : Int) => -(tol * 2 ^ 64) ≤ r * 2 ^ 64 - e ∧ r * 2 ^ 64 - e ≤ tol * 2 ^ 64
    let lim := fun (v : Int) => BitVec.ofInt 24 (max (-8388607) (min 8388607 v))
    let pair := fun (st : State) (x y : Word) => (st.setVal pe rd x).setVal pe (rd + 1) y
    let fits := fun (x y : Int) => if Fits24 x ∧ Fits24 y then 0 else 16
    let two := { s with fresh := s.fresh + 2 }
    let one := { s with fresh := s.fresh + 1 }
    let whole := fun (x e : Int) => 2 ^ 87 ≤ e ∨ e ≤ -2 ^ 87 → x = e / 2 ^ 64
    let peak := fun (v : Int) (x : Word) => (v = 2 ^ 64 → x = 0x7FFFFF) ∧ (v = -2 ^ 64 → x = 0x800001)
    (isPair rd = true → isPair ra = true → s.Ready pe [ra, ra + 1, rd, rd + 1] →
      ∃ x y, exec (.sincos pe rd ra) s = .next (advanced (pair two (lim x) (lim y)) pe 0) ∧
        near 2 x (sinTurn (angleOf s pe ra) * 2 ^ 23) ∧ near 2 y (cosTurn (angleOf s pe ra) * 2 ^ 23) ∧
        peak (sinTurn (angleOf s pe ra)) (lim x) ∧ peak (cosTurn (angleOf s pe ra)) (lim y)) ∧
    (isPair rd = true → s.Ready pe [ra, rb, rd, rd + 1] →
      let y := (s.val pe ra).toInt
      let x := (s.val pe rb).toInt
      (x = 0 → y = 0 → exec (.atan2 pe rd ra rb) s =
        .next (advanced (withPair s pe rd 0) pe (32 ||| s.readFlags pe [ra, rb]))) ∧
      (x ≠ 0 ∨ y ≠ 0 → ∃ k, -1024 ≤ k ∧ k ≤ 1024 ∧ exec (.atan2 pe rd ra rb) s =
        .next (advanced (withPair one pe rd
          (BitVec.ofInt 32 (quadrant x y ((atanQuarter x.natAbs y.natAbs : Int) + k)))) pe (s.readFlags pe [ra, rb])))) ∧
    (s.Ready pe [ra, rd] →
      let a := (s.val pe ra).toInt
      (a < 0 → exec (.sqrt pe rd ra) s = .next (s.wrote pe rd 0 0 [ra])) ∧
      (0 ≤ a → ∃ r : Int, exec (.sqrt pe rd ra) s = .next (one.wrote pe rd (cut24 r) (if Fits24 r then 0 else 16) [ra]) ∧
        0 ≤ r ∧ (1 ≤ r → (r - 1) ^ 2 ≤ a * 2 ^ 23) ∧ a * 2 ^ 23 ≤ (r + 1) ^ 2)) ∧
    (s.Ready pe [ra, rb, rd] →
      let m := (s.val pe ra).toInt ^ 2 + (s.val pe rb).toInt ^ 2
      ∃ r : Int, exec (.mag pe rd ra rb) s = .next (one.wrote pe rd (cut24 r) (if Fits24 r then 0 else 16) [ra, rb]) ∧
        0 ≤ r ∧ (1 ≤ r → (r - 1) ^ 2 ≤ m) ∧ m ≤ (r + 1) ^ 2 ∧ (2 ^ 46 ≤ m → 2 ^ 23 ≤ r)) ∧
    (isPair rd = true → isGroup ra 3 = true → s.Ready pe (groupOf ra 3 ++ [rd, rd + 1]) →
      let a := (s.val pe ra).toInt
      let b := (s.val pe (ra + 1)).toInt
      let c := (s.val pe (ra + 2)).toInt
      ∃ x y, exec (.clarke pe rd ra) s = .next (advanced (pair two (cut24 x) (cut24 y)) pe (fits x y)) ∧
        -6 ≤ 3 * x - (2 * a - b - c) ∧ 3 * x - (2 * a - b - c) ≤ 6 ∧ near 2 y ((b - c) * 10650232656628343401)) ∧
    (isPair rd = true → isPair ra = true → isPair rb = true → s.Ready pe [ra, ra + 1, rb, rb + 1, rd, rd + 1] →
      let a := (s.val pe ra).toInt
      let b := (s.val pe (ra + 1)).toInt
      let c := cosTurn (angleOf s pe rb)
      let n := sinTurn (angleOf s pe rb)
      (∃ x y, exec (.park pe rd ra rb) s = .next (advanced (pair two (cut24 x) (cut24 y)) pe (fits x y)) ∧
        near 2 x (a * c + b * n) ∧ near 2 y (b * c - a * n) ∧ whole x (a * c + b * n) ∧ whole y (b * c - a * n)) ∧
      (∃ x y, exec (.ipark pe rd ra rb) s = .next (advanced (pair two (cut24 x) (cut24 y)) pe (fits x y)) ∧
        near 2 x (a * c - b * n) ∧ near 2 y (b * c + a * n) ∧ whole x (a * c - b * n) ∧ whole y (b * c + a * n)))

/-- R102, R148, R162: a blocking operation that meets its bound stalls, counted, with nothing sent; once the bound is free,
it is executed. A blocking push to a full queue of the engine's own die waits in the same way. -/
def Obligations.StalledOperationsRunWhenTheirBoundIsFree : Prop :=
  ∀ (s : State) (pe : Nat) (rd ra rb : Spec) (o : BitVec 5) (type : BitVec 7),
    let put : Instr := .sput pe rd ra rb false o
    let push : Instr := .qpush pe rd ra rb false type
    let p := s.pointOf pe ra o
    let clear := s.modEng pe fun E => { E with stalled := Store.set E.stalled none E.lane none }
    let freed := fun (t : State) => t.modEng pe fun E => { E with counted := Store.set E.counted 0 E.lane 0 }
    (s.Ready pe [rd, ra, rb] → s.isRemote pe p = true → s.postsFull pe = true →
      exec put s = .next (((if Store.get (s.eng pe).counted 0 (s.eng pe).lane = 1 then s
          else (s.incSat F.RING_FULL_STALL_CNT (pe / 32)).modEng pe fun E =>
            { E with counted := Store.set E.counted 0 E.lane 1 })).modEng pe fun E =>
        { E with stalled := Store.set E.stalled none E.lane (some put) })) ∧
    (s.stalledOp pe = some put → clear.Ready pe [rd, ra, rb] → s.isRemote pe p = true → s.postsFull pe = false →
      exec (.blockingStallRelease pe) s = .next (freed (advanced
        ((clear.sendXfer (pe / 32) (pointDie p) (.engine pe) (s.runningHerd pe) (.write p (s.val pe rd))).setVal pe rb 0) pe
        (s.readFlags pe [rd, ra])))) ∧
    (let id := (s.queueOf pe ra).toNat
     s.stalledOp pe = some push → isGroup rb 4 = true → clear.Ready pe (ra :: groupOf rb 4 ++ [rd]) → id / 8192 = pe / 32 →
      s.queueStatus id = .ok → s.get F.Q_CFG_KIND (id / 8192) (id % 8192) = 0 →
      (s.entries id).length < s.get F.Q_SIZE_DEPTH (id / 8192) (id % 8192) →
      let e : QEntry := ⟨BitVec.ofNat 16 (pe * 128 + type.toNat),
        ⟨s.val pe rb, s.val pe (rb + 1), s.val pe (rb + 2), s.val pe (rb + 3)⟩⟩
      ∃ t, exec (.queuePushRetry pe) s = .next t ∧ t.entries id = s.entries id ++ [e] ∧
        (∀ j, j ≠ id → t.entries j = s.entries j) ∧ t.points = s.points)

/-! ### Time: bases, the tick, trackers and position ports -/

/-- R47, R48, R50, R52, R55, R57, R220, R235: what the commands of angle bases do; an angle written to a base at rest also
gives its enabled legs the level of C at the new angle. The state of a position port moves the QUAD base on it by ±INC in the
direction of travel, in which A comes first (log entry 51), once it has stood for FILT × 80 ns. R45, R46, R49: a moving NCO
base advances by INC, limited to a quarter turn, and counts its turns at the wrap. -/
def Obligations.BasesFollowTheirCommandsAndAdvance : Prop :=
  (∀ (s : State) (q : Requester) (d b : Nat) (v : BitVec 32), d < s.dies → b < 16 → 2 ≤ s.pkgState → s.reached q d = s →
     let B := s.base d b
     let ty := s.get F.AB_CFG_TYPE d b
     let others := fun (t : State) => (∀ k, k ≠ d * 16 + b → Store.get t.bases Base.reset k = Store.get s.bases Base.reset k) ∧
       t.points = s.points ∧ t.engines = s.engines ∧ t.legs = s.legs
     (s.get F.AB_CFG_RUN d b = 0 → ∃ t, exec (.abRunWrite q d b true) s = .next t ∧ t.get F.AB_CFG_RUN d b = 1 ∧
       (t.base d b).moving = decide (s.get F.AB_CFG_WSTART d b = 0) ∧
       (t.base d b).waitStart = decide (s.get F.AB_CFG_WSTART d b ≠ 0) ∧ (t.base d b).startAt = none ∧ others t ∧
       RegsBut s t [F.AB_CFG_RUN.key d b 0]) ∧
     (B.moving = false → ∃ t, exec (.abAngleWrite q d b v) s = .next t ∧ t.get F.AB_ANGLE_ANGLE d b = v.toNat ∧
       t.bases = s.bases ∧ t.points = s.points ∧ t.engines = s.engines ∧
       (∀ n < 24, s.get F.LEG_MODE_EN d n = 1 → s.get F.LEG_MODE_BASE d n = b → (t.leg d n).car =
         levelAt (s.get F.LEG_MODE_WAVE d n) (s.duty d n) (v + BitVec.ofNat 32 (s.get F.LEG_PHASE_PHASE d n))) ∧
       ((∀ n < 24, s.get F.LEG_MODE_EN d n = 0 ∨ s.get F.LEG_MODE_BASE d n ≠ b) →
         t.legs = s.legs ∧ RegsBut s t [F.AB_ANGLE_ANGLE.key d b 0])) ∧
     (B.moving = true → ty ≠ 1 → exec (.abAngleWrite q d b v) s = .next (s.modBase d b fun B => { B with setIn := some v })) ∧
     (ty = 2 → exec (.abCorrWrite q d b v) s = .next (s.modBase d b fun B =>
       { B with rem := max (-(2 ^ 31)) (min (2 ^ 31 - 1) (B.rem + v.toInt)) })) ∧
     (∀ u, B.startAt = some u → u ≤ s.tick d + 1 → exec (.baseWhistleStart d b) s =
       .next (s.modBase d b fun B => { B with moving := true, waitStart := false, startAt := none })) ∧
     (∀ p u, B.period = some (p, u) → B.periodReached = true → ty = 0 → p < 2 ^ 32 → ∃ t, exec (.periodApply d b) s = .next t ∧
       t.get F.AB_INC_INC d b = p ∧ t.base d b = { B with period := none, periodReached := false } ∧ others t ∧
       RegsBut s t [F.AB_INC_INC.key d b 0]) ∧
     (∀ k ns, k < 8 → s.portBases d k = [b] → s.get F.AB_CFG_PMODE d b = 0 → s.get F.POS_CFG_EN d k = 0 → s.get F.POS_STAT_STATE d k < 8 →
       let p := s.get F.POS_STAT_STATE d k
       let moves := fun (c : Instr) (f : Base → Base) => ∃ t, exec c s = .next t ∧ t.base d b = f B ∧ others t
       let ahead := fun (x : BitVec 3) => (p % 4, x.toNat % 4) ∈ [(0, 1), (1, 3), (3, 2), (2, 0)]
       let behind := fun (x : BitVec 3) => (p % 4, x.toNat % 4) ∈ [(1, 0), (3, 1), (2, 3), (0, 2)]
       let plus := fun (B : Base) => { B with pulseIn := B.pulseIn + B.stepReg.toInt }
       let minus := fun (B : Base) => { B with pulseIn := B.pulseIn + -1 * B.stepReg.toInt }
       (s.get F.POS_CFG_FILT d k * 80 ≤ ns →
         moves (.pulseEdge d k ⟨.fwd, ns⟩) plus ∧ moves (.pulseEdge d k ⟨.back, ns⟩) minus ∧
         moves (.pulseEdge d k ⟨.z, ns⟩) (fun B => { B with snapTo := some 0 }) ∧
         (∃ t, exec (.pulseEdge d k ⟨.bad, ns⟩) s = .next t ∧ t.get F.AB_STAT_PULSE_ERR d b = 1 ∧ t.bases = s.bases) ∧
         ∀ x : BitVec 3, x.toNat / 4 = p / 4 → (ahead x → moves (.positionStateAccept d k ⟨x, ns⟩) plus) ∧
           (behind x → moves (.positionStateAccept d k ⟨x, ns⟩) minus)) ∧
       (ns < s.get F.POS_CFG_FILT d k * 80 → ∀ x : BitVec 3, exec (.positionStateAccept d k ⟨x, ns⟩) s = .next s))) ∧
  (∀ (s : State) (d b t : Nat) (loads : List Nat), d < s.dies → b < 16 → (s.base d b).moving = true → (s.base d b).startAt = none →
     (s.base d b).setIn = none → s.get F.AB_CFG_TYPE d b = 0 → s.get F.AB_ANGLE_ANGLE d b < 2 ^ 32 →
     let a := s.get F.AB_ANGLE_ANGLE d b
     let inc := s.getI F.AB_INC_INC d b
     let step := max (-(2 ^ 30)) (min (2 ^ 30) inc)
     let turn := s.getI F.AB_TURN_TURN d b
     let r := s.baseTick d t loads b
     (r.get F.AB_ANGLE_ANGLE d b : Int) = ((a : Int) + step) % 2 ^ 32 ∧
     (-32768 < turn → turn < 32767 →
       r.getI F.AB_TURN_TURN d b = turn + (if 2 ^ 32 ≤ (a : Int) + step then 1 else if (a : Int) + step < 0 then -1 else 0)) ∧
     (step ≠ inc → r.get F.AB_STAT_INC_CLAMP d b = 1) ∧ (r.base d b).step = step ∧ (r.base d b).moved = true ∧
     r.points = s.points ∧ r.engines = s.engines ∧ r.legs = s.legs)

/-- R38, R39, R42, R67, R489: the tick edge of a die on which nothing moves: the replica counts one, two where an edge is
inserted, none where one is withheld or the PWM clock does not run. R41 to R43: the whistle in READY, at a die that is early,
late or in step; a second whistle on the same count does nothing; and a whistle that does not come by the third tick after
its count is a miss. -/
def Obligations.TicksCountAndWhistlesCorrect : Prop :=
  (∀ (s : State) (d : Nat) (grid : List GridMeasure), d < s.dies → s.tick d + 2 < 2 ^ 64 →
     (∀ b < 16, (s.base d b).moving = false ∧ (s.base d b).startAt = none ∧ (s.base d b).period = none ∧
       (s.base d b).reloaded = false) →
     (∀ n < 24, (s.leg d n).boundary = none ∧ (s.leg d n).riseH = none ∧ (s.leg d n).riseL = none ∧
       (s.leg d n).noretDue = false) →
     (∀ n < 24, s.get F.LEG_MODE_BASE d n < 16) → (∀ k < 256, s.get F.AEV_CFG_ARMED d k = 0) →
     (∀ l < 8, s.get F.GRD_CFG_EN d l = 0) →
     (∀ r < 2, s.get F.RG_CFG_RUN d r = 0) → (s.tick d + 1) % 10000 ≠ 0 → (s.tick d + 2) % 10000 ≠ 0 →
     let D := s.die d
     let count := fun (n : Nat) => ∃ t, exec (.angleBaseTick d grid) s = .next t ∧ t.tick d = s.tick d + n ∧ t.cells = s.cells ∧
       (∀ k, k ≠ d → t.tick k = s.tick k) ∧ t.engines = s.engines ∧ t.points = s.points ∧ t.legs = s.legs
     (s.clockOn d 1 = false → count 0) ∧ (s.clockOn d 1 = true → D.withhold = true → count 0) ∧
     (s.clockOn d 1 = true → D.withhold = false → D.insert = true → count 2) ∧
     (s.clockOn d 1 = true → D.withhold = false → D.insert = false →
       (D.chain = 0 → count 1) ∧
       (s.get F.CHN_STAT_TIME_DIS = 0 → D.chain < 0 → count 0) ∧
       (s.get F.CHN_STAT_TIME_DIS = 0 → 0 < D.chain → count 2))) ∧
  (∀ (s : State), s.pkgState = 4 → (s.die 0).gated = false → s.tick 0 % 100000 = 0 → s.whistleAt ≠ s.tick 0 + 1 →
     (∃ t, exec (.whistle 0) s = .next t ∧ t.whistleAt = s.tick 0 + 1 ∧ t.engines = s.engines ∧ t.points = s.points) ∧
     (∀ d, let D := s.die d
       let r := (s.whistleAtDie d (s.tick 0)).1
       D.reloadNext = false →
       (D.tick = s.tick 0 → r.die d = { D with missRun := 0, seen := s.tick 0 + 1 } ∧ r.get F.TICK_ERR_ERR d = 0) ∧
       (D.tick = s.tick 0 + 1 → (r.die d).withhold = true ∧ (r.die d).tick = D.tick ∧ r.get F.TICK_STAT_LAST_SLIP d = 2 ∧
         r.get F.TICK_ERR_ERR d = 1) ∧
       (D.tick + 1 = s.tick 0 → (r.die d).insert = true ∧ (r.die d).tick = D.tick ∧ r.get F.TICK_STAT_LAST_SLIP d = 1 ∧
         r.get F.TICK_ERR_ERR d = 0xFFFF)) ∧
     (∀ a : BitVec 8, exec (.whistle a) { s with whistleAt := s.tick 0 + 1 } = .next { s with whistleAt := s.tick 0 + 1 }) ∧
     (∀ d, 0 < d → d < s.dies → s.tick d % 100000 = 3 → 100000 ≤ s.tick d → (s.die d).seen ≠ s.tick d - 2 →
       (s.die d).missRun ≠ 1 → ∃ t, exec (.whistleMiss d) s = .next t ∧ t.get F.TICK_STAT_WHISTLE_MISS d = 1 ∧
         t.die d = { s.die d with missRun := (s.die d).missRun + 1, seen := s.tick d - 2 } ∧
         RegsBut s t [F.TICK_STAT_WHISTLE_MISS.key d 0 0] ∧ t.engines = s.engines))

/-- R55, R56: a tracker is enabled at its nominal increment, takes a good cycle, and locks after its run of good cycles.
R242, R243: an accepted state of a position port that no base follows, once it has stood for FILT × 80 ns: it shows in
POS_STAT, an invalid one is counted, and a valid one is the next one's predecessor. -/
def Obligations.TrackersLockAndPositionPortsShow : Prop :=
  (∀ (s : State) (q : Requester) (d m : Nat) (x : MainsMeasure), d < s.dies → m < 2 → 2 ≤ s.pkgState → s.reached q d = s →
     (s.get F.MT_CFG_EN d m = 0 → ∃ t, exec (.mainsTrackerEnable q d m) s = .next t ∧
       t.tracker d m = ⟨0, if s.get F.MT_CFG_NOM d m = 0 then 2147 else 2577, if s.get F.MT_STAT_HOLD d m = 0 then s.tick d else (s.tracker d m).holdAt⟩ ∧ t.engines = s.engines ∧ t.points = s.points) ∧
     (s.get F.MT_CFG_EN d m = 1 → s.get F.MT_STAT_LOCK d m = 0 → max (s.get F.MT_CFG_LOCK_CYC d m) 1 ≤ (s.tracker d m).goodRun →
       ∃ t, exec (.mainsLock d m) s = .next t ∧ t.get F.MT_STAT_LOCK d m = 1 ∧ t.get F.MT_STAT_HOLD d m = 0 ∧
         t.tracker d m = ⟨(s.tracker d m).goodRun, (s.get F.MT_FREQ_FREQ d m * 65536 + 50000000) / 100000000, (s.tracker d m).holdAt⟩ ∧
         RegsBut s t [F.MT_STAT_LOCK.key d m 0, F.MT_STAT_HOLD.key d m 0] ∧ t.bases = s.bases) ∧
     (s.get F.MT_CFG_EN d m = 1 → s.get F.MT_STAT_LOCK d m = 1 → 40 * 65536 ≤ x.freq → x.freq ≤ 70 * 65536 →
       838861 ≤ x.amp → x.amp < 2 ^ 24 → x.phaseErr.natAbs * 360 < 2 ^ 32 → x.freqErr.natAbs ≤ 3276 →
       ∃ t, exec (.mainsCycle d m x) s = .next t ∧ t.get F.MT_FREQ_FREQ d m = x.freq ∧ t.get F.MT_AMP_AMP d m = x.amp ∧
         t.tracker d m = ⟨(s.tracker d m).goodRun + 1, (x.freq * 65536 + 50000000) / 100000000, (s.tracker d m).holdAt⟩ ∧
         (∀ b < 16, s.get F.AB_CFG_TYPE d b = 1 → s.get F.AB_CFG_SRC d b % 2 = m → (s.base d b).moving = true →
           (t.base d b).rem = (x.angle - BitVec.ofNat 32 (s.get F.AB_ANGLE_ANGLE d b)).toInt) ∧
         RegsBut s t [F.MT_FREQ_FREQ.key d m 0, F.MT_AMP_AMP.key d m 0] ∧ t.engines = s.engines)) ∧
  (∀ (s : State) (d k ns : Nat) (x : BitVec 3), d < s.dies → k < 8 → s.get F.POS_STAT_STATE d k ≠ x.toNat →
     s.get F.POS_CFG_FILT d k * 80 ≤ ns → s.get F.POS_CFG_EN d k = 0 → (∀ b < 16, s.get F.AB_CFG_TYPE d b ≠ 3) →
     let keys := [F.POS_STAT_STATE.key d k 0, F.POS_STAT_INV.key d k 0, F.POS_STAT_INV_CNT.key d k 0, F.POS_STAT_OOS.key d k 0,
       F.POS_STAT_OOS_CNT.key d k 0]
     ∃ t, exec (.positionStateAccept d k ⟨x, ns⟩) s = .next t ∧ t.get F.POS_STAT_STATE d k = x.toNat ∧
       (s.get F.POS_TAB_VALID d k x.toNat = 0 → t.get F.POS_STAT_INV d k = 1 ∧
         t.get F.POS_STAT_INV_CNT d k = min (s.get F.POS_STAT_INV_CNT d k + 1) (2 ^ F.POS_STAT_INV_CNT.width - 1) ∧
         t.posPrev = s.posPrev) ∧
       (s.get F.POS_TAB_VALID d k x.toNat = 1 → Store.get t.posPrev 0 (d * 8 + k) = x.toNat + 1) ∧
       RegsBut s t keys ∧ t.bases = s.bases ∧ t.legs = s.legs ∧ t.engines = s.engines ∧ t.points = s.points)

/-! ### Legs and gate ports -/

/-- R223, R224, R229, R234, R236, R238, R239, R241, R246: dead times, boundaries, the enable, forces and masks of a leg, and
the load-all of LA_CMD. -/
def Obligations.LegsFollowTheirCommands : Prop :=
  ∀ (s : State) (q : Requester) (d n : Nat), d < s.dies → n < 24 → 2 ≤ s.pkgState → s.reached q d = s →
    let L := s.leg d n
    let bystanders := fun (t : State) => t.engines = s.engines ∧ t.points = s.points ∧ t.bases = s.bases ∧ t.queues = s.queues
    (∀ r, L.riseH = some r → r ≤ s.tick d * 64 + 64 → L.riseL = none → s.get F.LEG_STAT_GL d n = 0 →
      ∃ t, exec (.deadTimeEnd d n) s = .next t ∧ t.get F.LEG_STAT_GH d n = 1 ∧ t.get F.GATE_STAT_PGH d n = 1 ∧
        (t.leg d n).riseH = none ∧ t.get F.LEG_STAT_GL d n = 0 ∧ bystanders t) ∧
    (∀ r, L.riseL = some r → r ≤ s.tick d * 64 + 64 → L.riseH = none → s.get F.LEG_STAT_GH d n = 0 →
      ∃ t, exec (.deadTimeEnd d n) s = .next t ∧ t.get F.LEG_STAT_GL d n = 1 ∧ t.get F.GATE_STAT_PGL d n = 1 ∧
        (t.leg d n).riseL = none ∧ t.get F.LEG_STAT_GH d n = 0 ∧ bystanders t) ∧
    (∀ sp p, L.boundary = some sp → sp.jumping = true → L.pend = some p → p.due ≤ s.tick d → p.marked = false → p.thr = none →
      p.mask = none → p.duty = 0 → p.rise < 65536 → p.fall < 65536 → p.phase < 2 ^ 32 → L.car = false →
      s.legHerd d n = none → ∃ t, exec (.legBoundary d n) s = .next t ∧ t.get F.LEG_DUTY_DUTY d n = 0 ∧
        t.get F.LEG_CFG_RISE_DLY d n = p.rise ∧ t.get F.LEG_CFG_FALL_DLY d n = p.fall ∧ t.get F.LEG_PHASE_PHASE d n = p.phase ∧
        t.get F.LEG_STAT_PEND d n = 0 ∧ (t.leg d n).pend = none ∧ (t.leg d n).boundary = none ∧ bystanders t) ∧
    (s.get F.LEG_MODE_EN d n = 0 → s.legLocked d n = false → ∃ t, exec (.legEnable q d n) s = .next t ∧
        t.get F.LEG_MODE_EN d n = 1 ∧ t.get F.LEG_DUTY_DUTY d n = s.getSh F.LEG_DUTY_DUTY d n % 2 ^ 24 ∧
        t.get F.LEG_STAT_PEND d n = 0 ∧ (t.leg d n).pend = none ∧ bystanders t) ∧
    (∀ f : BitVec 2, 20 ≤ n → s.isSection d n = false → ∃ t, exec (.legForce q d n f) s = .next t ∧
        t.get F.LEG_FORCE_FORCE d n = f.toNat ∧ bystanders t) ∧
    (∀ f : BitVec 2, n < 20 → ∃ t, exec (.legForce q d n f) s = .next t ∧
        t.get F.LEG_FORCE_FORCE d n = s.get F.LEG_FORCE_FORCE d n ∧
        t.get F.DIE_WREF_CNT d = min (s.get F.DIE_WREF_CNT d + 1) 0xFFFF ∧ t.legs = s.legs ∧ bystanders t) ∧
    (∀ (g : Nat) (mask : BitVec 6), g < 4 → (∀ k < 6, s.isPhase d (6 * g + k) = false) →
      ∃ t, exec (.grpMaskWrite q d g mask) s = .next t ∧
        (∀ k < 6, t.getBit F.GRP_MASK_MASK k d g = mask.getLsbD k) ∧ bystanders t) ∧
    (∀ h, h < 8 → s.get F.REG_CFG_EN d h = 0 → s.get F.DRV_CFG_EN d h = 0 →
      (∀ k < 24, s.legHerd d k = none ∧ (s.leg d k).boundary = none) →
      ∃ t, exec (.laCmd q d h) s = .next t ∧ t.get F.LA_STAT_LA_CNT d h = (s.get F.LA_STAT_LA_CNT d h + 1) % 65536 ∧
        (∀ k < 24, t.get F.LEG_STAT_PEND d k = 1 ∧
          (t.leg d k).pend.map (fun p => (p.duty, p.due)) = some (s.getSh F.LEG_DUTY_DUTY d k,
            match (s.leg d k).pend with | some p => max p.due (s.tick d + 64) | none => s.tick d + 64)))

/-- R250 to R254, R258 to R270: the gate port of a leg: its enable loads the default codes, a strength frame is skipped that
comes too late, returns and misses take the oldest edge, the adaptive law moves the code of the edge measured, a long low,
missing returns, a short-circuit output and a comparator trip the leg, the mesh carries companion actions, and a clear ends a
trip whose sources are inactive. -/
def Obligations.GatePortMeasuresAndTrips : Prop :=
  ∀ (s : State) (q : Requester) (d n : Nat), d < s.dies → n < 24 → 2 ≤ s.pkgState → s.reached q d = s →
    let L := s.leg d n
    let bystanders := fun (t : State) => t.points = s.points ∧ t.bases = s.bases
    (s.get F.GATE_CFG_EN d n = 0 → s.legLocked d n = false → s.get F.GATE_DEF_HS_ON d n < 16 → s.get F.GATE_DEF_HS_OFF d n < 16 →
      s.get F.GATE_DEF_LS_ON d n < 16 → s.get F.GATE_DEF_LS_OFF d n < 16 → ∃ t, exec (.gateEnable q d n) s = .next t ∧
        t.get F.GATE_CFG_EN d n = 1 ∧ t.strength d n 0 = s.get F.GATE_DEF_HS_ON d n ∧
        t.strength d n 1 = s.get F.GATE_DEF_HS_OFF d n ∧ t.strength d n 2 = s.get F.GATE_DEF_LS_ON d n ∧
        t.strength d n 3 = s.get F.GATE_DEF_LS_OFF d n ∧ (t.leg d n).integ = [] ∧ bystanders t ∧ t.engines = s.engines) ∧
    (∀ up p, s.get F.GATE_CFG_EN d n = 1 → s.get F.LEG_MODE_EN d n = 1 → s.get F.LEG_STAT_TRIP d n = 0 → L.paired = false →
      s.nextEdge d n = some (up, p) → s.tick d * 64 + 2560 ≤ p → p ≤ s.tick d * 64 + 2624 →
      L.gsFree ≤ s.tick d * 64 → s.get F.LEG_CFG_RISE_DLY d n = 0 → s.get F.LEG_CFG_FALL_DLY d n = 0 →
      let c := (p - 2560 + 15) / 16 * 16
      let off := if up then 3 else 1
      let on := if up then 0 else 2
      ∃ t, exec (.strengthFrame d n) s = .next t ∧ (t.leg d n).paired = true ∧ (t.leg d n).framedOff = true ∧
        (t.leg d n).framedOn = true ∧
        (t.leg d n).frames = [⟨c, off, s.strength d n off, false⟩, ⟨c + 1152, on, s.strength d n on, false⟩] ∧
        bystanders t ∧ t.engines = s.engines) ∧
    (∀ up p, s.get F.GATE_CFG_EN d n = 1 → s.get F.LEG_MODE_EN d n = 1 → s.get F.LEG_STAT_TRIP d n = 0 → L.paired = false →
      s.nextEdge d n = some (up, p) → s.get F.LEG_CFG_RISE_DLY d n = 0 → s.get F.LEG_CFG_FALL_DLY d n = 0 →
      p < s.tick d * 64 + 1280 ∨ (p ≤ s.tick d * 64 + 2624 ∧ p + 2432 < L.gsFree) →
      ∃ t, exec (.strengthFrame d n) s = .next t ∧ (t.leg d n).paired = true ∧ (t.leg d n).framedOff = false ∧
        (t.leg d n).framedOn = false ∧ (∀ f ∈ (t.leg d n).frames, f ∈ L.frames) ∧
        t.get F.GATE_CNT_SKIP_CNT d n = min (s.get F.GATE_CNT_SKIP_CNT d n + 2) (2 ^ F.GATE_CNT_SKIP_CNT.width - 1) ∧
        bystanders t ∧ t.engines = s.engines) ∧
    (∀ e es (w : Nat), s.get F.GATE_CFG_EN d n = 1 → s.domOn d domLEG = true → L.returns = e :: es → e.kind < 4 → e.framed = true →
      128 ≤ w → w ≤ 16000 → s.get F.GATE_CFG_ADAPT d n = 1 → s.get F.GATE_CFG_STR_MAX d n < 16 →
      let tgt := min (max (if e.kind % 2 = 0 then s.get F.GATE_TGT_T_ON d n else s.get F.GATE_TGT_T_OFF d n) 20) 800
      let x : Int := 10 * w - 128 * tgt
      let err := if x.natAbs ≤ 128 * s.get F.GATE_LAW_DBAND d n then 0 else x
      let i := min (max (Store.get L.integ 0 e.kind + err) (-32768)) 32767
      let lim : Int := 128 * max (s.get F.GATE_LAW_ILIM d n) 1
      let lo := s.get F.GATE_CFG_STR_MIN d n
      let hi := s.get F.GATE_CFG_STR_MAX d n
      let c := min (max (s.strength d n e.kind) lo) hi
      ∃ t, exec (.gfPulse d n w) s = .next t ∧
        t.strength d n e.kind = (if lim ≤ i then min (c + 1) hi else if i ≤ -lim then max (c - 1) lo else c) ∧
        Store.get (t.leg d n).integ 0 e.kind = (if lim ≤ i ∨ i ≤ -lim then 0 else i) ∧
        (∀ k < 4, k ≠ e.kind → s.get F.GATE_STR_CODES d n < 65536 → t.strength d n k = s.strength d n k) ∧ bystanders t) ∧
    (let trips := fun (c : Instr) (src : Fld) => s.get F.LEG_STAT_TRIP d n = 0 → s.legHerd d n = none → s.recQueue = none →
       s.get F.IRQ_SRC_EN d (176 + n) = 0 → ∃ t, exec c s = .next t ∧ t.get F.LEG_STAT_TRIP d n = 1 ∧ t.get src d n = 1 ∧
         t.get F.GATE_TRIP_TRIP d n = 1 ∧ t.get F.LEG_STAT_GH d n = 0 ∧ t.get F.LEG_STAT_GL d n = 0 ∧ bystanders t
     (∀ e es, L.returns = e :: es → e.at64 + 12800 ≤ s.tick d * 64 + 64 → s.get F.GATE_CFG_NORET_TRIP d n = 1 →
       L.missRun + 1 = max (s.get F.GATE_CFG_MISS_LIM d n) 1 → trips (.returnMiss d n) F.GATE_TRIP_NORET) ∧
     (∀ bits, s.modRuns d n = true → s.get F.MOD_CFG_SC_EN d n = 1 → bits.length = 2 ^ (s.get F.MOD_CFG_SC_OSR d n + 3) →
       s.get F.MOD_CFG_SC_ORD d n + 1 ≤ (s.modIn d n).scOuts + 1 → s.get F.MOD_SC_THR d n ≠ 0 →
       s.get F.MOD_SC_THR d n < (s.shortFilter d n bits).2.natAbs → trips (.modScOutput d n bits) F.GATE_TRIP_SC) ∧
     (∀ (k : Nat) (inp pos : BitVec 6) (level : Int), k < 48 → s.cmpRuns d k = true → k < 24 ∨ s.get F.CMP_CFG_INP d k = inp.toNat →
       (s.cmpOut d k level).1 = true → s.get F.CMP_STAT_LATCH d k = 0 → s.get F.CMP_CFG_LEG d k = n → s.get F.CMP_CFG_TRIP d k = 1 →
       s.get F.CMP_CFG_CBC d k = 0 → s.get F.CMP_CFG_URG d k = 0 → s.get F.IRQ_SRC_EN d (96 + k) = 0 →
       s.cmpBlanked d k ((s.tick d - 1) * 64 + 1 + pos.toNat) = false →
       trips (.comparatorLatch d ⟨k, inp, level, pos⟩) F.GATE_TRIP_CMP)) ∧
    (∀ e es w, s.get F.GATE_CFG_EN d n = 1 → s.domOn d domLEG = true → L.returns = e :: es → e.kind < 4 → e.code < 16 → w < 4096 → s.get F.GATE_CFG_ADAPT d n = 0 →
      ∃ t, exec (.gfPulse d n w) s = .next t ∧ (t.leg d n).returns = es ∧ (t.leg d n).missRun = 0 ∧
        t.get F.GATE_STAT_GF d n = 1 ∧ t.get F.GATE_EDGE_W d n e.kind = w ∧ t.get F.GATE_EDGE_CODE d n e.kind = e.code ∧
        t.get F.GATE_EDGE_NOTR d n e.kind = (if w < 128 then 1 else 0) ∧ bystanders t ∧ t.engines = s.engines) ∧
    (∀ e es, L.returns = e :: es → e.at64 + 12800 ≤ s.tick d * 64 + 64 → L.noretDue = false →
      L.missRun + 1 ≠ max (s.get F.GATE_CFG_MISS_LIM d n) 1 → ∃ t, exec (.returnMiss d n) s = .next t ∧
        (t.leg d n).returns = es ∧ (t.leg d n).missRun = L.missRun + 1 ∧
        t.get F.GATE_CNT_MISS_CNT d n = min (s.get F.GATE_CNT_MISS_CNT d n + 1) (2 ^ F.GATE_CNT_MISS_CNT.width - 1) ∧
        RegsBut s t [F.GATE_CNT_MISS_CNT.key d n 0] ∧ bystanders t ∧ t.engines = s.engines) ∧
    (s.get F.GATE_CFG_EN d n = 1 → s.domOn d domLEG = true → s.get F.LEG_MODE_EN d n = 0 → ∃ t, exec (.gfFault d n) s = .next t ∧
        t.get F.GATE_STAT_GF d n = 0 ∧ t.get F.GATE_STAT_GF_FLT d n = 1 ∧
        (t.leg d n).returns = (if s.get F.GATE_STAT_GF d n = 1 then L.returns.tail else L.returns) ∧ bystanders t ∧
        t.engines = s.engines) ∧
    (s.get F.GATE_CFG_EN d n = 1 → s.domOn d domLEG = true → s.get F.LEG_MODE_EN d n = 1 → s.get F.LEG_STAT_TRIP d n = 0 →
      s.get F.GATE_STAT_GF_FLT d n = 0 → s.legHerd d n = none → s.recQueue = none → s.get F.IRQ_SRC_EN d (176 + n) = 0 → ∃ t, exec (.gfFault d n) s = .next t ∧
        t.get F.LEG_STAT_TRIP d n = 1 ∧ t.get F.GATE_TRIP_GF d n = 1 ∧ t.get F.GATE_TRIP_TRIP d n = 1 ∧ bystanders t) ∧
    (∀ h mode, s.mesh = [⟨d, h, mode, false⟩] → s.herdLegsOn d h = [n] → s.get F.LEG_STAT_TRIP d n = 0 →
      ∃ t, exec (.tripMesh d) s = .next t ∧ t.mesh = [] ∧ (t.leg d n).comp = some mode ∧ bystanders t ∧ t.engines = s.engines) ∧
    (s.get F.LEG_STAT_TRIP d n = 1 → s.tripSourcesClear d n = true → L.gsFree ≤ s.tick d * 64 → s.get F.IRQ_SRC_EN d (176 + n) = 0 →
      ∃ t, exec (.tripClear q d n) s = .next t ∧ t.get F.LEG_STAT_TRIP d n = 0 ∧ t.get F.GATE_TRIP_TRIP d n = 0 ∧
        t.get F.GATE_TRIP_GF d n = 0 ∧ t.get F.GATE_TRIP_SC d n = 0 ∧ t.get F.GATE_TRIP_CMP d n = 0 ∧
        (t.leg d n).clearHold = some (s.tick d * 64 + (if s.get F.GATE_CFG_EN d n = 1 then 4480 else 0)) ∧ bystanders t) ∧
    (s.tripSourcesClear d n = true ↔ (∀ k < 48, s.get F.CMP_STAT_LATCH d k = 0 ∨ s.get F.CMP_CFG_TRIP d k = 0 ∨ s.get F.CMP_CFG_LEG d k ≠ n) ∧
      s.get F.MOD_STAT_SC_HIT d n = 0 ∧ (s.get F.GATE_CFG_EN d n = 0 ∨ s.get F.GATE_STAT_GF d n ≠ 0) ∧ s.get F.GATE_STAT_NORET d n = 0) ∧
    (s.get F.LEG_STAT_TRIP d n = 1 → s.tripSourcesClear d n = false → ∃ t, exec (.tripClear q d n) s = .next t ∧
        t.get F.LEG_STAT_TRIP d n = 1 ∧ t.legs = s.legs ∧
        t.get F.GATE_TCLR_CLR_REF_CNT d n =
          min (s.get F.GATE_TCLR_CLR_REF_CNT d n + 1) (2 ^ F.GATE_TCLR_CLR_REF_CNT.width - 1) ∧ bystanders t)

/-! ### Signals: the die ring, the host and queues -/

/-- R28, R138, R154, R158 to R165: the oldest request of a channel is served with its operation and answered; a blocking push
that meets a full queue waits for a space notice. R131, R164: the response to a non-blocking point read fills the register
that awaits it; one to a blocking read also ends the wait of its lane; an aborted one is counted. -/
def Obligations.RingRequestsAreServedAndAnswersArrive : Prop :=
  (∀ (s : State) (d src : Nat) (x : Xfer), d < s.dies → src < s.dies → s.arriving d src = some x →
     let answered := fun (st : State) (k : Status) (v : Nat) => st.setStage x.id (.answered k (BitVec.ofNat 32 v))
     (s.canServe x = true →
       (∀ p, x.op = .read p → s.pointStatus p = .ok →
         exec (.ringPointRead d src) s = .next (answered s .ok (s.point p).toNat)) ∧
       (∀ p, x.op = .read p → s.pointStatus p = .notReady → exec (.ringPointRead d src) s = .next (answered s .notReady 0)) ∧
       (∀ p v, x.op = .write p v → s.pointStatus p = .ok →
         exec (.ringPointWrite d src) s = .next (answered (s.writePoint p v x.who x.herd) .ok 0) ∧
         (s.writePoint p v x.who x.herd).point p = v) ∧
       (∀ p vs, x.op = .group p vs → s.pointStatus p = .ok →
         exec (.ringGroupCommit d src) s = .next (answered (s.writeGroup p vs x.who x.herd) .ok 0) ∧
         ∀ k (h : k < vs.length), (s.writeGroup p vs x.who x.herd).point (p + k) = vs[k]) ∧
       (∀ id e nb, x.op = .push id e nb → s.queueStatus id.toNat = .ok →
         s.get F.Q_CFG_KIND (id.toNat / 8192) (id.toNat % 8192) = 0 → (∃ pe, x.who = .engine pe) →
         ((s.entries id.toNat).length < s.get F.Q_SIZE_DEPTH (id.toNat / 8192) (id.toNat % 8192) →
           ∃ t, exec (.ringQueuePush d src) s = .next t ∧ t.entries id.toNat = s.entries id.toNat ++ [e] ∧
             (∀ j, j ≠ id.toNat → t.entries j = s.entries j) ∧ t.points = s.points ∧ t.ring = (answered s .ok 0).ring) ∧
         (0 < s.get F.Q_SIZE_DEPTH (id.toNat / 8192) (id.toNat % 8192) →
           s.get F.Q_SIZE_DEPTH (id.toNat / 8192) (id.toNat % 8192) ≤ (s.entries id.toNat).length → nb = false →
           ∃ t, exec (.ringQueuePush d src) s = .next t ∧ t.queues = s.queues ∧ t.ring = (s.setStage x.id .blocked).ring ∧
             Store.get t.qWaiters 0 id.toNat = Store.get s.qWaiters 0 id.toNat ||| 2 ^ x.src)) ∧
       (∀ leg sel v, x.op = .lset leg sel v → exec (.ringLset d src) s =
         .next (answered (s.lsetWrite x.who (x.herd.getD 64) d (leg % 24) sel v.toNat).1
           (s.lsetWrite x.who (x.herd.getD 64) d (leg % 24) sel v.toNat).2 0)) ∧
       (∀ a, x.op = .regRead a true → exec (.ringRegisterAccess d src) s = .next (answered s .ok (s.regPeek x.who a))) ∧
       (∀ a, x.op = .regRead a false → exec (.ringRegisterAccess d src) s =
         .next (answered (s.regRead x.who a).1 (s.regRead x.who a).2.1 (s.regRead x.who a).2.2)) ∧
       (∀ a v w, x.op = .regWrite a v w → exec (.ringRegisterAccess d src) s =
         let r := s.regWriteLow x.who a (v.toNat % 2 ^ 24) (if w then some (v.toNat / 2 ^ 24) else none)
         .next (answered r.1 r.2 0))) ∧
     (∀ e, x.op = .record e → s.canServe x = true →
       exec (.ringQueuePush d src) s = .next (answered (s.intakePush e).1 (s.intakePush e).2 0)) ∧
     (∀ h due now, x.op = .loadAll h due now →
       exec (.ringLoadall d src) s = .next ((s.loadAllArrives d h due now).dropXfer x.id)) ∧
     (∀ id, x.op = .notice id → exec (.spaceNotice d src) s = .next ((s.resend d id).dropXfer x.id))) ∧
  (∀ (s : State) (d src p pe k : Nat) (x : Xfer) (v : BitVec 32), d < s.dies → src < s.dies → x.who = .engine pe → x.src = d →
     x.op = .read p → s.domOn (pe / 32) (pe % 32 / 4) = true → (s.eng pe).awaits = [⟨x.id, .reg k, false⟩] →
     let gone := fun (t : State) => t.ring = s.ring.filter (fun y => !decide (y.id = x.id)) ∧ (t.eng pe).awaits = [] ∧
       (t.eng pe).pc = (s.eng pe).pc ∧ t.points = s.points ∧ t.queues = s.queues
     (s.returning d src = some (x, .ok, v) → ∃ t, exec (.ringResponse d src) s = .next t ∧ gone t ∧ t.cells = s.cells ∧
       (∀ j, Store.get (t.eng pe).regs 0 j = if j = k then v.extractLsb' 0 24 else Store.get (s.eng pe).regs 0 j) ∧
       (∀ lane < 4, Store.get (s.eng pe).waits 0 lane = x.id + 1 →
         (∀ j < lane, Store.get (s.eng pe).waits 0 j ≠ x.id + 1) → Store.get (t.eng pe).waits 0 lane = 0)) ∧
     (s.returning d src = some (x, .aborted, v) → (∀ lane < 4, Store.get (s.eng pe).waits 0 lane ≠ x.id + 1) →
       ∃ t, exec (.ringResponse d src) s = .next t ∧ gone t ∧ Store.get (t.eng pe).regs 0 k = 0 ∧
         t.get F.RING_STAT_ABORT_CNT d =
           min (s.get F.RING_STAT_ABORT_CNT d + 1) (2 ^ F.RING_STAT_ABORT_CNT.width - 1)))

/-- R28, R139 to R142, R155, R162: the point and queue windows of the host. An access is FULL where it meets a bound of D0,
and else finds the state that D0's earlier requests to the same dies leave, which on D0 itself is the present one (log entry
55); so does a register command that names its requester (log entry 10). R145, R146: enabling, disabling and flushing the
queue that the requester has selected. -/
def Obligations.HostWindowsReachWhatIsConfigured : Prop :=
  (∀ (s u : State) (q : Requester) (p : Nat) (v w : Word) (id : BitVec 16) (type : BitVec 7) (pl : Payload), s.pkgState = 4 →
     u.pkgState = 4 →
     let reads := fun ds => s.fromOutside RingOp.reads ds
     let posts := fun ds => s.fromOutside RingOp.posted ds
     let two := [pointDie p, pointDie (p + 1)]
     let hd := id.toNat / 8192
     let full := s.get F.RING_FULL_NB_CNT 0
     (∀ (c : Instr) (die : Nat), hostRow c = some (q, die) → let v := s.reached q die
       v.member = s.member → v.pending = s.pending → v.reached q die = v → exec c s = exec c v) ∧
     (∀ die, q = .unit ∨ (∃ pe, q = .engine pe) ∨ die = 0 → s.reached q die = s) ∧
     (pointDie p = 0 → reads [pointDie p] = some s ∧ posts [pointDie p] = some s) ∧ (hd = 0 → posts [hd] = some s ∧ s.behind hd = s) ∧
     (u.pointStatus p = .ok → u.pointStatus (p + 1) = .ok →
       (reads two = some u → exec (.hostPointRead q p 2) s = .next
         { u with answer := [(u.point p).zeroExtend 32, (u.point (p + 1)).zeroExtend 32], answerSt := .ok }) ∧
       (posts two = some u → ∃ t, exec (.hostPointWrite q p [v, w]) s = .next t ∧ t.point p = v ∧ t.point (p + 1) = w ∧
         t.answerSt = .ok ∧ (∀ r, r ≠ p → r ≠ p + 1 → t.point r = u.point r) ∧ t.queues = u.queues ∧ t.engines = u.engines)) ∧
     (u.pointStatus p = .refused →
       (reads [pointDie p] = some u → exec (.hostPointRead q p 1) s = .next { u with answer := [0], answerSt := .refused }) ∧
       (posts [pointDie p] = some u → exec (.hostPointWrite q p [v]) s = .next { u with answer := [], answerSt := .refused })) ∧
     (reads [pointDie p] = none → ∃ t, exec (.hostPointRead q p 1) s = .next t ∧ t.answerSt = .full ∧ t.points = s.points ∧
       t.get F.RING_FULL_NB_CNT 0 = min (full + 1) (2 ^ F.RING_FULL_NB_CNT.width - 1)) ∧
     (posts [pointDie p] = none → ∃ t, exec (.hostPointWrite q p [v]) s = .next t ∧ t.answerSt = .full ∧ t.points = s.points) ∧
     (posts [hd] = none → ∃ t, exec (.hostQueuePush .host id type pl) s = .next t ∧ t.answerSt = .full ∧ t.queues = s.queues) ∧
     (u.queueStatus id.toNat = .ok → u.get F.Q_CFG_KIND hd (id.toNat % 8192) = 0 →
       (posts [hd] = some u → (u.entries id.toNat).length < u.get F.Q_SIZE_DEPTH hd (id.toNat % 8192) →
         ∃ t, exec (.hostQueuePush .host id type pl) s = .next t ∧ t.answerSt = .ok ∧
           t.entries id.toNat = u.entries id.toNat ++ [⟨BitVec.ofNat 16 (0x100 * 128 + type.toNat), pl⟩] ∧
           (∀ j, j ≠ id.toNat → t.entries j = u.entries j) ∧ t.points = u.points) ∧
       (posts [hd] = some u → u.get F.Q_SIZE_DEPTH hd (id.toNat % 8192) = 0 →
         ∃ t, exec (.hostQueuePush .host id type pl) s = .next t ∧ t.answerSt = .refused ∧ t.queues = u.queues ∧
           t.points = u.points) ∧
       (posts [hd] = some u → 0 < u.get F.Q_SIZE_DEPTH hd (id.toNat % 8192) →
         u.get F.Q_SIZE_DEPTH hd (id.toNat % 8192) ≤ (u.entries id.toNat).length →
         ∃ t, exec (.hostQueuePush .host id type pl) s = .next t ∧ t.answerSt = .full ∧ t.queues = u.queues ∧
           t.points = u.points) ∧
       (s.behind hd = u → hd < s.dies → ∀ e es, u.entries id.toNat = e :: es → ∃ t, exec (.hostQueuePop q id) s = .next t ∧
           t.answerSt = .ok ∧ t.entries id.toNat = es ∧
           t.answer = [e.hdr.extractLsb' 8 8 ++ e.payload.w0, e.hdr.extractLsb' 0 8 ++ e.payload.w1,
             e.payload.w2.zeroExtend 32, e.payload.w3.zeroExtend 32] ∧ t.points = u.points) ∧
       (s.behind hd = u → hd < s.dies → u.entries id.toNat = [] → ∃ t, exec (.hostQueuePop q id) s = .next t ∧
           t.answerSt = .empty ∧ t.answer = [] ∧ t.queues = u.queues))) ∧
  (∀ (s : State) (q : Requester) (d : Nat), d < s.dies → 2 ≤ s.pkgState → q.index ≤ 32 * s.dies → s.reached q d = s →
     let n := s.get F.Q_SEL_QUEUE d q.index
     let id := d * 8192 + n
     n < 8192 → s.recQueue = none →
     (s.get F.Q_CFG_EN d n = 0 → s.enableStatus d n = .ok → s.get F.Q_CFG_KIND d n ≠ 4 →
       s.get F.Q_BUDGET_USED d + s.get F.Q_SIZE_DEPTH d n ≤ 16384 → ∃ t, exec (.queueEnable q d) s = .next t ∧
       t.get F.Q_CFG_EN d n = 1 ∧ t.get F.Q_STAT_BUSY d n = 1 ∧ t.get F.Q_RES_RES d q.index = 0 ∧ t.entries id = [] ∧
       t.get F.Q_BUDGET_USED d = s.get F.Q_BUDGET_USED d + s.get F.Q_SIZE_DEPTH d n ∧ t.points = s.points ∧
       t.engines = s.engines) ∧
     (∃ t, exec (.queueEnableDone (BitVec.ofNat 16 id)) s = .next t ∧ t.get F.Q_STAT_BUSY d n = 0 ∧
       RegsBut s t [F.Q_STAT_BUSY.key d n 0] ∧ t.queues = s.queues) ∧
     (s.get F.Q_CFG_EN d n = 1 → s.entries id = [] → Store.get s.qWaiters 0 id = 0 → s.get F.Q_BUDGET_USED d ≤ 16384 →
       ∃ t, exec (.queueDisable q d) s = .next t ∧
       t.get F.Q_CFG_EN d n = 0 ∧ t.get F.Q_RES_RES d q.index = 0 ∧
       t.get F.Q_BUDGET_USED d = s.get F.Q_BUDGET_USED d - s.get F.Q_SIZE_DEPTH d n ∧ t.points = s.points ∧ t.ring = s.ring) ∧
     (s.get F.Q_CFG_EN d n = 1 → s.entries id ≠ [] → ∃ t, exec (.queueDisable q d) s = .next t ∧
       t.get F.Q_CFG_EN d n = 1 ∧ t.get F.Q_RES_RES d q.index = 3 ∧ t.queues = s.queues) ∧
     (∃ t, exec (.qFlush q d) s = .next t ∧ t.entries id = [] ∧ (∀ j, j ≠ id → t.entries j = s.entries j) ∧
       t.points = s.points))

/-! ### Acquisition, comparators and references -/

/-- R173, R175, R176, R181, R182, R187 to R189: a slot result of a converter in CONT, the read of ADC_DATA, and urgent
requests. A code at the self-check multiplexer is one that the selected node can give. R13, R170 to R172, R184, R186: churn
exchanges, the reads of a capture ring and of its markers, and the clear of FROZEN, which stays set where the ring freezes
again in the same cycle. -/
def Obligations.ConvertersChurnAndCapture : Prop :=
  (∀ (s : State) (q : Requester) (d n : Nat) (codes : List Int), d < s.dies → n < 8 → 2 ≤ s.pkgState → s.reached q d = s →
     let value := fun (avg : Nat) (cs : List Int) =>
       (BitVec.ofInt 24 ((cs.map fun c => max (-8192) (min 8191 c)).sum * 2 ^ (10 - avg))).toNat
     let clips := fun (cs : List Int) => cs.any fun c => decide (c < -8192 ∨ 8191 < c)
     let others := fun (t : State) => t.points = s.points ∧ t.capture = s.capture ∧ t.queues = s.queues
     (∀ inp, inp < 6 → s.takenCodes d n inp codes = (codes, s)) ∧
     (∀ k avg, s.adcRuns d n = true → s.get F.ADC_CFG_MODE d n = 0 → s.get F.ADC_STAT_CUR_SLOT d n = k → k < 15 →
       s.get F.SLOT_A_AVG d n k = avg → avg ≤ 8 → codes.length = 2 ^ avg → s.get F.SLOT_A_RING d n k = 0 →
       s.get F.SLOT_B_PT_EN d n k = 0 → s.get F.ADC_DATA_NEW d n = 0 → (∀ c < 64, s.get F.WC_CFG_EN d c = 0) →
       (∀ l < 24, s.get F.LEG_HSS_EN d l = 0) →
       let cs := (s.takenCodes d n (s.get F.SLOT_A_INP d n k) codes).1
       ∃ t, exec (.slotResult d n codes) s = .next t ∧ t.get F.ADC_DATA_VALUE d n = value avg cs ∧ t.get F.ADC_DATA_NEW d n = 1 ∧
         t.get F.ADC_DATA_SLOT d n = k ∧ t.get F.ADC_DATA_CLIP d n = (if clips cs then 1 else 0) ∧
         t.get F.ADC_STAT_CUR_SLOT d n = (if k < s.get F.ADC_CFG_LEN d n then k + 1 else 0) ∧ others t) ∧
     (∃ t, exec (.adcDataRead q d n) s = .next t ∧ t.get F.ADC_DATA_NEW d n = 0 ∧ t.get F.ADC_DATA_OVR d n = 0 ∧
       t.get F.ADC_DATA_VALUE d n = s.get F.ADC_DATA_VALUE d n ∧
       (s.get F.ADC_DATA_VALUE d n < 2 ^ 24 → t.answer.map (fun w => w.toNat % 2 ^ 24) = [s.get F.ADC_DATA_VALUE d n]) ∧
       others t) ∧
     (∀ (inp : BitVec 3) (avg : BitVec 4) (win : BitVec 8), s.get F.ADC_STAT_URG_PEND d n = 0 →
       ∃ t, exec (.urgentRequest q d n inp avg win) s = .next t ∧ t.get F.ADC_STAT_URG_PEND d n = 1 ∧
         t.get F.ADC_URG_INP d n = inp.toNat ∧ t.get F.ADC_URG_AVG d n = avg.toNat ∧ t.get F.ADC_URG_WIN d n = win.toNat ∧
         others t) ∧
     (s.get F.ADC_STAT_URG_PEND d n = 1 → s.adcRuns d n = true → (∀ u ∈ (s.adc d n).urgent, u.stop ≤ s.tick d * 10) →
       s.get F.ADC_URG_AVG d n ≤ 8 →
       ∃ t u, exec (.urgentStart d n) s = .next t ∧ t.get F.ADC_STAT_URG_PEND d n = 0 ∧
         (t.adc d n).urgent = (s.adc d n).urgent ++ [u] ∧ u.count = 2 ^ s.get F.ADC_URG_AVG d n ∧ u.inp = s.get F.ADC_URG_INP d n ∧
         s.tick d * 10 + 8 * (max (s.get F.ADC_URG_WIN d n) 7 + u.count) ≤ u.stop ∧
         u.stop < s.tick d * 10 + 8 * (max (s.get F.ADC_URG_WIN d n) 7 + u.count) + 8 ∧
         (t.adc d n).gap = (s.adc d n).gap + 8 * (max (s.get F.ADC_URG_WIN d n) 7 + 2 ^ s.get F.ADC_URG_AVG d n) ∧ others t) ∧
     (∀ avg u us, avg ≤ 8 → codes.length = 2 ^ avg → (s.adc d n).urgent = u :: us → u.count = codes.length →
       s.get F.IRQ_SRC_EN d (144 + n) = 0 →
       let cs := (s.takenCodes d n u.inp codes).1
       ∃ t, exec (.urgentResult d n codes) s = .next t ∧ t.get F.ADC_UDATA_NEW d n = 1 ∧
         t.get F.ADC_UDATA_VALUE d n = value avg cs ∧ t.get F.ADC_UDATA_CLIP d n = (if clips cs then 1 else 0) ∧
         (clips cs = true → t.get F.ADC_STAT_CLIP d n = 1) ∧ (t.adc d n).urgent = us ∧ others t)) ∧
  (∀ (s : State) (q : Requester) (d n : Nat), d < s.dies → n < 8 → 2 ≤ s.pkgState → s.reached q d = s →
     let k := s.get F.ADC_STAT_CHURN_STAGE d n
     let i := s.get F.CAP_PTR_PTR d n
     (s.adcRuns d n = true → k ≤ 10 → (s.adc d n).churnLeft ≠ 1 → ∃ t, exec (.churnRotate d n true) s = .next t ∧
       t.get F.ADC_STAT_CHURN_STAGE d n = (if k = 10 then 0 else k + 1) ∧
       t.get F.ADC_CHURN_ROUNDS d n = (if k = 10 then (s.get F.ADC_CHURN_ROUNDS d n + 1) % 2 ^ F.ADC_CHURN_ROUNDS.width
         else s.get F.ADC_CHURN_ROUNDS d n) ∧ t.points = s.points ∧ t.engines = s.engines) ∧
     (∀ c w ms, (s.adc d n).markers = (c, w) :: ms → c < 256 → w < 8192 → ∃ t, exec (.capMkRead q d n) s = .next t ∧
       t.answer = [BitVec.ofNat 32 (2 ^ 31 + c * 2 ^ 16 + w)] ∧ (t.adc d n).markers = ms ∧ t.cells = s.cells ∧
       t.capture = s.capture) ∧
     (i < 8192 → ∃ t, exec (.capDataRead q d n) s = .next t ∧
       t.answer = [(Store.get s.capture 0 (d * 65536 + n * 8192 + i)).zeroExtend 32] ∧ t.get F.CAP_PTR_PTR d n = (i + 1) % 8192 ∧
       RegsBut s t [F.CAP_PTR_PTR.key d n 0] ∧ t.capture = s.capture) ∧
     (∃ t, exec (.capUnfreeze q d ⟨BitVec.ofNat 3 n, false⟩) s = .next t ∧ t.get F.CAP_STAT_FROZEN d n = 0 ∧
       RegsBut s t [F.CAP_STAT_FROZEN.key d n 0] ∧ t.capture = s.capture) ∧
     exec (.capUnfreeze q d ⟨BitVec.ofNat 3 n, true⟩) s = .next s)

/-- R193, R194, R197, R198: outputs of a modulator input: each takes the bits that its ratio asks for. The main path scales
its filter to Q1.23, the short-circuit path arms after its order and compares with its threshold, and a stuck bitstream is
flagged. -/
def Obligations.ModulatorPathsScaleArmAndFlag : Prop :=
  ∀ (s : State) (d m : Nat) (bits : List Bool), d < s.dies → m < 24 → s.modRuns d m = true →
    let N := s.get F.MOD_CFG_ORD d m + 3
    let e := N * (s.get F.MOD_CFG_OSR d m + 4)
    let M := s.modIn d m
    let others := fun (t : State) => t.points = s.points ∧ t.legs = s.legs ∧ t.engines = s.engines
    (bits.length = 2 ^ (s.get F.MOD_CFG_OSR d m + 4) → e ≤ 23 → N ≤ M.outs + 1 → s.get F.MOD_CFG_PT_EN d m = 0 →
      (∀ c < 64, s.get F.WC_CFG_EN d c = 0) → (∀ l < 24, s.get F.LEG_HSS_EN d l = 0) →
      let raw := (M.main.take N bits).2
      ∃ t, exec (.modOutput d m bits) s = .next t ∧ t.get F.MOD_DATA_VALID d m = 1 ∧
        t.get F.MOD_DATA_VALUE d m = (cut24 (max (-8388608) (min 8388607 (raw * 2 ^ (23 - e))))).toNat ∧
        (t.modIn d m).main = (M.main.take N bits).1 ∧ (t.modIn d m).total = M.total + 1 ∧ others t) ∧
    (bits.length ≠ 2 ^ (s.get F.MOD_CFG_OSR d m + 4) → exec (.modOutput d m bits) s = .next s) ∧
    (let L := s.get F.MOD_CFG_SC_ORD d m + 1
     let f := L * (s.get F.MOD_CFG_SC_OSR d m + 3)
     let raw := (M.short.take L bits).2
     let v := max (-8388608) (min 8388607 (raw * 2 ^ (23 - f)))
     s.get F.MOD_CFG_SC_EN d m = 1 → bits.length = 2 ^ (s.get F.MOD_CFG_SC_OSR d m + 3) → f ≤ 23 → L ≤ M.scOuts + 1 →
      (s.get F.MOD_SC_THR d m = 0 ∨ v.natAbs ≤ s.get F.MOD_SC_THR d m) → ∃ t, exec (.modScOutput d m bits) s = .next t ∧
        t.get F.MOD_STAT_SC_ARMED d m = 1 ∧ t.get F.MOD_STAT_SC_HIT d m = s.get F.MOD_STAT_SC_HIT d m ∧ others t) ∧
    (s.get F.IRQ_SRC_EN d (152 + m) = 0 → ∃ t, exec (.modStuck d m) s = .next t ∧ t.get F.MOD_STAT_STUCK d m = 1 ∧ others t)

/-- R200, R201, R204, R205, R207: the level at a comparator is compared with its threshold, in the direction of CMP_CFG.POL;
an active output latches and counts once, and an inactive one changes no latch. The level of a converter input that a monitor
has not selected is not seen. Inside the accuracy of the threshold the outcome is a free value (log entry 21). R203, R204: at
the end of blanking an output that is still active latches and counts; an inactive one, a latch that is set and a blanking
that goes on leave everything as it is. R180, R212, R214: reference slots contribute their deviations, an average needs 50
marks and 25 slots, and a due switch to the check reference is made once its whistle has come. -/
def Obligations.ComparatorsLatchAndReferencesAverage : Prop :=
  (∀ (s : State) (d n : Nat) (inp : BitVec 6) (level : Int) (pos : BitVec 6), d < s.dies → n < 48 → s.cmpRuns d n = true →
     let scale : Int := s.thrScale.1 * 1000
     let lo : Int := (((s.thrRange d n).1.1 : Int) * 1000 - s.thrScale.2) * 1800000
     let hi : Int := (((s.thrRange d n).1.2 : Int) * 1000 + s.thrScale.2) * 1800000
     let x : Int := (level + (if n < 24 then 0 else 900000)) * scale
     let seen := n < 24 ∨ s.get F.CMP_CFG_INP d n = inp.toNat
     let out := (s.cmpOut d n level).1
     let quiet := fun (t : State) => t.points = s.points ∧ t.legs = s.legs ∧ t.engines = s.engines
     (s.get F.CMP_STAT_RAW d n = 0 →
       (s.get F.CMP_CFG_POL d n = 0 → (hi < x → out = true) ∧ (x ≤ lo → out = false)) ∧
       (s.get F.CMP_CFG_POL d n = 1 → (x < lo → out = true) ∧ (hi ≤ x → out = false))) ∧
     (¬ seen → exec (.comparatorLatch d ⟨n, inp, level, pos⟩) s = .next s) ∧
     (seen → out = false → ∃ t, exec (.comparatorLatch d ⟨n, inp, level, pos⟩) s = .next t ∧ t.get F.CMP_STAT_RAW d n = 0 ∧
       RegsBut s t [F.CMP_STAT_RAW.key d n 0] ∧ quiet t) ∧
     (seen → out = true → 24 ≤ s.get F.CMP_CFG_LEG d n → s.get F.CMP_CFG_URG d n = 0 → s.get F.IRQ_SRC_EN d (96 + n) = 0 →
       let latched := fun (t : State) => t.get F.CMP_STAT_RAW d n = 1 ∧ t.get F.CMP_STAT_LATCH d n = 1 ∧ quiet t
       (s.get F.CMP_STAT_LATCH d n = 0 → ∃ t, exec (.comparatorLatch d ⟨n, inp, level, pos⟩) s = .next t ∧ latched t ∧
         t.get F.CMP_STAT_CNT d n = min (s.get F.CMP_STAT_CNT d n + 1) (2 ^ F.CMP_STAT_CNT.width - 1)) ∧
       (s.get F.CMP_STAT_LATCH d n = 1 → ∃ t, exec (.comparatorLatch d ⟨n, inp, level, pos⟩) s = .next t ∧ latched t ∧
         t.get F.CMP_STAT_CNT d n = s.get F.CMP_STAT_CNT d n))) ∧
  (∀ (s : State) (d n : Nat) (pos : BitVec 6), d < s.dies → n < 48 → s.cmpRuns d n = true →
     let p := (s.tick d - 1) * 64 + 1 + pos.toNat
     (s.get F.CMP_STAT_RAW d n = 0 ∨ s.get F.CMP_STAT_LATCH d n = 1 ∨ s.cmpBlanked d n p = true →
       exec (.blankingEnd d n pos) s = .next s) ∧
     (s.get F.CMP_STAT_RAW d n = 1 → s.get F.CMP_STAT_LATCH d n = 0 → s.cmpBlanked d n p = false →
       s.get F.CMP_CFG_TRIP d n = 0 → s.get F.CMP_CFG_URG d n = 0 → s.get F.IRQ_SRC_EN d (96 + n) = 0 →
       ∃ t, exec (.blankingEnd d n pos) s = .next t ∧ t.get F.CMP_STAT_LATCH d n = 1 ∧
         t.get F.CMP_STAT_CNT d n = min (s.get F.CMP_STAT_CNT d n + 1) (2 ^ F.CMP_STAT_CNT.width - 1) ∧ t.points = s.points)) ∧
  (∀ (s : State) (d : Nat) (chk ext : Int), d < s.dies →
     let n := s.get F.ADC_REF_CONV d
     let R := s.ref d
     let quiet := fun (t : State) => t.points = s.points ∧ t.legs = s.legs ∧ t.engines = s.engines
     (R.refDue = true → s.adcRuns d n = true → (s.adc d n).runEnd ≤ s.tick d * 10 → exec (.referenceSlot d) s =
       .next (s.modAdc d n fun A => { A with reference := true, gap := A.gap + 512 })) ∧
     ((s.adc d n).reference = true → ∃ t, exec (.referenceSlotDone d chk ext) s = .next t ∧
       t.ref d = (let e := if s.get F.REF_CFG_EXT_EN d = 0 then 0 else ext
         { R with refDue := false, slots := R.slots + 1, dSum := R.dSum + chk, eSum := R.eSum + e }) ∧ (t.adc d n).reference = false ∧
       t.cells = s.cells ∧ quiet t) ∧
     (50 ≤ R.marks → R.slots < 25 → exec (.refAverage d) s =
       .next (s.modRef d fun R => { R with marks := 0, slots := 0, dSum := 0, eSum := 0 })) ∧
     (50 ≤ R.marks → 25 ≤ R.slots → R.cBill < 199 → R.cDrift < 199 → R.cSole < 199 → R.cExt < 199 →
       s.get F.REF_STAT_USING d = 0 → R.ignoreD = false → ∃ t, exec (.refAverage d) s = .next t ∧
       (t.ref d).marks = 0 ∧ (t.ref d).slots = 0 ∧ (t.ref d).dSum = 0 ∧ (t.ref d).formed = true ∧
       (t.ref d).cDrift = (if R.slots * 250 < R.dSum.natAbs then R.cDrift + 1 else 0) ∧
       (t.ref d).cBill = (if R.slots * 500 < R.dSum.natAbs then R.cBill + 1 else 0) ∧ quiet t) ∧
     (R.switchDue = 2 → s.recQueue = none → ∃ t, exec (.refSwitch d) s = .next t ∧ t.get F.REF_STAT_USING d = 1 ∧
       (t.ref d).switchDue = 0 ∧ quiet t))

/-! ### Herds, roles and control law -/

/-- R280, R283, R285, R288, R289, R291: what the commands of a herd's law do: one record of a long VSAT episode, the start of
a heel at SRC, one sample of a detector channel, and the enables. -/
def Obligations.LawUnitsFollowTheirCommands : Prop :=
  ∀ (s : State) (q : Requester) (h : Nat), h < 8 * s.dies → 2 ≤ s.pkgState → s.reached q (h / 8) = s →
    let d := h / 8
    let l := h % 8
    let H := s.herd h
    let others := fun (t : State) => t.engines = s.engines ∧ t.legs = s.legs ∧ t.queues = s.queues
    (s.get F.LAW_STAT_VSAT_NOW d l = 1 → H.vsatRecorded = false → H.vsatAt + 1000000 ≤ s.tick d → exec (.vsatLong h) s =
      .next ((s.modHerdRun h fun H => { H with vsatRecorded := true }).hwRecord d
        (if s.get F.HERD_CTL_ROLE d l = 4 then 0x0401 else 0x0402) (some h) noLeg H.vsatEntry 0 0)) ∧
    (∀ j < 4, let o := s.get F.HEEL_OUT_POINT d l j
      let started := fun (t : State) => t.point o = s.point (s.get F.HEEL_SRC_POINT d l j) ∧
        (∀ p, p ≠ o → t.point p = s.point p) ∧ Store.get (t.herd h).heelAt 0 j = s.tick d + 1 ∧ others t
      (s.get F.HEEL_SRC_EN d l j = 1 → s.pointStatus o = .ok →
        ∃ t, exec (.heelRestart q h (BitVec.ofNat 4 (2 ^ j))) s = .next t ∧ started t) ∧
      (s.get F.HEEL_SRC_EN d l j = 0 → s.pointStatus o = .ok → s.herdState h = .running →
        ∃ t, exec (.heelEnable q h j) s = .next t ∧ t.get F.HEEL_SRC_EN d l j = 1 ∧ started t) ∧
      (s.get F.HEEL_SRC_EN d l j = 0 → s.herdState h ≠ .running →
        exec (.heelEnable q h j) s = .next (s.put F.HEEL_SRC_EN 1 d l j))) ∧
    (∀ c, s.oscDue h = [c] →
      let O := s.osc h c
      let x := (s.point (s.get F.OSC_CFG_POINT d l c)).toInt
      let m := if O.first then x else O.m
      let m' := m + (x - m) / 2 ^ s.get F.OSC_PAR_MSH d l c
      let window := 2 ^ (s.get F.OSC_PAR_WLEN d l c + 6)
      (O.n + 1 ≠ window → ∃ t, exec (.oscSample h) s = .next t ∧ (t.osc h c).m = m' ∧ (t.osc h c).first = false ∧
        (t.osc h c).amp = max O.amp (x - m').natAbs ∧ (t.osc h c).n = O.n + 1 ∧ (t.osc h c).at_ = s.tick d ∧
        t.cells = s.cells ∧ t.points = s.points ∧ others t) ∧
      (O.n + 1 = window → O.wins < 4 → max O.amp (x - m').natAbs < 2 ^ 24 → ∃ t, exec (.oscSample h) s = .next t ∧
        (t.osc h c).m = m' ∧ (t.osc h c).n = 0 ∧ (t.osc h c).amp = 0 ∧ (t.osc h c).wins = O.wins + 1 ∧ (t.osc h c).run = 0 ∧
        t.get F.OSC_MEAS_AMP d l c = max O.amp (x - m').natAbs ∧ t.points = s.points ∧ others t)) ∧
    (∀ c < 4, s.get F.OSC_CFG_EN d l c = 0 →
      ((s.herdState h).locked = false → ∃ t, exec (.oscEnable q h c) s = .next t ∧ t.get F.OSC_CFG_EN d l c = 1 ∧
        t.osc h c = { OscRun.reset with at_ := s.tick d } ∧ t.points = s.points ∧ others t) ∧
      ((s.herdState h).locked = true → ∃ t, exec (.oscEnable q h c) s = .next t ∧ t.get F.OSC_CFG_EN d l c = 0 ∧
        t.get F.DIE_WREF_CNT d = min (s.get F.DIE_WREF_CNT d + 1) 0xFFFF ∧ t.oscs = s.oscs ∧ t.points = s.points ∧ others t))

/-- R294, R298 to R301, R303: the commands of a herd: in the states in which the table of R298 accepts them they do its
transition, elsewhere they are refused and leave all but CMD_RES and the herd's note of the tick's events as it was. Of the
events of one tick SAFE comes first, then FAULT, then the other commands (R299): one that arrives after a command that it
precedes takes effect before it, as for UNBIND and SAFE in the last clause; how the model orders them, and that a BIND or
RECOVER of the same tick has overtaken them, is log entry 10. R305 to R307: the checks of ARM: what each of the six demands,
that they wait, that they pass and the herd is ARMED, or that one fails and the herd is FAULTED; and at their timeout the
check in progress has failed. -/
def Obligations.HerdsFollowTheStateTableAndArm : Prop :=
  (∀ (s : State) (q : Requester) (h : Nat), h < 8 * s.dies → 2 ≤ s.pkgState → s.reached q (h / 8) = s → s.recQueue = none →
     s.get F.REG_STAT_BURST (h / 8) (h % 8) = 0 → s.get F.REG_STAT_ASLEEP (h / 8) (h % 8) = 0 →
     let d := h / 8
     let l := h % 8
     let st := s.herdState h
     let answers := fun (c : Instr) (r : Status) => ∃ t, exec c s = .next t ∧
       { t with herds := s.herds } = s.put F.HERD_STAT_CMD_RES r.code d l ∧ (∀ k, k ≠ h → t.herd k = s.herd k) ∧
       { t.herd h with tick := (s.herd h).tick } = s.herd h
     let refused := fun (c : Instr) => answers c .refused
     let goes := fun (c : Instr) (new : HState) (P : State → Prop) => ∃ t, exec c s = .next t ∧ t.herdState h = new ∧
       t.get F.HERD_STAT_CMD_RES d l = 0 ∧ P t ∧ t.engines = s.engines ∧ t.queues = s.queues
     let still := fun (t : State) => t.points = s.points
     (st = .unbound → s.bindable h = true → goes (.bind q h) .bound still) ∧
     (st ≠ .unbound ∨ s.bindable h = false → refused (.bind q h)) ∧
     (st = .bound → s.get F.HERD_STAT_CHECKING d l = 0 → goes (.unbind q h) .unbound fun t =>
       still t ∧ ∀ k < s.dies, (∀ n < 24, t.legHerd k n ≠ some h ∧ t.modHerd k n ≠ some h) ∧
         (∀ n < 8, t.adcHerd k n ≠ some h) ∧ ∀ b < 16, t.abHerd k b ≠ some h) ∧
     (st ≠ .bound ∨ s.get F.HERD_STAT_CHECKING d l ≠ 0 → refused (.unbind q h)) ∧
     (s.armStatus h = .ok → goes (.arm q h) .bound fun t => still t ∧ t.get F.HERD_STAT_CHECKING d l = 1 ∧
       (t.herd h).check = some 0 ∧ t.get F.HERD_CHK_FAILED d l = 0) ∧
     (s.armStatus h ≠ .ok → answers (.arm q h) (s.armStatus h)) ∧
     (s.armStatus h = .ok ↔ s.pkgState = 4 ∧ (s.herd h).roleAt = none ∧ st = .bound ∧ s.get F.HERD_STAT_CHECKING d l = 0 ∧
       2 ≤ s.get F.HERD_CTL_ROLE d l ∧ (∀ p ∈ s.herdLegs h, s.get F.LEG_MODE_EN p.1 p.2 ≠ 0) ∧
       (s.get F.HERD_CTL_ROLE d l = 4 → s.get F.REG_CFG_EN d l ≠ 0 → s.regOk h = true)) ∧
     (st = .armed → goes (.run q h) .running fun t => t.get F.LAW_STAT_COLD d l = 1) ∧ (st ≠ .armed → refused (.run q h)) ∧
     (st = .running → goes (.stop q h) .stopping fun t => still t ∧ (t.herd h).stopAt = s.tick d) ∧
     (st = .armed → goes (.stop q h) .bound still) ∧
     (st = .bound → s.get F.HERD_STAT_CHECKING d l = 1 → goes (.stop q h) .bound fun t => still t ∧
       t.get F.HERD_STAT_CHECKING d l = 0) ∧
     (st = .unbound ∨ st = .stopping ∨ st = .faulted ∨ st = .safe → refused (.stop q h)) ∧
     (st = .stopping → s.fromTask q h = true → goes (.stopped q h) .bound still) ∧
     (st ≠ .stopping ∨ s.fromTask q h = false → refused (.stopped q h)) ∧
     (st ≠ .unbound → st ≠ .safe → s.justBound h = false → s.overtaken h 0 = false → goes (.safe q h) .safe still) ∧
     (st = .unbound ∨ st = .safe → s.overtaken h 0 = false → refused (.safe q h)) ∧
     (st = .faulted ∨ st = .safe → s.herdDfault h = false → goes (.recover q h) .bound fun t => still t ∧
       t.get F.HERD_STAT_FAULT_CAUSE d l = 0 ∧ ∀ pe, (t.eng pe).dfault = (s.eng pe).dfault) ∧
     (st ≠ .faulted → st ≠ .safe → refused (.recover q h)) ∧ (s.herdDfault h = true → refused (.recover q h)) ∧
     (st ≠ .unbound → s.justBound h = false → s.overtaken h 1 = false →
       goes (.fault q h) (if st = .safe then .safe else .faulted) fun t => still t ∧ 64 ≤ t.get F.HERD_STAT_FAULT_CAUSE d l) ∧
     (st = .unbound → s.overtaken h 1 = false → refused (.fault q h)) ∧
     (st = .stopping → (s.herd h).stopAt + (s.get F.HERD_CTL_STOP_TMO d l + 1) * 100000 ≤ s.tick d →
       ∃ t, exec (.stopTimeout h) s = .next t ∧ t.herdState h = .bound ∧ still t ∧ t.engines = s.engines) ∧
     (∀ pe, st = .bound → s.get F.HERD_STAT_CHECKING d l = 0 → s.justBound h = false → (s.herd h).tick.at_ ≠ s.tick d + 1 →
       ∃ t u, exec (.unbind (.engine pe) h) s = .next t ∧ exec (.safe (.engine pe) h) t = .next u ∧ u.herdState h = .safe ∧
         u.get F.HERD_STAT_CMD_RES d l = Status.refused.code ∧ u.herdLegs h = s.herdLegs h ∧ still u)) ∧
  (∀ (s : State) (h : Nat) (mm : List Nat), h < 8 * s.dies → s.recQueue = none → s.herdState h = .bound →
     let d := h / 8
     let l := h % 8
     let failed := fun (c : Instr) (k : Nat) => ∃ t, exec c s = .next t ∧ t.herdState h = .faulted ∧
       t.get F.HERD_CHK_FAILED d l = 2 ^ (5 - k) ∧ t.get F.HERD_STAT_CHECKING d l = 0 ∧ (t.herd h).check = none ∧
       t.points = s.points ∧ t.engines = s.engines
     let gated := fun (p : Nat × Nat) => p ∈ s.herdLegs h ∧ s.get F.GATE_CFG_EN p.1 p.2 ≠ 0
     let rested := fun (p : Nat × Nat) => (s.leg p.1 p.2).gsFree ≤ s.tick p.1 * 64 + 128
     let rail := s.point (s.get F.HSS_RAIL_POINT d l)
     let node := fun (p : Nat × Nat) => Store.find (s.herd h).hss (p.1 * 24 + p.2)
     (s.check h mm 0 = .passes ↔ ∀ p ∈ s.herdLegs h, s.get F.LEG_STAT_TRIP p.1 p.2 = 0) ∧ s.check h mm 0 ≠ .waits ∧
     (s.check h mm 1 = .waits ↔ ∃ p, gated p ∧ ¬ rested p) ∧
     (s.check h mm 1 = .passes ↔ ∀ p, gated p → rested p ∧ s.get F.GATE_STAT_PGH p.1 p.2 = 0 ∧ s.get F.GATE_STAT_PGL p.1 p.2 = 0 ∧
       p.1 * 24 + p.2 ∉ mm) ∧
     (s.check h mm 2 = .passes ↔ ∀ p, gated p → s.get F.GATE_STAT_GF p.1 p.2 ≠ 0 ∧
       ∃ t, (s.leg p.1 p.2).gfHighSince = some t ∧ t + 1000 ≤ s.tick p.1) ∧ (s.check h mm 2 = .passes ∨ s.check h mm 2 = .waits) ∧
     (s.check h mm 3 = .passes ↔ ∀ k < s.dies, (∀ n < 8, s.adcHerd k n = some h → s.get F.ADC_STAT_CAL_PENDING k n = 0 ∧
         s.get F.ADC_STAT_CAL_FAULT k n = 0) ∧
       ((∃ n < 8, s.adcHerd k n = some h) ∨ (∃ n < 24, s.modHerd k n = some h) → (s.ref k).formed = true)) ∧
     (s.check h mm 3 = .passes ∨ s.check h mm 3 = .waits) ∧
     (s.check h mm 4 = .passes ↔ ∀ p ∈ s.herdLegs h, s.get F.LEG_HSS_EN p.1 p.2 ≠ 0 → ∃ n, node p = some n ∧
       (0x0CCCCD ≤ rail.toInt → n.toInt ≤ (aluMul rail 0x733333).1.toInt)) ∧
     (s.check h mm 5 = .passes ↔ ∀ i < 8, s.get F.HERD_PLB_EN d l i ≠ 0 → let v := (s.point (s.get F.HERD_PLB_POINT d l i)).toInt
       s.getI F.HERD_PLB_LO_LO d l i ≤ v ∧ v ≤ s.getI F.HERD_PLB_HI_HI d l i) ∧ s.check h mm 5 ≠ .waits ∧
     (∀ k, (s.herd h).check = some k → s.check h mm k = .waits → ∃ t, exec (.armCheckComplete h mm) s = .next t ∧
       { t with herds := s.herds } = s ∧ { t.herd h with tick := (s.herd h).tick } = s.herd h) ∧
     ((s.herd h).check = some 5 → (∀ i < 8, s.get F.HERD_PLB_EN d l i = 0) → ∃ t, exec (.armCheckComplete h mm) s = .next t ∧
       t.herdState h = .armed ∧ t.get F.HERD_STAT_CHECKING d l = 0 ∧ (t.herd h).check = none ∧
       (∀ k < 16, t.get F.LEASH_LAST_SET d l k = 0) ∧ t.points = s.points ∧ t.engines = s.engines) ∧
     (∀ k at_, k ≤ 5 → (s.herd h).check = some k → s.check h mm k = .fails at_ → failed (.armCheckComplete h mm) k) ∧
     (∀ k, k ≤ 5 → (s.herd h).check = some k → (s.herd h).armAt + (s.get F.HERD_CTL_CHK_TMO d l + 1) * 100000 ≤ s.tick d →
       failed (.armCheckTimeout h) k))

/-- R301: RECOVER of a FAULTED or SAFE herd is refused while an engine of its die with an enabled task of the herd is in
DFAULT, and changes nothing but CMD_RES then; else it is accepted, clears FAULT_CAUSE, and leaves every latched leg trip
latched. -/
def Obligations.RecoverWaitsForDfaultAndClearsTheCauses : Prop :=
  ∀ (s : State) (q : Requester) (h : Nat), h < 8 * s.dies → 2 ≤ s.pkgState → s.reached q (h / 8) = s →
    s.herdState h = .faulted ∨ s.herdState h = .safe →
    let d := h / 8
    let l := h % 8
    let held := ∃ e < 32, (s.eng (d * 32 + e)).dfault = true ∧ ∃ k < 32, s.get F.ENG_TCFG_EN d e k ≠ 0 ∧
      s.get F.ENG_TCFG_HB d e k ≠ 0 ∧ s.get F.ENG_TCFG_HERD d e k = l
    (held → ∃ t, exec (.recover q h) s = .next t ∧ t.herdState h = s.herdState h ∧ t.legs = s.legs ∧
      RegsBut s t [F.HERD_STAT_CMD_RES.key d l 0] ∧ t.get F.HERD_STAT_CMD_RES d l = Status.refused.code) ∧
    (¬ held → ∃ t, exec (.recover q h) s = .next t ∧ t.herdState h = .bound ∧ t.get F.HERD_STAT_FAULT_CAUSE d l = 0 ∧
      t.get F.HERD_STAT_CMD_RES d l = Status.ok.code ∧ ∀ e n, e < s.dies → n < 24 → t.get F.LEG_STAT_TRIP e n = s.get F.LEG_STAT_TRIP e n)

/-- R293: a write that would change an owner entry takes effect exactly when the herd that the entry names and the herd that
the write names, each where one is named, are UNBOUND or BOUND and the named herd's home die exists; in every other case the
write is refused and counted (R570). By R566 a write of what the entry holds changes nothing; that an entry with EN = 0 names
no herd is log entry 42. R297, R304, R309, R312, R334, R356, R558: roles and the role units that a write stops, the copies of
a herd's state on member dies, and the age of a command point. -/
def Obligations.OwnersRolesCopiesAndCommandPointAges : Prop :=
  (∀ (s : State) (q : Requester) (d : Nat) (kind : OwnKind) (n : Nat) (en : Bool) (x : BitVec 6), d < s.dies → 2 ≤ s.pkgState →
     s.reached q d = s →
     let f := ownFields kind
     let same := s.get f.1 d n = en.toNat ∧ s.get f.2.1 d n = x.toNat
     let open_ := (∀ h, s.ownerOf f.1 f.2.1 d n = some h → s.bindingOpen d h = true) ∧
       (en = true → x.toNat / 8 < s.dies ∧ s.bindingOpen d x.toNat = true)
     n < f.2.2 →
     (same → exec (.ownerWrite q d kind n en x) s = .next s) ∧
     (¬ same → open_ → ∃ t, exec (.ownerWrite q d kind n en x) s = .next t ∧
       t.get f.1 d n = en.toNat ∧ t.get f.2.1 d n = x.toNat ∧ t.points = s.points ∧ t.engines = s.engines ∧ t.queues = s.queues) ∧
     (¬ same → ¬ open_ → ∃ t, exec (.ownerWrite q d kind n en x) s = .next t ∧ t = s.wref q f.1 d n ∧
       t.get F.DIE_WREF_CNT d = min (s.get F.DIE_WREF_CNT d + 1) 0xFFFF ∧
       t.get f.1 d n = s.get f.1 d n ∧ t.get f.2.1 d n = s.get f.2.1 d n)) ∧
  (∀ (s : State) (q : Requester) (d h : Nat), d < s.dies → h < 8 * s.dies → 2 ≤ s.pkgState → s.reached q (h / 8) = s →
     let l := h % 8
     (∀ r : BitVec 3, s.get F.HERD_CTL_ROLE (h / 8) l ≠ r.toNat → (s.herdState h = .unbound ∨ s.herdState h = .bound →
       ∃ t, exec (.roleWrite q h r) s = .next t ∧ t.get F.HERD_CTL_ROLE (h / 8) l = r.toNat ∧
         (t.herd h).roleAt = some (s.tick (h / 8)) ∧ t.points = s.points ∧
         ∀ k f, (k, f) ∈ [(2, F.DRV_CFG_EN), (3, F.CH_CFG_EN), (4, F.REG_CFG_EN), (5, F.TRK_CFG_EN), (6, F.GRD_CFG_EN)] →
           t.get f (h / 8) l = if r.toNat = k then s.get f (h / 8) l else 0) ∧
       (s.herdState h ≠ .unbound → s.herdState h ≠ .bound →
         exec (.roleWrite q h r) s = .next (s.wref q F.HERD_CTL_ROLE (h / 8) l))) ∧
     (∀ t0, (s.herd h).roleAt = some t0 → s.get F.HERD_CTL_ROLE (h / 8) l = 4 → ∃ t, exec (.roleChangeDone h) s = .next t ∧
       (t.herd h).roleAt = none ∧ t.get F.REG_CFG_EN (h / 8) l = s.get F.REG_CFG_EN (h / 8) l ∧
       t.get F.DRV_CFG_EN (h / 8) l = 0 ∧ t.get F.CH_CFG_EN (h / 8) l = 0 ∧ t.get F.TRK_CFG_EN (h / 8) l = 0 ∧
       t.get F.GRD_CFG_EN (h / 8) l = 0 ∧ t.legs = s.legs) ∧
     (d ≠ h / 8 → ∃ t, exec (.herdStateCopy d h) s = .next t ∧ t.herdStateAt d h = s.herdState h ∧ t.points = s.points ∧
       t.engines = s.engines) ∧
     (∀ j < 4, s.get F.CP_CFG_EN (h / 8) l j = 1 → s.get F.CP_TMO_TMO (h / 8) l j ≠ 0 →
       exec (.commandPointStale h j) s = .next (if s.get F.CP_TMO_TMO (h / 8) l j * 1000 < s.cpAge h j then
         s.put F.CP_STAT_STALE 1 (h / 8) l j else s)))

/-- R312, R326, R328, R330: the REGULATE manager is enabled under its conditions only, which are said here (that a source
counts as enabled when it is selected or CP_EN is set is log entry 22); an overload that lasts faults its herd; a burst ends
in sleep with every phase masked, and burst mode ends with its enable. -/
def Obligations.RegulateManagerFollowsItsCommands : Prop :=
  ∀ (s : State) (q : Requester) (h : Nat), h < 8 * s.dies → 2 ≤ s.pkgState → s.reached q (h / 8) = s → s.recQueue = none →
    let d := h / 8
    let l := h % 8
    let still := fun (t : State) => t.points = s.points ∧ t.engines = s.engines ∧ t.queues = s.queues
    let n := (s.regLegs h).length
    let home := fun (p : Nat) => pointDie p = d
    (s.regOk h = true ↔ s.get F.HERD_CTL_ROLE d l = 4 ∧ 1 ≤ n ∧ n ≤ 48 ∧
      max (s.get F.REG_CFG_N_MIN d l) 1 ≤ s.get F.REG_CFG_N_MAX d l ∧ s.get F.REG_CFG_N_MAX d l ≤ n ∧
      (∀ p ∈ s.regLegs h, let k := s.get F.REG_LCFG_CMP p.1 p.2
        k < 48 ∧ s.get F.CMP_CFG_LEG p.1 k = p.2 ∧ s.get F.CMP_CFG_CBC p.1 k ≠ 0 ∧ s.get F.CMP_CFG_LMODE p.1 k ≠ 0 ∧
        home (s.get F.REG_LIPT_POINT p.1 p.2)) ∧
      s.getI F.REG_ISHED_I_SHED d l < s.getI F.REG_IADD_I_ADD d l ∧
      s.getI F.REG_IBURST_I_BURST d l < s.getI F.REG_IBEXIT_I_BEXIT d l ∧
      home (s.get F.REG_IPK_POINT d l) ∧ home (s.get F.REG_VREF_POINT d l) ∧
      ∀ k < 3, s.get F.SRC_CFG_CP_EN d l k ≠ 0 ∨ s.get F.REG_VSEL_SRC d l = k → home (s.get F.SRC_CFG_POINT d l k)) ∧
    (s.get F.REG_CFG_EN d l = 0 → (s.herdState h).locked = false → s.regOk h = true → ∃ t, exec (.regEnable q h) s = .next t ∧
      t.get F.REG_CFG_EN d l = 1 ∧ t.get F.REG_STAT_CFG_RES d l = 0 ∧ t.get F.REG_STAT_N_PH d l = (s.regLegs h).length ∧
      t.legs = s.legs ∧ still t) ∧
    (s.get F.REG_CFG_EN d l = 0 → (s.herdState h).locked = false → s.regOk h = false →
      exec (.regEnable q h) s = .next (s.put F.REG_STAT_CFG_RES Status.refused.code d l)) ∧
    (s.get F.REG_CFG_EN d l = 1 → s.herdState h = .running → s.get F.REG_STAT_OVL d l = 1 → s.get F.REG_STAT_BURST d l = 0 →
      s.get F.REG_STAT_ASLEEP d l = 0 → s.get F.CH_STAT_ENG d l = 0 → s.justBound h = false → s.overtaken h 1 = false →
      (s.reg h).ovlSince + max (s.get F.REG_TIME_TOVL d l) 1 * 100000 ≤ s.tick d → ∃ t, exec (.regOverload h) s = .next t ∧
        t.get F.REG_STAT_OVL_TRIP d l = 1 ∧ t.herdState h = .faulted ∧ still t) ∧
    (s.get F.REG_STAT_BURST d l = 1 → s.get F.REG_STAT_ASLEEP d l = 0 → (s.reg h).burstWait = false → (s.reg h).burstLeft = 0 →
      s.herdActive h = true → s.get F.REG_CFG_RET d l = 0 → s.get F.REG_BSLOT_DS0_EN d l = 0 → s.get F.REG_BSLOT_DS1_EN d l = 0 →
      (∀ p ∈ (s.reg h).phases, p.1 < s.dies ∧ p.2 < 24) → s.get F.REG_BURST_WC d l < 64 → s.get F.WC_CFG_STATE d (s.get F.REG_BURST_WC d l) ≠ 1 → ∃ t, exec (.burstSleep h) s = .next t ∧
        t.get F.REG_STAT_ASLEEP d l = 1 ∧ t.get F.REG_CNT2_SLEEP_CNT d l = min (s.get F.REG_CNT2_SLEEP_CNT d l + 1) 0xFFFF ∧
        (∀ p ∈ (s.reg h).phases, (t.leg p.1 p.2).burstMask = true ∧
          t.getBit F.GRP_MASK_MASK (p.2 % 6) p.1 (p.2 / 6) = false) ∧ (t.reg h).sleepAt = s.tick d ∧ still t) ∧
    (∃ t, exec (.burstDisable q h) s = .next t ∧ t.get F.REG_CFG_BURST_EN d l = 0 ∧ t.get F.REG_STAT_BURST d l = 0 ∧
      t.legs = s.legs ∧ still t)

/-- R334, R342 to R348: DRIVE herds: the enable and its conditions, the end of a catch window, the end of an ASC period, and
a winding short and its release. R349, R350, R352: the chopper: it is enabled under its conditions, which are said here, with
every section released; a sample that is not due does nothing; one with the voltage above V_ON engages the section of a
chopper of one section that is cool and released. -/
def Obligations.DriveAndChopHerdsFollowTheirCommands : Prop :=
  (∀ (s : State) (q : Requester) (h : Nat), h < 8 * s.dies → 2 ≤ s.pkgState → s.reached q (h / 8) = s → s.recQueue = none →
     let d := h / 8
     let l := h % 8
     let still := fun (t : State) => t.engines = s.engines ∧ t.queues = s.queues
     let held := fun (b ty : Nat) => s.abHerd d b = some h ∧ s.get F.AB_CFG_TYPE d b = ty
     let grouped := fun (p : Nat × Nat) => p ∈ s.drvLegs h ∧ s.get F.DRV_LCFG_QG_EN p.1 p.2 ≠ 0
     (s.driveOk h = true ↔ s.get F.HERD_CTL_ROLE d l = 2 ∧
       (s.get F.DRV_CFG_POS d l = 0 → held (s.get F.DRV_CFG_SHAFT d l) 2) ∧
       (s.get F.DRV_CFG_POS d l ≠ 0 → held (s.get F.DRV_CFG_PBASE d l) 3 ∧
         s.get F.AB_CFG_PMODE d (s.get F.DRV_CFG_PBASE d l) = if s.get F.DRV_CFG_POS d l = 1 then 0 else 2) ∧
       (∀ p, grouped p → s.get F.LEG_MODE_WAVE p.1 p.2 = 0 ∧ (s.get F.DRV_CFG_STAGE d l ≠ 2 → ∀ q, grouped q →
         s.get F.DRV_LCFG_QG p.1 p.2 = s.get F.DRV_LCFG_QG q.1 q.2 → p.1 = q.1)) ∧
       (s.get F.DRV_FLY_EN d l ≠ 0 → pointDie (s.get F.DRV_FAMP_POINT d l) = d ∧ pointDie (s.get F.DRV_FVDC_POINT d l) = d)) ∧
     (s.get F.DRV_CFG_EN d l = 0 → (s.herdState h).locked = false →
       (s.driveOk h = true → exec (.driveEnable q h) s = .next ((s.put F.DRV_CFG_EN 1 d l).put F.DRV_STAT_CFG_RES 0 d l)) ∧
       (s.driveOk h = false → exec (.driveEnable q h) s = .next (s.put F.DRV_STAT_CFG_RES Status.refused.code d l))) ∧
     (s.catchDue h 1 (s.get F.DRV_FLY_FLY_T d l) = true →
       let amp := (s.point (s.get F.DRV_FAMP_POINT d l)).toInt
       (amp < s.getI F.DRV_FAMIN_AMIN d l → ∃ t, exec (.catchWindowEnd h) s = .next t ∧ t.get F.DRV_STAT_FSTATE d l = 3 ∧ still t) ∧
       (s.getI F.DRV_FAMIN_AMIN d l ≤ amp →
         amp ≤ (aluMul (s.point (s.get F.DRV_FVDC_POINT d l)) (BitVec.ofNat 24 (s.get F.DRV_FLIM_KMAX d l))).1.toInt →
         (s.drv h).seeded = false → s.get F.DRV_STAT_FTRIES d l < s.get F.DRV_FLY_TRIES d l → s.get F.DRV_FLY_TRIES d l < 16 →
         ∃ t, exec (.catchWindowEnd h) s = .next t ∧ t.get F.DRV_STAT_FSTATE d l = 1 ∧
           t.get F.DRV_STAT_FTRIES d l = s.get F.DRV_STAT_FTRIES d l + 1 ∧ (t.drv h).winAt = s.tick d ∧ t.points = s.points ∧
           t.legs = s.legs ∧ still t)) ∧
     (s.catchDue h 2 (max (s.get F.DRV_FLY_ASC_T d l) 1) = true → s.get F.DRV_STAT_FTRIES d l < s.get F.DRV_FLY_TRIES d l →
       s.get F.DRV_FLY_TRIES d l < 16 → ∃ t, exec (.ascPeriodEnd h) s = .next t ∧ t.get F.DRV_STAT_WS_ACTIVE d l = 0 ∧
         t.get F.DRV_STAT_FSTATE d l = 1 ∧ t.get F.DRV_STAT_FTRIES d l = s.get F.DRV_STAT_FTRIES d l + 1 ∧
         (∀ p ∈ s.herdLegs h, (t.leg p.1 p.2).short = none) ∧ t.points = s.points ∧ still t) ∧
     exec (.seeded q h) s = .next (s.modDrv h fun D => { D with seeded := true }) ∧
     (s.shortOk h = false → exec (.wsLow q h) s = .next (s.put F.DRV_STAT_WS_RES Status.refused.code d l) ∧
       exec (.wsHigh q h) s = .next (s.put F.DRV_STAT_WS_RES Status.refused.code d l)) ∧
     (s.shortOk h = true →
       let shorted := fun (t : State) (m : HoldMode) => t.get F.DRV_STAT_WS_ACTIVE d l = 1 ∧
         t.get F.DRV_STAT_WS_RES d l = 0 ∧ t.get F.DRV_CNT_WS_CNT d l = min (s.get F.DRV_CNT_WS_CNT d l + 1) 0xFFFF ∧
         (∀ n ∈ s.herdLegsOn d h, s.get F.DRV_LCFG_PH d n = 1 → (t.leg d n).short = some m) ∧ t.points = s.points ∧ still t
       (∃ t, exec (.wsLow q h) s = .next t ∧ shorted t .ascLow) ∧ ∃ t, exec (.wsHigh q h) s = .next t ∧ shorted t .ascHigh) ∧
     (s.get F.DRV_STAT_WS_ACTIVE d l = 1 → ∃ t, exec (.wsRelease q h) s = .next t ∧ t.get F.DRV_STAT_WS_ACTIVE d l = 0 ∧
       t.get F.DRV_STAT_WS_RES d l = 0 ∧ (∀ p ∈ s.herdLegs h, (t.leg p.1 p.2).shortRelease = (s.leg p.1 p.2).short.isSome) ∧
       t.points = s.points ∧ still t)) ∧
  (∀ (s : State) (q : Requester) (h : Nat), h < 8 * s.dies → 2 ≤ s.pkgState → s.reached q (h / 8) = s →
     let d := h / 8
     let l := h % 8
     let p := s.get F.CH_SCFG_LEG d l 0
     let n := s.get F.CH_CFG_NSEC d l
     (s.chopOk h = true ↔ s.get F.HERD_CTL_ROLE d l = 3 ∧ 1 ≤ n ∧ n ≤ 8 ∧
       (∀ k < n, let c := s.get F.CH_SCFG_LEG d l k
         20 ≤ c % 24 ∧ s.legHerd (c / 24) (c % 24) = some h ∧ (∀ j < n, s.get F.CH_SCFG_LEG d l j = c → j = k) ∧
         (s.get F.CH_SCFG_ON d l k = 1 ∨ s.get F.CH_SCFG_ON d l k = 2) ∧ s.get F.CH_RTH_RTH d l k ≠ 0 ∧
         s.get F.CH_CTH_CTH d l k ≠ 0) ∧
       s.getI F.CH_VOFF_VOFF d l < s.getI F.CH_VON_VON d l ∧ pointDie (s.get F.CH_VDC_POINT d l) = d ∧
       (s.get F.CH_AVPT_EN d l ≠ 0 → pointDie (s.get F.CH_AVPT_POINT d l) = d)) ∧
     (s.get F.CH_CFG_EN d l = 0 → (s.herdState h).locked = false →
       (s.chopOk h = true → (∀ k < s.get F.CH_CFG_NSEC d l, s.sectionLeg h k < 24 * s.dies) → ∃ t, exec (.chopEnable q h) s = .next t ∧ t.get F.CH_CFG_EN d l = 1 ∧ t.get F.CH_STAT_CFG_RES d l = 0 ∧
         (∀ k < s.get F.CH_CFG_NSEC d l, t.getI F.CH_TEST_TEST d l k = s.getI F.CH_TAMB_TAMB d l * 256 ∧
           t.get F.LEG_FORCE_FORCE (s.sectionLeg h k / 24) (s.sectionLeg h k % 24) = 3) ∧ t.points = s.points) ∧
       (s.chopOk h = false → exec (.chopEnable q h) s = .next (s.put F.CH_STAT_CFG_RES Status.refused.code d l))) ∧
     (s.get F.CH_CFG_EN d l = 1 → s.tick d < (s.chop h).at_ + max (s.get F.CH_CFG_SPER d l) 1 →
       exec (.chopSample h) s = .next s) ∧
     (s.get F.CH_CFG_EN d l = 1 → (s.chop h).at_ + max (s.get F.CH_CFG_SPER d l) 1 ≤ s.tick d → s.herdState h = .running →
       s.get F.CH_CFG_NSEC d l = 1 → s.get F.CH_STAT_ENG d l = 0 → s.get F.CH_STAT_LOCK d l = 0 →
       Store.get (s.chop h).rise 0 0 = 0 → s.getI F.CH_TAMB_TAMB d l < s.get F.CH_TLIM_TLIM d l 0 →
       s.get F.CH_TMEAS_EN d l 0 = 0 → s.get F.CH_AVPT_EN d l = 0 → 1 ≤ s.get F.CH_SCFG_ON d l 0 → s.get F.CH_SCFG_ON d l 0 ≤ 2 → p < 24 * s.dies →
       s.getI F.CH_VON_VON d l < (s.point (s.get F.CH_VDC_POINT d l)).toInt →
       ∃ t, exec (.chopSample h) s = .next t ∧ t.get F.CH_STAT_ENG d l = 1 ∧
         t.get F.LEG_FORCE_FORCE (p / 24) (p % 24) = s.get F.CH_SCFG_ON d l 0 ∧ (t.chop h).at_ = s.tick d ∧
         t.getI F.CH_TEST_TEST d l 0 = s.getI F.CH_TAMB_TAMB d l * 256 ∧ t.points = s.points ∧ t.engines = s.engines))

/-- R356, R359, R360, R362 to R365, R373 to R375, R377, R388: the commands of a GRID herd, with the conditions of its enable,
of a trip and of an islanding. Times are those of its last evaluation; its scales and free roundings are log entry 24, and
what a declaration on the tick of another event of the herd does is log entry 10. -/
def Obligations.GridMonitorFollowsItsCommands : Prop :=
  ∀ (s : State) (q : Requester) (h : Nat), h < 8 * s.dies → 2 ≤ s.pkgState → s.reached q (h / 8) = s → s.recQueue = none →
    let d := h / 8
    let l := h % 8
    let G := s.grd h
    let t0 := s.tick d
    let still := fun (t : State) => t.engines = s.engines ∧ t.queues = s.queues
    let home := fun (p : Nat) => pointDie p = d
    let dev : Int := (s.get F.MT_FREQ_FREQ d (s.grdTracker h) : Int) - (if s.get F.MT_CFG_NOM d (s.grdTracker h) = 0 then 50 else 60) * 65536
    let hold := s.get F.MT_STAT_HOLD d (s.grdTracker h)
    (s.gridOk h = true ↔ s.get F.HERD_CTL_ROLE d l = 6 ∧ s.abHerd d (s.get F.GRD_CFG_BASE d l) = some h ∧
      s.get F.AB_CFG_TYPE d (s.get F.GRD_CFG_BASE d l) = 1 ∧ s.get F.MT_CFG_EN d (s.grdTracker h) ≠ 0 ∧
      s.get F.GRD_VNOM_V_NOM d l ≠ 0 ∧ home (s.get F.GRD_OUT_POINT d l) ∧ home (s.get F.GRD_PMEAS_POINT d l) ∧
      home (s.get F.GRD_QSP_POINT d l)) ∧
    (∀ n < 8, s.tripHolds h n = true ↔ s.get F.GRD_VRT_ACT d l n = 0 ∧ s.get F.GRD_VRT_EN d l n ≠ 0 ∧
      (s.get F.GRD_VRT_DIR d l n ≠ 0 → s.get F.GRD_VRT_LEVEL d l n < s.get F.GRD_MEAS_VHIGH d l) ∧
      (s.get F.GRD_VRT_DIR d l n = 0 → s.get F.GRD_MEAS_VLOW d l < s.get F.GRD_VRT_LEVEL d l n)) ∧
    (∀ j < 4, let lim : Int := s.get F.GRD_FRT_DEV d l j * 256
      s.tripHolds h (8 + j) = true ↔ s.get F.GRD_FRT_EN d l j ≠ 0 ∧ (s.get F.GRD_FRT_DIR d l j ≠ 0 → lim < dev) ∧
        (s.get F.GRD_FRT_DIR d l j = 0 → dev < -lim)) ∧
    (∀ n v, s.tripDue h n t0 = some v ↔ ∃ c, Store.find G.timers n = some c ∧
      v = c - 1 + (if n < 8 then t0 - G.evalAt else if hold ≠ 0 then 0 else t0 - G.freqFrom) ∧ s.timeNow h n * 100000 ≤ v) ∧
    (∀ n < 12, s.tripHolds h n = false → n < 8 ∨ hold = 0 → ∀ t1, (s.stepTimers h t0).tripDue h n t1 = none) ∧
    (s.lolDue h t0 = true ↔ s.get F.GRD_AI_LOL_EN d l ≠ 0 ∧ hold ≠ 0 ∧ s.get F.GRD_STAT_VREG d l ≠ 2 ∧
      max (s.tracker d (s.grdTracker h)).holdAt G.mcTill + s.timeNow h 13 * 100000 ≤ t0) ∧
    (s.get F.GRD_CFG_EN d l = 0 → (s.herdState h).locked = false →
      (s.gridOk h = true → exec (.gridEnable q h) s = .next ((s.put F.GRD_CFG_EN 1 d l).put F.GRD_STAT_CFG_RES 0 d l)) ∧
      (s.gridOk h = false → exec (.gridEnable q h) s = .next (s.put F.GRD_STAT_CFG_RES Status.refused.code d l))) ∧
    (G.times = [] → s.timeNow h 12 = s.get F.GRD_TIME_RESTORE d l ∧ s.timeNow h 14 = s.get F.GRD_ES2_ES_T d l) ∧
    (∀ n v, n < 12 → s.gridActs h = true → s.tripDue h n t0 = some v → s.get F.REG_STAT_BURST d l = 0 →
      s.get F.REG_STAT_ASLEEP d l = 0 → s.justBound h = false → s.overtaken h 1 = false → s.get F.CH_STAT_ENG d l = 0 → ∃ t, exec (.gridTrip h n) s = .next t ∧ t.get F.GRD_STAT_TRIPPED d l = 1 ∧
        t.get F.GRD_STAT_TRIP_ENT d l = n ∧ t.herdState h = .faulted ∧ (t.grd h).timers = [] ∧ t.points = s.points ∧ still t) ∧
    (∀ n < 12, s.tripDue h n t0 = none → exec (.gridTrip h n) s = .next s) ∧
    (∀ x, G.mcEndAt = some x → x + s.timeNow h 12 * 100000 ≤ t0 → ∃ t, exec (.mcRestore h) s = .next t ∧
      (∀ p ∈ s.herdLegs h, (t.leg p.1 p.2).mcRelease = (s.leg p.1 p.2).mcHold ∧ (t.leg p.1 p.2).mcReleaseFrom = t0) ∧
      (t.grd h).mcEndAt = none ∧ t.cells = s.cells ∧ t.points = s.points ∧ still t) ∧
    (s.gridActs h = true → s.lolDue h t0 = true → s.get F.REG_STAT_BURST d l = 0 → s.get F.REG_STAT_ASLEEP d l = 0 →
      s.justBound h = false → s.overtaken h 1 = false → s.get F.CH_STAT_ENG d l = 0 →
      ∃ t, exec (.holdoverTimeout h) s = .next t ∧ t.get F.GRD_STAT_ISLAND d l = 1 ∧ t.get F.GRD_STAT_ICAUSE d l = 1 ∧
        t.herdState h = .faulted ∧ (∀ k < s.dies, (t.grd h).islandHold.testBit k = true) ∧
        (∀ p ∈ s.herdLegs h, p.1 ≠ d → (t.leg p.1 p.2).mcHold = true) ∧ t.points = s.points ∧ still t) ∧
    (∀ u k, u < 2 → k < 3 → s.get F.MU_CFG_EN d u = 1 → s.get F.MU_CFG_DC d u = 0 → s.getBit F.MU_CFG_CH_EN k d u = true →
      s.getBit F.MU_STAT_ZC_TO k d u = false → Store.get (s.meter d u).zcAt 0 k = 0 →
      max (s.get F.MU_CFG_ZC_TMO d u) 1 * 100000000 ≤ (t0 - (s.meter d u).enabledAt) * s.meterHz d u →
      s.get F.IRQ_SRC_EN d (201 + u) = 0 → s.get F.GRD_CFG_MU d l = u → s.get F.GRD_AI_ZC_EN d l ≠ 0 →
      s.get F.GRD_STAT_VREG d l ≠ 2 → s.gridActs h = true → (∀ j < 8, j ≠ l → s.gridActs (d * 8 + j) = false) →
      s.get F.REG_STAT_BURST d l = 0 → s.get F.REG_STAT_ASLEEP d l = 0 → s.justBound h = false → s.overtaken h 1 = false →
      s.get F.CH_STAT_ENG d l = 0 → ∃ t, exec (.zcTimeout d u k) s = .next t ∧ t.getBit F.MU_STAT_ZC_TO k d u = true ∧
        t.get F.GRD_STAT_ISLAND d l = 1 ∧ t.get F.GRD_STAT_ICAUSE d l = 2 ∧ t.herdState h = .faulted ∧ t.points = s.points ∧ still t) ∧
    (∀ x, G.suspAt = some x → x < t0 → G.evalAt = t0 → s.gridActs h = true → s.get F.GRD_STAT_AI_ARMED d l = 1 →
      s.get F.GRD_STAT_PROBING d l = 0 → s.grdHold h = false → s.get F.GRD_STAT_VREG d l ≠ 2 → s.pointStatus (s.grdPrb h) = .ok →
      ∃ t, exec (.probeStart h) s = .next t ∧ t.get F.GRD_STAT_PROBING d l = 1 ∧ (t.grd h).suspAt = none ∧
        (t.grd h).probeLeft = 2 * max (s.get F.GRD_PRB_CYC d l) 1 ∧ t.legs = s.legs ∧ still t ∧
        ∀ p, t.point p = if p = s.grdPrb h then BitVec.ofNat 24 (s.get F.GRD_PRBA_PRB_AMP d l) else s.point p) ∧
    (s.get F.GRD_STAT_PROBING d l = 1 → G.probeLeft = 0 → s.get F.GRD_AI_PRB_EN d l = 0 → s.pointStatus (s.grdPrb h) = .ok →
      ∃ t, exec (.probeEnd h) s = .next t ∧ t.get F.GRD_STAT_PROBING d l = 0 ∧
        t.get F.GRD_ZM_PRB_CNT d l = min (s.get F.GRD_ZM_PRB_CNT d l + 1) (2 ^ F.GRD_ZM_PRB_CNT.width - 1) ∧
        (t.grd h).probeSum = 0 ∧ t.legs = s.legs ∧ still t ∧
        ∀ p, t.point p = if p = s.grdPrb h then 0 else s.point p) ∧
    (∀ x, G.esSince = some x → s.get F.GRD_CFG_EN d l = 1 → exec (.enterService h) s = .next
      (if x + s.timeNow h 14 * 100000000 ≤ t0 then s.put F.GRD_STAT_ES_OK 1 d l else s))

/-- R378 to R384, R388: the commands of a TRACK herd: the enable and its conditions, steps that hold, start and follow a
current, and the stages of a sweep: when it is due, its ramp, and the wait for its result, which begins once the ramp has
ended (log entry 62). -/
def Obligations.TrackingStepsAndSweeps : Prop :=
  ∀ (s : State) (q : Requester) (h : Nat), h < 8 * s.dies → 2 ≤ s.pkgState → s.reached q (h / 8) = s → s.recQueue = none →
    let d := h / 8
    let l := h % 8
    let T := s.trk h
    let t0 := s.tick d
    let o := s.get F.TRK_OUT_POINT d l
    let v := s.pointI (s.get F.TRK_VPT_POINT d l)
    let i := s.pointI (s.get F.TRK_IPT_POINT d l)
    let swept := s.get F.TRK_STAT_SWEEPING d l
    let wait := s.get F.TRK_STAT_WAIT_GMP d l
    let now := s.modTrk h fun T => { T with held := none }
    let still := fun (t : State) => t.engines = s.engines ∧ t.queues = s.queues ∧ t.legs = s.legs
    let shown := fun (t : State) => ∀ p, t.point p =
      if p = o then BitVec.ofNat 24 (t.get F.TRK_VREF_VREF d l) else s.point p
    let home := fun (p : Nat) => pointDie p = d
    (s.trackOk h = true ↔ s.get F.HERD_CTL_ROLE d l = 5 ∧ home (s.get F.TRK_VPT_POINT d l) ∧ home (s.get F.TRK_IPT_POINT d l) ∧
      home o ∧ home (s.get F.TRK_BUS_POINT d l) ∧ 0 < s.getI F.TRK_SMIN_SMIN d l ∧
      s.getI F.TRK_SMIN_SMIN d l ≤ s.getI F.TRK_SMAX_SMAX d l ∧ s.getI F.TRK_VMIN_VMIN d l < s.getI F.TRK_VMAX_VMAX d l ∧
      s.get F.TRK_CFG_SWEEP_MIN d l ≠ 0) ∧
    (s.get F.TRK_CFG_EN d l = 0 → (s.herdState h).locked = false →
      (s.trackOk h = true → exec (.trackEnable q h) s = .next ((s.put F.TRK_CFG_EN 1 d l).put F.TRK_STAT_CFG_RES 0 d l)) ∧
      (s.trackOk h = false → exec (.trackEnable q h) s = .next (s.put F.TRK_STAT_CFG_RES Status.refused.code d l))) ∧
    (s.trackActs h = true → swept = 0 → T.at_ + max (s.get F.TRK_PER_TPER d l) 1 ≤ t0 → s.pointStatus o = .ok →
      let stepped := fun (t : State) => exec (.trackStep h) s = .next t ∧ (t.trk h).vPrev = v ∧ (t.trk h).iPrev = i ∧
        (t.trk h).havePrev = true ∧ (t.trk h).at_ = t0 ∧ shown t ∧ still t
      (s.get F.LAW_STAT_VSAT_NOW d l = 1 → ∃ t, stepped t ∧ t.get F.TRK_STAT_HOLD d l = 1 ∧ t.vref h = s.vref h) ∧
      (s.get F.LAW_STAT_VSAT_NOW d l = 0 → s.get F.TRK_STAT_CURT_NOW d l = 0 →
        s.pointI (s.get F.TRK_BUS_POINT d l) ≤ s.getI F.TRK_CURT_CURT d l →
        (T.havePrev = false → ∃ t, stepped t ∧ t.get F.TRK_STAT_HOLD d l = 0 ∧ t.vref h = now.vrefLimit h (s.vref h)) ∧
        (T.havePrev = true → ((v - T.vPrev).natAbs : Int) < s.getI F.TRK_SMIN_SMIN d l → T.iPrev < i →
          ∃ t, stepped t ∧ t.vref h = now.vrefLimit h (s.vref h + s.getI F.TRK_SMIN_SMIN d l)) ∧
        (T.havePrev = true → ((v - T.vPrev).natAbs : Int) < s.getI F.TRK_SMIN_SMIN d l → i < T.iPrev →
          ∃ t, stepped t ∧ t.vref h = now.vrefLimit h (s.vref h - s.getI F.TRK_SMIN_SMIN d l)))) ∧
    (s.trackActs h = true → s.trkSweeps h = true → swept = 0 → s.sweepDue h ≤ t0 → s.get F.TRK_STAT_CURT_NOW d l = 0 →
      s.get F.LAW_STAT_VSAT_NOW d l = 0 → s.get F.TRK_CFG_CV d l < 8 → s.get F.TRK_CFG_CI d l < 8 → s.pointStatus o = .ok →
      ∃ t, exec (.sweepStart h) s = .next t ∧ t.get F.TRK_STAT_SWEEPING d l = 1 ∧ (t.trk h).vref0 = s.get F.TRK_VREF_VREF d l ∧
        (t.trk h).sweepAt = t0 ∧ (t.trk h).rampAt = t0 ∧ (t.trk h).first = false ∧
        t.vref h = sat24 (s.trkVmax h) ∧ shown t ∧ still t) ∧
    s.sweepDue h = T.sweepAt + (if T.first = true then 100000000 else s.sweepTicks h) ∧
    (T.held = none → s.trkSweeps h = decide (s.get F.TRK_CFG_SW_EN d l ≠ 0) ∧ s.trkVmax h = s.getI F.TRK_VMAX_VMAX d l ∧
      s.trkVmin h = s.getI F.TRK_VMIN_VMIN d l ∧ s.sweepTicks h = s.get F.TRK_CFG_SWEEP_MIN d l * 6000000000) ∧
    (s.get F.LAW_STAT_VSAT_NOW d l = 1 → exec (.sweepStart h) s = .next s) ∧
    (s.trackActs h = true → swept = 1 → wait = 0 → T.sweepAt ≤ T.rampAt → T.rampAt + 10000 ≤ t0 →
      s.rampOver h = false → T.rampAt + 10000 ≤ T.sweepAt + s.rampTicks h → -8388608 ≤ s.trkVmin h → s.trkVmin h ≤ s.trkVmax h → s.trkVmax h ≤ 8388607 →
      s.pointStatus o = .ok → ∃ t, exec (.sweepRampStep h) s = .next t ∧ (t.trk h).rampAt = T.rampAt + 10000 ∧
        (let hi := s.trkVmax h
         let k : Int := ((T.rampAt + 10000 - T.sweepAt : Nat) : Int)
         let r : Int := (s.rampTicks h : Int)
         (hi * r - (hi - s.trkVmin h) * k - t.vref h * r).natAbs < s.rampTicks h) ∧ shown t ∧ still t) ∧
    (s.trackActs h = true → swept = 1 → wait = 0 → s.rampOver h = false → exec (.sweepFrozen h) s = .next s) ∧
    (s.rampOver h = true ↔ T.sweepAt + s.rampTicks h ≤ T.rampAt) ∧
    (s.trackActs h = true → swept = 1 → wait = 0 → s.rampOver h = true → s.get F.CAP_STAT_FROZEN d (s.get F.TRK_CFG_CV d l) = 1 →
      s.get F.CAP_STAT_FROZEN d (s.get F.TRK_CFG_CI d l) = 1 → s.get F.TRK_DISP_EN d l = 0 →
      ∃ t, exec (.sweepFrozen h) s = .next t ∧ t.get F.TRK_STAT_WAIT_GMP d l = 1 ∧ (t.trk h).gmpAt = t0 ∧
        RegsBut s t [F.TRK_STAT_WAIT_GMP.key d l 0] ∧ t.points = s.points ∧ still t) ∧
    (∀ x : Word, (wait = 1 → ∃ t, exec (.trkGmp q h x) s = .next t ∧ t.vref h = sat24 (s.vrefLimit h x.toInt) ∧
        t.get F.TRK_STAT_SWEEPING d l = 0 ∧ t.get F.TRK_STAT_WAIT_GMP d l = 0 ∧ t.get F.TRK_STAT_SW_DONE d l = 1 ∧
        (t.trk h).havePrev = false ∧ t.points = s.points ∧ still t) ∧
      (wait = 0 → exec (.trkGmp q h x) s = .next (s.wref q F.TRK_GMP_VOLT d l))) ∧
    (s.trackActs h = true → swept = 1 → wait = 1 → T.gmpAt + s.resultTicks h ≤ t0 → T.vref0 < 2 ^ 24 →
      ∃ t, exec (.sweepFail h) s = .next t ∧ t.get F.TRK_VREF_VREF d l = T.vref0 ∧ t.get F.TRK_STAT_SWEEPING d l = 0 ∧
        t.get F.TRK_STAT_WAIT_GMP d l = 0 ∧ t.get F.TRK_STAT_SW_FAIL d l = 1 ∧ t.points = s.points ∧ still t)

/-! ### Metrology, safety and the always-on domain -/

/-- R390 to R393, R398, R401, R403, R411: a metrology unit: its enable, a due sample of its channels, the timeout of a zero
crossing, a snapshot, the calibration check and a write of a correction. R401, R404, R405, R408, R409, R413: wide counters
are read and written as 64 bits; a pulse output is enabled, ends its pulse and its gap; and an S0 input accepts levels that
have been stable, counts a pulse that is long enough and takes a preset. -/
def Obligations.MetrologyUnitsPulsesAndInputs : Prop :=
  (∀ (s : State) (q : Requester) (d u : Nat), d < s.dies → u < 2 → 2 ≤ s.pkgState → s.reached q d = s → s.recQueue = none →
     s.get F.IRQ_SRC_EN d (201 + u) = 0 →
     let M := s.meter d u
     let still := fun (t : State) => t.points = s.points ∧ t.legs = s.legs ∧ t.engines = s.engines ∧ t.queues = s.queues
     let base := 0xF1000 + 32 * u
     let words := (List.range 24).map fun k => s.flashWord d (base + k)
     let good := s.flashWord d (base + 24) = crc32 96 (words.foldr (fun w v => w + v * 2 ^ 32) 0) ∧ words = s.calWords d u
     let checked := fun (t : State) => (good → t.get F.MU_STAT_CAL_OK d u = 1) ∧ (¬good → t.get F.MU_STAT_CAL_OK d u = 0) ∧
       (t.meter d u).calAt = s.tick d ∧ still t
     (s.get F.MU_CFG_EN d u = 0 →
       (s.meterOk d u = true → ∃ t, exec (.meterEnable q d u) s = .next t ∧ t.get F.MU_CFG_EN d u = 1 ∧
         t.get F.MU_STAT_CFG_RES d u = 0 ∧ (t.meter d u).enabledAt = s.tick d ∧ checked t) ∧
       (s.meterOk d u = false → exec (.meterEnable q d u) s = .next (s.put F.MU_STAT_CFG_RES Status.refused.code d u))) ∧
     (s.sampleDue d u = false → exec (.meterSample d u) s = .next s) ∧
     (s.sampleDue d u = true → ∃ t, exec (.meterSample d u) s = .next t ∧ (t.meter d u).sampleAt = s.tick d ∧
       (∀ c ∈ s.channels d u, let m := s.channelMod d u c
         Store.get (t.meter d u).seen 0 c = Store.get M.seen 0 c + 4 ∧
         ((s.modIn d m).total = Store.get M.seen 0 c + 4 →
           (Store.get (t.meter d u).past [] c).head? = some (correct
             (cut24 (nearest (((s.modIn d m).hist.take 4).map (·.toInt)).sum 4))
             (BitVec.ofNat 24 (s.get F.MC_OFS_OFS d u c)) (BitVec.ofNat 24 (s.get F.MC_GAIN_GAIN d u c))))) ∧
       t.points = s.points ∧ t.legs = s.legs) ∧
     (∀ k < 4, s.get F.MU_CFG_EN d u = 1 → s.get F.MU_CFG_DC d u = 0 → s.getBit F.MU_CFG_CH_EN k d u = true →
       s.getBit F.MU_STAT_ZC_TO k d u = false → Store.get M.zcAt 0 k = 0 →
       max (s.get F.MU_CFG_ZC_TMO d u) 1 * 100000000 ≤ (s.tick d - M.enabledAt) * s.meterHz d u →
       (k < 3 → ∀ l < 8, s.gridActs (d * 8 + l) = false ∨ s.get F.GRD_CFG_MU d l ≠ u) →
       ∃ t, exec (.zcTimeout d u k) s = .next t ∧ t.getBit F.MU_STAT_ZC_TO k d u = true ∧
         t.get F.ZC_CNT_TO_CNT d u k = min (s.get F.ZC_CNT_TO_CNT d u k + 1) (2 ^ F.ZC_CNT_TO_CNT.width - 1) ∧ still t) ∧
     (M.snapAt ≠ some (s.tick d) → ∃ t, exec (.snap q d u) s = .next t ∧ (t.meter d u).snapAt = some (s.tick d) ∧
       (∀ p < 30, t.wide d (.snap u p) = s.wide d (.pail u p) % 2 ^ 64 ∧ t.wide d (.pail u p) = s.wide d (.pail u p)) ∧
       (∀ k < 8, t.get F.SNAP_S0 d u k = s.get F.S0_CNT_CNT d k % 2 ^ 32) ∧ t.wide d (.snapTick u) = s.tick d % 2 ^ 64 ∧ still t) ∧
     (M.snapAt = some (s.tick d) → exec (.snap q d u) s = .next s) ∧
     (∃ t, exec (.calchk q d u) s = .next t ∧ checked t) ∧
     (s.get F.MU_CFG_EN d u = 1 → M.calAt + 6000000000 ≤ s.tick d → ∃ t, exec (.calCheck d u) s = .next t ∧ checked t) ∧
     (∀ c (x : BitVec 24), c < 8 →
       let wrote := fun (f : Correction) (G : Fld) => ∃ t, exec (.mcCorrectionWrite q d u c f x) s = .next t ∧
         t.get G d u c = x.toNat % 2 ^ G.width ∧ t.get F.MU_STAT_CAL_OK d u = 0 ∧ still t
       wrote .ofs F.MC_OFS_OFS ∧ wrote .gain F.MC_GAIN_GAIN ∧ wrote .dly F.MC_DLY_DLY)) ∧
  (∀ (s : State) (q : Requester) (d k : Nat), d < s.dies → k < 8 → 2 ≤ s.pkgState → s.reached q d = s →
     let P := s.pulse d k
     let I := s.s0 d k
     let still := fun (t : State) => t.points = s.points ∧ t.legs = s.legs ∧ t.engines = s.engines ∧ t.queues = s.queues
     (∀ c : WideCounter, c.valid = true → ∃ t, exec (.pailLoRead q d c) s = .next t ∧
       t.answer = [BitVec.ofNat 32 (s.wide d c)] ∧ t.latch q d 0 = s.wide d c / 2 ^ 32 ∧ t.cells = s.cells ∧ still t) ∧
     (∀ (u p : Nat) (v : BitVec 32) (x : Bool), u < 2 → p < 30 →
       (∀ hi < 2 ^ 32, s.latch q d 1 = hi + 1 → ∃ t, exec (.pailWrite q d (.pail u p) v x) s = .next t ∧
         t.wide d (.pail u p) = hi * 2 ^ 32 + v.toNat ∧ t.latch q d 1 = 0 ∧
         RegsBut s t [F.PAIL_LO.key d u p, F.PAIL_HI.key d u p] ∧ still t) ∧
       (s.latch q d 1 = 0 → s.wide d (.pail u p) < 2 ^ 64 → ∃ t, exec (.pailWrite q d (.pail u p) v x) s = .next t ∧
         t.wide d (.pail u p) = s.wide d (.pail u p) / 2 ^ 32 * 2 ^ 32 + v.toNat ∧ still t)) ∧
     (s.get F.PO_CFG_EN d k = 0 →
       let w := s.get F.PO_CFG_WID d k
       let fit := s.threshold d k ≠ 0 ∧ s.get F.PO_CFG_QTY d k ≤ 29 ∧ (s.get F.PO_CFG_MODE d k = 1 ∨ (10 ≤ w ∧ w ≤ 250))
       (fit → exec (.pulseOutputEnable q d k) s = .next (s.put F.PO_CFG_EN 1 d k)) ∧
       (s.get F.PO_CFG_MODE d k ≤ 1 → ¬fit → exec (.pulseOutputEnable q d k) s = .next (s.wref q F.PO_CFG_EN d k))) ∧
     (P.phase = 1 → P.at_ + (if s.get F.PO_CFG_MODE d k = 0 then s.get F.PO_CFG_WID d k else 250) * 100000 ≤ s.tick d →
       ∃ t, exec (.pulseEnd d k) s = .next t ∧ t.get F.PO_STAT_ACTIVE d k = 0 ∧
         t.pulse d k = { P with phase := if s.get F.PO_CFG_MODE d k = 0 then 2 else 3, at_ := s.tick d } ∧ RegsBut s t [F.PO_STAT_ACTIVE.key d k 0] ∧ still t) ∧
     (P.phase = 2 → s.get F.PO_CFG_MODE d k = 0 → P.at_ + s.get F.PO_CFG_WID d k * 100000 ≤ s.tick d →
       exec (.gapEnd d k) s = .next (s.modPulse d k fun P => { P with phase := 0 })) ∧
     (∀ high stable, stable < max (s.get F.S0_CFG_DEB d k) 1 * 100000 → exec (.s0LevelAccept d k ⟨high, stable⟩) s = .next s) ∧
     (∀ high stable, max (s.get F.S0_CFG_DEB d k) 1 * 100000 ≤ stable → high = s.bit F.S0_CFG_POL d k →
       s.get F.S0_CFG_EN d k = 1 → s.get F.S0_STAT_LEVEL d k = 0 → ∃ t, exec (.s0LevelAccept d k ⟨high, stable⟩) s = .next t ∧
       t.get F.S0_STAT_LEVEL d k = 1 ∧ (t.s0 d k).since = s.tick d ∧ (t.s0 d k).counted = false ∧
       RegsBut s t [F.S0_STAT_LEVEL.key d k 0] ∧ still t) ∧
     (s.get F.S0_CFG_EN d k = 1 → s.get F.S0_STAT_LEVEL d k = 1 → I.counted = false →
       (∀ high stable, max (s.get F.S0_CFG_DEB d k) 1 * 100000 ≤ stable → high = !s.bit F.S0_CFG_POL d k →
         s.tick d < I.since + s.get F.S0_CFG_MINW d k * 100000 → ∃ t, exec (.s0LevelAccept d k ⟨high, stable⟩) s = .next t ∧
         t.get F.S0_STAT_LEVEL d k = 0 ∧ t.get F.S0_CNT_CNT d k = s.get F.S0_CNT_CNT d k ∧
         t.get F.S0_STAT_REJ_CNT d k = min (s.get F.S0_STAT_REJ_CNT d k + 1) (2 ^ F.S0_STAT_REJ_CNT.width - 1) ∧ still t) ∧
       (I.since + s.get F.S0_CFG_MINW d k * 100000 ≤ s.tick d → I.written = 0 → s.get F.S0_CNT_CNT d k < 2 ^ 32 →
         ∃ t, exec (.s0PulseCount d k) s = .next t ∧ t.get F.S0_CNT_CNT d k = (s.get F.S0_CNT_CNT d k + 1) % 2 ^ 32 ∧
           t.get F.S0_TICK_TICK d k = s.tick d % 2 ^ F.S0_TICK_TICK.width ∧ (t.s0 d k).counted = true ∧
           (s.get F.S0_CNT_CNT d k = 2 ^ 32 - 1 → t.get F.S0_STAT_OVF d k = 1) ∧ still t)) ∧
     (∀ (v : BitVec 32) (x : Bool), ∃ t, exec (.s0CntWrite q d k v x) s = .next t ∧ t.get F.S0_CNT_CNT d k = v.toNat ∧
       RegsBut s t [F.S0_CNT_CNT.key d k 0] ∧ still t))

/-- R414, R416, R420, R422, R424 to R431, R433, R434: what each event at the safety channels does: a channel cycle takes the
inputs that opened, a contact is accepted, times run out, pulses, seals and self-tests are judged, a reset edge releases, and
the lines of a die hold and release its legs. -/
def Obligations.SafetyEventsTakeEffect : Prop :=
  ∀ (s : State) (b : Bool) (k : BitVec 4) (d : Nat), d < s.dies →
    let S := s.safety
    let cause := fun (t : State) (c : Nat) => t.getBit F.SAFE_FLT_CAUSE c = true ∧ t.get F.SAFE_STAT_SFAULT = 1
    (∀ chan oscA oscB, ∃ t, exec (.safetyChannelCycle chan ⟨oscA, oscB⟩) s = .next t ∧ t.safety.cycles = S.cycles + 1 ∧
      t.safety.openA = 0 ∧ t.safety.openB = 0 ∧ t.safety.fresh = 0 ∧ t.safety.chanBad = chan ∧ (chan = true → cause t 4) ∧
      (oscA = true ∨ oscB = true → cause t 2)) ∧
    (∀ closed, s.contact b k.toNat ≠ closed → ∃ t, exec (.contactAccept b k closed) s = .next t ∧
      t.contact b k.toNat = closed ∧ t.contact (!b) k.toNat = s.contact (!b) k.toNat ∧ t.legs = s.legs ∧ t.points = s.points ∧
      (S.disc.testBit k.toNat = true → S.discB.testBit k.toNat = !b ∨ S.discOpen.testBit k.toNat = closed →
        t.safety.disc.testBit k.toNat = true ∧ Store.get t.safety.discFrom 0 k.toNat = Store.get S.discFrom 0 k.toNat) ∧
      (S.disc.testBit k.toNat = true → S.discB.testBit k.toNat = b → S.discOpen.testBit k.toNat = !closed →
        s.contact (!b) k.toNat = closed → t.safety.disc.testBit k.toNat = false)) ∧
    (S.disc.testBit k.toNat = true → Store.get S.discFrom 0 k.toNat + s.discCycles ≤ S.cycles →
      ∃ t, exec (.discrepancyTimeout k) s = .next t ∧ t.safety.disc.testBit k.toNat = false ∧
        t.get F.SAFE_FLT_INPUT = k.toNat ∧ cause t 7) ∧
    (∀ z < s.dies / 2, s.getBit F.SAFE_STAT_SS1_ZONE z = true → (s.ss1Run z).from_ + s.ss1Cycles ≤ S.cycles →
      ∃ t, exec (.ss1Expiry z) s = .next t ∧ t.getBit F.SAFE_STAT_SS1_ZONE z = false ∧
        t.getBit F.SAFE_STAT_DEM_ZONE z = true) ∧
    (s.contact b k.toNat = true → ∃ t, exec (.testPulse b k ⟨b, true, true⟩) s = .next t ∧
      t.safety.tpBad.testBit (contactBit b k.toNat) = false ∧ t.cells = s.cells ∧ t.legs = s.legs) ∧
    (∀ a : BitVec 12, S.sealExit = none ∨ S.sealExit = some (a.toNat, a.toNat) → ∃ t, exec (.sealRead a a) s = .next t ∧
      t.get F.SAFE_SEAL_SEAL_A = a.toNat ∧ t.get F.SAFE_SEAL_SEAL_B = a.toNat ∧
      t.safety = { S with sealExit := some (a.toNat, a.toNat) } ∧ t.points = s.points ∧
      ∀ n < 6, s.domOn d domLEG = true → (s.die d).gated = false → (s.leg d n).safeA = true → s.get F.LEG_STAT_TRIP d n = 0 →
        a.getLsbD (4 + d / 2) = true → t.get F.LEG_STAT_GH d n = 0 ∧
          ((t.leg d n).riseL.isSome = true ∨ t.get F.LEG_STAT_GL d n ≠ 0)) ∧
    (∃ t, exec (.safetySelftest ⟨b, true⟩) s = .next t ∧ t.safety.selfBad.testBit b.toNat = false ∧
      t.safety.tested.testBit b.toNat = true ∧ t.cells = s.cells ∧ t.legs = s.legs) ∧
    (∀ differs, ∃ t, exec (.pathFault d differs) s = .next t ∧ t.safety.pathBad.testBit d = differs ∧
      (differs = true → t.get F.SAFE_FLT_DIE = d ∧ cause t 5)) ∧
    (∃ t, exec .rstStuck s = .next t ∧ t.safety.stuck = true ∧ cause t 1) ∧
    (∀ low width, 100 ≤ width → width ≤ 2000 → s.allHealthy = true → s.get F.SAFE_STAT_SS1_ZONE = 0 → S.tested = 3 →
      S.openA = 0 → S.openB = 0 → s.causePresent = false → ∃ t, exec (.safeResetEdge low width ⟨true, false⟩) s = .next t ∧
        t.get F.SAFE_STAT_SFAULT = 0 ∧ t.get F.SAFE_STAT_DEM_ZONE = 0 ∧ t.safety.driveA = 2 ^ s.dies - 1 ∧
        t.safety.driveB = 2 ^ s.dies - 1 ∧ t.safety.started = true) ∧
    (∀ low width x, ∃ t, exec (.safeResetEdge low width x) s = .next t ∧ t.legs = s.legs ∧
      t.safety.stuck = if 1000 ≤ low ∧ width ≤ 5000 then false else S.stuck) ∧
    (∃ t, exec (.legEnableLoss b d) s = .next t ∧ (∀ n < 24, t.get F.LEG_STAT_SAFE_OFF d n = 1) ∧
      (if b then t.getBit F.SAFE_EN_B d else t.getBit F.SAFE_EN_A d) = false) ∧
    (S.driveA.testBit d = true → S.driveB.testBit d = true → ∃ t, exec (.legEnableRestore d) s = .next t ∧
      (∀ n < 24, t.get F.LEG_STAT_SAFE_OFF d n = 0) ∧ t.getBit F.SAFE_EN_A d = true ∧ t.getBit F.SAFE_EN_B d = true)

/-- R434: a reset edge of the right length in whose channel cycle a new demand (an open contact taken in that cycle) or a
fault cause (one that has come, or one that comes after it in the cycle) falls clears no fault, no cause and no demand,
releases no zone, and is counted. -/
def Obligations.DemandsAndFaultsWinOverAResetEdge : Prop :=
  ∀ (s : State) (low width : Nat) (x : ResetSeen), 100 ≤ width → width ≤ 2000 →
    x.clash = true ∨ s.safety.openA ≠ 0 ∨ s.safety.openB ≠ 0 ∨
      (s.safety.tpBad ≠ 0 ∨ s.safety.pathBad ≠ 0 ∨ s.safety.chanBad = true ∨ s.safety.oscBad ≠ 0 ∨ s.safety.selfBad ≠ 0) →
    ∃ t, exec (.safeResetEdge low width x) s = .next t ∧ RegsBut s t [F.SAFE_CNT_RST_REJ_CNT.key 0 0 0] ∧
      t.get F.SAFE_CNT_RST_REJ_CNT = min (s.get F.SAFE_CNT_RST_REJ_CNT + 1) (2 ^ F.SAFE_CNT_RST_REJ_CNT.width - 1) ∧
      { t.safety with stuck := s.safety.stuck } = s.safety ∧ t.legs = s.legs ∧ t.points = s.points

/-- R416, R417, R423 to R434: the safety channels: demands, faults and the reset edge. Each channel stops its own lines.
R416, R418, R420: a die that loses a leg-enable line holds its legs with both outputs low, and releases the hold when the
lines toggle again. -/
def Obligations.SafetyChannelsCutAndRestoreTheLegs : Prop :=
  (∀ (s : State), s.recQueue = none → (∀ d < s.dies, ∀ n, 203 ≤ n → n ≤ 205 → s.get F.IRQ_SRC_EN d n = 0) →
     let S := s.safety
     let cut := fun (m : Nat) => ∀ d < s.dies, m.testBit d = false
     let lines := fun (t : State) (a b : Bool) => (if a then cut t.safety.driveA else t.safety.driveA = S.driveA) ∧
       (if b then cut t.safety.driveB else t.safety.driveB = S.driveB)
     let faulted := fun (c : Instr) (k : Nat) (a b : Bool) => ∃ t, exec c s = .next t ∧ t.get F.SAFE_STAT_SFAULT = 1 ∧
       t.getBit F.SAFE_FLT_CAUSE k = true ∧ t.get F.SAFE_STAT_DEM_ZONE = 15 ∧ t.get F.SAFE_STAT_STATE = 4 ∧
       lines t a b ∧ t.points = s.points
     (S.openA = 0 → S.openB = 0 → (∃ t, exec (.safetyChannelCycle false ⟨false, false⟩) s = .next t ∧
         t.safety = { S with cycles := S.cycles + 1, fresh := 0, chanBad := false, oscBad := 0 } ∧
         t.get F.SAFE_STAT_DEM_ZONE = s.get F.SAFE_STAT_DEM_ZONE ∧ t.get F.SAFE_CNT_DEM_CNT = s.get F.SAFE_CNT_DEM_CNT ∧
         t.legs = s.legs ∧ t.points = s.points) ∧
       (∀ oscA oscB, faulted (.safetyChannelCycle true ⟨oscA, oscB⟩) 4 true true) ∧
       (∀ oscA oscB, oscA || oscB → faulted (.safetyChannelCycle false ⟨oscA, oscB⟩) 2 oscA oscB)) ∧
     (∀ k < 16, S.openA = 2 ^ k → S.openB = 0 → S.fresh = 2 ^ k → s.sealed = 0 →
       ∃ t, exec (.safetyChannelCycle false ⟨false, false⟩) s = .next t ∧ t.getBit F.SAFE_INDEM_DEM k = true ∧
         (∀ z < s.dies / 2, t.getBit F.SAFE_STAT_DEM_ZONE z = true) ∧ lines t true false ∧
         t.safety.openA = 0 ∧ t.get F.SAFE_CNT_DEM_CNT =
           min (s.get F.SAFE_CNT_DEM_CNT + 1) (2 ^ F.SAFE_CNT_DEM_CNT.width - 1) ∧ t.points = s.points) ∧
     (∀ k : BitVec 4, (s.getBit F.SAFE_IN_A k.toNat = true → s.getBit F.SAFE_IN_B k.toNat = true → S.disc.testBit k.toNat = false →
         ∃ t, exec (.contactAccept false k false) s = .next t ∧ t.getBit F.SAFE_IN_A k.toNat = false ∧
           t.safety.openA.testBit k.toNat = true ∧ t.safety.fresh.testBit k.toNat = true ∧
           t.safety.disc.testBit k.toNat = true ∧ Store.get t.safety.discFrom 0 k.toNat = S.cycles ∧ t.safety.openB = S.openB ∧
           RegsBut s t [F.SAFE_IN_A.key 0 0 0]) ∧
       (s.getBit F.SAFE_IN_A k.toNat = false → exec (.contactAccept false k false) s = .next s) ∧
       (S.disc.testBit k.toNat = true → Store.get S.discFrom 0 k.toNat + s.discCycles ≤ S.cycles →
         faulted (.discrepancyTimeout k) 7 true true) ∧
       (S.disc.testBit k.toNat = false ∨ S.cycles < Store.get S.discFrom 0 k.toNat + s.discCycles →
         exec (.discrepancyTimeout k) s = .next s) ∧
       ∀ (pb cb fell rose : Bool),
         let bad := if pb = cb then !(fell && rose) else fell
         let at_ := (if pb = cb then 0 else 32) + contactBit cb k.toNat
         (s.contact cb k.toNat = false → exec (.testPulse cb k ⟨pb, fell, rose⟩) s = .next s) ∧
         (s.contact cb k.toNat = true → bad = true → faulted (.testPulse cb k ⟨pb, fell, rose⟩) 6 (!pb) pb) ∧
         (s.contact cb k.toNat = true → bad = false → ∃ t, exec (.testPulse cb k ⟨pb, fell, rose⟩) s = .next t ∧
           t.safety.tpBad.testBit at_ = false ∧ t.cells = s.cells ∧ t.legs = s.legs)) ∧
     (∀ z, z < s.dies / 2 → s.getBit F.SAFE_STAT_SS1_ZONE z = true → (s.ss1Run z).from_ + s.ss1Cycles ≤ S.cycles →
       ∃ t, exec (.ss1Expiry z) s = .next t ∧ t.getBit F.SAFE_STAT_SS1_ZONE z = false ∧
         t.getBit F.SAFE_STAT_DEM_ZONE z = true ∧ ((s.ss1Run z).chanA = true → t.safety.driveA.testBit (2 * z) = false) ∧
         ((s.ss1Run z).chanB = true → t.safety.driveB.testBit (2 * z + 1) = false) ∧ t.points = s.points) ∧
     (∀ a b : BitVec 12, (S.sealExit = none → ∃ t, exec (.sealRead a a) s = .next t ∧ t.get F.SAFE_SEAL_SEAL_A = a.toNat ∧
         t.get F.SAFE_SEAL_SEAL_B = a.toNat ∧ t.safety = { S with sealExit := some (a.toNat, a.toNat) } ∧ t.points = s.points) ∧
       (a ≠ b → faulted (.sealRead a b) 3 true true)) ∧
     (∀ b, faulted (.safetySelftest ⟨b, false⟩) 0 (!b) b) ∧ faulted .rstStuck 1 true true ∧
     (∀ d < s.dies, faulted (.pathFault d true) 5 true true ∧ ∃ t, exec (.pathFault d false) s = .next t ∧
       t.safety.pathBad.testBit d = false ∧ t.cells = s.cells ∧ t.legs = s.legs) ∧
     (∀ low width, 100 ≤ width → width ≤ 2000 → s.allHealthy = true → s.get F.SAFE_STAT_SS1_ZONE = 0 → S.tested = 3 →
       S.openA = 0 → S.openB = 0 → S.stuck = false → s.causePresent = false →
       ∃ t, exec (.safeResetEdge low width ⟨true, false⟩) s = .next t ∧ t.get F.SAFE_STAT_SFAULT = 0 ∧ t.get F.SAFE_FLT_CAUSE = 0 ∧
         t.get F.SAFE_STAT_DEM_ZONE = 0 ∧ t.get F.SAFE_STAT_STATE = 1 ∧ t.safety.driveA = 2 ^ s.dies - 1 ∧
         t.safety.driveB = 2 ^ s.dies - 1 ∧ t.legs = s.legs ∧ t.points = s.points) ∧
     (∀ low width both clash, width < 100 ∨ (width ≤ 5000 ∧ clash = true) →
       ∃ t, exec (.safeResetEdge low width ⟨both, clash⟩) s = .next t ∧
       t.get F.SAFE_CNT_RST_REJ_CNT = min (s.get F.SAFE_CNT_RST_REJ_CNT + 1) (2 ^ F.SAFE_CNT_RST_REJ_CNT.width - 1) ∧
       t.get F.SAFE_STAT_STATE = s.get F.SAFE_STAT_STATE ∧ t.safety.driveA = S.driveA ∧ t.legs = s.legs)) ∧
  (∀ (s : State) (d n : Nat) (b : Bool), d < s.dies → n < 24 →
     let still := fun (t : State) => t.points = s.points ∧ t.safety = s.safety
     (s.zoneWs d = false → ∃ t, exec (.legEnableLoss b d) s = .next t ∧ t.get F.LEG_STAT_SAFE_OFF d n = 1 ∧
       t.get F.LEG_STAT_GH d n = 0 ∧ t.get F.LEG_STAT_GL d n = 0 ∧
       (if b then t.getBit F.SAFE_EN_B d else t.getBit F.SAFE_EN_A d) = false ∧ still t) ∧
     (s.safety.driveA.testBit d = true → s.safety.driveB.testBit d = true → ∃ t, exec (.legEnableRestore d) s = .next t ∧
       t.get F.LEG_STAT_SAFE_OFF d n = 0 ∧ t.getBit F.SAFE_EN_A d = true ∧ t.getBit F.SAFE_EN_B d = true ∧
       (t.leg d n).safeA = false ∧ (t.leg d n).safeB = false ∧ still t))

/-- R210, R437 to R452: the always-on domain: sampled comparators, the charge of the stores, handover, seconds, the record
path, the gauge, the harvester, darkness, cut-off and wake. The draw without the record writes, the levels and the powers
come in with the commands (log entries 53 and 54); the darkness timer counts its own hours, which are free (log entry 63). -/
def Obligations.AlwaysOnDomainFollowsItsEvents : Prop :=
  ∀ (s : State), let A := s.aonRun
    let still := fun (t : State) => t.points = s.points ∧ t.legs = s.legs ∧ t.engines = s.engines
    let up := fun (t : State) (f : Fld) => t.get f = min (s.get f + 1) (2 ^ f.width - 1)
    let r := s.nextRow s.toPermanent
    let writes := fun (r : Nat) => s.domOn 0 domFLASH = true ∧ s.flashBusy 0 = false ∧ s.recorder.committing = none ∧
      (s.sector 0 (r / 512)).state ≠ 0x1F ∧ s.needsErase 0 r = false
    (∀ k < 8, ∀ (level : Int) (clk : Nat), A.off = false → s.onMain = false → s.get F.AON_CMP_CFG_EN 0 k = 1 →
      s.get F.AON_CMP_CFG_POL 0 k = 0 → clk % max (s.get F.AON_ST_PERIOD 0 (s.get F.AON_CMP_CFG_TMR 0 k)) 1 = 0 →
      let th : Int := s.get F.AON_CMP_CFG_THR 0 k * 1800000
      (th * 101 < level * 25500 → Store.get A.runs 0 k = s.get F.AON_CMP_CFG_CONF 0 k → s.get F.AON_CMP_CFG_CONF 0 k < 4 →
        ∃ t, exec (.aonCmpDecision k ⟨level, clk⟩) s = .next t ∧ t.get F.AON_CMP_STAT_HIT 0 k = 1 ∧ t.get F.AON_CMP_STAT_OUT 0 k = 1 ∧
          t.get F.AON_CMP_STAT_CNT 0 k = min (s.get F.AON_CMP_STAT_CNT 0 k + 1) 0xFFFF ∧ still t) ∧
      (level * 25500 ≤ th * 99 → ∃ t, exec (.aonCmpDecision k ⟨level, clk⟩) s = .next t ∧ t.get F.AON_CMP_STAT_OUT 0 k = 0 ∧ Store.get t.aonRun.runs 0 k = 0 ∧
        RegsBut s t [F.AON_CMP_STAT_OUT.key 0 k 0] ∧ still t)) ∧
    (s.onMain = true → A.buffer.length < 8 → ∃ t, exec .mainLost s = .next t ∧ t.get F.AON_STAT_MAIN_OK = 0 ∧
      t.get F.AON_STAT_ON_STORE = 1 ∧ up t F.AON_CNT_HANDOVER_CNT ∧ t.aonRun.absent = true ∧
      t.aonRun.buffer.map (·.code) = A.buffer.map (·.code) ++ [0x0801] ∧ still t) ∧
    (A.off = false → A.buffer = [] → ∃ t, exec .mainReturn s = .next t ∧ t.get F.AON_STAT_MAIN_OK = 1 ∧
      t.get F.AON_STAT_ON_STORE = 0 ∧ t.aonRun.bins = [] ∧
      t.aonRun.charger = decide (s.get F.AON_CFG_CHG_MAIN ≠ 0) ∧ t.get F.AON_DARK_BINS = 0 ∧ t.get F.AON_DARK_AVG = 0xFFFF ∧ still t) ∧
    (A.absent = true → ∃ t, exec .powerCycleCount s = .next t ∧ up t F.AON_PCYC_CNT ∧ t.aonRun = { A with absent := false } ∧
      still t) ∧
    (A.absent = false → exec .powerCycleCount s = .next s) ∧
    (A.off = false → A.buffer = [] → ∃ t, exec .aonSecond s = .next t ∧ up t F.AON_SECS_SECS ∧
      (if s.onMain then up t F.AON_MSECS_SECS else t.get F.AON_MSECS_SECS = s.get F.AON_MSECS_SECS) ∧ still t) ∧
    (∀ vl vs draw harvest, A.off = false → vl < 65536 → vs < 65536 →
      let c := s.get F.AON_CFG_LCAP
      let lmax := 2300 + 10 * s.get F.AON_LMAX_CODE
      ∃ t, exec (.gaugeUpdate vl vs draw harvest) s = .next t ∧ t.get F.AON_VST_VLARGE = vl ∧ t.get F.AON_VST_VSMALL = vs ∧
        t.get F.AON_GAUGE_PCT = min (100 * (c * (vl * vl - 1900 * 1900)) / (c * (lmax * lmax - 1900 * 1900))) 100 ∧
        (let drawn := 600 * draw + 160 * (A.writes.filter fun w => decide (s.get F.AON_SECS_SECS < w + 600)).length
         t.get F.AON_GAUGE_HOURS = if 600 * harvest < drawn then
          min (c * (vl * vl - 1900 * 1900) / (12 * (drawn - 600 * harvest))) 0xFFFE else 0xFFFF) ∧
        t.aonRun.charging = (if s.get F.AON_STAT_HARV_RUN = 0 ∧ (s.onMain = false ∨ s.get F.AON_CFG_CHG_MAIN = 0) then none
          else if vs < 2500 then some false else if vl < lmax then some true else none) ∧
        t.aonRun.refill = decide (vs < 2300 ∧ vs < vl) ∧ still t) ∧
    (∀ v, (s.get F.AON_STAT_HARV_RUN = 1 → A.off = false → ∃ t, exec (.harvesterVocMeasure v) s = .next t ∧
        t.get F.AON_HARV_VOC = min v 0xFFFF ∧ t.aonRun = { A with inputAt := v * s.get F.AON_CFG_FOC } ∧
        RegsBut s t [F.AON_HARV_VOC.key 0 0 0] ∧ still t) ∧
      (s.get F.AON_STAT_HARV_RUN = 0 ∨ A.off = true → exec (.harvesterVocMeasure v) s = .next s)) ∧
    (let near := fun (drop : Nat) => 2500 < s.get F.AON_VST_VSMALL + drop ∧ 2300 + 10 * s.get F.AON_LMAX_CODE < s.get F.AON_VST_VLARGE + drop
     (∀ cold, (A.full = false ∨ ¬near 20 → (cold = true ∨ A.off = false) → ∃ t, exec (.harvesterStart cold) s = .next t ∧
        t.get F.AON_STAT_HARV_RUN = 1 ∧ t.aonRun.full = false ∧ RegsBut s t [F.AON_STAT_HARV_RUN.key 0 0 0] ∧
        t.aonRun.buffer = A.buffer ∧ still t) ∧
      (A.full = true → near 20 → exec (.harvesterStart cold) s = .next s) ∧
      (cold = false → A.off = true → exec (.harvesterStart cold) s = .next s)) ∧
     ∃ t, exec .harvesterStop s = .next t ∧ t.get F.AON_STAT_HARV_RUN = 0 ∧ (t.aonRun.full = true ↔ near 1) ∧
      RegsBut s t [F.AON_STAT_HARV_RUN.key 0 0 0] ∧ (t.aonRun.charger = false → t.aonRun.charging = none) ∧ still t) ∧
    (∀ e es, A.buffer = e :: es → s.onMain = false → A.off = false →
      (2000 ≤ s.get F.AON_VST_VSMALL → writes r → ∃ t, exec .aonRecordWrite s = .next t ∧ t.aonRun.buffer = es ∧
        t.recorder.committing = some (e, s.get F.REC_NEXT_SEQ, r) ∧ t.get F.REC_NEXT_SEQ = (s.get F.REC_NEXT_SEQ + 1) % 2 ^ 32 ∧
        (t.flashRun 0).busy = some (.program r (recordRow (s.get F.REC_NEXT_SEQ) e)) ∧
        t.aonRun.writes.head? = some (s.get F.AON_SECS_SECS) ∧ t.flash = s.flash ∧ still t) ∧
      (s.flashBusy 0 = true → exec .aonRecordWrite s = .next s) ∧
      (s.get F.AON_VST_VSMALL < 2000 → exec .aonRecordWrite s = .next s)) ∧
    (∀ e, s.onMain = false → A.off = false → A.bins.length < 255 → ∃ t, exec (.darkBinClose e) s = .next t ∧
      t.aonRun.bins = e :: A.bins ∧ up t F.AON_DARK_BINS ∧ still t ∧
      (let w := max (s.get F.AON_CFG_DARK_H) 1
       let sum := ((e :: A.bins).take w).sum
       (A.bins.length + 1 < w → t.get F.AON_DARK_AVG = 0xFFFF) ∧
       (w ≤ A.bins.length + 1 → sum < 0xFFFE * w → ((t.get F.AON_DARK_AVG * w : Nat) - sum : Int).natAbs < w))) ∧
    (s.darkCause = none ↔ A.off = true ∨ s.onMain = true ∨
      (¬(s.darkExists = true ∧ (A.bins.take s.darkWindow).sum < 50 * s.darkWindow ∧ s.get F.AON_VST_VLARGE < 1900) ∧
        ¬(s.get F.AON_VST_VSMALL < 2000 ∧ s.get F.AON_VST_VLARGE ≤ s.get F.AON_VST_VSMALL))) ∧
    (∀ c, s.darkCause = some c →
      (writes r → ∃ t, exec .darkCutoff s = .next t ∧ t.aonRun.off = true ∧ t.aonRun.hours = none ∧ t.get F.PWR_PKG_AON = 2 ∧
        t.get F.AON_STAT_ALARM = 0 ∧ t.get F.AON_STAT_HARV_RUN = 0 ∧ (t.flashRow 0 r).toNat / 2 ^ 96 % 2 ^ 16 = 0x0803 ∧
        (t.flashRow 0 r).toNat % 2 ^ 32 = s.get F.REC_NEXT_SEQ % 2 ^ 32 ∧ still t) ∧
      (s.flashBusy 0 = true → exec .darkCutoff s = .next s)) ∧
    (s.darkCause = none → exec .darkCutoff s = .next s) ∧
    (A.off = true → A.expired = false → ∃ t n, exec .darkTimerExpired s = .next t ∧
      t.aonRun = { A with expired := true, hours := some n } ∧ t.cells = s.cells ∧ still t) ∧
    (A.off = false ∨ A.expired = true → exec .darkTimerExpired s = .next s) ∧
    (∀ (hours : BitVec 16) (main : Bool), (A.off = true → ∃ t, exec (.darkWake hours main) s = .next t ∧
        t.aonRun.off = false ∧ t.get F.AON_GAP_HOURS = A.hours.getD hours.toNat % 2 ^ 16 ∧ t.get F.AON_GAP_EXPIRED = (if A.expired then 1 else 0) ∧
        t.get F.AON_STAT_WOKE = 1 ∧ t.get F.PWR_PKG_AON = 0 ∧ t.get F.AON_SECS_SECS = s.get F.AON_SECS_SECS ∧
        t.points = s.points ∧ t.legs = s.legs) ∧
      (A.off = false → exec (.darkWake hours main) s = .next s))

/-! ### Flash, recorder, interrupts, clocks and power -/

/-- R457, R458, R474, R497: the operations of FL_CMD: accepted they run until their completion, which shows the row, programs
bits to zero or erases the sector; while one runs another is refused; while the flash is not ON they wait; and a suspended
erase resumes. No record is due here: a commit or a mirror copy that is due comes first. -/
def Obligations.FlashOperationsRunToTheirEnd : Prop :=
  ∀ (s : State) (q : Requester) (d : Nat), d < s.dies → 1 ≤ s.pkgState → s.reached q d = s → s.get F.FL_ADDR_ROW d < 131072 →
    let row := s.get F.FL_ADDR_ROW d
    let c := row / 512
    let U := s.flashRun d
    let R := s.recorder
    let on := s.domOn d domFLASH
    let quiet := (d = 0 → R.intake = [] ∧ R.first = none) ∧ (d = 1 → R.mirrorDue = [] ∧ R.mirrorLack = [])
    let still := fun (t : State) => t.points = s.points ∧ t.legs = s.legs ∧ t.engines = s.engines
    let begun := fun (t : State) (op : FlashOp) => t.flashRun d = { U with busy := some op } ∧ t.get F.FL_STAT_BUSY d = 1 ∧
      t.get F.FL_STAT_RES d = 0 ∧ t.flash = s.flash ∧ still t
    let refused := fun (i : Instr) => exec i s = .next (s.put F.FL_STAT_RES Status.refused.code d)
    (s.get F.FL_STAT_BUSY d = 1 → refused (.flashRead q d) ∧ refused (.flashProgram q d) ∧ refused (.flashErase q d)) ∧
    (s.sectorOpen d c = true ↔ (s.sector d c).lock = false ∧ c ≠ 240 ∧ ¬(d < 2 ∧ 128 ≤ c ∧ c < 240) ∧
      (c < 128 → s.boot.slot ≠ some (c / 64) ∧ s.get F.PKG_BOOT_TRIAL = 0)) ∧
    (s.get F.FL_STAT_BUSY d = 0 → U.busy = none → U.suspended = none → on = true →
      (∃ t, exec (.flashRead q d) s = .next t ∧ begun t (.read row)) ∧
      (s.sectorOpen d c = true → (∃ t, exec (.flashProgram q d) s = .next t ∧ begun t (.program row (s.dataRow d))) ∧
        ∃ t, exec (.flashErase q d) s = .next t ∧ begun t (.erase c) ∧ (t.sector d c).state = 0x1F) ∧
      (s.sectorOpen d c = false → refused (.flashProgram q d) ∧ refused (.flashErase q d))) ∧
    (on = false → exec (.flashOpDone d) s = .next s ∧ (s.get F.FL_STAT_BUSY d = 0 → ∃ t, exec (.flashRead q d) s = .next t ∧
      t.flashRun d = { U with waiting := .read row :: U.waiting } ∧ t.get F.FL_STAT_BUSY d = 1 ∧ t.get F.FL_STAT_RES d = 0 ∧
      t.flash = s.flash ∧ still t)) ∧
    (U.busy = none → exec (.flashOpDone d) s = .next s) ∧
    (∀ r, on = true → quiet → r < 131072 → U.busy = some (.read r) → U.suspended = none → U.waiting = [] →
      ∃ t, exec (.flashOpDone d) s = .next t ∧ (∀ k < 8, t.get F.FL_DATA d k = s.flashWord d (8 * r + k)) ∧
        t.get F.FL_STAT_BUSY d = 0 ∧ (t.flashRun d).busy = none ∧ t.flash = s.flash ∧ still t) ∧
    (∀ r v, on = true → quiet → U.busy = some (.program r v) → R.committing = none → R.mirroring = none → U.suspended = none →
      U.waiting = [] → ∃ t, exec (.flashOpDone d) s = .next t ∧ t.flashRow d r = s.flashRow d r &&& v ∧
        t.get F.FL_STAT_BUSY d = 0 ∧ (t.flashRun d).busy = none ∧ (∀ k < 131072, k ≠ r → t.flashRow d k = s.flashRow d k) ∧ still t) ∧
    (∀ x, on = true → quiet → x < 256 → recorderSector d x = false → U.busy = some (.erase x) → U.suspended = none → U.waiting = [] →
      ∃ t, exec (.flashOpDone d) s = .next t ∧ (∀ k < 512, t.flashRow d (512 * x + k) = BitVec.allOnes 256) ∧
        (∀ k < 131072, k / 512 ≠ x → t.flashRow d k = s.flashRow d k) ∧ (t.sector d x).state = 0xFF ∧
        (t.sector d x).lock = (s.sector d x).lock ∧ t.get F.FL_STAT_BUSY d = 0 ∧ still t) ∧
    (∀ x, on = true → U.busy = none → U.suspended = some x → recorderSector d x = false → ∃ t, exec (.eraseResume d) s = .next t ∧
      t.flashRun d = { U with busy := some (.erase x), suspended := none } ∧ t.get F.FL_STAT_SUSP d = 0 ∧
      RegsBut s t [F.FL_STAT_SUSP.key d 0 0] ∧ t.flash = s.flash ∧ still t)

/-- R460, R461, R466 to R468, R470, R471: a record of the intake that is at least 1 ms old is committed: it takes the next
sequence number and the next row, of the permanent area once the package is commissioned and while there is room, else of the
circulating one; its program runs, its end leaves the row of R460 in flash with a mirror copy due, and that copy runs on D1.
The last clause follows one record from the intake to both flashes. While FROZEN no commit begins. R456, R459, R467, R469,
R470: COMMISSION, the freeze and its end, and the selection, the search and the read of a record. A torn row is no record,
and a source AUTO presents the mirror copy unless the CRC of the primary one is valid. -/
def Obligations.RecordsAreCommittedMirroredAndFound : Prop :=
  (∀ (s : State),
     let R := s.recorder
     let still := fun (t : State) => t.points = s.points ∧ t.legs = s.legs
     let perm := 0 < R.permRow ∧ R.permRow < 8192
     let r := if perm then 65536 + R.permRow else 73728 + R.circRow
     let seq := s.get F.REC_NEXT_SEQ
     let now := s.get F.REC_FLG_FROZEN = 0 ∧ s.domOn 0 domFLASH = true ∧ s.flashBusy 0 = false ∧ R.committing = none
     let fit := fun (d r : Nat) => (s.sector d (r / 512)).state ≠ 0x1F ∧ s.needsErase d r = false
     let copies := s.get F.REC_FLG_FROZEN = 0 ∧ s.domOn 1 domFLASH = true ∧ s.flashBusy 1 = false ∧ R.mirroring = none
     let copying := fun (c : Instr) (r : Nat) (P : State → Prop) => ∃ t, exec c s = .next t ∧ t.recorder.mirroring = some r ∧
       (t.flashRun 1).busy = some (.program r (s.flashRow 0 r)) ∧ t.flash = s.flash ∧ P t ∧ still t
     (R.intake = [] → R.first = none → exec .recordCommit s = .next s) ∧
     (s.get F.REC_FLG_FROZEN = 1 → exec .recordCommit s = .next s) ∧
     (∀ e es, R.first = none → R.intake = e :: es → s.tick 0 < e.tick + 100000 → exec .recordCommit s = .next s) ∧
     (∀ e es, R.first = none → R.intake = e :: es → e.tick + 100000 ≤ s.tick 0 → now → s.recQueue = none →
       (fit 0 r → ∃ t, exec .recordCommit s = .next t ∧ t.recorder.intake = es ∧ t.recorder.committing = some (e, seq, r) ∧
         t.get F.REC_NEXT_SEQ = (seq + 1) % 2 ^ 32 ∧ t.recorder.permRow = (if perm then R.permRow + 1 else R.permRow) ∧
         t.recorder.circRow = (if perm then R.circRow else (R.circRow + 1) % 49152) ∧
         (t.flashRun 0).busy = some (.program r (recordRow seq e)) ∧ t.flash = s.flash ∧ still t) ∧
       ((s.sector 0 (r / 512)).state ≠ 0x1F → s.needsErase 0 r = true → ∃ t, exec .recordCommit s = .next t ∧
         (t.sector 0 (r / 512)).state = 0x1F ∧ t.recorder = R ∧ t.get F.REC_NEXT_SEQ = seq ∧ t.flash = s.flash ∧ still t)) ∧
     (∀ e, R.first = some e → now → fit 0 (65536 + R.permRow) → ∃ t, exec .recordCommit s = .next t ∧ t.recorder.first = none ∧
       t.recorder.committing = some (e, seq, 65536 + R.permRow) ∧ t.recorder.intake = R.intake ∧ still t) ∧
     (∀ x v e n m, s.domOn 0 domFLASH = true → (s.flashRun 0).busy = some (.program x v) → R.committing = some (e, n, m) →
       R.intake = [] → R.first = none → x < 131072 → ∃ t, exec (.flashOpDone 0) s = .next t ∧ t.flashRow 0 x = v ∧
         t.recorder.committing = none ∧ (∀ k < 131072, k ≠ x → t.flashRow 0 k = s.flashRow 0 k) ∧
         (e.aon = false → t.recorder.mirrorDue = R.mirrorDue ++ [x] ∧ t.recorder.mirrorLack = R.mirrorLack) ∧
         (e.aon = true → t.recorder.mirrorLack = R.mirrorLack ++ R.mirrorDue ++ [x] ∧ t.recorder.mirrorDue = []) ∧
         (x = 73727 → t.get F.REC_FLG_PERM_FULL = 1) ∧ still t) ∧
     (∀ x xs, R.mirrorDue = x :: xs → R.mirrorLack = [] → copies → fit 1 x → s.sectorLock 1 (x / 512) = false →
       copying .mirrorCommit x fun t => t.recorder.mirrorDue = xs) ∧
     (∀ x xs, R.mirrorLack = x :: xs → s.ready = true → copies → fit 1 x → s.sectorLock 1 (x / 512) = false →
       copying .mirrorCopy x fun t => t.recorder.mirrorLack = xs) ∧
     (R.mirrorLack ≠ [] → exec .mirrorCommit s = .next s ∧ (s.ready = false → exec .mirrorCopy s = .next s)) ∧
     (∀ x v, s.domOn 1 domFLASH = true → (s.flashRun 1).busy = some (.program x v) → R.mirroring = some x → R.mirrorDue = [] →
       R.mirrorLack = [] → s.recQueue = none → x < 131072 → ∃ t, exec (.flashOpDone 1) s = .next t ∧ t.flashRow 1 x = v ∧
         t.recorder.mirroring = none ∧ (∀ k < 131072, t.flashRow 0 k = s.flashRow 0 k) ∧ still t) ∧
     (∀ x, s.storedRows = [x] → s.recQueue = none → R.torn.contains (131072 + x) = false → rowValid (s.flashRow 0 x) = false →
       rowValid (s.flashRow 1 x) = true → ∃ t, exec .mirrorCompare s = .next t ∧ t.recorder.compareAt = 0 ∧
         t.get F.REC_MIR2_BADCRC_CNT = min (s.get F.REC_MIR2_BADCRC_CNT + 1) (2 ^ F.REC_MIR2_BADCRC_CNT.width - 1) ∧
         RegsBut s t [F.REC_MIR2_BADCRC_CNT.key 0 0 0] ∧ t.flash = s.flash ∧ still t) ∧
     (s.storedRows = [] → exec .mirrorCompare s = .next s) ∧
     (∀ e, R.first = none → R.intake = [e] → e.aon = false → e.tick + 100000 ≤ s.tick 0 → now → copies → fit 0 r → fit 1 r →
       s.sectorLock 1 (r / 512) = false → R.mirrorDue = [] → R.mirrorLack = [] → s.recQueue = none → r < 122880 →
       ∃ t1 t2 t3 t4, exec .recordCommit s = .next t1 ∧ exec (.flashOpDone 0) t1 = .next t2 ∧ exec .mirrorCommit t2 = .next t3 ∧
         exec (.flashOpDone 1) t3 = .next t4 ∧ t4.flashRow 0 r = recordRow seq e ∧ t4.flashRow 1 r = recordRow seq e ∧
         t4.recorder.intake = [] ∧ t4.recorder.mirrorDue = [] ∧ t4.recorder.committing = none ∧ t4.recorder.mirroring = none)) ∧
  (∀ (s : State) (q : Requester) (seq : BitVec 32), 2 ≤ s.pkgState → q.index ≤ 256 →
     let i := q.index
     let R := s.recorder
     let still := fun (t : State) => t.points = s.points ∧ t.legs = s.legs ∧ t.engines = s.engines
     let begun := fun (t : State) => t.get F.REC_FLG_COMMISSIONED = 1 ∧ t.get F.REC_STAT_CMD_RES = 0 ∧ t.flash = s.flash ∧ still t
     (s.get F.REC_FLG_COMMISSIONED = 0 → R.permRow = 0 →
       (s.get F.REC_FLG_FROZEN = 0 → s.domOn 0 domFLASH = true → s.flashBusy 0 = false → R.committing = none →
         (s.sector 0 128).state ≠ 0x1F → s.get F.REC_NEXT_SEQ < 2 ^ 32 → ∃ t, exec (.commission q) s = .next t ∧ begun t ∧
           t.get F.REC_PFIRST_SEQ = s.get F.REC_NEXT_SEQ ∧ t.recorder.permRow = 1 ∧ t.recorder.first = none ∧
           ∃ e, e.code = 0x0810 ∧ t.recorder.committing = some (e, s.get F.REC_NEXT_SEQ, 65536) ∧
             (t.flashRun 0).busy = some (.program 65536 (recordRow (s.get F.REC_NEXT_SEQ) e))) ∧
       (s.get F.REC_FLG_FROZEN = 1 ∨ s.domOn 0 domFLASH = false ∨ s.flashBusy 0 = true → ∃ t, exec (.commission q) s = .next t ∧
         begun t ∧ t.get F.REC_NEXT_SEQ = s.get F.REC_NEXT_SEQ ∧ ∃ e, e.code = 0x0810 ∧ t.recorder = { R with first := some e })) ∧
     (s.get F.REC_FLG_COMMISSIONED = 1 ∨ R.permRow ≠ 0 →
       exec (.commission q) s = .next (s.put F.REC_STAT_CMD_RES Status.refused.code)) ∧
     ((s.flashRun 0).busy = none → (s.flashRun 1).busy = none → ∃ t, exec (.freeze q) s = .next t ∧
       t.get F.REC_FLG_FROZEN = 1 ∧ t.recorder.frozenAt = s.tick 0 ∧ t.get F.REC_STAT_CMD_RES = 0 ∧
       RegsBut s t [F.REC_FLG_FROZEN.key 0 0 0, F.REC_STAT_CMD_RES.key 0 0 0] ∧ t.flash = s.flash ∧ still t) ∧
     (∀ d < 2, ∀ c, (s.flashRun d).busy = some (.erase c) → 128 ≤ c → c < 240 → ∃ t, exec (.freeze q) s = .next t ∧
       t.get F.REC_FLG_FROZEN = 1 ∧ (t.flashRun d).busy = none ∧ (t.flashRun d).suspended = some c ∧ t.flash = s.flash ∧ still t) ∧
     (∃ t, exec (.unfreeze q) s = .next t ∧ t.get F.REC_FLG_FROZEN = 0 ∧ t.get F.REC_STAT_CMD_RES = 0 ∧ t.flash = s.flash ∧
       still t) ∧
     (s.get F.REC_FLG_FROZEN = 1 → (s.tick 0 < R.frozenAt + 1000000000 → exec .freezeExpiry s = .next s) ∧
       (R.frozenAt + 1000000000 ≤ s.tick 0 → ∃ t, exec .freezeExpiry s = .next t ∧ t.get F.REC_FLG_FROZEN = 0 ∧
         t.get F.REC_FLG_FRZ_EXP = 1 ∧ t.flash = s.flash ∧ still t)) ∧
     (∃ t, exec (.recordSelect q seq) s = .next t ∧ t.get F.REC_CURSOR_SEQ 0 i = seq.toNat ∧
       t.get F.REC_CSEL_WSTAT 0 i = Status.notReady.code ∧ t.flash = s.flash ∧ still t ∧
       RegsBut s t [F.REC_CURSOR_SEQ.key 0 i 0, F.REC_CSEL_WSTAT.key 0 i 0]) ∧
     (∀ n a b, s.rowsOf 0 n = a → s.rowsOf 1 n = b →
       (a = [] → b = [] → s.locate 0 n = (none, .empty)) ∧
       (∀ v, a = [v] → rowValid v = true → s.locate 0 n = (some v, .ok) ∧ s.locate 1 n = (some v, .ok)) ∧
       (∀ v w, a = [v] → b = [w] → rowValid v = false →
         s.locate 0 n = (some w, if rowValid w = true then .ok else .badCrc) ∧ s.locate 1 n = (some v, .badCrc))) ∧
     (∀ d r n, d < 2 → r < 131072 → R.torn.contains (d * 131072 + r) = true ∨ (s.sector d (r / 512)).state = 0x1F →
       (∀ p ∈ s.flash, p.1 = d * 131072 + r) → s.rowsOf d n = []) ∧
     (∀ v, s.get F.REC_CSEL_WSTAT 0 i = Status.notReady.code →
       s.locate (s.get F.REC_CSEL_SRC 0 i) (s.get F.REC_CURSOR_SEQ 0 i) = (some v, .ok) →
       ∃ t, exec (.recordLocated q) s = .next t ∧ t.get F.REC_CSEL_WSTAT 0 i = 0 ∧
         (∀ k < 8, t.get F.REC_WIN 0 i k = v.toNat / 2 ^ (32 * k) % 2 ^ 32) ∧ t.flash = s.flash ∧ still t) ∧
     (s.get F.REC_CSEL_AUTO 0 i = 0 → ∃ t, exec (.recWinRead q) s = .next t ∧
       t.answer = [BitVec.ofNat 32 (s.get F.REC_WIN 0 i 7)] ∧ t.cells = s.cells ∧ still t) ∧
     (s.get F.REC_CSEL_AUTO 0 i = 1 → ∃ t, exec (.recWinRead q) s = .next t ∧
       t.answer = [BitVec.ofNat 32 (s.get F.REC_WIN 0 i 7)] ∧ t.get F.REC_CURSOR_SEQ 0 i = (s.get F.REC_CURSOR_SEQ 0 i + 1) % 2 ^ 32 ∧
       t.get F.REC_CSEL_WSTAT 0 i = Status.notReady.code ∧ still t))

/-- R13, R476, R486, R488 to R490: software events, the host's clear of its pending bits, in which a bit that the hardware
sets in the same cycle stays, and the loss and return of lock of the PLL, with the clocks of the die that stop and start with
it. R493 to R496: ramp generators run, end their segments and stop; operating points change one of voltage and frequency at a
time, and the rail follows. -/
def Obligations.InterruptsClocksAndOperatingPoints : Prop :=
  (∀ (s : State) (q : Requester) (d : Nat), d < s.dies → 2 ≤ s.pkgState → s.reached q d = s → s.recQueue = none →
     let still := fun (t : State) => t.points = s.points ∧ t.queues = s.queues
     (∀ src : BitVec 9, src.toNat < 256 → exec (.irqSwset q d src) s = .next (s.wref q F.IRQ_SWSET_SRC d)) ∧
     (∀ src : BitVec 9, 256 ≤ src.toNat → ownDie q d = true → s.get F.IRQ_SRC_HOST d src.toNat = 0 →
       s.get F.IRQ_SRC_EN d src.toNat = 1 → s.get F.IRQ_SRC_MODE d src.toNat = 0 →
       (s.eng (s.srcEngine d src.toNat)).frozen = false →
       (s.isPend d src.toNat = false → ∃ t, exec (.irqSwset q d src) s = .next t ∧ t.isPend d src.toNat = true ∧
         RegsBut s t [F.IRQ_PEND_PEND.key d (src.toNat / 32) 0] ∧ t.engines = s.engines ∧ still t) ∧
       (s.isPend d src.toNat = true → ∃ t, exec (.irqSwset q d src) s = .next t ∧ t.isPend d src.toNat = true ∧
         t.get F.IRQ_CNT_LOST_CNT d = min (s.get F.IRQ_CNT_LOST_CNT d + 1) (2 ^ F.IRQ_CNT_LOST_CNT.width - 1) ∧
         t.engines = s.engines ∧ still t)) ∧
     (∀ (w : Nat) (bits : WrittenWord), w < 16 → s.get F.IRQ_HPEND_HPEND d w < 2 ^ 32 →
       ∃ t, exec (.irqHpendClear q d w bits) s = .next t ∧
         (∀ b < 32, bits.v.getLsbD b = false ∨ bits.hw.getLsbD b = true → t.getBit F.IRQ_HPEND_HPEND b d w = s.getBit F.IRQ_HPEND_HPEND b d w) ∧
         (∀ b < 32, bits.v.getLsbD b = true → bits.hw.getLsbD b = false → 8 ≤ w → t.getBit F.IRQ_HPEND_HPEND b d w = false) ∧
         RegsBut s t [F.IRQ_HPEND_HPEND.key d w 0, F.IRQ_DSUM_DIES.key 0 0 0] ∧ t.engines = s.engines ∧ still t) ∧
     (∀ band : BitVec 6, s.get F.CLK_PLL_SEARCH d = 1 → (s.die d).gated = false →
       exec (.pllLock d band) s = .next (((s.put F.CLK_PLL_SEARCH 0 d).put F.CLK_PLL_LOCK 1 d).put F.CLK_PLL_BAND band.toNat d)) ∧
     (∀ band : BitVec 6, s.get F.CLK_PLL_SEARCH d = 1 → (s.die d).gated = true → ∃ t, exec (.pllLock d band) s = .next t ∧
       t.get F.CLK_PLL_SEARCH d = 0 ∧ t.get F.CLK_PLL_LOCK d = 1 ∧ t.get F.CLK_PLL_BAND d = band.toNat ∧
       (t.die d).gated = false ∧ (∀ k, t.clockOn d k = s.bit F.CLK_OUT_EN d k) ∧
       (∀ n < 24, (t.leg d n).src = (t.source d n).1 ∧ ((s.leg d n).src = 0 → (s.leg d n).riseH = none → (s.leg d n).riseL = none →
         (s.get F.LEG_STAT_GH d n = 0 → t.get F.LEG_STAT_GH d n = 0) ∧ (s.get F.LEG_STAT_GL d n = 0 → t.get F.LEG_STAT_GL d n = 0))) ∧
       t.engines = s.engines ∧ still t) ∧
     (∀ band : BitVec 6, s.get F.CLK_PLL_SEARCH d = 0 → exec (.pllLock d band) s = .next s) ∧
     (s.get F.CLK_PLL_LOCK d = 1 → s.get F.IRQ_SRC_EN d 216 = 0 → (∀ h < 8 * s.dies, s.herdState h = .unbound) →
       ∃ t, exec (.pllUnlock d) s = .next t ∧ t.get F.CLK_PLL_LOCK d = 0 ∧ t.get F.CLK_PLL_UNLOCK d = 1 ∧
         t.get F.CLK_PLL_SEARCH d = 1 ∧ (t.die d).gated = true ∧ (∀ k, t.clockOn d k = false) ∧ (t.die d).reloadNext = true ∧ t.get F.TICK_STAT_DISAGREE d = 1 ∧
         t.get F.CLK_PLL_LOSS_CNT d = min (s.get F.CLK_PLL_LOSS_CNT d + 1) (2 ^ F.CLK_PLL_LOSS_CNT.width - 1) ∧
         (∀ n < 24, t.get F.LEG_STAT_GH d n = 0 ∧ t.get F.LEG_STAT_GL d n = 0 ∧ (t.leg d n).src = 0 ∧ (t.leg d n).riseH = none ∧
           (t.leg d n).riseL = none) ∧ t.engines = s.engines ∧ still t) ∧
     (s.get F.CLK_PLL_LOCK d = 0 → exec (.pllUnlock d) s = .next s)) ∧
  (∀ (s : State) (q : Requester) (d r c : Nat), d < s.dies → r < 2 → c < 8 → 2 ≤ s.pkgState → s.reached q d = s →
     let R := s.ramp d r
     let k := if r = 0 then 0 else 5
     let p := s.get F.RG_STAT_CUR d r
     let still := fun (t : State) => t.points = s.points ∧ t.engines = s.engines ∧ t.legs = s.legs
     let vNow := s.get F.CLU_OP_VSEL d c
     let fNow := s.get F.CLU_OP_FSEL d c
     (s.get F.RG_CFG_RUN d r = 0 → s.rampLow d r = false → ∃ t, exec (.rampRun q d r) s = .next t ∧ t.get F.RG_CFG_RUN d r = 1 ∧
       t.get F.RG_STAT_RES d r = 0 ∧ t.get F.RG_STAT_CUR d r = 0 ∧ t.ramp d r = ⟨s.clkRatio d k, 0, s.clkRatio d k, false⟩ ∧ still t) ∧
     (s.get F.RG_CFG_RUN d r = 1 ∨ s.rampLow d r = true →
       exec (.rampRun q d r) s = .next (s.put F.RG_STAT_RES Status.refused.code d r)) ∧
     (s.get F.RG_CFG_RUN d r = 1 → s.get F.RG_CFG_MODE d r = 1 → ∃ t, exec (.rampStop q d r) s = .next t ∧
       t.ramp d r = { R with ending := true } ∧ t.get F.RG_CFG_RUN d r = 1 ∧ t.get F.RG_STAT_RES d r = 0 ∧ still t) ∧
     (s.get F.RG_CFG_MODE d r = 0 → exec (.rampStop q d r) s = .next s) ∧
     (s.get F.RG_CFG_RUN d r = 1 → R.n < s.rampDwell d r p → exec (.rampSegmentEnd d r) s = .next s) ∧
     (s.get F.RG_CFG_RUN d r = 1 → s.rampDwell d r p ≤ R.n → R.ending = false → p < 16 →
       (p < s.get F.RG_CFG_LAST d r → s.get F.RG_CFG_LAST d r < 16 → ∃ t, exec (.rampSegmentEnd d r) s = .next t ∧
         t.get F.RG_STAT_CUR d r = p + 1 ∧ t.ramp d r = ⟨s.get F.RG_PT_RATIO d r p, 0, s.get F.RG_PT_RATIO d r p, false⟩ ∧
         RegsBut s t [F.RG_STAT_CUR.key d r 0] ∧ still t) ∧
       (s.get F.RG_CFG_LAST d r ≤ p → s.get F.RG_CFG_MODE d r = 0 → ∃ t, exec (.rampSegmentEnd d r) s = .next t ∧
         t.get F.RG_CFG_RUN d r = 0 ∧ t.get F.RG_STAT_DONE d r = 1 ∧
         t.get F.CLK_OUT_DIV d k = s.get F.RG_PT_RATIO d r p / 65536 % 8192 ∧
         t.get F.CLK_OUTF_FRAC d k = s.get F.RG_PT_RATIO d r p % 65536 ∧ still t)) ∧
     (∀ v f : BitVec 2,
       let one := v.toNat = vNow ∨ f.toNat = fNow
       let raised := fNow < f.toNat → f.toNat ≤ vNow ∧ f.toNat ≤ s.get F.CLU_OP_VNOW d c
       let lowered := v.toNat < vNow → fNow ≤ v.toNat
       (one → raised → lowered → ∃ t, exec (.opWrite q d c v f) s = .next t ∧ t.get F.CLU_OP_VSEL d c = v.toNat ∧
         t.get F.CLU_OP_FSEL d c = f.toNat ∧ t.get F.CLU_OP_VOK d c = (if v.toNat = vNow then s.get F.CLU_OP_VOK d c else 0) ∧
         t.get F.CLU_OP_OP_RES d c = 0 ∧ still t) ∧
       (¬(one ∧ raised ∧ lowered) →
         exec (.opWrite q d c v f) s = .next (s.put F.CLU_OP_OP_RES Status.refused.code d c))) ∧
     (∀ l : BitVec 2, s.get F.CLU_OP_VNOW d c < vNow → l.toNat = s.get F.CLU_OP_VNOW d c + 1 →
       exec (.railLevelMet d c l) s = .next (s.put F.CLU_OP_VNOW l.toNat d c)) ∧
     (exec (.railSettled d c) s = .next (if s.get F.CLU_OP_VNOW d c = vNow then s.put F.CLU_OP_VOK 1 d c else s)))

/-- R497 to R499, R502: requests to the domain of a cluster: ON, and a quiet cluster with nothing in flight into RETAIN or
OFF, where its memories are lost; a busy cluster waits; and a transition ends in its target. -/
def Obligations.PowerDomainsFollowTheirRequests : Prop :=
  ∀ (s : State) (q : Requester) (d k : Nat), d < s.dies → k < 8 → 2 ≤ s.pkgState → s.reached q d = s →
    let D := s.dom d k
    let st := s.get F.PWR_DOM_STATE d k
    let busy := s.get F.PWR_DOM_BUSY d k
    let still := fun (t : State) => t.points = s.points ∧ t.legs = s.legs ∧ t.engines = s.engines
    let entering := fun (t : State) (target : Nat) => t.get F.PWR_DOM_STATE d k = target ∧ t.get F.PWR_DOM_BUSY d k = 1 ∧
      t.get F.PWR_DOM_RES d k = 0 ∧ (t.dom d k).moving = true ∧ (t.dom d k).target = target ∧ (t.dom d k).waiting = false ∧ still t
    (busy = 0 → st = 0 → exec (.pwrOn q d k) s = .next (s.put F.PWR_DOM_RES 0 d k)) ∧
    (busy = 0 → st ≠ 0 → ∃ t, exec (.pwrOn q d k) s = .next t ∧ t.get F.PWR_DOM_STATE d k = st ∧ t.get F.PWR_DOM_BUSY d k = 1 ∧
      t.get F.PWR_DOM_RES d k = 0 ∧ t.dom d k = { D with moving := true, target := 0, waiting := false } ∧ still t) ∧
    (busy = 1 → exec (.pwrRetain q d k false) s = .next (s.put F.PWR_DOM_RES Status.refused.code d k) ∧
      exec (.pwrOff q d k false) s = .next (s.put F.PWR_DOM_RES Status.refused.code d k)) ∧
    (∀ f, busy = 0 → st = 0 → s.clusterQuiet d k = true →
      (s.inFlight d k 1 = [] → ∃ t, exec (.pwrRetain q d k f) s = .next t ∧ entering t 1 ∧ t.priv = s.priv ∧ t.shared = s.shared) ∧
      (s.inFlight d k 2 = [] → ∃ t, exec (.pwrOff q d k f) s = .next t ∧ entering t 2 ∧
        (∀ i a, i < 4 → a < 2048 → Store.get t.priv 0 ((d * 32 + 4 * k + i) * 2048 + a) = 0) ∧
        (∀ a < 16384, Store.get t.shared 0 ((d * 8 + k) * 16384 + a) = 0))) ∧
    (∀ f, busy = 0 → st = 0 → s.clusterQuiet d k = false → ∃ t, exec (.pwrRetain q d k f) s = .next t ∧
      t.get F.PWR_DOM_STATE d k = 0 ∧ t.get F.PWR_DOM_BUSY d k = 1 ∧ (t.dom d k).waiting = true ∧ (t.dom d k).target = 1 ∧ still t) ∧
    (D.waiting = true → D.target = 1 → D.heldOn = false → s.clusterQuiet d k = true → s.inFlight d k 1 = [] →
      ∃ t, exec (.domainWaitDone d k) s = .next t ∧ entering t 1) ∧
    (D.waiting = true → s.clusterQuiet d k = false → exec (.domainWaitDone d k) s = .next s) ∧
    (busy = 1 → D.moving = true → D.waiting = false → D.heldOn = false → D.target ≤ 2 → (D.target = 0 → st ≠ 2) →
      s.get F.IRQ_SRC_EN d 217 = 0 → ∃ t, exec (.domainTransitionDone d k) s = .next t ∧
        t.get F.PWR_DOM_STATE d k = D.target ∧ t.get F.PWR_DOM_BUSY d k = 0 ∧ t.dom d k = DomRun.reset ∧ still t)

/-! ### Host ports -/

/-- R140, R504 to R508, R540, R564: SPI transfers and the debug port: reads and writes of points with their CMD byte, count
and CRC, a bad CRC, the status, and the instructions of the TAP; in RESET the SPI target does nothing. A register burst may
be served in parts; it answers with its last word. That the count in STAT includes its own transfer, and HOSTACC's count, are
log entry 60. R28, R513 to R517: the PMBus and AVSBus target, reached with nothing of D0 on the way to the dies it names: the
page, writes that are stored and pushed to the queue of the page, reads of the page's registers and points with their PEC
byte (its polynomial is log entry 60), and a command that it does not support. -/
def Obligations.SpiDebugAndPmbusPortsAnswer : Prop :=
  (∀ (s : State) (p : Nat) (x : BitVec 32) (cmd : BitVec 8) (part : BurstPart), p < 2 ^ 20 → cmd.toNat % 32 = 0 → part.cont = false →
     let a := 0x80000000 + 4 * p
     let head : SpiHead := ⟨cmd, BitVec.ofNat 32 a⟩
     let crc := fun (bytes : List Nat) => BitVec.ofNat 16 (crc16 bytes)
     let sumR := crc (transferBytes cmd.toNat a [])
     let sumW := crc (transferBytes cmd.toNat a [x.toNat])
     let w : PartWords := ⟨[⟨x, 0⟩], part⟩
     let op := cmd.toNat / 64
     let die := pointDie p
     let ok := s.pkgState = 4 ∧ s.pointStatus p = .ok ∧ s.fromOutside RingOp.reads [die] = some s ∧
       s.fromOutside RingOp.posted [die] = some s
     let n := (s.get F.SPI_STAT_SEQ + 1) % 16
     let seq := fun (t : State) => t.get F.SPI_STAT_SEQ = n
     let wrote := fun (t : State) => t.point p = x.extractLsb' 0 24 ∧ (∀ r, r ≠ p → t.point r = s.point r) ∧ t.queues = s.queues ∧
       t.engines = s.engines ∧ t.answer = [] ∧ t.answerSt = .ok
     let bad := fun (c : Instr) => ∃ t, exec c s = .next t ∧ t.answer = [] ∧ t.answerSt = .badCrc ∧ t.spiLast = .badCrc ∧
       t.get F.SPI_STAT_CRC_CNT = min (s.get F.SPI_STAT_CRC_CNT + 1) (2 ^ F.SPI_STAT_CRC_CNT.width - 1) ∧ seq t ∧ t.points = s.points
     (op = 0 → ok → ∃ t, exec (.spiRead head part sumR) s = .next t ∧ t.answer = [(s.point p).zeroExtend 32] ∧ t.answerSt = .ok ∧
       t.spiLast = .ok ∧ t.spiOut = responseBytes n .ok [(s.point p).toNat] ∧ seq t ∧ t.points = s.points ∧
       RegsBut s t [F.SPI_STAT_SEQ.key 0 0 0]) ∧
     (op = 1 → ok → ∃ t, exec (.spiWrite head w sumW) s = .next t ∧ wrote t ∧ t.spiLast = .ok ∧ t.spiOut = responseBytes n .ok [] ∧
       seq t) ∧
     (∀ e : BitVec 16, s.pkgState ≠ 0 → (op = 0 → e ≠ sumR → bad (.spiRead head part e)) ∧
       (op = 1 → e ≠ sumW → bad (.spiWrite head w e)) ∧ (op = 2 → e ≠ crc [cmd.toNat] → bad (.spiStatus ⟨cmd, e⟩))) ∧
     (∀ e : BitVec 16, (op ≠ 0 → exec (.spiRead head part e) s = .next s) ∧ (op ≠ 1 → exec (.spiWrite head w e) s = .next s) ∧
       (op ≠ 2 → exec (.spiStatus ⟨cmd, e⟩) s = .next s)) ∧
     (op = 0 → s.pkgState ≠ 0 → ∃ t, exec (.spiRead ⟨cmd, BitVec.ofNat 32 (a + 1)⟩ part (crc (transferBytes cmd.toNat (a + 1) []))) s =
       .next t ∧ t.answer = [] ∧ t.answerSt = .refused ∧ seq t ∧ t.points = s.points) ∧
     (op = 2 → s.pkgState ≠ 0 → ∃ t, exec (.spiStatus ⟨cmd, crc [cmd.toNat]⟩) s = .next t ∧ t.answerSt = s.spiLast ∧
       t.spiLast = s.spiLast ∧ t.spiOut = responseBytes (s.get F.SPI_STAT_SEQ) s.spiLast [] ∧ seq t ∧ t.points = s.points) ∧
     (∀ e : BitVec 16, s.pkgState = 0 → exec (.spiRead head part e) s = .next s ∧ exec (.spiWrite head w e) s = .next s ∧
       exec (.spiStatus ⟨cmd, e⟩) s = .next s) ∧
     (∀ e : BitVec 16, (∀ b ∈ s.bursts, b.key ≠ .spi) → exec (.spiRead head ⟨0, true⟩ e) s = .next s) ∧
     exec .spiAbandon s = .next s ∧
     exec .bypass s = .next { s with tap := { s.tap with instr := .bypass } } ∧
     exec .idcode s = .next { s with tap := { s.tap with instr := .idcode }, answerSt := .ok,
                                     answer := [BitVec.ofNat 32 (s.get F.PKG_SLOT_SIREV % 16 * 2 ^ 28 + (0x5E00 + s.dies) * 2 ^ 12 + 0x9E3)] } ∧
     (∀ cells : List Bool, ∃ t, exec (.samplePreload cells) s = .next t ∧ t.tap = { s.tap with instr := .sample, cells := cells } ∧
       t.answer.length = (cells.length + 31) / 32 ∧ t.cells = s.cells ∧ t.points = s.points) ∧
     (∃ t, exec .extest s = .next t ∧ t = { s with tap := { s.tap with instr := if s.extestOk then .extest else .bypass } } ∧
       (s.extestOk = true → ∀ d n, t.gatePins d n = (false, false)) ∧
       (s.extestOk = true ↔ (∀ h < 8 * s.dies, s.herdState h = .unbound ∨ s.herdState h = .bound) ∧
         s.safety.driveA = 0 ∧ s.safety.driveB = 0)) ∧
     (let c := (s.tap.count + 1) % 16
      (op = 0 → ok → ∃ t, exec (.hostacc cmd (BitVec.ofNat 32 a) w sumR) s = .next t ∧
         t.tap = ⟨.hostacc, s.tap.cells, c, .ok, responseBytes c .ok [(s.point p).toNat]⟩ ∧
         t.answer = [(s.point p).zeroExtend 32] ∧ t.answerSt = .ok ∧ t.points = s.points ∧ t.cells = s.cells) ∧
      (op = 1 → ok → ∃ t, exec (.hostacc cmd (BitVec.ofNat 32 a) w sumW) s = .next t ∧ t.tap.instr = .hostacc ∧ t.tap.count = c ∧
         t.tap.out = responseBytes c .ok [] ∧ wrote t) ∧
      (op = 2 → s.pkgState ≠ 0 → ∃ t, exec (.hostacc cmd (BitVec.ofNat 32 a) w (crc [cmd.toNat])) s = .next t ∧
         t.tap.out = responseBytes s.tap.count s.tap.last [] ∧ t.tap.last = s.tap.last ∧ t.answerSt = s.tap.last ∧
         t.points = s.points ∧ t.cells = s.cells)) ∧
     exec .tapReset s = .next { s with tap := TapRun.reset }) ∧
  (∀ (s : State) (p : Nat) (rail : BitVec 4) (mv : BitVec 16) (pec : Option Bool), p < 16 →
     let id := s.get F.PMB_PQ_QUEUE 0 p
     let on := s.get F.PMB_CFG_EN = 1 ∧ s.get F.PMB_PG_EN 0 p = 1 ∧ s.pmbPage = p ∧
       (pec = some true ∨ (pec = none ∧ s.get F.PMB_CFG_PEC_REQ = 0))
     let open_ := s.get F.Q_CFG_OWNER (id / 8192) (id % 8192) % 16 = p ∧ s.queueStatus id = .ok ∧
       s.fromOutside RingOp.posted [id / 8192] = some s ∧ s.get F.Q_CFG_KIND (id / 8192) (id % 8192) = 7 ∧ s.get F.IRQ_SRC_EN (id / 8192) 200 = 0 ∧
       (s.entries id).length < s.get F.Q_SIZE_DEPTH (id / 8192) (id % 8192)
     let pushed := fun (t : State) (w0 w1 : Nat) => t.entries id = s.entries id ++
         [⟨BitVec.ofNat 16 (0x103 * 128), ⟨BitVec.ofNat 24 w0, BitVec.ofNat 24 w1, BitVec.ofNat 24 (s.tick 0), 0⟩⟩] ∧
       (∀ j, j ≠ id → t.entries j = s.entries j) ∧ t.answerSt = .ok ∧ t.answer = [] ∧ t.points = s.points ∧ t.engines = s.engines
     let shows := fun (c : Instr) (code n w : Nat) => exec c s = .next { s with answer := [BitVec.ofNat 32 w], answerSt := Status.ok,
                                                                                 pec := BitVec.ofNat 8 (crc8 ([2 * s.get F.PMB_CFG_ADDR, code, 2 * s.get F.PMB_CFG_ADDR + 1] ++
         (List.range n).map fun k => w / 256 ^ k % 256)) }
     let still := s.forPage p = s
     let scaled := fun (c : Instr) (k off n base : Nat) => s.pointStatus (s.get F.PMB_PG_BPT 0 n + off) = .ok →
       let y := (s.point (s.get F.PMB_PG_BPT 0 n + off)).toInt
       0 ≤ y → y * k < 1023 * 2 ^ 23 → ∃ t v, exec c s = .next t ∧ t.answer = [BitVec.ofNat 32 (base + v)] ∧ t.answerSt = .ok ∧
         ((v : Int) * 2 ^ 23 - y * k).natAbs < 2 ^ 23 ∧ t.cells = s.cells ∧ t.points = s.points
     (on → (∀ v : BitVec 8, v.toNat < 16 → exec (.page (some v) pec) s =
         .next { s with pmbPage := v.toNat, answer := [], answerSt := .ok }) ∧ shows (.page none pec) 0 1 p) ∧
     (on → still → shows (.operation none pec) 1 1 (s.get F.PMB_PQ_OPER 0 p) ∧
       shows (.onOffConfig none pec) 2 1 (s.get F.PMB_PQ_OOC 0 p) ∧ shows (.voutCommand none pec) 0x21 2 (s.get F.PMB_PV_VCMD 0 p)) ∧
     (on → open_ → (∀ v : BitVec 8,
         (∃ t, exec (.operation (some v) pec) s = .next t ∧ t.get F.PMB_PQ_OPER 0 p = v.toNat ∧ pushed t (0x100 + p) v.toNat) ∧
         ∃ t, exec (.onOffConfig (some v) pec) s = .next t ∧ t.get F.PMB_PQ_OOC 0 p = v.toNat ∧ pushed t (0x200 + p) v.toNat) ∧
       (∃ t, exec (.voutCommand (some mv) pec) s = .next t ∧ t.get F.PMB_PV_VCMD 0 p = mv.toNat ∧ pushed t (0x2100 + p) mv.toNat) ∧
       ∃ t, exec (.clearFaults pec) s = .next t ∧ pushed t (0x300 + p) 0) ∧
     (on → still → s.pointStatus (s.get F.PMB_PG_BPT 0 p + 2) = .ok →
       shows .statusWord 0x79 2 ((s.point (s.get F.PMB_PG_BPT 0 p + 2)).toNat % 65536)) ∧
     (on → still → scaled .readVout (s.get F.PMB_PSC_KV 0 p) 0 p 0) ∧
     (on → still → scaled .readIout (s.get F.PMB_PSC_KI 0 p) 1 p (s.get F.PMB_PG_IEXP 0 p * 2048)) ∧
     (∀ code : BitVec 8, s.get F.PMB_CFG_EN = 1 → code.toNat ∉ [0x00, 0x01, 0x02, 0x03, 0x21, 0x79, 0x8B, 0x8C] →
       s.get F.PMB_CNT_UNSUP_CNT < 255 → s.get F.IRQ_SRC_EN 0 225 = 0 → ∃ t, exec (.pmbusUnsupported code) s = .next t ∧
         t.answerSt = .refused ∧ t.get F.PMB_CNT_UNSUP_CNT = s.get F.PMB_CNT_UNSUP_CNT + 1 ∧ t.points = s.points ∧
         t.engines = s.engines) ∧
     (s.get F.PMB_CFG_AVS_EN = 1 → rail.toNat = p → s.get F.PMB_PG_EN 0 p = 1 → still →
       (open_ → ∃ t, exec (.avsVoutWrite rail mv true) s = .next t ∧ pushed t (65536 + p) mv.toNat) ∧
       scaled (.avsVoutRead rail true) (s.get F.PMB_PV_KA 0 p) 0 p 0 ∧
       (s.pointStatus (s.get F.PMB_PG_BPT 0 p + 2) = .ok →
         exec (.avsStatusRead rail true) s = .next { s with answerSt := .ok, answer := [BitVec.ofNat 32 ((s.point (s.get F.PMB_PG_BPT 0 p + 2)).toNat % 65536)] })) ∧
     (s.get F.PMB_CFG_AVS_EN = 1 → s.get F.PMB_CNT_AVS_CRC_CNT < 255 → s.get F.IRQ_SRC_EN 0 225 = 0 →
       ∃ t, exec (.avsVoutWrite rail mv false) s = .next t ∧ t.queues = s.queues ∧
         t.get F.PMB_CNT_AVS_CRC_CNT = s.get F.PMB_CNT_AVS_CRC_CNT + 1))

/-- R28, R509 to R512: the CAN controllers, whose queues hold what D0 has sent to them: a received frame goes whole into the
queue of its filter or is counted, the frame with the lowest identifier is sent, and error counters, bus-off and recovery. -/
def Obligations.CanFramesPassThroughTheirQueues : Prop :=
  ∀ (s : State) (c : Nat), c < 2 → s.recQueue = none → s.get F.IRQ_SRC_EN 0 (223 + c) = 0 →
    let tec := s.get F.CAN_STAT_TEC 0 c
    let rec_ := s.get F.CAN_STAT_REC 0 c
    let calm := s.canOn c = true ∧ s.get F.CAN_STAT_STATE 0 c = 0 ∧ tec ≤ 119 ∧ rec_ ≤ 119
    let counts := fun (t : State) (a b : Nat) => t.get F.CAN_STAT_TEC 0 c = a ∧ t.get F.CAN_STAT_REC 0 c = b ∧
      t.get F.CAN_STAT_STATE 0 c = 0 ∧ t.points = s.points ∧ t.engines = s.engines
    (∀ f : CanFrame, calm → (f.fdf = false ∨ s.get F.CAN_CFG_FD_EN 0 c = 1) → f.rtr = false →
      (s.canFilter c f = none → ∃ t, exec (.canRxFrame c f) s = .next t ∧ counts t tec (rec_ - 1) ∧ t.queues = s.queues ∧
        t.get F.CAN_CNT_NOMATCH_CNT 0 c = min (s.get F.CAN_CNT_NOMATCH_CNT 0 c + 1) 0xFFFF) ∧
      (∀ k, s.canFilter c f = some k →
        let id := s.get F.CAN_FQ_QUEUE 0 c k
        let es := (canPayloads f (s.tick 0)).map fun p => (⟨BitVec.ofNat 16 ((0x101 + c) * 128), p⟩ : QEntry)
        s.queueStatus id = .ok → s.get F.Q_CFG_KIND (id / 8192) (id % 8192) = 6 → s.isCanTx id = false → s.canOwner id = c →
        s.get F.IRQ_SRC_EN (id / 8192) 200 = 0 → s.fromOutside RingOp.posted [id / 8192] = some s →
        ((s.entries id).length + es.length ≤ s.get F.Q_SIZE_DEPTH (id / 8192) (id % 8192) →
          ∃ t, exec (.canRxFrame c f) s = .next t ∧ counts t tec (rec_ - 1) ∧ t.entries id = s.entries id ++ es ∧
            ∀ j, j ≠ id → t.entries j = s.entries j) ∧
        (s.get F.Q_SIZE_DEPTH (id / 8192) (id % 8192) < (s.entries id).length + es.length →
          ∃ t, exec (.canRxFrame c f) s = .next t ∧ counts t tec (rec_ - 1) ∧ t.queues = s.queues ∧
            t.get F.CAN_CNT_RX_OVR_CNT 0 c = min (s.get F.CAN_CNT_RX_OVR_CNT 0 c + 1) (2 ^ F.CAN_CNT_RX_OVR_CNT.width - 1)))) ∧
    (∀ j ident n, calm → j < 4 → s.canReach c = s → s.canNext c = some j → s.canHead c j = some (ident, n) →
      let id := s.get F.CAN_TXQ_QUEUE 0 c j
      s.get F.IRQ_SRC_EN (id / 8192) 200 = 0 → ∃ t, exec (.canTxFrame c j) s = .next t ∧ counts t (tec - 1) rec_ ∧
        t.entries id = (s.entries id).drop n ∧ ∀ i, i ≠ id → t.entries i = s.entries i) ∧
    (calm → (∃ t, exec (.canError c .tx) s = .next t ∧ counts t (tec + 8) rec_ ∧ t.canOff = s.canOff) ∧
      (∃ t, exec (.canError c .rx) s = .next t ∧ counts t tec (rec_ + 1)) ∧
      (∃ t, exec (.canError c .rxDominant) s = .next t ∧ counts t tec (rec_ + 8)) ∧
      exec (.canError c .arbitrationLost) s = .next s) ∧
    (s.canOn c = true → 248 ≤ tec → ∃ t, exec (.canError c .tx) s = .next t ∧ Store.get t.canOff 0 c = 1) ∧
    (Store.get s.canOff 0 c = 1 → ∃ t, exec (.canBusOff c) s = .next t ∧ t.get F.CAN_STAT_STATE 0 c = 2 ∧
      t.get F.CAN_STAT_BUSOFF 0 c = 1 ∧ Store.get t.canOff 0 c = 0 ∧ t.engines = s.engines) ∧
    (s.get F.CAN_CFG_AUTO_REC 0 c = 1 → s.get F.CAN_STAT_STATE 0 c = 2 → exec (.canBusOffRecovery c) s =
      .next (((s.put F.CAN_STAT_STATE 0 0 c).put F.CAN_STAT_TEC 0 0 c).put F.CAN_STAT_REC 0 0 c))

/-! ### The unit chain -/

/-- R518 to R520, R522, R524: links come up and are lost, frames are kept until their ACK and repeated on NAK or after
RETRY_T, and a break is passed on: a LINK_DOWN from upstream makes the unit ORPHAN, but for one that address 1 itself sends
down, a second head on the wire; one from a segment that is not enumerated yet is answered STALE, to the unit that it names
with GEN, TAG and RID 0 (the model's choice, log entry 60). -/
def Obligations.ChainLinksRepeatFramesAndBreak : Prop :=
  ∀ (s : State) (down up : Bool) (id : Nat) (x : LinkFrame), s.recQueue = none → s.get F.IRQ_SRC_EN 0 219 = 0 →
    s.get F.IRQ_SRC_EN 0 222 = 0 → s.chain.reqs = [] →
    let still := fun (t : State) => t.points = s.points ∧ t.engines = s.engines ∧ t.queues = s.queues
    let port := s.get (if down then F.CHN_STAT_DN_LINK else F.CHN_STAT_UP_LINK)
    let again := { s.chain with frames := s.chain.frames.map fun y =>
      if y.down = down ∧ y.seq = id then { y with repeats := y.repeats + 1, at_ := s.tick 0 } else y }
    let repeated := fun (c : Instr) => ∃ t, exec c s = .next t ∧ t.chain = again ∧ still t ∧
      t.get F.CHN_CNT_RETRY_CNT = min (s.get F.CHN_CNT_RETRY_CNT + 1) (2 ^ F.CHN_CNT_RETRY_CNT.width - 1)
    (port = 0 → ∃ t, exec (.linkUp down) s = .next t ∧
      t.get (if down then F.CHN_STAT_DN_LINK else F.CHN_STAT_UP_LINK) = 1 ∧
      t.chain = (if down then { s.chain with dnAt := s.tick 0, segment := decide (s.get F.CHN_STAT_ADDR ≠ 0) }
                 else { s.chain with upAt := s.tick 0 }) ∧ still t) ∧
    (port ≠ 0 → exec (.linkUp down) s = .next s) ∧
    exec (.ack down id) s = .next { s with chain := { s.chain with
      frames := s.chain.frames.filter fun y => !(y.down == down && y.seq == id) } } ∧
    ((s.chain.frames.find? fun y => y.down == down && y.seq == id) = some x → x.repeats < s.get F.CHN_CFG_RETRY_N →
      repeated (.nak down id) ∧ (x.at_ + s.get F.CHN_CFG_RETRY_T * 100 ≤ s.tick 0 → repeated (.chainRetry down id)) ∧
      (s.tick 0 < x.at_ + s.get F.CHN_CFG_RETRY_T * 100 → exec (.chainRetry down id) s = .next s)) ∧
    ((s.chain.frames.find? fun y => y.down == down && y.seq == id) = some x → s.get F.CHN_CFG_RETRY_N ≤ x.repeats →
      exec (.nak down id) s = exec (.linkLost down) s) ∧
    ((∀ y ∈ s.chain.frames, (y.down == down && y.seq == id) = false) →
      exec (.nak down id) s = .next s ∧ exec (.chainRetry down id) s = .next s) ∧
    (port ≠ 0 → ∃ t, exec (.linkLost down) s = .next t ∧
      t.get (if down then F.CHN_STAT_DN_LINK else F.CHN_STAT_UP_LINK) = 0 ∧
      t.get F.CHN_CNT_LOSS_CNT = min (s.get F.CHN_CNT_LOSS_CNT + 1) (2 ^ F.CHN_CNT_LOSS_CNT.width - 1) ∧
      (∀ y ∈ t.chain.frames, y.down = !down) ∧ still t ∧
      (down = false → s.get F.CHN_STAT_DN_LINK ≠ 0 → t.chain.frames = (s.chain.frames.filter fun y => !(y.down == down)) ++
        [⟨true, s.chain.seqDn, 0, s.tick 0, .linkDown (s.get F.CHN_STAT_ADDR)⟩]) ∧
      (down = false → s.get F.CHN_STAT_HEAD = 0 → s.get F.CHN_STAT_STATE ≠ 0 →
        t.get F.CHN_STAT_STATE = 3 ∧ t.chain.localCount = true ∧ t.chain.slew = 0)) ∧
    (port = 0 → exec (.linkLost down) s = .next s) ∧
    (∀ u : BitVec 6, (s.get F.CHN_STAT_HEAD = 0 → s.get F.CHN_STAT_DN_LINK ≠ 0 → s.get F.CHN_STAT_STATE ≠ 0 →
        ∃ t, exec (.linkDown true u) s = .next t ∧ t.chain.linkAns = some (true, true) ∧ still t ∧
          t.chain.frames = s.chain.frames ++ [⟨true, s.chain.seqDn, 0, s.tick 0, .linkDown u.toNat⟩] ∧
          (u.toNat ≠ 1 → t.get F.CHN_STAT_STATE = 3 ∧ t.chain.localCount = true) ∧
          (u.toNat = 1 → t.cells = s.cells ∧ t.chain.localCount = s.chain.localCount)) ∧
      (s.chain.segment = true → s.get F.CHN_STAT_DN_LINK ≠ 0 → ∃ t, exec (.linkDown false u) s = .next t ∧ t.cells = s.cells ∧
        still t ∧ t.chain.lostFrom = s.chain.lostFrom ∧ t.chain.frames = s.chain.frames ++ [⟨true, s.chain.seqDn, 0, s.tick 0,
          .resp u.toNat (s.get F.CHN_STAT_ADDR) 0 0 0 Status.stale.code 0 []⟩]) ∧
      (s.get F.CHN_STAT_HEAD = 1 → s.chain.segment = false → ∃ t, exec (.linkDown false u) s = .next t ∧ t.cells = s.cells ∧ t.chain.frames = s.chain.frames ∧
        t.chain.linkAns = some (false, true) ∧
        t.chain.lostFrom = some (match s.chain.lostFrom with | some b => min (u.toNat + 1) b | none => u.toNat + 1) ∧ still t) ∧
      (s.get F.CHN_STAT_HEAD = 1 → exec (.linkDown true u) s = .next { s with chain := { s.chain with linkAns := some (true, true) } })) ∧
    (∀ fr : BadFrame, ∃ t, exec (.chainBadFrame up fr) s = .next t ∧ still t ∧
      t.chain = { s.chain with linkAns := some (up, decide (fr ≠ .badCrc)) } ∧
      t.get F.CHN_CNT4_BADFR_CNT = min (s.get F.CHN_CNT4_BADFR_CNT + 1) (2 ^ F.CHN_CNT4_BADFR_CNT.width - 1))

/-- R521 to R524, R554: the head starts, collects and ends an enumeration; a unit takes its address and generation and passes
the next one on, where its downstream link has not just been restored; the roster makes it ACTIVE and ends ENUM; a break that
the head learns of meanwhile stays to be enumerated; and the two time limits. R40, R66, R67, R533: a TIME frame gives the
offset, small offsets are corrected by single edges and large ones by a load unless a herd runs, the delay to the neighbour
is kept, and an edge is corrected at most once in 1,000 ticks, on every die whose tick runs at once. That it keeps clear of
the edges around a whistle, and that an offset is cut to whole ticks, is the model's choice (log entry 51). -/
def Obligations.ChainIsEnumeratedAndItsTimeFollowed : Prop :=
  (∀ (s : State) (addr : BitVec 6) (gen : BitVec 8) (es : List RosterEntry), s.recQueue = none →
     let head := s.get F.CHN_STAT_HEAD = 1
     let unit := s.get F.CHN_STAT_HEAD = 0
     let dn := s.get F.CHN_STAT_DN_LINK = 1
     let still := fun (t : State) => t.points = s.points ∧ t.engines = s.engines ∧ t.queues = s.queues
     let sent := fun (t : State) (m : ChainMsg) => t.chain.frames = s.chain.frames ++ [⟨true, s.chain.seqDn, 0, s.tick 0, m⟩]
     let g := if (s.chain.genCount + 1) % 256 = 0 then 1 else (s.chain.genCount + 1) % 256
     (head → dn → s.pkgState = 3 → s.chain.enumFirst = none → s.chain.dnAt + 20000000 ≤ s.tick 0 →
       ∃ t, exec .enumStart s = .next t ∧ t.get F.CHN_STAT_GEN = g ∧ t.get F.CHN_STAT_ADDR = 1 ∧ t.get F.CHN_STAT_STATE = 1 ∧
         t.get F.CHN_XHERD_LO = 0 ∧ t.get F.CHN_XHERD_HI = 0 ∧ t.chain.genCount = g ∧ t.chain.enumFirst = some 2 ∧
         t.chain.enumAt = s.tick 0 ∧ t.chain.acks = [] ∧ sent t (.enum 2 g) ∧ still t) ∧
     (head → s.tick 0 < s.chain.dnAt + 20000000 → exec .enumStart s = .next s) ∧
     (unit → exec .enumStart s = .next s) ∧
     (unit → dn → s.get F.CHN_STAT_UP_LINK = 1 → 3 ≤ s.pkgState → s.get F.CHN_STAT_STATE ≠ 2 → addr.toNat ≠ 0 → addr.toNat ≠ 63 →
       let own := (⟨false, s.chain.seqUp, 0, s.tick 0,
         .enumAck addr.toNat (s.get F.CHN_PROTO_PROTO) (s.get F.PKG_SLOT_SIREV) s.dies false⟩ : LinkFrame)
       ∃ t, exec (.enum addr gen true) s = .next t ∧ t.get F.CHN_STAT_ADDR = addr.toNat ∧ t.get F.CHN_STAT_GEN = gen.toNat ∧
         t.get F.CHN_STAT_OVER = 0 ∧ t.get F.CHN_STAT_STATE = 1 ∧ t.get F.CHN_XHERD_LO = 0 ∧ t.get F.CHN_XHERD_HI = 0 ∧
         still t ∧
         (s.chain.segment = false ∨ s.chain.dnAt + 20000000 ≤ s.tick 0 → t.chain.segment = false ∧
           t.chain.frames = s.chain.frames ++ [own, ⟨true, s.chain.seqDn, 0, s.tick 0, .enum (addr.toNat + 1) gen.toNat⟩]) ∧
         (s.chain.segment = true → s.tick 0 < s.chain.dnAt + 20000000 → t.chain.segment = true ∧
           t.chain.frames = s.chain.frames ++ [own])) ∧
     (unit → 3 ≤ s.pkgState → s.get F.CHN_STAT_STATE ≠ 2 → addr.toNat = 63 →
       ∃ t, exec (.enum addr gen true) s = .next t ∧ t.get F.CHN_STAT_ADDR = 0 ∧ t.get F.CHN_STAT_OVER = 1 ∧ still t) ∧
     (head → ∃ t, exec (.enum addr gen true) s = .next t ∧ t.chain = { s.chain with linkAns := some (true, true) } ∧
       t.get F.CHN_CNT4_BADFR_CNT = min (s.get F.CHN_CNT4_BADFR_CNT + 1) (2 ^ F.CHN_CNT4_BADFR_CNT.width - 1) ∧
       RegsBut s t [F.CHN_CNT4_BADFR_CNT.key 0 0 0] ∧ still t) ∧
     (∀ (proto sirev nd : BitVec 8) (last : Bool),
       (head → s.chain.enumFirst.isSome = true → addr.toNat ≠ 0 → ∃ t, exec (.enumAck addr proto sirev nd last) s = .next t ∧
         t.chain.acks = s.chain.acks ++ [(⟨addr, BitVec.ofNat 8 s.chain.genCount, proto,
           decide (proto.toNat ≠ s.get F.CHN_PROTO_PROTO)⟩, sirev.toNat, nd.toNat)] ∧
         t.chain.ackLast = (s.chain.ackLast || last) ∧ t.cells = s.cells ∧ still t) ∧
       (unit → s.get F.CHN_STAT_UP_LINK = 1 → ∃ t, exec (.enumAck addr proto sirev nd last) s = .next t ∧ t.cells = s.cells ∧
         still t ∧ t.chain.frames = s.chain.frames ++
           [⟨false, s.chain.seqUp, 0, s.tick 0, .enumAck addr.toNat proto.toNat sirev.toNat nd.toNat last⟩])) ∧
     (∀ first, dn → s.pkgState = 3 → s.chain.enumFirst = some first →
       (s.chain.ackLast = false → s.tick 0 < s.chain.enumAt + 100000 → exec .enumComplete s = .next s) ∧
       (s.chain.ackLast = true ∨ s.chain.enumAt + 100000 ≤ s.tick 0 → ∃ t, exec .enumComplete s = .next t ∧ t.pkgState = 4 ∧
         t.get F.CHN_STAT_STATE = 2 ∧ t.chain.enumFirst = none ∧ sent t (.roster t.chain.roster) ∧ still t ∧
         (∀ e ∈ s.chain.acks, e.1 ∈ t.chain.roster) ∧
         (s.chain.ackLast = true → t.chain.lostFrom = s.chain.lostFrom) ∧
         ∀ b, s.chain.lostFrom = some b → ∃ c ≤ b, t.chain.lostFrom = some c)) ∧
     (unit → s.pkgState = 3 → s.get F.CHN_STAT_ADDR ≠ 0 → s.get F.IRQ_SRC_EN 0 220 = 0 →
       (∃ e ∈ es, e.addr.toNat = s.get F.CHN_STAT_ADDR) →
       ∃ t, exec (.roster es) s = .next t ∧ t.pkgState = 4 ∧ t.get F.CHN_STAT_STATE = 2 ∧ t.chain.roster = es ∧ still t ∧
         t.get F.PKG_BOOT_BOOT_MS = min (s.tick 0 / 100000) 0xFFFF ∧
         ((∀ e ∈ es, e.addr.toNat = 1 → e.proto.toNat = s.get F.CHN_PROTO_PROTO) → t.get F.CHN_STAT_EXCL = 0)) ∧
     (unit → s.pkgState = 3 → s.boot.enumAt + 10000000 ≤ s.tick 0 → ∃ t, exec .enumWaitTimeout s = .next t ∧ t.pkgState = 4 ∧
       t.get F.CHN_STAT_ADDR = 0 ∧ still t) ∧
     (s.tick 0 < s.boot.enumAt + 10000000 → exec .enumWaitTimeout s = .next s ∧ exec .headEnumTimeout s = .next s) ∧
     (head → s.pkgState = 3 → s.get F.CHN_STAT_DN_LINK = 0 → s.boot.enumAt + 20000000 ≤ s.tick 0 →
       ∃ t, exec .headEnumTimeout s = .next t ∧ t.pkgState = 4 ∧ still t)) ∧
  (∀ (s : State) (headTick delay : Nat) (late : Bool), s.recQueue = none → s.get F.IRQ_SRC_EN 0 222 = 0 →
     let ofs : Int := 10 * ((s.tick 0 : Int) - headTick) - (s.chain.delay / 2 : Nat)
     let still := fun (t : State) => t.points = s.points ∧ t.engines = s.engines
     let unit := s.get F.CHN_STAT_HEAD = 0 ∧ s.get F.CHN_STAT_STATE = 2
     let ticking := (List.range s.dies).filter fun d => s.clockOn d 1
     let told := fun (t : State) => t.getI F.CHAIN_TOFS_OFFSET = ofs ∧ t.chain.linkAns = some (true, true) ∧ still t
     (unit → ofs.natAbs < 10010 → ∃ t, exec (.time headTick) s = .next t ∧ told t ∧ t.chain.slew = ofs.tdiv 10 ∧
       t.chain.localCount = false ∧ t.dieRuns = s.dieRuns ∧
       (100 < ofs.natAbs → t.get F.CHN_STAT_TIME_DIS ≠ 0 ∧ t.chain.goodRun = 0) ∧
       (20 < ofs.natAbs → ofs.natAbs ≤ 100 → t.get F.CHN_STAT_TIME_DIS = s.get F.CHN_STAT_TIME_DIS ∧ t.chain.goodRun = 0) ∧
       (ofs.natAbs ≤ 20 → t.chain.goodRun = s.chain.goodRun + 1 ∧
         (99 ≤ s.chain.goodRun → t.get F.CHN_STAT_TIME_DIS = 0) ∧
         (s.chain.goodRun < 99 → t.get F.CHN_STAT_TIME_DIS = s.get F.CHN_STAT_TIME_DIS)) ∧
       (s.get F.CHN_STAT_DN_LINK ≠ 0 →
         t.chain.frames = s.chain.frames ++ [⟨true, s.chain.seqDn, 0, s.tick 0, .time headTick⟩])) ∧
     (unit → 10010 ≤ ofs.natAbs → ofs.natAbs < 2 ^ 31 → ∃ t, exec (.time headTick) s = .next t ∧ told t ∧ t.chain.slew = 0 ∧
       t.get F.CHN_STAT_TIME_DIS ≠ 0 ∧
       (s.anyRunning = true → t.dieRuns = s.dieRuns ∧ t.chain.localCount = true) ∧
       (s.anyRunning = false → t.chain.localCount = false ∧
         ∀ d < s.dies, t.tick d = ((s.tick d : Int) - ofs.tdiv 10).toNat)) ∧
     (s.get F.CHN_STAT_HEAD ≠ 0 → exec (.time headTick) s = .next { s with chain := { s.chain with linkAns := some (true, true) } }) ∧
     (s.get F.CHN_STAT_HEAD = 0 → s.get F.CHN_STAT_UP_LINK ≠ 0 →
       exec (.chainDelayMeasure delay) s = .next { s with chain := { s.chain with delay := delay } }) ∧
     (s.get F.CHN_STAT_HEAD ≠ 0 ∨ s.get F.CHN_STAT_UP_LINK = 0 → exec (.chainDelayMeasure delay) s = .next s) ∧
     (∀ free : Bool, (free = true ↔ ∀ d ∈ ticking, (s.die d).insert = false ∧ (s.die d).withhold = false ∧ (s.die d).chain = 0 ∧
         5 ≤ s.tick d % 100000 ∧ s.tick d % 100000 < 99995) →
      (s.chain.slew ≠ 0 → (late = true ↔ s.chain.slew < 0) → s.chain.slewAt + 999 ≤ s.tick 0 → free = true →
       ∃ t, exec (.chainTickSlew late) s = .next t ∧ t.chain.slew = s.chain.slew + (if late then 1 else -1) ∧
         t.chain.slewAt = (if late then s.tick 0 + 2 else s.tick 0) ∧ still t ∧ (∀ d, d ∉ ticking → t.die d = s.die d) ∧
         ∀ d ∈ ticking, t.tick d = s.tick d ∧ (t.die d).chain = (s.die d).chain + (if late then 1 else -1) ∧
           t.get F.TICK_STAT_LAST_SLIP d = (if late then 1 else 2) ∧
           t.get F.TICK_STAT_SLIP_CNT d = min (s.get F.TICK_STAT_SLIP_CNT d + 1) 0xFFFF) ∧
      (s.chain.slew = 0 ∨ ¬ (late = true ↔ s.chain.slew < 0) ∨ s.tick 0 < s.chain.slewAt + 999 ∨ free = false →
       exec (.chainTickSlew late) s = .next s)))

/-- R28, R142, R522 to R527, R531, R564: requests of other units: reads and writes of points and registers and queue pushes
for this unit are executed and answered, a repeated one is DUPLICATE, one of another generation or from a segment that is not
enumerated yet is STALE, one with DST 0 is a bad frame, and those of others go on; a broadcast write or push goes on and is
judged and executed alike, but not answered; and a register burst that is served in parts is answered at its end. Where
another die is meant, nothing that D0 has sent there is under way and its bounds leave room. That CH_HADDR serves as the
register read and written here is this statement's choice; that commands name the parts of a burst is the model's (log entry
29). -/
def Obligations.ChainRequestsAreServed : Prop :=
  ∀ (s : State) (fr : ChainHeader) (e : RosterEntry) (p : Nat) (v : Word) (x hw : BitVec 32) (id : BitVec 16) (type : BitVec 7)
    (pl : Payload), p < 2 ^ 20 → s.pkgState = 4 → (fr.up = true → s.get F.CHN_STAT_HEAD = 0) →
    let own := s.get F.CHN_STAT_ADDR
    let src := fr.src.toNat
    let port := s.get (if fr.up then F.CHN_STAT_UP_LINK else F.CHN_STAT_DN_LINK)
    let segment := fr.up = false ∧ s.chain.segment = true
    let mine := fr.dst.toNat = own ∧ own ≠ 0 ∧ own ≠ 63 ∧ port ≠ 0 ∧ ¬ segment
    let known := s.rosterEntry src = some e ∧ e.gen = fr.gen
    let unknown := ∀ r, s.rosterEntry src = some r → r.gen ≠ fr.gen
    let fresh := (s.chain.window src fr.gen.toNat).contains fr.rid.toNat = false
    let frame := fun (down : Bool) (m : ChainMsg) =>
      (⟨down, if down then s.chain.seqDn else s.chain.seqUp, 0, s.tick 0, m⟩ : LinkFrame)
    let resp := fun (st : Status) (data : List Nat) =>
      frame (!fr.up) (.resp src own fr.gen.toNat fr.tag.toNat fr.rid.toNat st.code 0 data)
    let answered := fun (t : State) (st : Status) (data : List Nat) => t.chain.frames = s.chain.frames ++ [resp st data] ∧
      t.chain.linkAns = some (fr.up, true) ∧ t.engines = s.engines
    let held := fun (t : State) => t.points = s.points ∧ t.queues = s.queues
    let kept := fun (t : State) => fr.rid.toNat ∈ t.chain.window src fr.gen.toNat
    let inc := fun (t : State) (G : Fld) => t.get G = min (s.get G + 1) (2 ^ G.width - 1) ∧ RegsBut s t [G.key 0 0 0]
    let onward := s.get (if fr.up then F.CHN_STAT_DN_LINK else F.CHN_STAT_UP_LINK) ≠ 0 ∧ (fr.up = false → s.get F.CHN_STAT_HEAD = 0)
    let reach := fun (y : State) (k : RingOp → Bool) (die : Nat) => y.fromOutside k [die] = some y
    let heard := s.linkAnswer fr.up true
    let writeMsg := ChainMsg.request fr.dst.toNat src fr.gen.toNat 1 fr.tag.toNat fr.rid.toNat [p, v.toNat]
    let word := fun (left : Nat) (cont : Bool) => (⟨[⟨x, hw⟩], ⟨left, cont⟩⟩ : PartWords)
    let pushed := fun (t : State) => (∀ j, j ≠ id.toNat → t.entries j = s.entries j) ∧
      t.entries id.toNat = s.entries id.toNat ++ [⟨BitVec.ofNat 16 ((0x140 + src) * 128 + type.toNat), pl⟩]
    let room := s.queueStatus id.toNat = .ok ∧ s.get F.Q_CFG_KIND (id.toNat / 8192) (id.toNat % 8192) = 0 ∧
      (s.entries id.toNat).length < s.get F.Q_SIZE_DEPTH (id.toNat / 8192) (id.toNat % 8192) ∧
      s.get F.IRQ_SRC_EN (id.toNat / 8192) 200 = 0
    (mine → known → s.pointStatus p = .ok → reach heard RingOp.reads (pointDie p) → ∃ t, exec (.pRead fr p 1) s = .next t ∧
      answered t .ok [(s.point p).toNat] ∧ held t ∧ t.cells = s.cells ∧ t.chain.windows = s.chain.windows) ∧
    (mine → known → fresh → s.pointStatus p = .ok → reach heard RingOp.posted (pointDie p) →
      ∃ t, exec (.pWrite fr p [v]) s = .next t ∧ answered t .ok [] ∧ kept t ∧
        t.point p = v ∧ (∀ r, r ≠ p → t.point r = s.point r) ∧ t.queues = s.queues) ∧
    (mine → known → fresh → room → reach heard RingOp.posted (id.toNat / 8192) →
      ∃ t, exec (.qPush fr id type pl) s = .next t ∧ answered t .ok [] ∧ kept t ∧ t.points = s.points ∧ pushed t) ∧
    (mine → known → ∃ t, exec (.rRead fr 0x50084 ⟨1, ⟨0, false⟩⟩) s = .next t ∧ answered t .ok [s.get F.CHN_HADDR_ADDR] ∧ held t ∧
      t.cells = s.cells) ∧
    (mine → known → fresh → ∃ t, exec (.rWrite fr 0x50084 (word 0 false)) s = .next t ∧ answered t .ok [] ∧ kept t ∧ held t ∧
      t.get F.CHN_HADDR_ADDR = x.toNat ∧ RegsBut s t [F.CHN_HADDR_ADDR.key 0 0 0]) ∧
    (mine → known → ∃ t, exec (.rRead fr 0x50084 ⟨2, ⟨1, false⟩⟩) s = .next t ∧ t.chain.frames = s.chain.frames ∧ held t ∧
      t.cells = s.cells ∧ (⟨.chain fr, .chain src, 0x50088, none, 1, [.ok], [s.get F.CHN_HADDR_ADDR]⟩ : Burst) ∈ t.bursts) ∧
    (∀ y, mine → s.bursts.find? (fun b => decide (b.key = .chain fr)) = some ⟨.chain fr, .chain src, 0x50084, none, 1, [.ok], [y]⟩ →
      ∃ t, exec (.rRead fr 0x50084 ⟨2, ⟨0, true⟩⟩) s = .next t ∧ t.chain.frames = s.chain.frames ++ [resp .ok [y, s.get F.CHN_HADDR_ADDR]] ∧
        held t ∧ t.cells = s.cells ∧ ∀ b ∈ t.bursts, b.key ≠ .chain fr) ∧
    (mine → known → (s.chain.window src fr.gen.toNat).contains fr.rid.toNat = true →
      ∀ c ∈ [Instr.pWrite fr p [v], Instr.qPush fr id type pl, Instr.rWrite fr 0x50084 (word 0 false)],
        ∃ t, exec c s = .next t ∧ answered t .duplicate [] ∧ held t ∧ inc t F.CHN_CNT2_DUP_CNT) ∧
    (mine → unknown → ∀ c ∈ [Instr.pRead fr p 1, Instr.pWrite fr p [v], Instr.qPush fr id type pl,
          Instr.rRead fr 0x50084 ⟨1, ⟨0, false⟩⟩, Instr.rWrite fr 0x50084 (word 0 false)],
        ∃ t, exec c s = .next t ∧ answered t .stale [] ∧ held t ∧ inc t F.CHN_CNT2_STALE_CNT) ∧
    (∀ c ∈ [Instr.pRead fr p 1, Instr.pWrite fr p [v], Instr.qPush fr id type pl,
        Instr.rRead fr 0x50084 ⟨1, ⟨0, false⟩⟩, Instr.rWrite fr 0x50084 (word 0 false)],
      (segment → fr.dst.toNat ≠ 0 → port ≠ 0 → ∃ t, exec c s = .next t ∧ answered t .stale [] ∧ held t ∧ t.cells = s.cells) ∧
      (fr.dst.toNat = 0 → ∃ t, exec c s = .next t ∧ t.chain = heard.chain ∧ held t ∧ inc t F.CHN_CNT4_BADFR_CNT)) ∧
    (fr.dst.toNat ≠ own → fr.dst.toNat ≠ 0 → fr.dst.toNat ≠ 63 → ¬ segment → onward →
      ∃ t, exec (.pWrite fr p [v]) s = .next t ∧ t.cells = s.cells ∧ held t ∧
        t.chain.frames = s.chain.frames ++ [frame fr.up writeMsg]) ∧
    (fr.dst.toNat = 63 → own ≠ src → ¬ segment → onward →
      let sent := fun (t : State) => t.chain.frames = s.chain.frames ++ [frame fr.up writeMsg] ∧ t.queues = s.queues
      (known → fresh → s.pointStatus p = .ok → reach (heard.sendFrame fr.up writeMsg) RingOp.posted (pointDie p) →
        ∃ t, exec (.pWrite fr p [v]) s = .next t ∧ sent t ∧ kept t ∧ t.point p = v ∧ ∀ r, r ≠ p → t.point r = s.point r) ∧
      (known → (s.chain.window src fr.gen.toNat).contains fr.rid.toNat = true →
        ∃ t, exec (.pWrite fr p [v]) s = .next t ∧ sent t ∧ t.points = s.points ∧ inc t F.CHN_CNT2_DUP_CNT) ∧
      (unknown → ∃ t, exec (.pWrite fr p [v]) s = .next t ∧ sent t ∧ t.points = s.points ∧ inc t F.CHN_CNT2_STALE_CNT))

/-- R28, R522, R525 to R532: transactions of this unit: a host command is sent with a new RID and a free tag or is answered
at once, its response or its time limit ends it, a response that matches none is counted late, one with DST 0 is a bad frame
and one from a segment that is not enumerated yet is answered STALE, and the entries of CHAIN_OUT queues are sent in the
layout of a push and resent. -/
def Obligations.ChainTransactionsOfThisUnitEnd : Prop :=
  ∀ (s : State) (q : Requester) (dst : BitVec 6) (fr : ChainHeader) (st orig : BitVec 4) (data : List (BitVec 32)) (r : ChainReq)
    (id : BitVec 16) (o : OutEntry), s.recQueue = none → s.get F.IRQ_SRC_EN 0 221 = 0 → 2 ≤ s.pkgState →
    let own := s.get F.CHN_STAT_ADDR
    let down := decide (own ≤ dst.toNat)
    let link := fun (b : Bool) => s.get (if b then F.CHN_STAT_DN_LINK else F.CHN_STAT_UP_LINK) ≠ 0 ∧
      (b = false → s.get F.CHN_STAT_HEAD = 0)
    let frame := fun (b : Bool) (m : ChainMsg) => (⟨b, if b then s.chain.seqDn else s.chain.seqUp, 0, s.tick 0, m⟩ : LinkFrame)
    let rid := (s.chain.lastRid + 1) % 65536
    let gen := s.get F.CHN_STAT_GEN
    let still := fun (t : State) => t.points = s.points ∧ t.engines = s.engines
    let ended := fun (t : State) (a b : Nat) => t.get F.CHN_HRES_RES = a ∧ t.get F.CHN_HRES_ORIG = b ∧ t.get F.CHN_HRES_BUSY = 0 ∧
      t.get F.CHN_HRES_DONE = 1 ∧ still t
    let out := fun (queue : BitVec 16) (e : QEntry) (rid : Nat) => ChainMsg.request o.dst own gen 2 0 rid
      [queue.toNat, e.payload.w0.toNat + e.hdr.toNat % 128 * 2 ^ 24, e.payload.w1.toNat, e.payload.w2.toNat, e.payload.w3.toNat]
    (s.get F.CHN_HRES_BUSY = 0 → dst.toNat ≠ 63 → (s.rosterEntry dst.toNat).isSome = true → link down → s.chain.reqs = [] →
      ∃ t, exec (.chHcmd q dst 0 false 0) s = .next t ∧ t.get F.CHN_HRES_BUSY = 1 ∧ t.get F.CHN_HRES_RID = rid ∧
        t.chain.reqs = [⟨down, 0, dst.toNat, rid, gen, s.tick 0, none⟩] ∧ t.chain.lastRid = rid ∧ still t ∧
        t.chain.frames = s.chain.frames ++
          [frame down (.request dst.toNat own gen 0 0 rid [s.get F.CHN_HADDR_ADDR % 2 ^ 20])]) ∧
    (s.get F.CHN_HRES_BUSY = 0 → dst.toNat ≠ 63 → s.rosterEntry dst.toNat = none →
      ∃ t, exec (.chHcmd q dst 0 false 0) s = .next t ∧ ended t Status.refused.code 0 ∧ t.chain.reqs = s.chain.reqs ∧
        t.chain.frames = s.chain.frames) ∧
    (s.get F.CHN_HRES_BUSY = 1 → exec (.chHcmd q dst 0 false 0) s = .next (s.wref q F.CHN_HCMD_DST)) ∧
    (s.chain.reqs = [r] → r.queue = none →
      (fr.dst.toNat = own → own ≠ 0 → (fr.up = true → s.get F.CHN_STAT_HEAD = 0) → (fr.up = false → s.chain.segment = false) →
        r.down = !fr.up → r.tag = fr.tag.toNat →
        (r.rid = fr.rid.toNat → fr.gen.toNat = gen → ∃ t, exec (.resp fr st orig data) s = .next t ∧
          ended t st.toNat orig.toNat ∧ t.chain.reqs = [] ∧
          (st.toNat = 0 → ∀ k < 64, k < data.length → t.get F.CHN_HBUF 0 k = (data.getD k 0).toNat)) ∧
        (r.rid ≠ fr.rid.toNat ∨ fr.gen.toNat ≠ gen → ∃ t, exec (.resp fr st orig data) s = .next t ∧ t.chain.reqs = [r] ∧
          t.get F.CHN_CNT3_LATE_CNT = min (s.get F.CHN_CNT3_LATE_CNT + 1) (2 ^ F.CHN_CNT3_LATE_CNT.width - 1) ∧
          RegsBut s t [F.CHN_CNT3_LATE_CNT.key 0 0 0] ∧ still t)) ∧
      (∀ tag : BitVec 6, r.tag = tag.toNat →
        (r.at_ + s.get F.CHN_CFG_TMO * 100 ≤ s.tick 0 → ∃ t, exec (.chainTimeout r.down tag) s = .next t ∧
          ended t Status.timeout.code 0 ∧ t.chain.reqs = [] ∧
          t.get F.CHN_CNT3_TMO_CNT = min (s.get F.CHN_CNT3_TMO_CNT + 1) (2 ^ F.CHN_CNT3_TMO_CNT.width - 1)) ∧
        (s.tick 0 < r.at_ + s.get F.CHN_CFG_TMO * 100 → exec (.chainTimeout r.down tag) s = .next s))) ∧
    ((fr.up = true → s.get F.CHN_STAT_HEAD = 0) →
      (fr.dst.toNat = 0 → ∃ t, exec (.resp fr st orig data) s = .next t ∧ t.chain = { s.chain with linkAns := some (fr.up, true) } ∧
        t.get F.CHN_CNT4_BADFR_CNT = min (s.get F.CHN_CNT4_BADFR_CNT + 1) (2 ^ F.CHN_CNT4_BADFR_CNT.width - 1) ∧ still t) ∧
      (fr.dst.toNat ≠ 0 → fr.up = false → s.chain.segment = true → s.get F.CHN_STAT_DN_LINK ≠ 0 →
        ∃ t, exec (.resp fr st orig data) s = .next t ∧ t.cells = s.cells ∧ t.chain.reqs = s.chain.reqs ∧ still t ∧
          t.chain.frames = s.chain.frames ++
            [frame true (.resp fr.src.toNat own fr.gen.toNat fr.tag.toNat fr.rid.toNat Status.stale.code 0 [])])) ∧
    (∀ e es, s.queueStatus id.toNat = .ok → s.behind (id.toNat / 8192) = s → s.get F.Q_CFG_KIND (id.toNat / 8192) (id.toNat % 8192) = 5 →
      s.entries id.toNat = e :: es → s.chain.outs = [] → s.chain.reqs = [] → s.get F.IRQ_SRC_EN (id.toNat / 8192) 200 = 0 →
      s.get F.Q_CFG_OWNER (id.toNat / 8192) (id.toNat % 8192) % 64 = o.dst → (s.rosterEntry o.dst).isSome = true →
      link (decide (own ≤ o.dst)) → ∃ t, exec (.chainOutSend id) s = .next t ∧ t.entries id.toNat = es ∧
        t.chain.outs = [⟨id.toNat, rid, e, o.dst, none⟩] ∧ t.points = s.points ∧ t.engines = s.engines ∧
        t.chain.frames = s.chain.frames ++ [frame (decide (own ≤ o.dst)) (out id e rid)]) ∧
    (∀ due, s.chain.outs = [o] → o.queue = id.toNat → o.resendAt = some due →
      (due ≤ s.tick 0 → s.chain.reqs = [] → (s.rosterEntry o.dst).isSome = true → link (decide (own ≤ o.dst)) →
        ∃ t, exec (.chainOutResend id) s = .next t ∧ t.chain.outs = [{ o with resendAt := none }] ∧ t.cells = s.cells ∧
          t.queues = s.queues ∧ t.chain.frames = s.chain.frames ++ [frame (decide (own ≤ o.dst)) (out id o.entry o.rid)]) ∧
      (s.tick 0 < due → exec (.chainOutResend id) s = .next s))

/-! ### Reset, boot and package commands -/

/-- R436, R447, R459, R461, R539, R540: a reset source records its cause and brings every register but those of the AON
domain, the next SEQ and the OTP back to its reset value, with flash, sector states and the AON domain as they were. A row
program of D0 that a record has under way is completed where the supply changes or the record comes by the AON path; that a
record's row is else torn, with what was programmed of it left open, is the model's choice (log entry 57), and the row is the
only one that changes. -/
def Obligations.ResetsClearAllButWhatIsKept : Prop :=
  ∀ (s : State) (q : Requester),
    let quiet := ∀ d < s.dies, (s.flashRun d).busy = none
    let aon := fun (k : Nat) => 0x20000 * 32 ≤ k ∧ k < 0x30000 * 32
    let once := [F.REC_NEXT_SEQ.key 0 0 0, F.PWR_PKG_AON.key 0 0 0, F.PKG_OTP_SIG_REQ.key 0 0 0, F.PKG_OTP_KEY_SET.key 0 0 0]
    let reset := fun (t : State) (cause : Nat) => t.pkgState = 0 ∧ t.get F.PKG_STATE_RST_CAUSE = cause ∧
      (∀ k e, aon k ∨ k ∈ once → Store.get t.cells e k = Store.get s.cells e k) ∧
      (∀ k e, ¬ aon k → k ∉ once → k ≠ F.PKG_STATE_STATE.key 0 0 0 → k ≠ F.PKG_STATE_RST_CAUSE.key 0 0 0 →
        Store.get t.cells e k = e) ∧
      (quiet → ∀ d n e, t.flashRow d n = s.flashRow d n ∧ t.sector d e = s.sector d e) ∧ t.aonRun = s.aonRun ∧ t.otpKey = s.otpKey ∧
      (∀ n, (∀ m v, (s.flashRun 0).busy ≠ some (.program m v) ∨ n ≠ m) → t.flashRow 0 n = s.flashRow 0 n) ∧
      (∀ r v, (s.flashRun 0).busy = some (.program r v) → s.ownOp 0 (.program r v) = false → 0 < s.pkgState →
        cause = 0 ∨ cause = 2 ∨ (∃ c ∈ s.recorder.committing, c.1.aon = true) → t.flashRow 0 r = s.flashRow 0 r &&& v) ∧
      (∀ p, t.point p = 0) ∧ (∀ id, t.entries id = []) ∧ (∀ pe, t.eng pe = Engine.reset) ∧ (∀ d n, t.leg d n = Leg.reset) ∧
      (∀ d, t.tick d = 0) ∧ t.ring = [] ∧ t.chain = ChainRun.reset ∧ t.safety = SafetyRun.reset ∧ t.pending = s.pending
    (∃ t, exec .powerOn s = .next t ∧ reset t 0) ∧
    (0 < s.pkgState → (∃ t, exec .resetN s = .next t ∧ reset t 1) ∧ (∃ t, exec .supplyLow s = .next t ∧ reset t 2) ∧
      ∃ t, exec (.pkgCmdReset q) s = .next t ∧ reset t 3) ∧
    (s.pkgState = 0 → s.get F.PKG_STATE_RST_CAUSE < 16 →
      (∃ t, exec .resetN s = .next t ∧ reset t (s.get F.PKG_STATE_RST_CAUSE)) ∧
      (∃ t, exec .supplyLow s = .next t ∧ reset t (s.get F.PKG_STATE_RST_CAUSE)) ∧ exec (.pkgCmdReset q) s = .next s)

/-- R179, R538, R541, R543 to R547, R550: reset release samples the straps, locks the PLLs and begins BOOT once; it chooses a
slot by its states and checks it on every die; the end of BOOT sets the skew trims and enters AGREE; a die that does not
report is missing; and a trial image that does not agree in 2 s is programmed BAD on every die and BOOT chooses again. -/
def Obligations.BootRunsItsSteps : Prop :=
  ∀ (s : State) (p : PinStraps) (d : Nat) (intake : BitVec 13) (base : BitVec 14), d < s.dies →
    (s.boot.begun = false → s.pkgState ≤ 1 → s.recQueue = none → s.get F.IRQ_SRC_EN 0 219 = 0 → ∃ t, exec (.resetRelease p) s = .next t ∧ t.pkgState = 1 ∧ t.boot.begun = true ∧
      t.get F.PKG_STRAP_COMPAT = (if p.compat then 1 else 0) ∧ t.get F.PKG_STRAP_CHAIN_HEAD = (if p.head then 1 else 0) ∧
      t.get F.PKG_STRAP_SEAL = p.sealPins.toNat ∧ t.get F.CHN_STAT_HEAD = (if p.head then 1 else 0) ∧ t.points = s.points ∧
      (∀ e < s.dies, t.get F.CLK_PLL_LOCK e = 1 ∧ t.tick e = 0) ∧
      ((∀ e < s.dies, ∀ c < 256, (s.sector e c).state ≠ 0x1F) →
        let st := fun e k => s.slotState e k
        let every := fun k v => ∀ e < s.dies, st e k = v
        let some_ := fun k v => ∃ e < s.dies, st e k = v
        let fits := fun k => ∀ e < s.dies, s.checkImage e k = none
        let none_ := ∀ k < 2, ¬ every k 0x3F
        (∀ k < 2, some_ k 0x1F → t.get F.PKG_BOOT_FALLBACK = 1 ∧
          ∀ e < s.dies, st e k = 0x1F ∨ st e k = 0x3F → t.slotState e k = 0x07) ∧
        (∀ k < 2, every k 0x3F → fits k → k = 0 ∨ ¬ every 0 0x3F → t.boot.slot = some k ∧ t.boot.failed = [] ∧
          t.get F.PKG_BOOT_SLOT = k ∧ t.get F.PKG_BOOT_TRIAL = 1 ∧ ∀ e < s.dies, t.slotState e k = 0x1F) ∧
        (∀ k < 2, every k 0x3F → ¬ fits k → k = 0 ∨ ¬ every 0 0x3F → t.get F.PKG_BOOT_FALLBACK = 1 ∧
          (0x0984, k, s.slotSeq 0 k, 0) ∈ t.boot.records ∧ ∀ e < s.dies, t.slotState e k = 0x07) ∧
        (none_ → ∀ k < 2, some_ k 0x3F → ¬ some_ k 0x1F → t.get F.PKG_BOOT_PARTIAL = 1 ∧
          ∀ e < s.dies, t.slotState e k = if st e k = 0x3F then 0x07 else st e k) ∧
        (none_ → ∀ k < 2, every k 0x0F → ¬ every (1 - k) 0x0F ∨ s.slotSeq 0 (1 - k) < s.slotSeq 0 k →
          t.boot.slot = some k ∧ t.get F.PKG_BOOT_SLOT = k ∧ t.get F.PKG_BOOT_TRIAL = 0 ∧
          (∀ e < s.dies, t.slotState e k = 0x0F ∧ (e ∈ t.boot.failed ↔ s.checkImage e k ≠ none)) ∧
          ∀ e < s.dies, ∀ n, s.checkImage e k = some n → (0x0982, e, k, n) ∈ t.boot.records) ∧
        (none_ → (∀ k < 2, ¬ every k 0x0F) → t.boot.slot = none ∧ t.get F.PKG_BOOT_TRIAL = 0))) ∧
    (∀ k, let w := fun i => s.slotWord d k i
      let body := s.slotBytes d k 0x100 (w 3)
      s.checkImage d k = none ↔ w 0 = 0x5E1A0001 ∧ w 1 / 2 ^ 24 = 1 ∧ w 1 % 256 = d ∧ w 1 / 256 % 256 = s.dies ∧ w 3 % 32 = 0 ∧
        w 3 ≤ 0xFFE00 ∧ crcBytes body = w 4 ∧ sha256 body = s.slotBytes d k 0x40 32 ∧
        (s.get F.PKG_OTP_SIG_REQ ≠ 0 → sha256 (s.slotBytes d k 0x60 64) = s.keyHash ∧
          ecdsaVerify (beNat (s.slotBytes d k 0x60 32)) (beNat (s.slotBytes d k 0x80 32)) (beNat (s.slotBytes d k 0xA0 32))
            (beNat (s.slotBytes d k 0xC0 32)) (beNat (sha256 (s.slotBytes d k 0 0xA0))) = true)) ∧
    (s.boot.begun = true ∨ 1 < s.pkgState → exec (.resetRelease p) s = .next s) ∧
    (∀ skew : List (Bool × BitVec 8), (∀ x ∈ skew, x.1 = false) →
      s.pkgState = 1 → s.boot.begun = true → (∀ e < s.dies, (s.flashRun e).busy = none) → s.boot.records = [] →
      ∃ t, exec (.bootComplete intake base ⟨[], skew⟩) s = .next t ∧ t.pkgState = 2 ∧
        (∀ e < s.dies, ∀ x, skew[e]? = some x → t.get F.ADC_SKEW_TRIM e = if e = 0 then 0 else x.2.toNat) ∧ t.boot.agreeAt = s.tick 0 ∧ t.boot.good = 0 ∧
        (s.recQueue ≠ none → t.recQueue = s.recQueue) ∧ t.points = s.points ∧ t.flash = s.flash) ∧
    (s.pkgState ≠ 1 → exec (.bootComplete intake base ⟨[], []⟩) s = .next s) ∧
    (s.pkgState = 1 → s.boot.begun = true → 10000000 + 3000000 * s.get F.FL_CNT_REERASE_CNT d ≤ s.tick 0 →
      ∃ t, exec (.dieMissing d) s = .next t ∧ (t.die d).missing = true ∧ t.tick d = s.tick d ∧ t.cells = s.cells ∧
        ∀ e, e ≠ d → t.die e = s.die e) ∧
    (s.tick 0 < 10000000 + 3000000 * s.get F.FL_CNT_REERASE_CNT d → exec (.dieMissing d) s = .next s) ∧
    (s.pkgState = 2 → s.get F.PKG_BOOT_TRIAL = 1 → s.boot.agreeAt + 200000000 ≤ s.tick 0 →
      s.recQueue = none ∨ s.get F.IRQ_SRC_EN 0 200 = 0 → ∃ t, exec .trialFallback s = .next t ∧ t.pkgState = 1 ∧ t.get F.PKG_BOOT_FALLBACK = 1 ∧
        t.points = s.points ∧ (s.get F.PKG_BOOT_SLOT ≤ 1 → ∀ e < s.dies,
          t.slotState e (s.get F.PKG_BOOT_SLOT) = s.slotState e (s.get F.PKG_BOOT_SLOT) &&& 0x07)) ∧
    (s.pkgState ≠ 2 ∨ s.get F.PKG_BOOT_TRIAL = 0 ∨ s.tick 0 < s.boot.agreeAt + 200000000 → exec .trialFallback s = .next s)

/-- R13, R28, R548, R555, R556, R563, R566, R568, R570: SWITCH, with its choice of a slot where none is booted (log entry
59), CONFIRM and the OTP commands with their results, the clear of a refused-write count, plain register writes, and a W1C
bit that hardware sets in the cycle of its clear. That CH_HADDR, AON_CMP_STAT and the address 0x20000000 serve as the
registers written and the address at which nothing answers is this statement's choice. -/
def Obligations.PackageCommandsAndRegisterWritesAnswer : Prop :=
  ∀ (s : State) (q : Requester) (d : Nat) (v : BitVec 32), d < s.dies → 1 ≤ s.pkgState →
    let booted := s.get F.PKG_BOOT_SLOT
    let res := fun (t : State) (st : Status) => t.get F.PKG_CRES_RES = st.code ∧ t.points = s.points ∧ t.engines = s.engines
    let programmed := fun (t : State) (k w : Nat) =>
      (∀ e < s.dies, t.flashRow e (k * 32768 + 32767) =
        s.flashRow e (k * 32768 + 32767) &&& BitVec.ofNat 256 (2 ^ 256 - 256 + w)) ∧
      (∀ e r, e < s.dies → r < 131072 → r ≠ k * 32768 + 32767 → t.flashRow e r = s.flashRow e r)
    let refused := fun (c : Instr) => exec c s = .next (s.put F.PKG_CRES_RES Status.refused.code)
    (s.pkgState = 1 ∨ s.pkgState = 3 → refused (.switch q)) ∧
    (∀ k < 2, s.pkgState = 2 ∨ s.pkgState = 4 →
      s.boot.slot = some (1 - k) ∨ (s.boot.slot = none ∧ (k = 0 ∨ ∃ e < s.dies, s.slotState e 0 ≠ 0x7F)) →
      ((∀ e < s.dies, s.slotState e k = 0x7F ∧ s.checkImage e k = none ∧
          s.slotBytes e k 0x20 32 = s.slotBytes 0 k 0x20 32 ∧ (s.boot.slot = some (1 - k) → s.slotSeq e (1 - k) < s.slotSeq e k)) →
        ∃ t, exec (.switch q) s = .next t ∧ res t .ok ∧ programmed t k 0x3F) ∧
      (∀ e < s.dies, s.recQueue = none → s.slotState e k ≠ 0x7F ∨ s.checkImage e k ≠ none ∨
          s.slotBytes e k 0x20 32 ≠ s.slotBytes 0 k 0x20 32 ∨ (s.boot.slot = some (1 - k) ∧ s.slotSeq e k ≤ s.slotSeq e (1 - k)) →
        (s.boot.slot = none → k = 1) →
        ∃ t, exec (.switch q) s = .next t ∧ res t .refused ∧ t.flash = s.flash)) ∧
    (s.pkgState = 4 → s.get F.PKG_BOOT_TRIAL = 1 → booted ≤ 1 → s.recQueue = none → ∃ t, exec (.confirm q) s = .next t ∧ res t .ok ∧
      t.get F.PKG_BOOT_TRIAL = 0 ∧ programmed t booted 0x0F) ∧
    (s.pkgState ≠ 4 ∨ s.get F.PKG_BOOT_TRIAL = 0 → refused (.confirm q)) ∧
    (s.pkgState < 4 → s.get F.PKG_OTP_KEY_SET = 0 → ∃ t, exec (.programKeyHash q) s = .next t ∧ res t .ok ∧
      t.get F.PKG_OTP_KEY_SET = 1 ∧ ∀ k < 8, t.otpWord k = s.get F.PKG_KEYW_WORD 0 k) ∧
    (s.pkgState = 4 ∨ s.get F.PKG_OTP_KEY_SET = 1 → refused (.programKeyHash q)) ∧
    (s.pkgState < 4 → s.get F.PKG_OTP_KEY_SET = 1 → s.get F.PKG_OTP_SIG_REQ = 0 → ∃ t, exec (.programSigReq q) s = .next t ∧
      res t .ok ∧ t.get F.PKG_OTP_SIG_REQ = 1) ∧
    (s.pkgState = 4 ∨ s.get F.PKG_OTP_KEY_SET = 0 ∨ s.get F.PKG_OTP_SIG_REQ = 1 → refused (.programSigReq q)) ∧
    (s.reached q d = s → exec (.wrefClr q (some d)) s = .next (s.put F.DIE_WREF_CNT 0 d)) ∧
    exec (.wrefClr q none) s = .next (s.put F.PKG_WREF_CNT 0) ∧
    ∀ hw : BitVec 32,
    exec (.registerWrite q 0x20000000 ⟨v, hw⟩) s = .next { s with answer := [], answerSt := .refused } ∧
    (2 ≤ s.pkgState → exec (.registerWrite q 0x50084 ⟨v, hw⟩) s =
      .next { s.put F.CHN_HADDR_ADDR v.toNat with answer := [], answerSt := .ok }) ∧
    (s.pkgState = 1 → exec (.registerWrite q 0x50084 ⟨v, hw⟩) s = .next { s with answer := [], answerSt := .notReady }) ∧
    (2 ≤ s.pkgState → s.get F.AON_CMP_STAT_HIT ≤ 1 → ∃ t, exec (.registerWrite q 0x20104 ⟨v, hw⟩) s = .next t ∧ t.answerSt = .ok ∧ t.get F.AON_CMP_STAT_HIT =
      if v.getLsbD 0 = true ∧ hw.getLsbD 0 = false then 0 else s.get F.AON_CMP_STAT_HIT)
end

