-- ==== Sys2Proof/Laws/Store.lean ====
section
/-!
SUPPORT. The laws of sparse stores: a read after a write, writes to one key, and the canonical form, which every write keeps.
-/
namespace Sys2Proof.Machine

theorem Store.find_erase_same {α : Type} (m : Store α) (k : Nat) : Store.find (Store.erase m k) k = none := by
  induction m with
  | nil => rfl
  | cons p m ih =>
    obtain ⟨j, w⟩ := p
    by_cases h : j = k
    · simpa [Store.erase, h] using ih
    · simp only [Store.erase, List.filter_cons, h, decide_false, Bool.not_false, if_true, Store.find, if_false]
      exact ih

theorem Store.find_erase_other {α : Type} (m : Store α) {k j : Nat} (h : j ≠ k) :
    Store.find (Store.erase m k) j = Store.find m j := by
  induction m with
  | nil => rfl
  | cons p m ih =>
    obtain ⟨i, w⟩ := p
    by_cases hi : i = k
    · subst hi
      have : ¬ i = j := fun e => h e.symm
      simp only [Store.erase, List.filter_cons, decide_true, Bool.not_true, Bool.false_eq_true, if_false, Store.find, this]
      exact ih
    · simp only [Store.erase, List.filter_cons, hi, decide_false, Bool.not_false, if_true, Store.find]
      by_cases hij : i = j <;> simp [hij]
      exact ih

theorem Store.find_insert {α : Type} (m : Store α) (k j : Nat) (v : α) (h : Store.find m k = none) :
    Store.find (Store.insert m k v) j = if k = j then some v else Store.find m j := by
  induction m with
  | nil => simp [Store.insert, Store.find]
  | cons p m ih =>
    obtain ⟨i, w⟩ := p
    have hik : ¬ i = k := by intro e; simp [Store.find, e] at h
    have hm : Store.find m k = none := by simpa [Store.find, hik] using h
    by_cases hlt : k < i
    · simp [Store.insert, Store.find, hlt]
    · simp only [Store.insert, hlt, if_false, Store.find, ih hm]
      by_cases hij : i = j
      · have : ¬ k = j := fun e => hik (hij.trans e.symm)
        simp [hij, this]
      · simp [hij]

/-- A read of the key just written gives the value written. -/
@[simp] theorem Store.get_set_same {α : Type} [DecidableEq α] (m : Store α) (d : α) (k : Nat) (v : α) :
    Store.get (Store.set m d k v) d k = v := by
  unfold Store.get Store.set
  by_cases h : v = d
  · simp [h, Store.find_erase_same]
  · simp [h, Store.find_insert _ _ _ _ (Store.find_erase_same m k)]

/-- A write leaves what every other key reads as. -/
theorem Store.get_set_other {α : Type} [DecidableEq α] (m : Store α) (d e : α) {k j : Nat} (v : α) (h : j ≠ k) :
    Store.get (Store.set m d k v) e j = Store.get m e j := by
  have hk : ¬ k = j := fun e => h e.symm
  unfold Store.get Store.set
  by_cases hv : v = d
  · simp [hv, Store.find_erase_other m h]
  · simp [hv, Store.find_insert _ _ _ _ (Store.find_erase_same m k), hk, Store.find_erase_other m h]

/-- What any key reads as after a write. -/
theorem Store.get_set {α : Type} [DecidableEq α] (m : Store α) (d : α) (k j : Nat) (v : α) :
    Store.get (Store.set m d k v) d j = if j = k then v else Store.get m d j := by
  by_cases h : j = k
  · subst h; simp
  · simp [h, Store.get_set_other m d d v h]

@[simp] theorem Store.get_nil {α : Type} (d : α) (k : Nat) : Store.get ([] : Store α) d k = d := rfl

theorem Store.erase_erase {α : Type} (m : Store α) (k : Nat) : Store.erase (Store.erase m k) k = Store.erase m k := by
  simp [Store.erase, List.filter_filter]

theorem Store.erase_insert {α : Type} (m : Store α) (k : Nat) (v : α) :
    Store.erase (Store.insert m k v) k = Store.erase m k := by
  induction m with
  | nil => simp [Store.erase, Store.insert]
  | cons p m ih =>
    obtain ⟨i, w⟩ := p
    by_cases hlt : k < i
    · simp [Store.insert, hlt, Store.erase]
    · simp only [Store.insert, hlt, if_false]
      simp only [Store.erase, List.filter_cons] at ih ⊢
      rw [ih]

/-- Two writes of one key: the later one stands. -/
@[simp] theorem Store.set_set {α : Type} [DecidableEq α] (m : Store α) (d : α) (k : Nat) (v w : α) :
    Store.set (Store.set m d k v) d k w = Store.set m d k w := by
  have h : Store.erase (Store.set m d k v) k = Store.erase m k := by
    by_cases hv : v = d
    · simp [Store.set, hv, Store.erase_erase]
    · simp [Store.set, hv, Store.erase_insert, Store.erase_erase]
  by_cases hw : w = d
  · simp only [Store.set, hw, if_true]; simpa [Store.set] using h
  · simp only [Store.set, hw, if_false]
    exact congrArg (fun x => Store.insert x k w) (by simpa [Store.set] using h)

theorem Store.sortedFrom_weaken {α : Type} (m : Store α) (b c : Nat) (h : c ≤ b) (hm : Store.sortedFrom (some b) m) :
    Store.sortedFrom (some c) m := by
  cases m with
  | nil => rfl
  | cons p m =>
    obtain ⟨i, w⟩ := p
    simp only [Store.sortedFrom, Bool.and_eq_true, decide_eq_true_eq] at hm ⊢
    exact ⟨by omega, hm.2⟩

theorem Store.sortedFrom_none {α : Type} (m : Store α) (b : Nat) (hm : Store.sortedFrom (some b) m) :
    Store.sortedFrom none m := by
  cases m with
  | nil => rfl
  | cons p m =>
    obtain ⟨i, w⟩ := p
    simp only [Store.sortedFrom, Bool.and_eq_true] at hm ⊢
    exact hm.2

theorem Store.sortedFrom_erase {α : Type} (m : Store α) (k b : Nat) (hm : Store.sortedFrom (some b) m) :
    Store.sortedFrom (some b) (Store.erase m k) := by
  induction m generalizing b with
  | nil => rfl
  | cons p m ih =>
    obtain ⟨i, w⟩ := p
    simp only [Store.sortedFrom, Bool.and_eq_true, decide_eq_true_eq] at hm
    by_cases h : i = k
    · simp only [Store.erase, List.filter_cons, h, decide_true, Bool.not_true, Bool.false_eq_true, if_false]
      exact Store.sortedFrom_weaken _ i b (by omega) (ih i hm.2)
    · simp only [Store.erase, List.filter_cons, h, decide_false, Bool.not_false, if_true, Store.sortedFrom,
        Bool.and_eq_true, decide_eq_true_eq]
      exact ⟨hm.1, ih i hm.2⟩

theorem Store.sortedFrom_insert {α : Type} (m : Store α) (k b : Nat) (v : α) (hb : b < k) (hf : Store.find m k = none)
    (hm : Store.sortedFrom (some b) m) : Store.sortedFrom (some b) (Store.insert m k v) := by
  induction m generalizing b with
  | nil => simp [Store.insert, Store.sortedFrom, hb]
  | cons p m ih =>
    obtain ⟨i, w⟩ := p
    have hik : ¬ i = k := by intro e; simp [Store.find, e] at hf
    have hf' : Store.find m k = none := by simpa [Store.find, hik] using hf
    simp only [Store.sortedFrom, Bool.and_eq_true, decide_eq_true_eq] at hm
    by_cases hlt : k < i
    · simp [Store.insert, hlt, Store.sortedFrom, hb, hm.2]
    · simp only [Store.insert, hlt, if_false, Store.sortedFrom, Bool.and_eq_true, decide_eq_true_eq]
      exact ⟨hm.1, ih i (by omega) hf' hm.2⟩

theorem Store.sorted_erase {α : Type} (m : Store α) (k : Nat) (hm : Store.sortedFrom none m) :
    Store.sortedFrom none (Store.erase m k) := by
  cases m with
  | nil => rfl
  | cons p m =>
    obtain ⟨i, w⟩ := p
    simp only [Store.sortedFrom] at hm
    by_cases h : i = k
    · simp only [Store.erase, List.filter_cons, h, decide_true, Bool.not_true, Bool.false_eq_true, if_false]
      exact Store.sortedFrom_none _ i (Store.sortedFrom_erase m k i hm)
    · simp only [Store.erase, List.filter_cons, h, decide_false, Bool.not_false, if_true, Store.sortedFrom]
      exact Store.sortedFrom_erase m k i hm

theorem Store.sorted_insert {α : Type} (m : Store α) (k : Nat) (v : α) (hf : Store.find m k = none)
    (hm : Store.sortedFrom none m) : Store.sortedFrom none (Store.insert m k v) := by
  cases m with
  | nil => rfl
  | cons p m =>
    obtain ⟨i, w⟩ := p
    have hik : ¬ i = k := by intro e; simp [Store.find, e] at hf
    have hf' : Store.find m k = none := by simpa [Store.find, hik] using hf
    simp only [Store.sortedFrom] at hm
    by_cases hlt : k < i
    · simp [Store.insert, hlt, Store.sortedFrom, hm]
    · simp only [Store.insert, hlt, if_false, Store.sortedFrom]
      exact Store.sortedFrom_insert m k i v (by omega) hf' hm

/-- Every write keeps the canonical form. -/
theorem Store.wf_set {α : Type} [DecidableEq α] (m : Store α) (d : α) (k : Nat) (v : α) (h : Store.wf d m) :
    Store.wf d (Store.set m d k v) := by
  simp only [Store.wf, Bool.and_eq_true] at h ⊢
  have he : (Store.erase m k).all (fun p => decide (p.2 ≠ d)) = true := by
    simp only [Store.erase, List.all_eq_true, List.mem_filter] at h ⊢
    intro p hp
    exact h.2 p hp.1
  by_cases hv : v = d
  · simp only [Store.set, hv, if_true]
    exact ⟨Store.sorted_erase m k h.1, he⟩
  · simp only [Store.set, hv, if_false]
    refine ⟨Store.sorted_insert _ k v (Store.find_erase_same m k) (Store.sorted_erase m k h.1), ?_⟩
    have hall : ∀ (m : Store α), m.all (fun p => decide (p.2 ≠ d)) = true →
        (Store.insert m k v).all (fun p => decide (p.2 ≠ d)) = true := by
      intro m hm
      induction m with
      | nil => simp [Store.insert, hv]
      | cons p m ih =>
        obtain ⟨i, w⟩ := p
        simp only [List.all_cons, Bool.and_eq_true] at hm
        by_cases hlt : k < i
        · simp only [Store.insert, hlt, if_true, List.all_cons, Bool.and_eq_true]
          exact ⟨by simp [hv], hm.1, hm.2⟩
        · simp only [Store.insert, hlt, if_false, List.all_cons, Bool.and_eq_true]
          exact ⟨hm.1, ih hm.2⟩
    exact hall _ he

/-- The empty store is in canonical form. -/
@[simp] theorem Store.wf_nil {α : Type} [DecidableEq α] (d : α) : Store.wf d ([] : Store α) = true := rfl

end Sys2Proof.Machine
end

