-- ==== Sys2Proof/Laws/Memory.lean ====
section
/-!
SUPPORT. The operations over the memories keep their canonical form, the memory of State.reset has it, and a write of a signal point is
read back while every other point reads as before.
-/
namespace Sys2Proof.Machine

theorem Store.wf_erase {α : Type} [DecidableEq α] (m : Store α) (d : α) (k : Nat) (h : Store.wf d m) :
    Store.wf d (Store.erase m k) := by
  simpa [Store.set] using Store.wf_set m d k d h

theorem Store.sortedFrom_filter {α : Type} (f : Nat × α → Bool) (m : Store α) (b : Nat) (h : Store.sortedFrom (some b) m) :
    Store.sortedFrom (some b) (m.filter f) := by
  induction m generalizing b with
  | nil => rfl
  | cons p m ih =>
    obtain ⟨j, v⟩ := p
    simp only [Store.sortedFrom, Bool.and_eq_true, decide_eq_true_eq] at h
    by_cases hf : f (j, v) = true
    · simp only [List.filter_cons, hf, if_true, Store.sortedFrom, Bool.and_eq_true, decide_eq_true_eq]
      exact ⟨h.1, ih j h.2⟩
    · simp only [List.filter_cons, hf]
      exact Store.sortedFrom_weaken _ j b (by omega) (ih j h.2)

/-- Losing entries keeps the canonical form. -/
theorem Store.wf_filter {α : Type} [DecidableEq α] (m : Store α) (d : α) (f : Nat × α → Bool) (h : Store.wf d m) :
    Store.wf d (m.filter f) := by
  simp only [Store.wf, Bool.and_eq_true, List.all_eq_true] at h ⊢
  refine ⟨?_, fun p hp => h.2 p (List.mem_of_mem_filter hp)⟩
  cases m with
  | nil => rfl
  | cons p m =>
    obtain ⟨j, v⟩ := p
    have hs : Store.sortedFrom (some j) m := h.1
    by_cases hf : f (j, v) = true
    · simp only [List.filter_cons, hf, if_true]
      exact Store.sortedFrom_filter f m j hs
    · simp only [List.filter_cons, hf]
      have := Store.sortedFrom_filter f m j hs
      revert this
      cases m.filter f with
      | nil => exact fun _ => rfl
      | cons q n => exact fun hq => (Bool.and_eq_true _ _ ▸ hq : _ ∧ _).2

/-- What the form of the memories says of each of them. -/
theorem memoryWf_iff (s : State) : s.memoryWf = true ↔
    Store.wf 0 s.points ∧ Store.wf 0 s.priv ∧ Store.wf 0 s.shared ∧ Store.wf 0 s.capture ∧ Store.wf noWord s.program ∧
      Store.wf (BitVec.allOnes 256) s.flash := by
  simp [State.memoryWf, and_assoc]

/-- The form carries over to a state whose memories are in it wherever they differ. -/
theorem memoryWf_of {s t : State} (h : s.memoryWf = true)
    (hp : t.points = s.points ∨ Store.wf 0 t.points = true) (hv : t.priv = s.priv ∨ Store.wf 0 t.priv = true)
    (hs : t.shared = s.shared ∨ Store.wf 0 t.shared = true) (hc : t.capture = s.capture ∨ Store.wf 0 t.capture = true)
    (hg : t.program = s.program ∨ Store.wf noWord t.program = true)
    (hf : t.flash = s.flash ∨ Store.wf (BitVec.allOnes 256) t.flash = true) : t.memoryWf = true := by
  obtain ⟨a, b, c, d, e, f⟩ := (memoryWf_iff s).1 h
  exact (memoryWf_iff t).2 ⟨hp.elim (· ▸ a) id, hv.elim (· ▸ b) id, hs.elim (· ▸ c) id, hc.elim (· ▸ d) id, hg.elim (· ▸ e) id,
    hf.elim (· ▸ f) id⟩

/-- The memories of a state are those of another. -/
theorem memoryWf_congr {s t : State} (h : s.memoryWf = true) (hp : t.points = s.points) (hv : t.priv = s.priv)
    (hs : t.shared = s.shared) (hc : t.capture = s.capture) (hg : t.program = s.program) (hf : t.flash = s.flash) :
    t.memoryWf = true :=
  memoryWf_of h (.inl hp) (.inl hv) (.inl hs) (.inl hc) (.inl hg) (.inl hf)

theorem memoryWf_reset : State.reset.memoryWf = true := by decide

theorem memoryWf_resetFor (m : Member) : (State.resetFor m).memoryWf = true := by
  cases m <;> decide

theorem memoryWf_points {s : State} (h : s.memoryWf = true) (p : Nat) (v : Word) :
    State.memoryWf { s with points := Store.set s.points 0 p v } = true := by
  exact (memoryWf_iff _).2 (((memoryWf_iff s).1 h).imp_left (Store.wf_set _ _ _ _))

@[simp] theorem memoryWf_put (s : State) (f : Fld) (v d i j : Nat) : (s.put f v d i j).memoryWf = s.memoryWf := rfl

@[simp] theorem memoryWf_cpSeen (s : State) (who : Requester) (herd : Option Nat) (h j : Nat) :
    (s.cpSeen who herd h j).memoryWf = s.memoryWf := by
  unfold State.cpSeen
  dsimp only
  split <;> rfl

/-- A write of a point keeps the canonical form (R137). -/
theorem memoryWf_writePoint {s : State} (h : s.memoryWf = true) (p : Nat) (v : Word) (who : Requester) (herd : Option Nat) :
    (s.writePoint p v who herd).memoryWf = true := by
  have key : ∀ (cs : List (Nat × Nat)) (t : State), t.memoryWf = true →
      (cs.foldl (fun s c => s.cpSeen who herd c.1 c.2) t).memoryWf = true := by
    intro cs
    induction cs with
    | nil => exact fun t ht => ht
    | cons c cs ih => exact fun t ht => ih _ (by simpa using ht)
  exact key _ _ (memoryWf_points h p v)

theorem memoryWf_hwPoint {s : State} (h : s.memoryWf = true) (p : Nat) (v : Word) : (s.hwPoint p v).memoryWf = true := by
  unfold State.hwPoint
  split
  · exact memoryWf_writePoint h p v _ _
  · exact h

/-- A group commit keeps the canonical form (R139). -/
theorem memoryWf_writeGroup {s : State} (h : s.memoryWf = true) (p : Nat) (vs : List Word) (who : Requester) (herd : Option Nat) :
    (s.writeGroup p vs who herd).memoryWf = true := by
  induction vs generalizing s p with
  | nil => exact h
  | cons v vs ih => exact ih (memoryWf_writePoint h p v who herd) _

/-- A word written to private data keeps the canonical form. -/
theorem memoryWf_priv {s : State} (h : s.memoryWf = true) (k : Nat) (v : Word) :
    State.memoryWf { s with priv := Store.set s.priv 0 k v } = true := by
  exact (memoryWf_iff _).2 (((memoryWf_iff s).1 h).imp_right (·.imp_left (Store.wf_set _ _ _ _)))

/-- A word written to shared data keeps the canonical form. -/
theorem memoryWf_shared {s : State} (h : s.memoryWf = true) (k : Nat) (v : Word) :
    State.memoryWf { s with shared := Store.set s.shared 0 k v } = true := by
  rw [memoryWf_iff] at h ⊢
  obtain ⟨a, b, w, r⟩ := h
  exact ⟨a, b, Store.wf_set _ _ _ _ w, r⟩

/-- A word written to a capture ring keeps the canonical form. -/
theorem memoryWf_capture {s : State} (h : s.memoryWf = true) (k : Nat) (v : Word) :
    State.memoryWf { s with capture := Store.set s.capture 0 k v } = true := by
  have w := (memoryWf_iff s).1 h
  exact (memoryWf_iff _).2 ⟨w.1, w.2.1, w.2.2.1, Store.wf_set _ _ _ _ w.2.2.2.1, w.2.2.2.2⟩

/-- A long instruction's write of a word keeps the canonical form (R133). -/
theorem memoryWf_pokeWord {s : State} (h : s.memoryWf = true) (pe a : Nat) (v : Word) : (s.pokeWord pe a v).memoryWf = true := by
  unfold State.pokeWord
  split
  · exact memoryWf_priv h _ v
  · exact memoryWf_shared h _ v
  · split
    · exact memoryWf_writePoint h _ v _ _
    · exact h
  all_goals exact h

/-- A flash row set keeps the canonical form (R457). -/
theorem memoryWf_setRow {s : State} (h : s.memoryWf = true) (d r : Nat) (v : BitVec 256) : (s.setRow d r v).memoryWf = true := by
  rw [memoryWf_iff] at h ⊢
  obtain ⟨a, b, c, e, f, w⟩ := h
  exact ⟨a, b, c, e, f, Store.wf_set _ _ _ _ w⟩

/-- A row program keeps the canonical form (R457). -/
theorem memoryWf_programRow {s : State} (h : s.memoryWf = true) (d r : Nat) (v : BitVec 256) :
    (s.programRow d r v).memoryWf = true := memoryWf_setRow h d r _

/-- A sector erase keeps the canonical form (R457). -/
theorem memoryWf_eraseSector {s : State} (h : s.memoryWf = true) (d c : Nat) : (s.eraseSector d c).memoryWf = true := by
  rw [memoryWf_iff] at h
  exact (memoryWf_iff _).2 (by rcases h with ⟨a, b, c, e, f, w⟩; exact ⟨a, b, c, e, f, Store.wf_filter _ _ _ w⟩)

/-- A program memory loaded from an image slot keeps the canonical form (R546). -/
theorem memoryWf_loadProgram {s : State} (h : s.memoryWf = true) (d c k : Nat) : (s.loadProgram d c k).memoryWf = true := by
  obtain ⟨-, -, -, -, w, -⟩ := (memoryWf_iff s).1 h
  have key : ∀ (ws : List (Nat × BitVec 32)) (m : Store (BitVec 32)), Store.wf noWord m = true →
      Store.wf noWord (ws.foldl
        (fun m w => if w.1 / 32768 = c then Store.set m noWord (d * 262144 + w.1) w.2 else m) m) = true := by
    intro ws
    induction ws with
    | nil => exact fun m hm => hm
    | cons x xs ih =>
      intro m hm
      refine ih _ ?_
      dsimp only
      split
      · exact Store.wf_set _ _ _ _ hm
      · exact hm
  exact memoryWf_of h (.inl rfl) (.inl rfl) (.inl rfl) (.inl rfl) (.inr (key _ _ (Store.wf_filter _ _ _ w))) (.inl rfl)

/-- A point that has been written reads its new value, and every other point as before. -/
theorem point_writePoint (s : State) (p r : Nat) (v : Word) (who : Requester) (herd : Option Nat) :
    (s.writePoint p v who herd).point r = if r = p then v else s.point r := by
  have key : ∀ (cs : List (Nat × Nat)) (t : State), (cs.foldl (fun s c => s.cpSeen who herd c.1 c.2) t).point r = t.point r := by
    intro cs
    induction cs with
    | nil => exact fun t => rfl
    | cons c cs ih =>
      intro t
      refine (ih _).trans ?_
      unfold State.cpSeen
      dsimp only
      split <;> rfl
  refine (key _ _).trans ?_
  by_cases h : r = p
  · subst h; simp [State.point]
  · simp [State.point, h, Store.get_set]

end Sys2Proof.Machine
end

