-- ==== Sys2Proof/Laws/State.lean ====
section
/-!
SUPPORT. The frame of every update of the state: one lemma per field and update, so that no proof unfolds a record update; then
what a read gives after an update.
-/
namespace Sys2Proof.Machine

/-! ### `State.put` -/

section
variable (s : State) (F : Fld) (v d i j : Nat)
@[simp] theorem State.put_member : (s.put F v d i j).member = s.member := rfl
@[simp] theorem State.put_pending : (s.put F v d i j).pending = s.pending := rfl
@[simp] theorem State.put_fresh : (s.put F v d i j).fresh = s.fresh := rfl
@[simp] theorem State.put_shadow : (s.put F v d i j).shadow = s.shadow := rfl
@[simp] theorem State.put_points : (s.put F v d i j).points = s.points := rfl
@[simp] theorem State.put_program : (s.put F v d i j).program = s.program := rfl
@[simp] theorem State.put_priv : (s.put F v d i j).priv = s.priv := rfl
@[simp] theorem State.put_shared : (s.put F v d i j).shared = s.shared := rfl
@[simp] theorem State.put_capture : (s.put F v d i j).capture = s.capture := rfl
@[simp] theorem State.put_flash : (s.put F v d i j).flash = s.flash := rfl
@[simp] theorem State.put_sectors : (s.put F v d i j).sectors = s.sectors := rfl
@[simp] theorem State.put_dieRuns : (s.put F v d i j).dieRuns = s.dieRuns := rfl
@[simp] theorem State.put_bases : (s.put F v d i j).bases = s.bases := rfl
@[simp] theorem State.put_trackers : (s.put F v d i j).trackers = s.trackers := rfl
@[simp] theorem State.put_engines : (s.put F v d i j).engines = s.engines := rfl
@[simp] theorem State.put_taskStk : (s.put F v d i j).taskStk = s.taskStk := rfl
@[simp] theorem State.put_pendArg : (s.put F v d i j).pendArg = s.pendArg := rfl
@[simp] theorem State.put_queues : (s.put F v d i j).queues = s.queues := rfl
@[simp] theorem State.put_qWaiters : (s.put F v d i j).qWaiters = s.qWaiters := rfl
@[simp] theorem State.put_ring : (s.put F v d i j).ring = s.ring := rfl
@[simp] theorem State.put_nextXfer : (s.put F v d i j).nextXfer = s.nextXfer := rfl
@[simp] theorem State.put_legs : (s.put F v d i j).legs = s.legs := rfl
@[simp] theorem State.put_herdCopies : (s.put F v d i j).herdCopies = s.herdCopies := rfl
@[simp] theorem State.put_cpLast : (s.put F v d i j).cpLast = s.cpLast := rfl
@[simp] theorem State.put_flashRuns : (s.put F v d i j).flashRuns = s.flashRuns := rfl
@[simp] theorem State.put_recorder : (s.put F v d i j).recorder = s.recorder := rfl
@[simp] theorem State.put_latches : (s.put F v d i j).latches = s.latches := rfl
@[simp] theorem State.put_recQueue : (s.put F v d i j).recQueue = s.recQueue := rfl
@[simp] theorem State.put_mesh : (s.put F v d i j).mesh = s.mesh := rfl
@[simp] theorem State.put_doms : (s.put F v d i j).doms = s.doms := rfl
@[simp] theorem State.put_herds : (s.put F v d i j).herds = s.herds := rfl
@[simp] theorem State.put_oscs : (s.put F v d i j).oscs = s.oscs := rfl
@[simp] theorem State.put_regs : (s.put F v d i j).regs = s.regs := rfl
@[simp] theorem State.put_drvs : (s.put F v d i j).drvs = s.drvs := rfl
@[simp] theorem State.put_chops : (s.put F v d i j).chops = s.chops := rfl
@[simp] theorem State.put_grds : (s.put F v d i j).grds = s.grds := rfl
@[simp] theorem State.put_trks : (s.put F v d i j).trks = s.trks := rfl
@[simp] theorem State.put_adcs : (s.put F v d i j).adcs = s.adcs := rfl
@[simp] theorem State.put_mods : (s.put F v d i j).mods = s.mods := rfl
@[simp] theorem State.put_refs : (s.put F v d i j).refs = s.refs := rfl
@[simp] theorem State.put_answer : (s.put F v d i j).answer = s.answer := rfl
@[simp] theorem State.put_posPrev : (s.put F v d i j).posPrev = s.posPrev := rfl
@[simp] theorem State.put_meters : (s.put F v d i j).meters = s.meters := rfl
@[simp] theorem State.put_pulses : (s.put F v d i j).pulses = s.pulses := rfl
@[simp] theorem State.put_s0s : (s.put F v d i j).s0s = s.s0s := rfl
@[simp] theorem State.put_safety : (s.put F v d i j).safety = s.safety := rfl
@[simp] theorem State.put_aonRun : (s.put F v d i j).aonRun = s.aonRun := rfl
@[simp] theorem State.put_ramps : (s.put F v d i j).ramps = s.ramps := rfl
@[simp] theorem State.put_boot : (s.put F v d i j).boot = s.boot := rfl
@[simp] theorem State.put_answerSt : (s.put F v d i j).answerSt = s.answerSt := rfl
@[simp] theorem State.put_whistleAt : (s.put F v d i j).whistleAt = s.whistleAt := rfl
@[simp] theorem State.put_chain : (s.put F v d i j).chain = s.chain := rfl
@[simp] theorem State.put_pmbPage : (s.put F v d i j).pmbPage = s.pmbPage := rfl
@[simp] theorem State.put_canOff : (s.put F v d i j).canOff = s.canOff := rfl
@[simp] theorem State.put_spiLast : (s.put F v d i j).spiLast = s.spiLast := rfl
@[simp] theorem State.put_tap : (s.put F v d i j).tap = s.tap := rfl
@[simp] theorem State.put_slotWrites : (s.put F v d i j).slotWrites = s.slotWrites := rfl
@[simp] theorem State.put_cmps : (s.put F v d i j).cmps = s.cmps := rfl
@[simp] theorem State.put_dispatched : (s.put F v d i j).dispatched = s.dispatched := rfl
@[simp] theorem State.put_otpKey : (s.put F v d i j).otpKey = s.otpKey := rfl
@[simp] theorem State.put_pointsHeld : (s.put F v d i j).pointsHeld = s.pointsHeld := rfl
@[simp] theorem State.put_spiOut : (s.put F v d i j).spiOut = s.spiOut := rfl
@[simp] theorem State.put_pec : (s.put F v d i j).pec = s.pec := rfl
@[simp] theorem State.put_bursts : (s.put F v d i j).bursts = s.bursts := rfl
end

/-! ### `State.putB` -/

section
variable (s : State) (F : Fld) (b : Bool) (d i j : Nat)
@[simp] theorem State.putB_member : (s.putB F b d i j).member = s.member := rfl
@[simp] theorem State.putB_pending : (s.putB F b d i j).pending = s.pending := rfl
@[simp] theorem State.putB_fresh : (s.putB F b d i j).fresh = s.fresh := rfl
@[simp] theorem State.putB_shadow : (s.putB F b d i j).shadow = s.shadow := rfl
@[simp] theorem State.putB_points : (s.putB F b d i j).points = s.points := rfl
@[simp] theorem State.putB_program : (s.putB F b d i j).program = s.program := rfl
@[simp] theorem State.putB_priv : (s.putB F b d i j).priv = s.priv := rfl
@[simp] theorem State.putB_shared : (s.putB F b d i j).shared = s.shared := rfl
@[simp] theorem State.putB_capture : (s.putB F b d i j).capture = s.capture := rfl
@[simp] theorem State.putB_flash : (s.putB F b d i j).flash = s.flash := rfl
@[simp] theorem State.putB_sectors : (s.putB F b d i j).sectors = s.sectors := rfl
@[simp] theorem State.putB_dieRuns : (s.putB F b d i j).dieRuns = s.dieRuns := rfl
@[simp] theorem State.putB_bases : (s.putB F b d i j).bases = s.bases := rfl
@[simp] theorem State.putB_trackers : (s.putB F b d i j).trackers = s.trackers := rfl
@[simp] theorem State.putB_engines : (s.putB F b d i j).engines = s.engines := rfl
@[simp] theorem State.putB_taskStk : (s.putB F b d i j).taskStk = s.taskStk := rfl
@[simp] theorem State.putB_pendArg : (s.putB F b d i j).pendArg = s.pendArg := rfl
@[simp] theorem State.putB_queues : (s.putB F b d i j).queues = s.queues := rfl
@[simp] theorem State.putB_qWaiters : (s.putB F b d i j).qWaiters = s.qWaiters := rfl
@[simp] theorem State.putB_ring : (s.putB F b d i j).ring = s.ring := rfl
@[simp] theorem State.putB_nextXfer : (s.putB F b d i j).nextXfer = s.nextXfer := rfl
@[simp] theorem State.putB_legs : (s.putB F b d i j).legs = s.legs := rfl
@[simp] theorem State.putB_herdCopies : (s.putB F b d i j).herdCopies = s.herdCopies := rfl
@[simp] theorem State.putB_cpLast : (s.putB F b d i j).cpLast = s.cpLast := rfl
@[simp] theorem State.putB_flashRuns : (s.putB F b d i j).flashRuns = s.flashRuns := rfl
@[simp] theorem State.putB_recorder : (s.putB F b d i j).recorder = s.recorder := rfl
@[simp] theorem State.putB_latches : (s.putB F b d i j).latches = s.latches := rfl
@[simp] theorem State.putB_recQueue : (s.putB F b d i j).recQueue = s.recQueue := rfl
@[simp] theorem State.putB_mesh : (s.putB F b d i j).mesh = s.mesh := rfl
@[simp] theorem State.putB_doms : (s.putB F b d i j).doms = s.doms := rfl
@[simp] theorem State.putB_herds : (s.putB F b d i j).herds = s.herds := rfl
@[simp] theorem State.putB_oscs : (s.putB F b d i j).oscs = s.oscs := rfl
@[simp] theorem State.putB_regs : (s.putB F b d i j).regs = s.regs := rfl
@[simp] theorem State.putB_drvs : (s.putB F b d i j).drvs = s.drvs := rfl
@[simp] theorem State.putB_chops : (s.putB F b d i j).chops = s.chops := rfl
@[simp] theorem State.putB_grds : (s.putB F b d i j).grds = s.grds := rfl
@[simp] theorem State.putB_trks : (s.putB F b d i j).trks = s.trks := rfl
@[simp] theorem State.putB_adcs : (s.putB F b d i j).adcs = s.adcs := rfl
@[simp] theorem State.putB_mods : (s.putB F b d i j).mods = s.mods := rfl
@[simp] theorem State.putB_refs : (s.putB F b d i j).refs = s.refs := rfl
@[simp] theorem State.putB_answer : (s.putB F b d i j).answer = s.answer := rfl
@[simp] theorem State.putB_posPrev : (s.putB F b d i j).posPrev = s.posPrev := rfl
@[simp] theorem State.putB_meters : (s.putB F b d i j).meters = s.meters := rfl
@[simp] theorem State.putB_pulses : (s.putB F b d i j).pulses = s.pulses := rfl
@[simp] theorem State.putB_s0s : (s.putB F b d i j).s0s = s.s0s := rfl
@[simp] theorem State.putB_safety : (s.putB F b d i j).safety = s.safety := rfl
@[simp] theorem State.putB_aonRun : (s.putB F b d i j).aonRun = s.aonRun := rfl
@[simp] theorem State.putB_ramps : (s.putB F b d i j).ramps = s.ramps := rfl
@[simp] theorem State.putB_boot : (s.putB F b d i j).boot = s.boot := rfl
@[simp] theorem State.putB_answerSt : (s.putB F b d i j).answerSt = s.answerSt := rfl
@[simp] theorem State.putB_whistleAt : (s.putB F b d i j).whistleAt = s.whistleAt := rfl
@[simp] theorem State.putB_chain : (s.putB F b d i j).chain = s.chain := rfl
@[simp] theorem State.putB_pmbPage : (s.putB F b d i j).pmbPage = s.pmbPage := rfl
@[simp] theorem State.putB_canOff : (s.putB F b d i j).canOff = s.canOff := rfl
@[simp] theorem State.putB_spiLast : (s.putB F b d i j).spiLast = s.spiLast := rfl
@[simp] theorem State.putB_tap : (s.putB F b d i j).tap = s.tap := rfl
@[simp] theorem State.putB_slotWrites : (s.putB F b d i j).slotWrites = s.slotWrites := rfl
@[simp] theorem State.putB_cmps : (s.putB F b d i j).cmps = s.cmps := rfl
@[simp] theorem State.putB_dispatched : (s.putB F b d i j).dispatched = s.dispatched := rfl
@[simp] theorem State.putB_otpKey : (s.putB F b d i j).otpKey = s.otpKey := rfl
@[simp] theorem State.putB_pointsHeld : (s.putB F b d i j).pointsHeld = s.pointsHeld := rfl
@[simp] theorem State.putB_spiOut : (s.putB F b d i j).spiOut = s.spiOut := rfl
@[simp] theorem State.putB_pec : (s.putB F b d i j).pec = s.pec := rfl
@[simp] theorem State.putB_bursts : (s.putB F b d i j).bursts = s.bursts := rfl
end

/-! ### `State.putI` -/

section
variable (s : State) (F : Fld) (v : Int) (d i j : Nat)
@[simp] theorem State.putI_member : (s.putI F v d i j).member = s.member := rfl
@[simp] theorem State.putI_pending : (s.putI F v d i j).pending = s.pending := rfl
@[simp] theorem State.putI_fresh : (s.putI F v d i j).fresh = s.fresh := rfl
@[simp] theorem State.putI_shadow : (s.putI F v d i j).shadow = s.shadow := rfl
@[simp] theorem State.putI_points : (s.putI F v d i j).points = s.points := rfl
@[simp] theorem State.putI_program : (s.putI F v d i j).program = s.program := rfl
@[simp] theorem State.putI_priv : (s.putI F v d i j).priv = s.priv := rfl
@[simp] theorem State.putI_shared : (s.putI F v d i j).shared = s.shared := rfl
@[simp] theorem State.putI_capture : (s.putI F v d i j).capture = s.capture := rfl
@[simp] theorem State.putI_flash : (s.putI F v d i j).flash = s.flash := rfl
@[simp] theorem State.putI_sectors : (s.putI F v d i j).sectors = s.sectors := rfl
@[simp] theorem State.putI_dieRuns : (s.putI F v d i j).dieRuns = s.dieRuns := rfl
@[simp] theorem State.putI_bases : (s.putI F v d i j).bases = s.bases := rfl
@[simp] theorem State.putI_trackers : (s.putI F v d i j).trackers = s.trackers := rfl
@[simp] theorem State.putI_engines : (s.putI F v d i j).engines = s.engines := rfl
@[simp] theorem State.putI_taskStk : (s.putI F v d i j).taskStk = s.taskStk := rfl
@[simp] theorem State.putI_pendArg : (s.putI F v d i j).pendArg = s.pendArg := rfl
@[simp] theorem State.putI_queues : (s.putI F v d i j).queues = s.queues := rfl
@[simp] theorem State.putI_qWaiters : (s.putI F v d i j).qWaiters = s.qWaiters := rfl
@[simp] theorem State.putI_ring : (s.putI F v d i j).ring = s.ring := rfl
@[simp] theorem State.putI_nextXfer : (s.putI F v d i j).nextXfer = s.nextXfer := rfl
@[simp] theorem State.putI_legs : (s.putI F v d i j).legs = s.legs := rfl
@[simp] theorem State.putI_herdCopies : (s.putI F v d i j).herdCopies = s.herdCopies := rfl
@[simp] theorem State.putI_cpLast : (s.putI F v d i j).cpLast = s.cpLast := rfl
@[simp] theorem State.putI_flashRuns : (s.putI F v d i j).flashRuns = s.flashRuns := rfl
@[simp] theorem State.putI_recorder : (s.putI F v d i j).recorder = s.recorder := rfl
@[simp] theorem State.putI_latches : (s.putI F v d i j).latches = s.latches := rfl
@[simp] theorem State.putI_recQueue : (s.putI F v d i j).recQueue = s.recQueue := rfl
@[simp] theorem State.putI_mesh : (s.putI F v d i j).mesh = s.mesh := rfl
@[simp] theorem State.putI_doms : (s.putI F v d i j).doms = s.doms := rfl
@[simp] theorem State.putI_herds : (s.putI F v d i j).herds = s.herds := rfl
@[simp] theorem State.putI_oscs : (s.putI F v d i j).oscs = s.oscs := rfl
@[simp] theorem State.putI_regs : (s.putI F v d i j).regs = s.regs := rfl
@[simp] theorem State.putI_drvs : (s.putI F v d i j).drvs = s.drvs := rfl
@[simp] theorem State.putI_chops : (s.putI F v d i j).chops = s.chops := rfl
@[simp] theorem State.putI_grds : (s.putI F v d i j).grds = s.grds := rfl
@[simp] theorem State.putI_trks : (s.putI F v d i j).trks = s.trks := rfl
@[simp] theorem State.putI_adcs : (s.putI F v d i j).adcs = s.adcs := rfl
@[simp] theorem State.putI_mods : (s.putI F v d i j).mods = s.mods := rfl
@[simp] theorem State.putI_refs : (s.putI F v d i j).refs = s.refs := rfl
@[simp] theorem State.putI_answer : (s.putI F v d i j).answer = s.answer := rfl
@[simp] theorem State.putI_posPrev : (s.putI F v d i j).posPrev = s.posPrev := rfl
@[simp] theorem State.putI_meters : (s.putI F v d i j).meters = s.meters := rfl
@[simp] theorem State.putI_pulses : (s.putI F v d i j).pulses = s.pulses := rfl
@[simp] theorem State.putI_s0s : (s.putI F v d i j).s0s = s.s0s := rfl
@[simp] theorem State.putI_safety : (s.putI F v d i j).safety = s.safety := rfl
@[simp] theorem State.putI_aonRun : (s.putI F v d i j).aonRun = s.aonRun := rfl
@[simp] theorem State.putI_ramps : (s.putI F v d i j).ramps = s.ramps := rfl
@[simp] theorem State.putI_boot : (s.putI F v d i j).boot = s.boot := rfl
@[simp] theorem State.putI_answerSt : (s.putI F v d i j).answerSt = s.answerSt := rfl
@[simp] theorem State.putI_whistleAt : (s.putI F v d i j).whistleAt = s.whistleAt := rfl
@[simp] theorem State.putI_chain : (s.putI F v d i j).chain = s.chain := rfl
@[simp] theorem State.putI_pmbPage : (s.putI F v d i j).pmbPage = s.pmbPage := rfl
@[simp] theorem State.putI_canOff : (s.putI F v d i j).canOff = s.canOff := rfl
@[simp] theorem State.putI_spiLast : (s.putI F v d i j).spiLast = s.spiLast := rfl
@[simp] theorem State.putI_tap : (s.putI F v d i j).tap = s.tap := rfl
@[simp] theorem State.putI_slotWrites : (s.putI F v d i j).slotWrites = s.slotWrites := rfl
@[simp] theorem State.putI_cmps : (s.putI F v d i j).cmps = s.cmps := rfl
@[simp] theorem State.putI_dispatched : (s.putI F v d i j).dispatched = s.dispatched := rfl
@[simp] theorem State.putI_otpKey : (s.putI F v d i j).otpKey = s.otpKey := rfl
@[simp] theorem State.putI_pointsHeld : (s.putI F v d i j).pointsHeld = s.pointsHeld := rfl
@[simp] theorem State.putI_spiOut : (s.putI F v d i j).spiOut = s.spiOut := rfl
@[simp] theorem State.putI_pec : (s.putI F v d i j).pec = s.pec := rfl
@[simp] theorem State.putI_bursts : (s.putI F v d i j).bursts = s.bursts := rfl
end

/-! ### `State.incSat` -/

section
variable (s : State) (F : Fld) (d i j : Nat)
@[simp] theorem State.incSat_member : (s.incSat F d i j).member = s.member := rfl
@[simp] theorem State.incSat_pending : (s.incSat F d i j).pending = s.pending := rfl
@[simp] theorem State.incSat_fresh : (s.incSat F d i j).fresh = s.fresh := rfl
@[simp] theorem State.incSat_shadow : (s.incSat F d i j).shadow = s.shadow := rfl
@[simp] theorem State.incSat_points : (s.incSat F d i j).points = s.points := rfl
@[simp] theorem State.incSat_program : (s.incSat F d i j).program = s.program := rfl
@[simp] theorem State.incSat_priv : (s.incSat F d i j).priv = s.priv := rfl
@[simp] theorem State.incSat_shared : (s.incSat F d i j).shared = s.shared := rfl
@[simp] theorem State.incSat_capture : (s.incSat F d i j).capture = s.capture := rfl
@[simp] theorem State.incSat_flash : (s.incSat F d i j).flash = s.flash := rfl
@[simp] theorem State.incSat_sectors : (s.incSat F d i j).sectors = s.sectors := rfl
@[simp] theorem State.incSat_dieRuns : (s.incSat F d i j).dieRuns = s.dieRuns := rfl
@[simp] theorem State.incSat_bases : (s.incSat F d i j).bases = s.bases := rfl
@[simp] theorem State.incSat_trackers : (s.incSat F d i j).trackers = s.trackers := rfl
@[simp] theorem State.incSat_engines : (s.incSat F d i j).engines = s.engines := rfl
@[simp] theorem State.incSat_taskStk : (s.incSat F d i j).taskStk = s.taskStk := rfl
@[simp] theorem State.incSat_pendArg : (s.incSat F d i j).pendArg = s.pendArg := rfl
@[simp] theorem State.incSat_queues : (s.incSat F d i j).queues = s.queues := rfl
@[simp] theorem State.incSat_qWaiters : (s.incSat F d i j).qWaiters = s.qWaiters := rfl
@[simp] theorem State.incSat_ring : (s.incSat F d i j).ring = s.ring := rfl
@[simp] theorem State.incSat_nextXfer : (s.incSat F d i j).nextXfer = s.nextXfer := rfl
@[simp] theorem State.incSat_legs : (s.incSat F d i j).legs = s.legs := rfl
@[simp] theorem State.incSat_herdCopies : (s.incSat F d i j).herdCopies = s.herdCopies := rfl
@[simp] theorem State.incSat_cpLast : (s.incSat F d i j).cpLast = s.cpLast := rfl
@[simp] theorem State.incSat_flashRuns : (s.incSat F d i j).flashRuns = s.flashRuns := rfl
@[simp] theorem State.incSat_recorder : (s.incSat F d i j).recorder = s.recorder := rfl
@[simp] theorem State.incSat_latches : (s.incSat F d i j).latches = s.latches := rfl
@[simp] theorem State.incSat_recQueue : (s.incSat F d i j).recQueue = s.recQueue := rfl
@[simp] theorem State.incSat_mesh : (s.incSat F d i j).mesh = s.mesh := rfl
@[simp] theorem State.incSat_doms : (s.incSat F d i j).doms = s.doms := rfl
@[simp] theorem State.incSat_herds : (s.incSat F d i j).herds = s.herds := rfl
@[simp] theorem State.incSat_oscs : (s.incSat F d i j).oscs = s.oscs := rfl
@[simp] theorem State.incSat_regs : (s.incSat F d i j).regs = s.regs := rfl
@[simp] theorem State.incSat_drvs : (s.incSat F d i j).drvs = s.drvs := rfl
@[simp] theorem State.incSat_chops : (s.incSat F d i j).chops = s.chops := rfl
@[simp] theorem State.incSat_grds : (s.incSat F d i j).grds = s.grds := rfl
@[simp] theorem State.incSat_trks : (s.incSat F d i j).trks = s.trks := rfl
@[simp] theorem State.incSat_adcs : (s.incSat F d i j).adcs = s.adcs := rfl
@[simp] theorem State.incSat_mods : (s.incSat F d i j).mods = s.mods := rfl
@[simp] theorem State.incSat_refs : (s.incSat F d i j).refs = s.refs := rfl
@[simp] theorem State.incSat_answer : (s.incSat F d i j).answer = s.answer := rfl
@[simp] theorem State.incSat_posPrev : (s.incSat F d i j).posPrev = s.posPrev := rfl
@[simp] theorem State.incSat_meters : (s.incSat F d i j).meters = s.meters := rfl
@[simp] theorem State.incSat_pulses : (s.incSat F d i j).pulses = s.pulses := rfl
@[simp] theorem State.incSat_s0s : (s.incSat F d i j).s0s = s.s0s := rfl
@[simp] theorem State.incSat_safety : (s.incSat F d i j).safety = s.safety := rfl
@[simp] theorem State.incSat_aonRun : (s.incSat F d i j).aonRun = s.aonRun := rfl
@[simp] theorem State.incSat_ramps : (s.incSat F d i j).ramps = s.ramps := rfl
@[simp] theorem State.incSat_boot : (s.incSat F d i j).boot = s.boot := rfl
@[simp] theorem State.incSat_answerSt : (s.incSat F d i j).answerSt = s.answerSt := rfl
@[simp] theorem State.incSat_whistleAt : (s.incSat F d i j).whistleAt = s.whistleAt := rfl
@[simp] theorem State.incSat_chain : (s.incSat F d i j).chain = s.chain := rfl
@[simp] theorem State.incSat_pmbPage : (s.incSat F d i j).pmbPage = s.pmbPage := rfl
@[simp] theorem State.incSat_canOff : (s.incSat F d i j).canOff = s.canOff := rfl
@[simp] theorem State.incSat_spiLast : (s.incSat F d i j).spiLast = s.spiLast := rfl
@[simp] theorem State.incSat_tap : (s.incSat F d i j).tap = s.tap := rfl
@[simp] theorem State.incSat_slotWrites : (s.incSat F d i j).slotWrites = s.slotWrites := rfl
@[simp] theorem State.incSat_cmps : (s.incSat F d i j).cmps = s.cmps := rfl
@[simp] theorem State.incSat_dispatched : (s.incSat F d i j).dispatched = s.dispatched := rfl
@[simp] theorem State.incSat_otpKey : (s.incSat F d i j).otpKey = s.otpKey := rfl
@[simp] theorem State.incSat_pointsHeld : (s.incSat F d i j).pointsHeld = s.pointsHeld := rfl
@[simp] theorem State.incSat_spiOut : (s.incSat F d i j).spiOut = s.spiOut := rfl
@[simp] theorem State.incSat_pec : (s.incSat F d i j).pec = s.pec := rfl
@[simp] theorem State.incSat_bursts : (s.incSat F d i j).bursts = s.bursts := rfl
end

/-! ### `State.incMod` -/

section
variable (s : State) (F : Fld) (d i j : Nat)
@[simp] theorem State.incMod_member : (s.incMod F d i j).member = s.member := rfl
@[simp] theorem State.incMod_pending : (s.incMod F d i j).pending = s.pending := rfl
@[simp] theorem State.incMod_fresh : (s.incMod F d i j).fresh = s.fresh := rfl
@[simp] theorem State.incMod_shadow : (s.incMod F d i j).shadow = s.shadow := rfl
@[simp] theorem State.incMod_points : (s.incMod F d i j).points = s.points := rfl
@[simp] theorem State.incMod_program : (s.incMod F d i j).program = s.program := rfl
@[simp] theorem State.incMod_priv : (s.incMod F d i j).priv = s.priv := rfl
@[simp] theorem State.incMod_shared : (s.incMod F d i j).shared = s.shared := rfl
@[simp] theorem State.incMod_capture : (s.incMod F d i j).capture = s.capture := rfl
@[simp] theorem State.incMod_flash : (s.incMod F d i j).flash = s.flash := rfl
@[simp] theorem State.incMod_sectors : (s.incMod F d i j).sectors = s.sectors := rfl
@[simp] theorem State.incMod_dieRuns : (s.incMod F d i j).dieRuns = s.dieRuns := rfl
@[simp] theorem State.incMod_bases : (s.incMod F d i j).bases = s.bases := rfl
@[simp] theorem State.incMod_trackers : (s.incMod F d i j).trackers = s.trackers := rfl
@[simp] theorem State.incMod_engines : (s.incMod F d i j).engines = s.engines := rfl
@[simp] theorem State.incMod_taskStk : (s.incMod F d i j).taskStk = s.taskStk := rfl
@[simp] theorem State.incMod_pendArg : (s.incMod F d i j).pendArg = s.pendArg := rfl
@[simp] theorem State.incMod_queues : (s.incMod F d i j).queues = s.queues := rfl
@[simp] theorem State.incMod_qWaiters : (s.incMod F d i j).qWaiters = s.qWaiters := rfl
@[simp] theorem State.incMod_ring : (s.incMod F d i j).ring = s.ring := rfl
@[simp] theorem State.incMod_nextXfer : (s.incMod F d i j).nextXfer = s.nextXfer := rfl
@[simp] theorem State.incMod_legs : (s.incMod F d i j).legs = s.legs := rfl
@[simp] theorem State.incMod_herdCopies : (s.incMod F d i j).herdCopies = s.herdCopies := rfl
@[simp] theorem State.incMod_cpLast : (s.incMod F d i j).cpLast = s.cpLast := rfl
@[simp] theorem State.incMod_flashRuns : (s.incMod F d i j).flashRuns = s.flashRuns := rfl
@[simp] theorem State.incMod_recorder : (s.incMod F d i j).recorder = s.recorder := rfl
@[simp] theorem State.incMod_latches : (s.incMod F d i j).latches = s.latches := rfl
@[simp] theorem State.incMod_recQueue : (s.incMod F d i j).recQueue = s.recQueue := rfl
@[simp] theorem State.incMod_mesh : (s.incMod F d i j).mesh = s.mesh := rfl
@[simp] theorem State.incMod_doms : (s.incMod F d i j).doms = s.doms := rfl
@[simp] theorem State.incMod_herds : (s.incMod F d i j).herds = s.herds := rfl
@[simp] theorem State.incMod_oscs : (s.incMod F d i j).oscs = s.oscs := rfl
@[simp] theorem State.incMod_regs : (s.incMod F d i j).regs = s.regs := rfl
@[simp] theorem State.incMod_drvs : (s.incMod F d i j).drvs = s.drvs := rfl
@[simp] theorem State.incMod_chops : (s.incMod F d i j).chops = s.chops := rfl
@[simp] theorem State.incMod_grds : (s.incMod F d i j).grds = s.grds := rfl
@[simp] theorem State.incMod_trks : (s.incMod F d i j).trks = s.trks := rfl
@[simp] theorem State.incMod_adcs : (s.incMod F d i j).adcs = s.adcs := rfl
@[simp] theorem State.incMod_mods : (s.incMod F d i j).mods = s.mods := rfl
@[simp] theorem State.incMod_refs : (s.incMod F d i j).refs = s.refs := rfl
@[simp] theorem State.incMod_answer : (s.incMod F d i j).answer = s.answer := rfl
@[simp] theorem State.incMod_posPrev : (s.incMod F d i j).posPrev = s.posPrev := rfl
@[simp] theorem State.incMod_meters : (s.incMod F d i j).meters = s.meters := rfl
@[simp] theorem State.incMod_pulses : (s.incMod F d i j).pulses = s.pulses := rfl
@[simp] theorem State.incMod_s0s : (s.incMod F d i j).s0s = s.s0s := rfl
@[simp] theorem State.incMod_safety : (s.incMod F d i j).safety = s.safety := rfl
@[simp] theorem State.incMod_aonRun : (s.incMod F d i j).aonRun = s.aonRun := rfl
@[simp] theorem State.incMod_ramps : (s.incMod F d i j).ramps = s.ramps := rfl
@[simp] theorem State.incMod_boot : (s.incMod F d i j).boot = s.boot := rfl
@[simp] theorem State.incMod_answerSt : (s.incMod F d i j).answerSt = s.answerSt := rfl
@[simp] theorem State.incMod_whistleAt : (s.incMod F d i j).whistleAt = s.whistleAt := rfl
@[simp] theorem State.incMod_chain : (s.incMod F d i j).chain = s.chain := rfl
@[simp] theorem State.incMod_pmbPage : (s.incMod F d i j).pmbPage = s.pmbPage := rfl
@[simp] theorem State.incMod_canOff : (s.incMod F d i j).canOff = s.canOff := rfl
@[simp] theorem State.incMod_spiLast : (s.incMod F d i j).spiLast = s.spiLast := rfl
@[simp] theorem State.incMod_tap : (s.incMod F d i j).tap = s.tap := rfl
@[simp] theorem State.incMod_slotWrites : (s.incMod F d i j).slotWrites = s.slotWrites := rfl
@[simp] theorem State.incMod_cmps : (s.incMod F d i j).cmps = s.cmps := rfl
@[simp] theorem State.incMod_dispatched : (s.incMod F d i j).dispatched = s.dispatched := rfl
@[simp] theorem State.incMod_otpKey : (s.incMod F d i j).otpKey = s.otpKey := rfl
@[simp] theorem State.incMod_pointsHeld : (s.incMod F d i j).pointsHeld = s.pointsHeld := rfl
@[simp] theorem State.incMod_spiOut : (s.incMod F d i j).spiOut = s.spiOut := rfl
@[simp] theorem State.incMod_pec : (s.incMod F d i j).pec = s.pec := rfl
@[simp] theorem State.incMod_bursts : (s.incMod F d i j).bursts = s.bursts := rfl
end

/-! ### `State.putSh` -/

section
variable (s : State) (F : Fld) (v d i j : Nat)
@[simp] theorem State.putSh_member : (s.putSh F v d i j).member = s.member := rfl
@[simp] theorem State.putSh_pending : (s.putSh F v d i j).pending = s.pending := rfl
@[simp] theorem State.putSh_fresh : (s.putSh F v d i j).fresh = s.fresh := rfl
@[simp] theorem State.putSh_cells : (s.putSh F v d i j).cells = s.cells := rfl
@[simp] theorem State.putSh_points : (s.putSh F v d i j).points = s.points := rfl
@[simp] theorem State.putSh_program : (s.putSh F v d i j).program = s.program := rfl
@[simp] theorem State.putSh_priv : (s.putSh F v d i j).priv = s.priv := rfl
@[simp] theorem State.putSh_shared : (s.putSh F v d i j).shared = s.shared := rfl
@[simp] theorem State.putSh_capture : (s.putSh F v d i j).capture = s.capture := rfl
@[simp] theorem State.putSh_flash : (s.putSh F v d i j).flash = s.flash := rfl
@[simp] theorem State.putSh_sectors : (s.putSh F v d i j).sectors = s.sectors := rfl
@[simp] theorem State.putSh_dieRuns : (s.putSh F v d i j).dieRuns = s.dieRuns := rfl
@[simp] theorem State.putSh_bases : (s.putSh F v d i j).bases = s.bases := rfl
@[simp] theorem State.putSh_trackers : (s.putSh F v d i j).trackers = s.trackers := rfl
@[simp] theorem State.putSh_engines : (s.putSh F v d i j).engines = s.engines := rfl
@[simp] theorem State.putSh_taskStk : (s.putSh F v d i j).taskStk = s.taskStk := rfl
@[simp] theorem State.putSh_pendArg : (s.putSh F v d i j).pendArg = s.pendArg := rfl
@[simp] theorem State.putSh_queues : (s.putSh F v d i j).queues = s.queues := rfl
@[simp] theorem State.putSh_qWaiters : (s.putSh F v d i j).qWaiters = s.qWaiters := rfl
@[simp] theorem State.putSh_ring : (s.putSh F v d i j).ring = s.ring := rfl
@[simp] theorem State.putSh_nextXfer : (s.putSh F v d i j).nextXfer = s.nextXfer := rfl
@[simp] theorem State.putSh_legs : (s.putSh F v d i j).legs = s.legs := rfl
@[simp] theorem State.putSh_herdCopies : (s.putSh F v d i j).herdCopies = s.herdCopies := rfl
@[simp] theorem State.putSh_cpLast : (s.putSh F v d i j).cpLast = s.cpLast := rfl
@[simp] theorem State.putSh_flashRuns : (s.putSh F v d i j).flashRuns = s.flashRuns := rfl
@[simp] theorem State.putSh_recorder : (s.putSh F v d i j).recorder = s.recorder := rfl
@[simp] theorem State.putSh_latches : (s.putSh F v d i j).latches = s.latches := rfl
@[simp] theorem State.putSh_recQueue : (s.putSh F v d i j).recQueue = s.recQueue := rfl
@[simp] theorem State.putSh_mesh : (s.putSh F v d i j).mesh = s.mesh := rfl
@[simp] theorem State.putSh_doms : (s.putSh F v d i j).doms = s.doms := rfl
@[simp] theorem State.putSh_herds : (s.putSh F v d i j).herds = s.herds := rfl
@[simp] theorem State.putSh_oscs : (s.putSh F v d i j).oscs = s.oscs := rfl
@[simp] theorem State.putSh_regs : (s.putSh F v d i j).regs = s.regs := rfl
@[simp] theorem State.putSh_drvs : (s.putSh F v d i j).drvs = s.drvs := rfl
@[simp] theorem State.putSh_chops : (s.putSh F v d i j).chops = s.chops := rfl
@[simp] theorem State.putSh_grds : (s.putSh F v d i j).grds = s.grds := rfl
@[simp] theorem State.putSh_trks : (s.putSh F v d i j).trks = s.trks := rfl
@[simp] theorem State.putSh_adcs : (s.putSh F v d i j).adcs = s.adcs := rfl
@[simp] theorem State.putSh_mods : (s.putSh F v d i j).mods = s.mods := rfl
@[simp] theorem State.putSh_refs : (s.putSh F v d i j).refs = s.refs := rfl
@[simp] theorem State.putSh_answer : (s.putSh F v d i j).answer = s.answer := rfl
@[simp] theorem State.putSh_posPrev : (s.putSh F v d i j).posPrev = s.posPrev := rfl
@[simp] theorem State.putSh_meters : (s.putSh F v d i j).meters = s.meters := rfl
@[simp] theorem State.putSh_pulses : (s.putSh F v d i j).pulses = s.pulses := rfl
@[simp] theorem State.putSh_s0s : (s.putSh F v d i j).s0s = s.s0s := rfl
@[simp] theorem State.putSh_safety : (s.putSh F v d i j).safety = s.safety := rfl
@[simp] theorem State.putSh_aonRun : (s.putSh F v d i j).aonRun = s.aonRun := rfl
@[simp] theorem State.putSh_ramps : (s.putSh F v d i j).ramps = s.ramps := rfl
@[simp] theorem State.putSh_boot : (s.putSh F v d i j).boot = s.boot := rfl
@[simp] theorem State.putSh_answerSt : (s.putSh F v d i j).answerSt = s.answerSt := rfl
@[simp] theorem State.putSh_whistleAt : (s.putSh F v d i j).whistleAt = s.whistleAt := rfl
@[simp] theorem State.putSh_chain : (s.putSh F v d i j).chain = s.chain := rfl
@[simp] theorem State.putSh_pmbPage : (s.putSh F v d i j).pmbPage = s.pmbPage := rfl
@[simp] theorem State.putSh_canOff : (s.putSh F v d i j).canOff = s.canOff := rfl
@[simp] theorem State.putSh_spiLast : (s.putSh F v d i j).spiLast = s.spiLast := rfl
@[simp] theorem State.putSh_tap : (s.putSh F v d i j).tap = s.tap := rfl
@[simp] theorem State.putSh_slotWrites : (s.putSh F v d i j).slotWrites = s.slotWrites := rfl
@[simp] theorem State.putSh_cmps : (s.putSh F v d i j).cmps = s.cmps := rfl
@[simp] theorem State.putSh_dispatched : (s.putSh F v d i j).dispatched = s.dispatched := rfl
@[simp] theorem State.putSh_otpKey : (s.putSh F v d i j).otpKey = s.otpKey := rfl
@[simp] theorem State.putSh_pointsHeld : (s.putSh F v d i j).pointsHeld = s.pointsHeld := rfl
@[simp] theorem State.putSh_spiOut : (s.putSh F v d i j).spiOut = s.spiOut := rfl
@[simp] theorem State.putSh_pec : (s.putSh F v d i j).pec = s.pec := rfl
@[simp] theorem State.putSh_bursts : (s.putSh F v d i j).bursts = s.bursts := rfl
end

/-! ### `State.loadSh` -/

section
variable (s : State) (F : Fld) (d i j : Nat)
@[simp] theorem State.loadSh_member : (s.loadSh F d i j).member = s.member := rfl
@[simp] theorem State.loadSh_pending : (s.loadSh F d i j).pending = s.pending := rfl
@[simp] theorem State.loadSh_fresh : (s.loadSh F d i j).fresh = s.fresh := rfl
@[simp] theorem State.loadSh_shadow : (s.loadSh F d i j).shadow = s.shadow := rfl
@[simp] theorem State.loadSh_points : (s.loadSh F d i j).points = s.points := rfl
@[simp] theorem State.loadSh_program : (s.loadSh F d i j).program = s.program := rfl
@[simp] theorem State.loadSh_priv : (s.loadSh F d i j).priv = s.priv := rfl
@[simp] theorem State.loadSh_shared : (s.loadSh F d i j).shared = s.shared := rfl
@[simp] theorem State.loadSh_capture : (s.loadSh F d i j).capture = s.capture := rfl
@[simp] theorem State.loadSh_flash : (s.loadSh F d i j).flash = s.flash := rfl
@[simp] theorem State.loadSh_sectors : (s.loadSh F d i j).sectors = s.sectors := rfl
@[simp] theorem State.loadSh_dieRuns : (s.loadSh F d i j).dieRuns = s.dieRuns := rfl
@[simp] theorem State.loadSh_bases : (s.loadSh F d i j).bases = s.bases := rfl
@[simp] theorem State.loadSh_trackers : (s.loadSh F d i j).trackers = s.trackers := rfl
@[simp] theorem State.loadSh_engines : (s.loadSh F d i j).engines = s.engines := rfl
@[simp] theorem State.loadSh_taskStk : (s.loadSh F d i j).taskStk = s.taskStk := rfl
@[simp] theorem State.loadSh_pendArg : (s.loadSh F d i j).pendArg = s.pendArg := rfl
@[simp] theorem State.loadSh_queues : (s.loadSh F d i j).queues = s.queues := rfl
@[simp] theorem State.loadSh_qWaiters : (s.loadSh F d i j).qWaiters = s.qWaiters := rfl
@[simp] theorem State.loadSh_ring : (s.loadSh F d i j).ring = s.ring := rfl
@[simp] theorem State.loadSh_nextXfer : (s.loadSh F d i j).nextXfer = s.nextXfer := rfl
@[simp] theorem State.loadSh_legs : (s.loadSh F d i j).legs = s.legs := rfl
@[simp] theorem State.loadSh_herdCopies : (s.loadSh F d i j).herdCopies = s.herdCopies := rfl
@[simp] theorem State.loadSh_cpLast : (s.loadSh F d i j).cpLast = s.cpLast := rfl
@[simp] theorem State.loadSh_flashRuns : (s.loadSh F d i j).flashRuns = s.flashRuns := rfl
@[simp] theorem State.loadSh_recorder : (s.loadSh F d i j).recorder = s.recorder := rfl
@[simp] theorem State.loadSh_latches : (s.loadSh F d i j).latches = s.latches := rfl
@[simp] theorem State.loadSh_recQueue : (s.loadSh F d i j).recQueue = s.recQueue := rfl
@[simp] theorem State.loadSh_mesh : (s.loadSh F d i j).mesh = s.mesh := rfl
@[simp] theorem State.loadSh_doms : (s.loadSh F d i j).doms = s.doms := rfl
@[simp] theorem State.loadSh_herds : (s.loadSh F d i j).herds = s.herds := rfl
@[simp] theorem State.loadSh_oscs : (s.loadSh F d i j).oscs = s.oscs := rfl
@[simp] theorem State.loadSh_regs : (s.loadSh F d i j).regs = s.regs := rfl
@[simp] theorem State.loadSh_drvs : (s.loadSh F d i j).drvs = s.drvs := rfl
@[simp] theorem State.loadSh_chops : (s.loadSh F d i j).chops = s.chops := rfl
@[simp] theorem State.loadSh_grds : (s.loadSh F d i j).grds = s.grds := rfl
@[simp] theorem State.loadSh_trks : (s.loadSh F d i j).trks = s.trks := rfl
@[simp] theorem State.loadSh_adcs : (s.loadSh F d i j).adcs = s.adcs := rfl
@[simp] theorem State.loadSh_mods : (s.loadSh F d i j).mods = s.mods := rfl
@[simp] theorem State.loadSh_refs : (s.loadSh F d i j).refs = s.refs := rfl
@[simp] theorem State.loadSh_answer : (s.loadSh F d i j).answer = s.answer := rfl
@[simp] theorem State.loadSh_posPrev : (s.loadSh F d i j).posPrev = s.posPrev := rfl
@[simp] theorem State.loadSh_meters : (s.loadSh F d i j).meters = s.meters := rfl
@[simp] theorem State.loadSh_pulses : (s.loadSh F d i j).pulses = s.pulses := rfl
@[simp] theorem State.loadSh_s0s : (s.loadSh F d i j).s0s = s.s0s := rfl
@[simp] theorem State.loadSh_safety : (s.loadSh F d i j).safety = s.safety := rfl
@[simp] theorem State.loadSh_aonRun : (s.loadSh F d i j).aonRun = s.aonRun := rfl
@[simp] theorem State.loadSh_ramps : (s.loadSh F d i j).ramps = s.ramps := rfl
@[simp] theorem State.loadSh_boot : (s.loadSh F d i j).boot = s.boot := rfl
@[simp] theorem State.loadSh_answerSt : (s.loadSh F d i j).answerSt = s.answerSt := rfl
@[simp] theorem State.loadSh_whistleAt : (s.loadSh F d i j).whistleAt = s.whistleAt := rfl
@[simp] theorem State.loadSh_chain : (s.loadSh F d i j).chain = s.chain := rfl
@[simp] theorem State.loadSh_pmbPage : (s.loadSh F d i j).pmbPage = s.pmbPage := rfl
@[simp] theorem State.loadSh_canOff : (s.loadSh F d i j).canOff = s.canOff := rfl
@[simp] theorem State.loadSh_spiLast : (s.loadSh F d i j).spiLast = s.spiLast := rfl
@[simp] theorem State.loadSh_tap : (s.loadSh F d i j).tap = s.tap := rfl
@[simp] theorem State.loadSh_slotWrites : (s.loadSh F d i j).slotWrites = s.slotWrites := rfl
@[simp] theorem State.loadSh_cmps : (s.loadSh F d i j).cmps = s.cmps := rfl
@[simp] theorem State.loadSh_dispatched : (s.loadSh F d i j).dispatched = s.dispatched := rfl
@[simp] theorem State.loadSh_otpKey : (s.loadSh F d i j).otpKey = s.otpKey := rfl
@[simp] theorem State.loadSh_pointsHeld : (s.loadSh F d i j).pointsHeld = s.pointsHeld := rfl
@[simp] theorem State.loadSh_spiOut : (s.loadSh F d i j).spiOut = s.spiOut := rfl
@[simp] theorem State.loadSh_pec : (s.loadSh F d i j).pec = s.pec := rfl
@[simp] theorem State.loadSh_bursts : (s.loadSh F d i j).bursts = s.bursts := rfl
end

/-! ### `State.nextFresh` -/

section
variable (s : State) 
@[simp] theorem State.nextFresh_member : (s.nextFresh).member = s.member := rfl
@[simp] theorem State.nextFresh_pending : (s.nextFresh).pending = s.pending := rfl
@[simp] theorem State.nextFresh_cells : (s.nextFresh).cells = s.cells := rfl
@[simp] theorem State.nextFresh_shadow : (s.nextFresh).shadow = s.shadow := rfl
@[simp] theorem State.nextFresh_points : (s.nextFresh).points = s.points := rfl
@[simp] theorem State.nextFresh_program : (s.nextFresh).program = s.program := rfl
@[simp] theorem State.nextFresh_priv : (s.nextFresh).priv = s.priv := rfl
@[simp] theorem State.nextFresh_shared : (s.nextFresh).shared = s.shared := rfl
@[simp] theorem State.nextFresh_capture : (s.nextFresh).capture = s.capture := rfl
@[simp] theorem State.nextFresh_flash : (s.nextFresh).flash = s.flash := rfl
@[simp] theorem State.nextFresh_sectors : (s.nextFresh).sectors = s.sectors := rfl
@[simp] theorem State.nextFresh_dieRuns : (s.nextFresh).dieRuns = s.dieRuns := rfl
@[simp] theorem State.nextFresh_bases : (s.nextFresh).bases = s.bases := rfl
@[simp] theorem State.nextFresh_trackers : (s.nextFresh).trackers = s.trackers := rfl
@[simp] theorem State.nextFresh_engines : (s.nextFresh).engines = s.engines := rfl
@[simp] theorem State.nextFresh_taskStk : (s.nextFresh).taskStk = s.taskStk := rfl
@[simp] theorem State.nextFresh_pendArg : (s.nextFresh).pendArg = s.pendArg := rfl
@[simp] theorem State.nextFresh_queues : (s.nextFresh).queues = s.queues := rfl
@[simp] theorem State.nextFresh_qWaiters : (s.nextFresh).qWaiters = s.qWaiters := rfl
@[simp] theorem State.nextFresh_ring : (s.nextFresh).ring = s.ring := rfl
@[simp] theorem State.nextFresh_nextXfer : (s.nextFresh).nextXfer = s.nextXfer := rfl
@[simp] theorem State.nextFresh_legs : (s.nextFresh).legs = s.legs := rfl
@[simp] theorem State.nextFresh_herdCopies : (s.nextFresh).herdCopies = s.herdCopies := rfl
@[simp] theorem State.nextFresh_cpLast : (s.nextFresh).cpLast = s.cpLast := rfl
@[simp] theorem State.nextFresh_flashRuns : (s.nextFresh).flashRuns = s.flashRuns := rfl
@[simp] theorem State.nextFresh_recorder : (s.nextFresh).recorder = s.recorder := rfl
@[simp] theorem State.nextFresh_latches : (s.nextFresh).latches = s.latches := rfl
@[simp] theorem State.nextFresh_recQueue : (s.nextFresh).recQueue = s.recQueue := rfl
@[simp] theorem State.nextFresh_mesh : (s.nextFresh).mesh = s.mesh := rfl
@[simp] theorem State.nextFresh_doms : (s.nextFresh).doms = s.doms := rfl
@[simp] theorem State.nextFresh_herds : (s.nextFresh).herds = s.herds := rfl
@[simp] theorem State.nextFresh_oscs : (s.nextFresh).oscs = s.oscs := rfl
@[simp] theorem State.nextFresh_regs : (s.nextFresh).regs = s.regs := rfl
@[simp] theorem State.nextFresh_drvs : (s.nextFresh).drvs = s.drvs := rfl
@[simp] theorem State.nextFresh_chops : (s.nextFresh).chops = s.chops := rfl
@[simp] theorem State.nextFresh_grds : (s.nextFresh).grds = s.grds := rfl
@[simp] theorem State.nextFresh_trks : (s.nextFresh).trks = s.trks := rfl
@[simp] theorem State.nextFresh_adcs : (s.nextFresh).adcs = s.adcs := rfl
@[simp] theorem State.nextFresh_mods : (s.nextFresh).mods = s.mods := rfl
@[simp] theorem State.nextFresh_refs : (s.nextFresh).refs = s.refs := rfl
@[simp] theorem State.nextFresh_answer : (s.nextFresh).answer = s.answer := rfl
@[simp] theorem State.nextFresh_posPrev : (s.nextFresh).posPrev = s.posPrev := rfl
@[simp] theorem State.nextFresh_meters : (s.nextFresh).meters = s.meters := rfl
@[simp] theorem State.nextFresh_pulses : (s.nextFresh).pulses = s.pulses := rfl
@[simp] theorem State.nextFresh_s0s : (s.nextFresh).s0s = s.s0s := rfl
@[simp] theorem State.nextFresh_safety : (s.nextFresh).safety = s.safety := rfl
@[simp] theorem State.nextFresh_aonRun : (s.nextFresh).aonRun = s.aonRun := rfl
@[simp] theorem State.nextFresh_ramps : (s.nextFresh).ramps = s.ramps := rfl
@[simp] theorem State.nextFresh_boot : (s.nextFresh).boot = s.boot := rfl
@[simp] theorem State.nextFresh_answerSt : (s.nextFresh).answerSt = s.answerSt := rfl
@[simp] theorem State.nextFresh_whistleAt : (s.nextFresh).whistleAt = s.whistleAt := rfl
@[simp] theorem State.nextFresh_chain : (s.nextFresh).chain = s.chain := rfl
@[simp] theorem State.nextFresh_pmbPage : (s.nextFresh).pmbPage = s.pmbPage := rfl
@[simp] theorem State.nextFresh_canOff : (s.nextFresh).canOff = s.canOff := rfl
@[simp] theorem State.nextFresh_spiLast : (s.nextFresh).spiLast = s.spiLast := rfl
@[simp] theorem State.nextFresh_tap : (s.nextFresh).tap = s.tap := rfl
@[simp] theorem State.nextFresh_slotWrites : (s.nextFresh).slotWrites = s.slotWrites := rfl
@[simp] theorem State.nextFresh_cmps : (s.nextFresh).cmps = s.cmps := rfl
@[simp] theorem State.nextFresh_dispatched : (s.nextFresh).dispatched = s.dispatched := rfl
@[simp] theorem State.nextFresh_otpKey : (s.nextFresh).otpKey = s.otpKey := rfl
@[simp] theorem State.nextFresh_pointsHeld : (s.nextFresh).pointsHeld = s.pointsHeld := rfl
@[simp] theorem State.nextFresh_spiOut : (s.nextFresh).spiOut = s.spiOut := rfl
@[simp] theorem State.nextFresh_pec : (s.nextFresh).pec = s.pec := rfl
@[simp] theorem State.nextFresh_bursts : (s.nextFresh).bursts = s.bursts := rfl
end

/-! ### `State.putBit` -/

section
variable (s : State) (F : Fld) (k : Nat) (b : Bool) (d i j : Nat)
@[simp] theorem State.putBit_member : (s.putBit F k b d i j).member = s.member := by unfold State.putBit; dsimp only; split <;> rfl
@[simp] theorem State.putBit_pending : (s.putBit F k b d i j).pending = s.pending := by unfold State.putBit; dsimp only; split <;> rfl
@[simp] theorem State.putBit_fresh : (s.putBit F k b d i j).fresh = s.fresh := by unfold State.putBit; dsimp only; split <;> rfl
@[simp] theorem State.putBit_shadow : (s.putBit F k b d i j).shadow = s.shadow := by unfold State.putBit; dsimp only; split <;> rfl
@[simp] theorem State.putBit_points : (s.putBit F k b d i j).points = s.points := by unfold State.putBit; dsimp only; split <;> rfl
@[simp] theorem State.putBit_program : (s.putBit F k b d i j).program = s.program := by unfold State.putBit; dsimp only; split <;> rfl
@[simp] theorem State.putBit_priv : (s.putBit F k b d i j).priv = s.priv := by unfold State.putBit; dsimp only; split <;> rfl
@[simp] theorem State.putBit_shared : (s.putBit F k b d i j).shared = s.shared := by unfold State.putBit; dsimp only; split <;> rfl
@[simp] theorem State.putBit_capture : (s.putBit F k b d i j).capture = s.capture := by unfold State.putBit; dsimp only; split <;> rfl
@[simp] theorem State.putBit_flash : (s.putBit F k b d i j).flash = s.flash := by unfold State.putBit; dsimp only; split <;> rfl
@[simp] theorem State.putBit_sectors : (s.putBit F k b d i j).sectors = s.sectors := by unfold State.putBit; dsimp only; split <;> rfl
@[simp] theorem State.putBit_dieRuns : (s.putBit F k b d i j).dieRuns = s.dieRuns := by unfold State.putBit; dsimp only; split <;> rfl
@[simp] theorem State.putBit_bases : (s.putBit F k b d i j).bases = s.bases := by unfold State.putBit; dsimp only; split <;> rfl
@[simp] theorem State.putBit_trackers : (s.putBit F k b d i j).trackers = s.trackers := by unfold State.putBit; dsimp only; split <;> rfl
@[simp] theorem State.putBit_engines : (s.putBit F k b d i j).engines = s.engines := by unfold State.putBit; dsimp only; split <;> rfl
@[simp] theorem State.putBit_taskStk : (s.putBit F k b d i j).taskStk = s.taskStk := by unfold State.putBit; dsimp only; split <;> rfl
@[simp] theorem State.putBit_pendArg : (s.putBit F k b d i j).pendArg = s.pendArg := by unfold State.putBit; dsimp only; split <;> rfl
@[simp] theorem State.putBit_queues : (s.putBit F k b d i j).queues = s.queues := by unfold State.putBit; dsimp only; split <;> rfl
@[simp] theorem State.putBit_qWaiters : (s.putBit F k b d i j).qWaiters = s.qWaiters := by unfold State.putBit; dsimp only; split <;> rfl
@[simp] theorem State.putBit_ring : (s.putBit F k b d i j).ring = s.ring := by unfold State.putBit; dsimp only; split <;> rfl
@[simp] theorem State.putBit_nextXfer : (s.putBit F k b d i j).nextXfer = s.nextXfer := by unfold State.putBit; dsimp only; split <;> rfl
@[simp] theorem State.putBit_legs : (s.putBit F k b d i j).legs = s.legs := by unfold State.putBit; dsimp only; split <;> rfl
@[simp] theorem State.putBit_herdCopies : (s.putBit F k b d i j).herdCopies = s.herdCopies := by unfold State.putBit; dsimp only; split <;> rfl
@[simp] theorem State.putBit_cpLast : (s.putBit F k b d i j).cpLast = s.cpLast := by unfold State.putBit; dsimp only; split <;> rfl
@[simp] theorem State.putBit_flashRuns : (s.putBit F k b d i j).flashRuns = s.flashRuns := by unfold State.putBit; dsimp only; split <;> rfl
@[simp] theorem State.putBit_recorder : (s.putBit F k b d i j).recorder = s.recorder := by unfold State.putBit; dsimp only; split <;> rfl
@[simp] theorem State.putBit_latches : (s.putBit F k b d i j).latches = s.latches := by unfold State.putBit; dsimp only; split <;> rfl
@[simp] theorem State.putBit_recQueue : (s.putBit F k b d i j).recQueue = s.recQueue := by unfold State.putBit; dsimp only; split <;> rfl
@[simp] theorem State.putBit_mesh : (s.putBit F k b d i j).mesh = s.mesh := by unfold State.putBit; dsimp only; split <;> rfl
@[simp] theorem State.putBit_doms : (s.putBit F k b d i j).doms = s.doms := by unfold State.putBit; dsimp only; split <;> rfl
@[simp] theorem State.putBit_herds : (s.putBit F k b d i j).herds = s.herds := by unfold State.putBit; dsimp only; split <;> rfl
@[simp] theorem State.putBit_oscs : (s.putBit F k b d i j).oscs = s.oscs := by unfold State.putBit; dsimp only; split <;> rfl
@[simp] theorem State.putBit_regs : (s.putBit F k b d i j).regs = s.regs := by unfold State.putBit; dsimp only; split <;> rfl
@[simp] theorem State.putBit_drvs : (s.putBit F k b d i j).drvs = s.drvs := by unfold State.putBit; dsimp only; split <;> rfl
@[simp] theorem State.putBit_chops : (s.putBit F k b d i j).chops = s.chops := by unfold State.putBit; dsimp only; split <;> rfl
@[simp] theorem State.putBit_grds : (s.putBit F k b d i j).grds = s.grds := by unfold State.putBit; dsimp only; split <;> rfl
@[simp] theorem State.putBit_trks : (s.putBit F k b d i j).trks = s.trks := by unfold State.putBit; dsimp only; split <;> rfl
@[simp] theorem State.putBit_adcs : (s.putBit F k b d i j).adcs = s.adcs := by unfold State.putBit; dsimp only; split <;> rfl
@[simp] theorem State.putBit_mods : (s.putBit F k b d i j).mods = s.mods := by unfold State.putBit; dsimp only; split <;> rfl
@[simp] theorem State.putBit_refs : (s.putBit F k b d i j).refs = s.refs := by unfold State.putBit; dsimp only; split <;> rfl
@[simp] theorem State.putBit_answer : (s.putBit F k b d i j).answer = s.answer := by unfold State.putBit; dsimp only; split <;> rfl
@[simp] theorem State.putBit_posPrev : (s.putBit F k b d i j).posPrev = s.posPrev := by unfold State.putBit; dsimp only; split <;> rfl
@[simp] theorem State.putBit_meters : (s.putBit F k b d i j).meters = s.meters := by unfold State.putBit; dsimp only; split <;> rfl
@[simp] theorem State.putBit_pulses : (s.putBit F k b d i j).pulses = s.pulses := by unfold State.putBit; dsimp only; split <;> rfl
@[simp] theorem State.putBit_s0s : (s.putBit F k b d i j).s0s = s.s0s := by unfold State.putBit; dsimp only; split <;> rfl
@[simp] theorem State.putBit_safety : (s.putBit F k b d i j).safety = s.safety := by unfold State.putBit; dsimp only; split <;> rfl
@[simp] theorem State.putBit_aonRun : (s.putBit F k b d i j).aonRun = s.aonRun := by unfold State.putBit; dsimp only; split <;> rfl
@[simp] theorem State.putBit_ramps : (s.putBit F k b d i j).ramps = s.ramps := by unfold State.putBit; dsimp only; split <;> rfl
@[simp] theorem State.putBit_boot : (s.putBit F k b d i j).boot = s.boot := by unfold State.putBit; dsimp only; split <;> rfl
@[simp] theorem State.putBit_answerSt : (s.putBit F k b d i j).answerSt = s.answerSt := by unfold State.putBit; dsimp only; split <;> rfl
@[simp] theorem State.putBit_whistleAt : (s.putBit F k b d i j).whistleAt = s.whistleAt := by unfold State.putBit; dsimp only; split <;> rfl
@[simp] theorem State.putBit_chain : (s.putBit F k b d i j).chain = s.chain := by unfold State.putBit; dsimp only; split <;> rfl
@[simp] theorem State.putBit_pmbPage : (s.putBit F k b d i j).pmbPage = s.pmbPage := by unfold State.putBit; dsimp only; split <;> rfl
@[simp] theorem State.putBit_canOff : (s.putBit F k b d i j).canOff = s.canOff := by unfold State.putBit; dsimp only; split <;> rfl
@[simp] theorem State.putBit_spiLast : (s.putBit F k b d i j).spiLast = s.spiLast := by unfold State.putBit; dsimp only; split <;> rfl
@[simp] theorem State.putBit_tap : (s.putBit F k b d i j).tap = s.tap := by unfold State.putBit; dsimp only; split <;> rfl
@[simp] theorem State.putBit_slotWrites : (s.putBit F k b d i j).slotWrites = s.slotWrites := by unfold State.putBit; dsimp only; split <;> rfl
@[simp] theorem State.putBit_cmps : (s.putBit F k b d i j).cmps = s.cmps := by unfold State.putBit; dsimp only; split <;> rfl
@[simp] theorem State.putBit_dispatched : (s.putBit F k b d i j).dispatched = s.dispatched := by unfold State.putBit; dsimp only; split <;> rfl
@[simp] theorem State.putBit_otpKey : (s.putBit F k b d i j).otpKey = s.otpKey := by unfold State.putBit; dsimp only; split <;> rfl
@[simp] theorem State.putBit_pointsHeld : (s.putBit F k b d i j).pointsHeld = s.pointsHeld := by unfold State.putBit; dsimp only; split <;> rfl
@[simp] theorem State.putBit_spiOut : (s.putBit F k b d i j).spiOut = s.spiOut := by unfold State.putBit; dsimp only; split <;> rfl
@[simp] theorem State.putBit_pec : (s.putBit F k b d i j).pec = s.pec := by unfold State.putBit; dsimp only; split <;> rfl
@[simp] theorem State.putBit_bursts : (s.putBit F k b d i j).bursts = s.bursts := by unfold State.putBit; dsimp only; split <;> rfl
end

/-! ### `State.modDie` -/

section
variable (s : State) (d : Nat) (f : DieRun → DieRun)
@[simp] theorem State.modDie_member : (s.modDie d f).member = s.member := rfl
@[simp] theorem State.modDie_pending : (s.modDie d f).pending = s.pending := rfl
@[simp] theorem State.modDie_fresh : (s.modDie d f).fresh = s.fresh := rfl
@[simp] theorem State.modDie_cells : (s.modDie d f).cells = s.cells := rfl
@[simp] theorem State.modDie_shadow : (s.modDie d f).shadow = s.shadow := rfl
@[simp] theorem State.modDie_points : (s.modDie d f).points = s.points := rfl
@[simp] theorem State.modDie_program : (s.modDie d f).program = s.program := rfl
@[simp] theorem State.modDie_priv : (s.modDie d f).priv = s.priv := rfl
@[simp] theorem State.modDie_shared : (s.modDie d f).shared = s.shared := rfl
@[simp] theorem State.modDie_capture : (s.modDie d f).capture = s.capture := rfl
@[simp] theorem State.modDie_flash : (s.modDie d f).flash = s.flash := rfl
@[simp] theorem State.modDie_sectors : (s.modDie d f).sectors = s.sectors := rfl
@[simp] theorem State.modDie_bases : (s.modDie d f).bases = s.bases := rfl
@[simp] theorem State.modDie_trackers : (s.modDie d f).trackers = s.trackers := rfl
@[simp] theorem State.modDie_engines : (s.modDie d f).engines = s.engines := rfl
@[simp] theorem State.modDie_taskStk : (s.modDie d f).taskStk = s.taskStk := rfl
@[simp] theorem State.modDie_pendArg : (s.modDie d f).pendArg = s.pendArg := rfl
@[simp] theorem State.modDie_queues : (s.modDie d f).queues = s.queues := rfl
@[simp] theorem State.modDie_qWaiters : (s.modDie d f).qWaiters = s.qWaiters := rfl
@[simp] theorem State.modDie_ring : (s.modDie d f).ring = s.ring := rfl
@[simp] theorem State.modDie_nextXfer : (s.modDie d f).nextXfer = s.nextXfer := rfl
@[simp] theorem State.modDie_legs : (s.modDie d f).legs = s.legs := rfl
@[simp] theorem State.modDie_herdCopies : (s.modDie d f).herdCopies = s.herdCopies := rfl
@[simp] theorem State.modDie_cpLast : (s.modDie d f).cpLast = s.cpLast := rfl
@[simp] theorem State.modDie_flashRuns : (s.modDie d f).flashRuns = s.flashRuns := rfl
@[simp] theorem State.modDie_recorder : (s.modDie d f).recorder = s.recorder := rfl
@[simp] theorem State.modDie_latches : (s.modDie d f).latches = s.latches := rfl
@[simp] theorem State.modDie_recQueue : (s.modDie d f).recQueue = s.recQueue := rfl
@[simp] theorem State.modDie_mesh : (s.modDie d f).mesh = s.mesh := rfl
@[simp] theorem State.modDie_doms : (s.modDie d f).doms = s.doms := rfl
@[simp] theorem State.modDie_herds : (s.modDie d f).herds = s.herds := rfl
@[simp] theorem State.modDie_oscs : (s.modDie d f).oscs = s.oscs := rfl
@[simp] theorem State.modDie_regs : (s.modDie d f).regs = s.regs := rfl
@[simp] theorem State.modDie_drvs : (s.modDie d f).drvs = s.drvs := rfl
@[simp] theorem State.modDie_chops : (s.modDie d f).chops = s.chops := rfl
@[simp] theorem State.modDie_grds : (s.modDie d f).grds = s.grds := rfl
@[simp] theorem State.modDie_trks : (s.modDie d f).trks = s.trks := rfl
@[simp] theorem State.modDie_adcs : (s.modDie d f).adcs = s.adcs := rfl
@[simp] theorem State.modDie_mods : (s.modDie d f).mods = s.mods := rfl
@[simp] theorem State.modDie_refs : (s.modDie d f).refs = s.refs := rfl
@[simp] theorem State.modDie_answer : (s.modDie d f).answer = s.answer := rfl
@[simp] theorem State.modDie_posPrev : (s.modDie d f).posPrev = s.posPrev := rfl
@[simp] theorem State.modDie_meters : (s.modDie d f).meters = s.meters := rfl
@[simp] theorem State.modDie_pulses : (s.modDie d f).pulses = s.pulses := rfl
@[simp] theorem State.modDie_s0s : (s.modDie d f).s0s = s.s0s := rfl
@[simp] theorem State.modDie_safety : (s.modDie d f).safety = s.safety := rfl
@[simp] theorem State.modDie_aonRun : (s.modDie d f).aonRun = s.aonRun := rfl
@[simp] theorem State.modDie_ramps : (s.modDie d f).ramps = s.ramps := rfl
@[simp] theorem State.modDie_boot : (s.modDie d f).boot = s.boot := rfl
@[simp] theorem State.modDie_answerSt : (s.modDie d f).answerSt = s.answerSt := rfl
@[simp] theorem State.modDie_whistleAt : (s.modDie d f).whistleAt = s.whistleAt := rfl
@[simp] theorem State.modDie_chain : (s.modDie d f).chain = s.chain := rfl
@[simp] theorem State.modDie_pmbPage : (s.modDie d f).pmbPage = s.pmbPage := rfl
@[simp] theorem State.modDie_canOff : (s.modDie d f).canOff = s.canOff := rfl
@[simp] theorem State.modDie_spiLast : (s.modDie d f).spiLast = s.spiLast := rfl
@[simp] theorem State.modDie_tap : (s.modDie d f).tap = s.tap := rfl
@[simp] theorem State.modDie_slotWrites : (s.modDie d f).slotWrites = s.slotWrites := rfl
@[simp] theorem State.modDie_cmps : (s.modDie d f).cmps = s.cmps := rfl
@[simp] theorem State.modDie_dispatched : (s.modDie d f).dispatched = s.dispatched := rfl
@[simp] theorem State.modDie_otpKey : (s.modDie d f).otpKey = s.otpKey := rfl
@[simp] theorem State.modDie_pointsHeld : (s.modDie d f).pointsHeld = s.pointsHeld := rfl
@[simp] theorem State.modDie_spiOut : (s.modDie d f).spiOut = s.spiOut := rfl
@[simp] theorem State.modDie_pec : (s.modDie d f).pec = s.pec := rfl
@[simp] theorem State.modDie_bursts : (s.modDie d f).bursts = s.bursts := rfl
end

/-! ### `State.modBase` -/

section
variable (s : State) (d b : Nat) (f : Base → Base)
@[simp] theorem State.modBase_member : (s.modBase d b f).member = s.member := rfl
@[simp] theorem State.modBase_pending : (s.modBase d b f).pending = s.pending := rfl
@[simp] theorem State.modBase_fresh : (s.modBase d b f).fresh = s.fresh := rfl
@[simp] theorem State.modBase_cells : (s.modBase d b f).cells = s.cells := rfl
@[simp] theorem State.modBase_shadow : (s.modBase d b f).shadow = s.shadow := rfl
@[simp] theorem State.modBase_points : (s.modBase d b f).points = s.points := rfl
@[simp] theorem State.modBase_program : (s.modBase d b f).program = s.program := rfl
@[simp] theorem State.modBase_priv : (s.modBase d b f).priv = s.priv := rfl
@[simp] theorem State.modBase_shared : (s.modBase d b f).shared = s.shared := rfl
@[simp] theorem State.modBase_capture : (s.modBase d b f).capture = s.capture := rfl
@[simp] theorem State.modBase_flash : (s.modBase d b f).flash = s.flash := rfl
@[simp] theorem State.modBase_sectors : (s.modBase d b f).sectors = s.sectors := rfl
@[simp] theorem State.modBase_dieRuns : (s.modBase d b f).dieRuns = s.dieRuns := rfl
@[simp] theorem State.modBase_trackers : (s.modBase d b f).trackers = s.trackers := rfl
@[simp] theorem State.modBase_engines : (s.modBase d b f).engines = s.engines := rfl
@[simp] theorem State.modBase_taskStk : (s.modBase d b f).taskStk = s.taskStk := rfl
@[simp] theorem State.modBase_pendArg : (s.modBase d b f).pendArg = s.pendArg := rfl
@[simp] theorem State.modBase_queues : (s.modBase d b f).queues = s.queues := rfl
@[simp] theorem State.modBase_qWaiters : (s.modBase d b f).qWaiters = s.qWaiters := rfl
@[simp] theorem State.modBase_ring : (s.modBase d b f).ring = s.ring := rfl
@[simp] theorem State.modBase_nextXfer : (s.modBase d b f).nextXfer = s.nextXfer := rfl
@[simp] theorem State.modBase_legs : (s.modBase d b f).legs = s.legs := rfl
@[simp] theorem State.modBase_herdCopies : (s.modBase d b f).herdCopies = s.herdCopies := rfl
@[simp] theorem State.modBase_cpLast : (s.modBase d b f).cpLast = s.cpLast := rfl
@[simp] theorem State.modBase_flashRuns : (s.modBase d b f).flashRuns = s.flashRuns := rfl
@[simp] theorem State.modBase_recorder : (s.modBase d b f).recorder = s.recorder := rfl
@[simp] theorem State.modBase_latches : (s.modBase d b f).latches = s.latches := rfl
@[simp] theorem State.modBase_recQueue : (s.modBase d b f).recQueue = s.recQueue := rfl
@[simp] theorem State.modBase_mesh : (s.modBase d b f).mesh = s.mesh := rfl
@[simp] theorem State.modBase_doms : (s.modBase d b f).doms = s.doms := rfl
@[simp] theorem State.modBase_herds : (s.modBase d b f).herds = s.herds := rfl
@[simp] theorem State.modBase_oscs : (s.modBase d b f).oscs = s.oscs := rfl
@[simp] theorem State.modBase_regs : (s.modBase d b f).regs = s.regs := rfl
@[simp] theorem State.modBase_drvs : (s.modBase d b f).drvs = s.drvs := rfl
@[simp] theorem State.modBase_chops : (s.modBase d b f).chops = s.chops := rfl
@[simp] theorem State.modBase_grds : (s.modBase d b f).grds = s.grds := rfl
@[simp] theorem State.modBase_trks : (s.modBase d b f).trks = s.trks := rfl
@[simp] theorem State.modBase_adcs : (s.modBase d b f).adcs = s.adcs := rfl
@[simp] theorem State.modBase_mods : (s.modBase d b f).mods = s.mods := rfl
@[simp] theorem State.modBase_refs : (s.modBase d b f).refs = s.refs := rfl
@[simp] theorem State.modBase_answer : (s.modBase d b f).answer = s.answer := rfl
@[simp] theorem State.modBase_posPrev : (s.modBase d b f).posPrev = s.posPrev := rfl
@[simp] theorem State.modBase_meters : (s.modBase d b f).meters = s.meters := rfl
@[simp] theorem State.modBase_pulses : (s.modBase d b f).pulses = s.pulses := rfl
@[simp] theorem State.modBase_s0s : (s.modBase d b f).s0s = s.s0s := rfl
@[simp] theorem State.modBase_safety : (s.modBase d b f).safety = s.safety := rfl
@[simp] theorem State.modBase_aonRun : (s.modBase d b f).aonRun = s.aonRun := rfl
@[simp] theorem State.modBase_ramps : (s.modBase d b f).ramps = s.ramps := rfl
@[simp] theorem State.modBase_boot : (s.modBase d b f).boot = s.boot := rfl
@[simp] theorem State.modBase_answerSt : (s.modBase d b f).answerSt = s.answerSt := rfl
@[simp] theorem State.modBase_whistleAt : (s.modBase d b f).whistleAt = s.whistleAt := rfl
@[simp] theorem State.modBase_chain : (s.modBase d b f).chain = s.chain := rfl
@[simp] theorem State.modBase_pmbPage : (s.modBase d b f).pmbPage = s.pmbPage := rfl
@[simp] theorem State.modBase_canOff : (s.modBase d b f).canOff = s.canOff := rfl
@[simp] theorem State.modBase_spiLast : (s.modBase d b f).spiLast = s.spiLast := rfl
@[simp] theorem State.modBase_tap : (s.modBase d b f).tap = s.tap := rfl
@[simp] theorem State.modBase_slotWrites : (s.modBase d b f).slotWrites = s.slotWrites := rfl
@[simp] theorem State.modBase_cmps : (s.modBase d b f).cmps = s.cmps := rfl
@[simp] theorem State.modBase_dispatched : (s.modBase d b f).dispatched = s.dispatched := rfl
@[simp] theorem State.modBase_otpKey : (s.modBase d b f).otpKey = s.otpKey := rfl
@[simp] theorem State.modBase_pointsHeld : (s.modBase d b f).pointsHeld = s.pointsHeld := rfl
@[simp] theorem State.modBase_spiOut : (s.modBase d b f).spiOut = s.spiOut := rfl
@[simp] theorem State.modBase_pec : (s.modBase d b f).pec = s.pec := rfl
@[simp] theorem State.modBase_bursts : (s.modBase d b f).bursts = s.bursts := rfl
end

/-! ### `State.modTracker` -/

section
variable (s : State) (d m : Nat) (f : Tracker → Tracker)
@[simp] theorem State.modTracker_member : (s.modTracker d m f).member = s.member := rfl
@[simp] theorem State.modTracker_pending : (s.modTracker d m f).pending = s.pending := rfl
@[simp] theorem State.modTracker_fresh : (s.modTracker d m f).fresh = s.fresh := rfl
@[simp] theorem State.modTracker_cells : (s.modTracker d m f).cells = s.cells := rfl
@[simp] theorem State.modTracker_shadow : (s.modTracker d m f).shadow = s.shadow := rfl
@[simp] theorem State.modTracker_points : (s.modTracker d m f).points = s.points := rfl
@[simp] theorem State.modTracker_program : (s.modTracker d m f).program = s.program := rfl
@[simp] theorem State.modTracker_priv : (s.modTracker d m f).priv = s.priv := rfl
@[simp] theorem State.modTracker_shared : (s.modTracker d m f).shared = s.shared := rfl
@[simp] theorem State.modTracker_capture : (s.modTracker d m f).capture = s.capture := rfl
@[simp] theorem State.modTracker_flash : (s.modTracker d m f).flash = s.flash := rfl
@[simp] theorem State.modTracker_sectors : (s.modTracker d m f).sectors = s.sectors := rfl
@[simp] theorem State.modTracker_dieRuns : (s.modTracker d m f).dieRuns = s.dieRuns := rfl
@[simp] theorem State.modTracker_bases : (s.modTracker d m f).bases = s.bases := rfl
@[simp] theorem State.modTracker_engines : (s.modTracker d m f).engines = s.engines := rfl
@[simp] theorem State.modTracker_taskStk : (s.modTracker d m f).taskStk = s.taskStk := rfl
@[simp] theorem State.modTracker_pendArg : (s.modTracker d m f).pendArg = s.pendArg := rfl
@[simp] theorem State.modTracker_queues : (s.modTracker d m f).queues = s.queues := rfl
@[simp] theorem State.modTracker_qWaiters : (s.modTracker d m f).qWaiters = s.qWaiters := rfl
@[simp] theorem State.modTracker_ring : (s.modTracker d m f).ring = s.ring := rfl
@[simp] theorem State.modTracker_nextXfer : (s.modTracker d m f).nextXfer = s.nextXfer := rfl
@[simp] theorem State.modTracker_legs : (s.modTracker d m f).legs = s.legs := rfl
@[simp] theorem State.modTracker_herdCopies : (s.modTracker d m f).herdCopies = s.herdCopies := rfl
@[simp] theorem State.modTracker_cpLast : (s.modTracker d m f).cpLast = s.cpLast := rfl
@[simp] theorem State.modTracker_flashRuns : (s.modTracker d m f).flashRuns = s.flashRuns := rfl
@[simp] theorem State.modTracker_recorder : (s.modTracker d m f).recorder = s.recorder := rfl
@[simp] theorem State.modTracker_latches : (s.modTracker d m f).latches = s.latches := rfl
@[simp] theorem State.modTracker_recQueue : (s.modTracker d m f).recQueue = s.recQueue := rfl
@[simp] theorem State.modTracker_mesh : (s.modTracker d m f).mesh = s.mesh := rfl
@[simp] theorem State.modTracker_doms : (s.modTracker d m f).doms = s.doms := rfl
@[simp] theorem State.modTracker_herds : (s.modTracker d m f).herds = s.herds := rfl
@[simp] theorem State.modTracker_oscs : (s.modTracker d m f).oscs = s.oscs := rfl
@[simp] theorem State.modTracker_regs : (s.modTracker d m f).regs = s.regs := rfl
@[simp] theorem State.modTracker_drvs : (s.modTracker d m f).drvs = s.drvs := rfl
@[simp] theorem State.modTracker_chops : (s.modTracker d m f).chops = s.chops := rfl
@[simp] theorem State.modTracker_grds : (s.modTracker d m f).grds = s.grds := rfl
@[simp] theorem State.modTracker_trks : (s.modTracker d m f).trks = s.trks := rfl
@[simp] theorem State.modTracker_adcs : (s.modTracker d m f).adcs = s.adcs := rfl
@[simp] theorem State.modTracker_mods : (s.modTracker d m f).mods = s.mods := rfl
@[simp] theorem State.modTracker_refs : (s.modTracker d m f).refs = s.refs := rfl
@[simp] theorem State.modTracker_answer : (s.modTracker d m f).answer = s.answer := rfl
@[simp] theorem State.modTracker_posPrev : (s.modTracker d m f).posPrev = s.posPrev := rfl
@[simp] theorem State.modTracker_meters : (s.modTracker d m f).meters = s.meters := rfl
@[simp] theorem State.modTracker_pulses : (s.modTracker d m f).pulses = s.pulses := rfl
@[simp] theorem State.modTracker_s0s : (s.modTracker d m f).s0s = s.s0s := rfl
@[simp] theorem State.modTracker_safety : (s.modTracker d m f).safety = s.safety := rfl
@[simp] theorem State.modTracker_aonRun : (s.modTracker d m f).aonRun = s.aonRun := rfl
@[simp] theorem State.modTracker_ramps : (s.modTracker d m f).ramps = s.ramps := rfl
@[simp] theorem State.modTracker_boot : (s.modTracker d m f).boot = s.boot := rfl
@[simp] theorem State.modTracker_answerSt : (s.modTracker d m f).answerSt = s.answerSt := rfl
@[simp] theorem State.modTracker_whistleAt : (s.modTracker d m f).whistleAt = s.whistleAt := rfl
@[simp] theorem State.modTracker_chain : (s.modTracker d m f).chain = s.chain := rfl
@[simp] theorem State.modTracker_pmbPage : (s.modTracker d m f).pmbPage = s.pmbPage := rfl
@[simp] theorem State.modTracker_canOff : (s.modTracker d m f).canOff = s.canOff := rfl
@[simp] theorem State.modTracker_spiLast : (s.modTracker d m f).spiLast = s.spiLast := rfl
@[simp] theorem State.modTracker_tap : (s.modTracker d m f).tap = s.tap := rfl
@[simp] theorem State.modTracker_slotWrites : (s.modTracker d m f).slotWrites = s.slotWrites := rfl
@[simp] theorem State.modTracker_cmps : (s.modTracker d m f).cmps = s.cmps := rfl
@[simp] theorem State.modTracker_dispatched : (s.modTracker d m f).dispatched = s.dispatched := rfl
@[simp] theorem State.modTracker_otpKey : (s.modTracker d m f).otpKey = s.otpKey := rfl
@[simp] theorem State.modTracker_pointsHeld : (s.modTracker d m f).pointsHeld = s.pointsHeld := rfl
@[simp] theorem State.modTracker_spiOut : (s.modTracker d m f).spiOut = s.spiOut := rfl
@[simp] theorem State.modTracker_pec : (s.modTracker d m f).pec = s.pec := rfl
@[simp] theorem State.modTracker_bursts : (s.modTracker d m f).bursts = s.bursts := rfl
end

/-! ### `State.modEng` -/

section
variable (s : State) (pe : Nat) (f : Engine → Engine)
@[simp] theorem State.modEng_member : (s.modEng pe f).member = s.member := rfl
@[simp] theorem State.modEng_pending : (s.modEng pe f).pending = s.pending := rfl
@[simp] theorem State.modEng_fresh : (s.modEng pe f).fresh = s.fresh := rfl
@[simp] theorem State.modEng_cells : (s.modEng pe f).cells = s.cells := rfl
@[simp] theorem State.modEng_shadow : (s.modEng pe f).shadow = s.shadow := rfl
@[simp] theorem State.modEng_points : (s.modEng pe f).points = s.points := rfl
@[simp] theorem State.modEng_program : (s.modEng pe f).program = s.program := rfl
@[simp] theorem State.modEng_priv : (s.modEng pe f).priv = s.priv := rfl
@[simp] theorem State.modEng_shared : (s.modEng pe f).shared = s.shared := rfl
@[simp] theorem State.modEng_capture : (s.modEng pe f).capture = s.capture := rfl
@[simp] theorem State.modEng_flash : (s.modEng pe f).flash = s.flash := rfl
@[simp] theorem State.modEng_sectors : (s.modEng pe f).sectors = s.sectors := rfl
@[simp] theorem State.modEng_dieRuns : (s.modEng pe f).dieRuns = s.dieRuns := rfl
@[simp] theorem State.modEng_bases : (s.modEng pe f).bases = s.bases := rfl
@[simp] theorem State.modEng_trackers : (s.modEng pe f).trackers = s.trackers := rfl
@[simp] theorem State.modEng_taskStk : (s.modEng pe f).taskStk = s.taskStk := rfl
@[simp] theorem State.modEng_pendArg : (s.modEng pe f).pendArg = s.pendArg := rfl
@[simp] theorem State.modEng_queues : (s.modEng pe f).queues = s.queues := rfl
@[simp] theorem State.modEng_qWaiters : (s.modEng pe f).qWaiters = s.qWaiters := rfl
@[simp] theorem State.modEng_ring : (s.modEng pe f).ring = s.ring := rfl
@[simp] theorem State.modEng_nextXfer : (s.modEng pe f).nextXfer = s.nextXfer := rfl
@[simp] theorem State.modEng_legs : (s.modEng pe f).legs = s.legs := rfl
@[simp] theorem State.modEng_herdCopies : (s.modEng pe f).herdCopies = s.herdCopies := rfl
@[simp] theorem State.modEng_cpLast : (s.modEng pe f).cpLast = s.cpLast := rfl
@[simp] theorem State.modEng_flashRuns : (s.modEng pe f).flashRuns = s.flashRuns := rfl
@[simp] theorem State.modEng_recorder : (s.modEng pe f).recorder = s.recorder := rfl
@[simp] theorem State.modEng_latches : (s.modEng pe f).latches = s.latches := rfl
@[simp] theorem State.modEng_recQueue : (s.modEng pe f).recQueue = s.recQueue := rfl
@[simp] theorem State.modEng_mesh : (s.modEng pe f).mesh = s.mesh := rfl
@[simp] theorem State.modEng_doms : (s.modEng pe f).doms = s.doms := rfl
@[simp] theorem State.modEng_herds : (s.modEng pe f).herds = s.herds := rfl
@[simp] theorem State.modEng_oscs : (s.modEng pe f).oscs = s.oscs := rfl
@[simp] theorem State.modEng_regs : (s.modEng pe f).regs = s.regs := rfl
@[simp] theorem State.modEng_drvs : (s.modEng pe f).drvs = s.drvs := rfl
@[simp] theorem State.modEng_chops : (s.modEng pe f).chops = s.chops := rfl
@[simp] theorem State.modEng_grds : (s.modEng pe f).grds = s.grds := rfl
@[simp] theorem State.modEng_trks : (s.modEng pe f).trks = s.trks := rfl
@[simp] theorem State.modEng_adcs : (s.modEng pe f).adcs = s.adcs := rfl
@[simp] theorem State.modEng_mods : (s.modEng pe f).mods = s.mods := rfl
@[simp] theorem State.modEng_refs : (s.modEng pe f).refs = s.refs := rfl
@[simp] theorem State.modEng_answer : (s.modEng pe f).answer = s.answer := rfl
@[simp] theorem State.modEng_posPrev : (s.modEng pe f).posPrev = s.posPrev := rfl
@[simp] theorem State.modEng_meters : (s.modEng pe f).meters = s.meters := rfl
@[simp] theorem State.modEng_pulses : (s.modEng pe f).pulses = s.pulses := rfl
@[simp] theorem State.modEng_s0s : (s.modEng pe f).s0s = s.s0s := rfl
@[simp] theorem State.modEng_safety : (s.modEng pe f).safety = s.safety := rfl
@[simp] theorem State.modEng_aonRun : (s.modEng pe f).aonRun = s.aonRun := rfl
@[simp] theorem State.modEng_ramps : (s.modEng pe f).ramps = s.ramps := rfl
@[simp] theorem State.modEng_boot : (s.modEng pe f).boot = s.boot := rfl
@[simp] theorem State.modEng_answerSt : (s.modEng pe f).answerSt = s.answerSt := rfl
@[simp] theorem State.modEng_whistleAt : (s.modEng pe f).whistleAt = s.whistleAt := rfl
@[simp] theorem State.modEng_chain : (s.modEng pe f).chain = s.chain := rfl
@[simp] theorem State.modEng_pmbPage : (s.modEng pe f).pmbPage = s.pmbPage := rfl
@[simp] theorem State.modEng_canOff : (s.modEng pe f).canOff = s.canOff := rfl
@[simp] theorem State.modEng_spiLast : (s.modEng pe f).spiLast = s.spiLast := rfl
@[simp] theorem State.modEng_tap : (s.modEng pe f).tap = s.tap := rfl
@[simp] theorem State.modEng_slotWrites : (s.modEng pe f).slotWrites = s.slotWrites := rfl
@[simp] theorem State.modEng_cmps : (s.modEng pe f).cmps = s.cmps := rfl
@[simp] theorem State.modEng_dispatched : (s.modEng pe f).dispatched = s.dispatched := rfl
@[simp] theorem State.modEng_otpKey : (s.modEng pe f).otpKey = s.otpKey := rfl
@[simp] theorem State.modEng_pointsHeld : (s.modEng pe f).pointsHeld = s.pointsHeld := rfl
@[simp] theorem State.modEng_spiOut : (s.modEng pe f).spiOut = s.spiOut := rfl
@[simp] theorem State.modEng_pec : (s.modEng pe f).pec = s.pec := rfl
@[simp] theorem State.modEng_bursts : (s.modEng pe f).bursts = s.bursts := rfl
end

/-! ### `State.modLeg` -/

section
variable (s : State) (d n : Nat) (f : Leg → Leg)
@[simp] theorem State.modLeg_member : (s.modLeg d n f).member = s.member := rfl
@[simp] theorem State.modLeg_pending : (s.modLeg d n f).pending = s.pending := rfl
@[simp] theorem State.modLeg_fresh : (s.modLeg d n f).fresh = s.fresh := rfl
@[simp] theorem State.modLeg_cells : (s.modLeg d n f).cells = s.cells := rfl
@[simp] theorem State.modLeg_shadow : (s.modLeg d n f).shadow = s.shadow := rfl
@[simp] theorem State.modLeg_points : (s.modLeg d n f).points = s.points := rfl
@[simp] theorem State.modLeg_program : (s.modLeg d n f).program = s.program := rfl
@[simp] theorem State.modLeg_priv : (s.modLeg d n f).priv = s.priv := rfl
@[simp] theorem State.modLeg_shared : (s.modLeg d n f).shared = s.shared := rfl
@[simp] theorem State.modLeg_capture : (s.modLeg d n f).capture = s.capture := rfl
@[simp] theorem State.modLeg_flash : (s.modLeg d n f).flash = s.flash := rfl
@[simp] theorem State.modLeg_sectors : (s.modLeg d n f).sectors = s.sectors := rfl
@[simp] theorem State.modLeg_dieRuns : (s.modLeg d n f).dieRuns = s.dieRuns := rfl
@[simp] theorem State.modLeg_bases : (s.modLeg d n f).bases = s.bases := rfl
@[simp] theorem State.modLeg_trackers : (s.modLeg d n f).trackers = s.trackers := rfl
@[simp] theorem State.modLeg_engines : (s.modLeg d n f).engines = s.engines := rfl
@[simp] theorem State.modLeg_taskStk : (s.modLeg d n f).taskStk = s.taskStk := rfl
@[simp] theorem State.modLeg_pendArg : (s.modLeg d n f).pendArg = s.pendArg := rfl
@[simp] theorem State.modLeg_queues : (s.modLeg d n f).queues = s.queues := rfl
@[simp] theorem State.modLeg_qWaiters : (s.modLeg d n f).qWaiters = s.qWaiters := rfl
@[simp] theorem State.modLeg_ring : (s.modLeg d n f).ring = s.ring := rfl
@[simp] theorem State.modLeg_nextXfer : (s.modLeg d n f).nextXfer = s.nextXfer := rfl
@[simp] theorem State.modLeg_herdCopies : (s.modLeg d n f).herdCopies = s.herdCopies := rfl
@[simp] theorem State.modLeg_cpLast : (s.modLeg d n f).cpLast = s.cpLast := rfl
@[simp] theorem State.modLeg_flashRuns : (s.modLeg d n f).flashRuns = s.flashRuns := rfl
@[simp] theorem State.modLeg_recorder : (s.modLeg d n f).recorder = s.recorder := rfl
@[simp] theorem State.modLeg_latches : (s.modLeg d n f).latches = s.latches := rfl
@[simp] theorem State.modLeg_recQueue : (s.modLeg d n f).recQueue = s.recQueue := rfl
@[simp] theorem State.modLeg_mesh : (s.modLeg d n f).mesh = s.mesh := rfl
@[simp] theorem State.modLeg_doms : (s.modLeg d n f).doms = s.doms := rfl
@[simp] theorem State.modLeg_herds : (s.modLeg d n f).herds = s.herds := rfl
@[simp] theorem State.modLeg_oscs : (s.modLeg d n f).oscs = s.oscs := rfl
@[simp] theorem State.modLeg_regs : (s.modLeg d n f).regs = s.regs := rfl
@[simp] theorem State.modLeg_drvs : (s.modLeg d n f).drvs = s.drvs := rfl
@[simp] theorem State.modLeg_chops : (s.modLeg d n f).chops = s.chops := rfl
@[simp] theorem State.modLeg_grds : (s.modLeg d n f).grds = s.grds := rfl
@[simp] theorem State.modLeg_trks : (s.modLeg d n f).trks = s.trks := rfl
@[simp] theorem State.modLeg_adcs : (s.modLeg d n f).adcs = s.adcs := rfl
@[simp] theorem State.modLeg_mods : (s.modLeg d n f).mods = s.mods := rfl
@[simp] theorem State.modLeg_refs : (s.modLeg d n f).refs = s.refs := rfl
@[simp] theorem State.modLeg_answer : (s.modLeg d n f).answer = s.answer := rfl
@[simp] theorem State.modLeg_posPrev : (s.modLeg d n f).posPrev = s.posPrev := rfl
@[simp] theorem State.modLeg_meters : (s.modLeg d n f).meters = s.meters := rfl
@[simp] theorem State.modLeg_pulses : (s.modLeg d n f).pulses = s.pulses := rfl
@[simp] theorem State.modLeg_s0s : (s.modLeg d n f).s0s = s.s0s := rfl
@[simp] theorem State.modLeg_safety : (s.modLeg d n f).safety = s.safety := rfl
@[simp] theorem State.modLeg_aonRun : (s.modLeg d n f).aonRun = s.aonRun := rfl
@[simp] theorem State.modLeg_ramps : (s.modLeg d n f).ramps = s.ramps := rfl
@[simp] theorem State.modLeg_boot : (s.modLeg d n f).boot = s.boot := rfl
@[simp] theorem State.modLeg_answerSt : (s.modLeg d n f).answerSt = s.answerSt := rfl
@[simp] theorem State.modLeg_whistleAt : (s.modLeg d n f).whistleAt = s.whistleAt := rfl
@[simp] theorem State.modLeg_chain : (s.modLeg d n f).chain = s.chain := rfl
@[simp] theorem State.modLeg_pmbPage : (s.modLeg d n f).pmbPage = s.pmbPage := rfl
@[simp] theorem State.modLeg_canOff : (s.modLeg d n f).canOff = s.canOff := rfl
@[simp] theorem State.modLeg_spiLast : (s.modLeg d n f).spiLast = s.spiLast := rfl
@[simp] theorem State.modLeg_tap : (s.modLeg d n f).tap = s.tap := rfl
@[simp] theorem State.modLeg_slotWrites : (s.modLeg d n f).slotWrites = s.slotWrites := rfl
@[simp] theorem State.modLeg_cmps : (s.modLeg d n f).cmps = s.cmps := rfl
@[simp] theorem State.modLeg_dispatched : (s.modLeg d n f).dispatched = s.dispatched := rfl
@[simp] theorem State.modLeg_otpKey : (s.modLeg d n f).otpKey = s.otpKey := rfl
@[simp] theorem State.modLeg_pointsHeld : (s.modLeg d n f).pointsHeld = s.pointsHeld := rfl
@[simp] theorem State.modLeg_spiOut : (s.modLeg d n f).spiOut = s.spiOut := rfl
@[simp] theorem State.modLeg_pec : (s.modLeg d n f).pec = s.pec := rfl
@[simp] theorem State.modLeg_bursts : (s.modLeg d n f).bursts = s.bursts := rfl
end

/-! ### `State.modFlash` -/

section
variable (s : State) (d : Nat) (f : FlashRun → FlashRun)
@[simp] theorem State.modFlash_member : (s.modFlash d f).member = s.member := rfl
@[simp] theorem State.modFlash_pending : (s.modFlash d f).pending = s.pending := rfl
@[simp] theorem State.modFlash_fresh : (s.modFlash d f).fresh = s.fresh := rfl
@[simp] theorem State.modFlash_cells : (s.modFlash d f).cells = s.cells := rfl
@[simp] theorem State.modFlash_shadow : (s.modFlash d f).shadow = s.shadow := rfl
@[simp] theorem State.modFlash_points : (s.modFlash d f).points = s.points := rfl
@[simp] theorem State.modFlash_program : (s.modFlash d f).program = s.program := rfl
@[simp] theorem State.modFlash_priv : (s.modFlash d f).priv = s.priv := rfl
@[simp] theorem State.modFlash_shared : (s.modFlash d f).shared = s.shared := rfl
@[simp] theorem State.modFlash_capture : (s.modFlash d f).capture = s.capture := rfl
@[simp] theorem State.modFlash_flash : (s.modFlash d f).flash = s.flash := rfl
@[simp] theorem State.modFlash_sectors : (s.modFlash d f).sectors = s.sectors := rfl
@[simp] theorem State.modFlash_dieRuns : (s.modFlash d f).dieRuns = s.dieRuns := rfl
@[simp] theorem State.modFlash_bases : (s.modFlash d f).bases = s.bases := rfl
@[simp] theorem State.modFlash_trackers : (s.modFlash d f).trackers = s.trackers := rfl
@[simp] theorem State.modFlash_engines : (s.modFlash d f).engines = s.engines := rfl
@[simp] theorem State.modFlash_taskStk : (s.modFlash d f).taskStk = s.taskStk := rfl
@[simp] theorem State.modFlash_pendArg : (s.modFlash d f).pendArg = s.pendArg := rfl
@[simp] theorem State.modFlash_queues : (s.modFlash d f).queues = s.queues := rfl
@[simp] theorem State.modFlash_qWaiters : (s.modFlash d f).qWaiters = s.qWaiters := rfl
@[simp] theorem State.modFlash_ring : (s.modFlash d f).ring = s.ring := rfl
@[simp] theorem State.modFlash_nextXfer : (s.modFlash d f).nextXfer = s.nextXfer := rfl
@[simp] theorem State.modFlash_legs : (s.modFlash d f).legs = s.legs := rfl
@[simp] theorem State.modFlash_herdCopies : (s.modFlash d f).herdCopies = s.herdCopies := rfl
@[simp] theorem State.modFlash_cpLast : (s.modFlash d f).cpLast = s.cpLast := rfl
@[simp] theorem State.modFlash_recorder : (s.modFlash d f).recorder = s.recorder := rfl
@[simp] theorem State.modFlash_latches : (s.modFlash d f).latches = s.latches := rfl
@[simp] theorem State.modFlash_recQueue : (s.modFlash d f).recQueue = s.recQueue := rfl
@[simp] theorem State.modFlash_mesh : (s.modFlash d f).mesh = s.mesh := rfl
@[simp] theorem State.modFlash_doms : (s.modFlash d f).doms = s.doms := rfl
@[simp] theorem State.modFlash_herds : (s.modFlash d f).herds = s.herds := rfl
@[simp] theorem State.modFlash_oscs : (s.modFlash d f).oscs = s.oscs := rfl
@[simp] theorem State.modFlash_regs : (s.modFlash d f).regs = s.regs := rfl
@[simp] theorem State.modFlash_drvs : (s.modFlash d f).drvs = s.drvs := rfl
@[simp] theorem State.modFlash_chops : (s.modFlash d f).chops = s.chops := rfl
@[simp] theorem State.modFlash_grds : (s.modFlash d f).grds = s.grds := rfl
@[simp] theorem State.modFlash_trks : (s.modFlash d f).trks = s.trks := rfl
@[simp] theorem State.modFlash_adcs : (s.modFlash d f).adcs = s.adcs := rfl
@[simp] theorem State.modFlash_mods : (s.modFlash d f).mods = s.mods := rfl
@[simp] theorem State.modFlash_refs : (s.modFlash d f).refs = s.refs := rfl
@[simp] theorem State.modFlash_answer : (s.modFlash d f).answer = s.answer := rfl
@[simp] theorem State.modFlash_posPrev : (s.modFlash d f).posPrev = s.posPrev := rfl
@[simp] theorem State.modFlash_meters : (s.modFlash d f).meters = s.meters := rfl
@[simp] theorem State.modFlash_pulses : (s.modFlash d f).pulses = s.pulses := rfl
@[simp] theorem State.modFlash_s0s : (s.modFlash d f).s0s = s.s0s := rfl
@[simp] theorem State.modFlash_safety : (s.modFlash d f).safety = s.safety := rfl
@[simp] theorem State.modFlash_aonRun : (s.modFlash d f).aonRun = s.aonRun := rfl
@[simp] theorem State.modFlash_ramps : (s.modFlash d f).ramps = s.ramps := rfl
@[simp] theorem State.modFlash_boot : (s.modFlash d f).boot = s.boot := rfl
@[simp] theorem State.modFlash_answerSt : (s.modFlash d f).answerSt = s.answerSt := rfl
@[simp] theorem State.modFlash_whistleAt : (s.modFlash d f).whistleAt = s.whistleAt := rfl
@[simp] theorem State.modFlash_chain : (s.modFlash d f).chain = s.chain := rfl
@[simp] theorem State.modFlash_pmbPage : (s.modFlash d f).pmbPage = s.pmbPage := rfl
@[simp] theorem State.modFlash_canOff : (s.modFlash d f).canOff = s.canOff := rfl
@[simp] theorem State.modFlash_spiLast : (s.modFlash d f).spiLast = s.spiLast := rfl
@[simp] theorem State.modFlash_tap : (s.modFlash d f).tap = s.tap := rfl
@[simp] theorem State.modFlash_slotWrites : (s.modFlash d f).slotWrites = s.slotWrites := rfl
@[simp] theorem State.modFlash_cmps : (s.modFlash d f).cmps = s.cmps := rfl
@[simp] theorem State.modFlash_dispatched : (s.modFlash d f).dispatched = s.dispatched := rfl
@[simp] theorem State.modFlash_otpKey : (s.modFlash d f).otpKey = s.otpKey := rfl
@[simp] theorem State.modFlash_pointsHeld : (s.modFlash d f).pointsHeld = s.pointsHeld := rfl
@[simp] theorem State.modFlash_spiOut : (s.modFlash d f).spiOut = s.spiOut := rfl
@[simp] theorem State.modFlash_pec : (s.modFlash d f).pec = s.pec := rfl
@[simp] theorem State.modFlash_bursts : (s.modFlash d f).bursts = s.bursts := rfl
end

/-! ### `State.modHerdRun` -/

section
variable (s : State) (h : Nat) (f : HerdRun → HerdRun)
@[simp] theorem State.modHerdRun_member : (s.modHerdRun h f).member = s.member := rfl
@[simp] theorem State.modHerdRun_pending : (s.modHerdRun h f).pending = s.pending := rfl
@[simp] theorem State.modHerdRun_fresh : (s.modHerdRun h f).fresh = s.fresh := rfl
@[simp] theorem State.modHerdRun_cells : (s.modHerdRun h f).cells = s.cells := rfl
@[simp] theorem State.modHerdRun_shadow : (s.modHerdRun h f).shadow = s.shadow := rfl
@[simp] theorem State.modHerdRun_points : (s.modHerdRun h f).points = s.points := rfl
@[simp] theorem State.modHerdRun_program : (s.modHerdRun h f).program = s.program := rfl
@[simp] theorem State.modHerdRun_priv : (s.modHerdRun h f).priv = s.priv := rfl
@[simp] theorem State.modHerdRun_shared : (s.modHerdRun h f).shared = s.shared := rfl
@[simp] theorem State.modHerdRun_capture : (s.modHerdRun h f).capture = s.capture := rfl
@[simp] theorem State.modHerdRun_flash : (s.modHerdRun h f).flash = s.flash := rfl
@[simp] theorem State.modHerdRun_sectors : (s.modHerdRun h f).sectors = s.sectors := rfl
@[simp] theorem State.modHerdRun_dieRuns : (s.modHerdRun h f).dieRuns = s.dieRuns := rfl
@[simp] theorem State.modHerdRun_bases : (s.modHerdRun h f).bases = s.bases := rfl
@[simp] theorem State.modHerdRun_trackers : (s.modHerdRun h f).trackers = s.trackers := rfl
@[simp] theorem State.modHerdRun_engines : (s.modHerdRun h f).engines = s.engines := rfl
@[simp] theorem State.modHerdRun_taskStk : (s.modHerdRun h f).taskStk = s.taskStk := rfl
@[simp] theorem State.modHerdRun_pendArg : (s.modHerdRun h f).pendArg = s.pendArg := rfl
@[simp] theorem State.modHerdRun_queues : (s.modHerdRun h f).queues = s.queues := rfl
@[simp] theorem State.modHerdRun_qWaiters : (s.modHerdRun h f).qWaiters = s.qWaiters := rfl
@[simp] theorem State.modHerdRun_ring : (s.modHerdRun h f).ring = s.ring := rfl
@[simp] theorem State.modHerdRun_nextXfer : (s.modHerdRun h f).nextXfer = s.nextXfer := rfl
@[simp] theorem State.modHerdRun_legs : (s.modHerdRun h f).legs = s.legs := rfl
@[simp] theorem State.modHerdRun_herdCopies : (s.modHerdRun h f).herdCopies = s.herdCopies := rfl
@[simp] theorem State.modHerdRun_cpLast : (s.modHerdRun h f).cpLast = s.cpLast := rfl
@[simp] theorem State.modHerdRun_flashRuns : (s.modHerdRun h f).flashRuns = s.flashRuns := rfl
@[simp] theorem State.modHerdRun_recorder : (s.modHerdRun h f).recorder = s.recorder := rfl
@[simp] theorem State.modHerdRun_latches : (s.modHerdRun h f).latches = s.latches := rfl
@[simp] theorem State.modHerdRun_recQueue : (s.modHerdRun h f).recQueue = s.recQueue := rfl
@[simp] theorem State.modHerdRun_mesh : (s.modHerdRun h f).mesh = s.mesh := rfl
@[simp] theorem State.modHerdRun_doms : (s.modHerdRun h f).doms = s.doms := rfl
@[simp] theorem State.modHerdRun_oscs : (s.modHerdRun h f).oscs = s.oscs := rfl
@[simp] theorem State.modHerdRun_regs : (s.modHerdRun h f).regs = s.regs := rfl
@[simp] theorem State.modHerdRun_drvs : (s.modHerdRun h f).drvs = s.drvs := rfl
@[simp] theorem State.modHerdRun_chops : (s.modHerdRun h f).chops = s.chops := rfl
@[simp] theorem State.modHerdRun_grds : (s.modHerdRun h f).grds = s.grds := rfl
@[simp] theorem State.modHerdRun_trks : (s.modHerdRun h f).trks = s.trks := rfl
@[simp] theorem State.modHerdRun_adcs : (s.modHerdRun h f).adcs = s.adcs := rfl
@[simp] theorem State.modHerdRun_mods : (s.modHerdRun h f).mods = s.mods := rfl
@[simp] theorem State.modHerdRun_refs : (s.modHerdRun h f).refs = s.refs := rfl
@[simp] theorem State.modHerdRun_answer : (s.modHerdRun h f).answer = s.answer := rfl
@[simp] theorem State.modHerdRun_posPrev : (s.modHerdRun h f).posPrev = s.posPrev := rfl
@[simp] theorem State.modHerdRun_meters : (s.modHerdRun h f).meters = s.meters := rfl
@[simp] theorem State.modHerdRun_pulses : (s.modHerdRun h f).pulses = s.pulses := rfl
@[simp] theorem State.modHerdRun_s0s : (s.modHerdRun h f).s0s = s.s0s := rfl
@[simp] theorem State.modHerdRun_safety : (s.modHerdRun h f).safety = s.safety := rfl
@[simp] theorem State.modHerdRun_aonRun : (s.modHerdRun h f).aonRun = s.aonRun := rfl
@[simp] theorem State.modHerdRun_ramps : (s.modHerdRun h f).ramps = s.ramps := rfl
@[simp] theorem State.modHerdRun_boot : (s.modHerdRun h f).boot = s.boot := rfl
@[simp] theorem State.modHerdRun_answerSt : (s.modHerdRun h f).answerSt = s.answerSt := rfl
@[simp] theorem State.modHerdRun_whistleAt : (s.modHerdRun h f).whistleAt = s.whistleAt := rfl
@[simp] theorem State.modHerdRun_chain : (s.modHerdRun h f).chain = s.chain := rfl
@[simp] theorem State.modHerdRun_pmbPage : (s.modHerdRun h f).pmbPage = s.pmbPage := rfl
@[simp] theorem State.modHerdRun_canOff : (s.modHerdRun h f).canOff = s.canOff := rfl
@[simp] theorem State.modHerdRun_spiLast : (s.modHerdRun h f).spiLast = s.spiLast := rfl
@[simp] theorem State.modHerdRun_tap : (s.modHerdRun h f).tap = s.tap := rfl
@[simp] theorem State.modHerdRun_slotWrites : (s.modHerdRun h f).slotWrites = s.slotWrites := rfl
@[simp] theorem State.modHerdRun_cmps : (s.modHerdRun h f).cmps = s.cmps := rfl
@[simp] theorem State.modHerdRun_dispatched : (s.modHerdRun h f).dispatched = s.dispatched := rfl
@[simp] theorem State.modHerdRun_otpKey : (s.modHerdRun h f).otpKey = s.otpKey := rfl
@[simp] theorem State.modHerdRun_pointsHeld : (s.modHerdRun h f).pointsHeld = s.pointsHeld := rfl
@[simp] theorem State.modHerdRun_spiOut : (s.modHerdRun h f).spiOut = s.spiOut := rfl
@[simp] theorem State.modHerdRun_pec : (s.modHerdRun h f).pec = s.pec := rfl
@[simp] theorem State.modHerdRun_bursts : (s.modHerdRun h f).bursts = s.bursts := rfl
end

/-! ### `State.modOsc` -/

section
variable (s : State) (h c : Nat) (f : OscRun → OscRun)
@[simp] theorem State.modOsc_member : (s.modOsc h c f).member = s.member := rfl
@[simp] theorem State.modOsc_pending : (s.modOsc h c f).pending = s.pending := rfl
@[simp] theorem State.modOsc_fresh : (s.modOsc h c f).fresh = s.fresh := rfl
@[simp] theorem State.modOsc_cells : (s.modOsc h c f).cells = s.cells := rfl
@[simp] theorem State.modOsc_shadow : (s.modOsc h c f).shadow = s.shadow := rfl
@[simp] theorem State.modOsc_points : (s.modOsc h c f).points = s.points := rfl
@[simp] theorem State.modOsc_program : (s.modOsc h c f).program = s.program := rfl
@[simp] theorem State.modOsc_priv : (s.modOsc h c f).priv = s.priv := rfl
@[simp] theorem State.modOsc_shared : (s.modOsc h c f).shared = s.shared := rfl
@[simp] theorem State.modOsc_capture : (s.modOsc h c f).capture = s.capture := rfl
@[simp] theorem State.modOsc_flash : (s.modOsc h c f).flash = s.flash := rfl
@[simp] theorem State.modOsc_sectors : (s.modOsc h c f).sectors = s.sectors := rfl
@[simp] theorem State.modOsc_dieRuns : (s.modOsc h c f).dieRuns = s.dieRuns := rfl
@[simp] theorem State.modOsc_bases : (s.modOsc h c f).bases = s.bases := rfl
@[simp] theorem State.modOsc_trackers : (s.modOsc h c f).trackers = s.trackers := rfl
@[simp] theorem State.modOsc_engines : (s.modOsc h c f).engines = s.engines := rfl
@[simp] theorem State.modOsc_taskStk : (s.modOsc h c f).taskStk = s.taskStk := rfl
@[simp] theorem State.modOsc_pendArg : (s.modOsc h c f).pendArg = s.pendArg := rfl
@[simp] theorem State.modOsc_queues : (s.modOsc h c f).queues = s.queues := rfl
@[simp] theorem State.modOsc_qWaiters : (s.modOsc h c f).qWaiters = s.qWaiters := rfl
@[simp] theorem State.modOsc_ring : (s.modOsc h c f).ring = s.ring := rfl
@[simp] theorem State.modOsc_nextXfer : (s.modOsc h c f).nextXfer = s.nextXfer := rfl
@[simp] theorem State.modOsc_legs : (s.modOsc h c f).legs = s.legs := rfl
@[simp] theorem State.modOsc_herdCopies : (s.modOsc h c f).herdCopies = s.herdCopies := rfl
@[simp] theorem State.modOsc_cpLast : (s.modOsc h c f).cpLast = s.cpLast := rfl
@[simp] theorem State.modOsc_flashRuns : (s.modOsc h c f).flashRuns = s.flashRuns := rfl
@[simp] theorem State.modOsc_recorder : (s.modOsc h c f).recorder = s.recorder := rfl
@[simp] theorem State.modOsc_latches : (s.modOsc h c f).latches = s.latches := rfl
@[simp] theorem State.modOsc_recQueue : (s.modOsc h c f).recQueue = s.recQueue := rfl
@[simp] theorem State.modOsc_mesh : (s.modOsc h c f).mesh = s.mesh := rfl
@[simp] theorem State.modOsc_doms : (s.modOsc h c f).doms = s.doms := rfl
@[simp] theorem State.modOsc_herds : (s.modOsc h c f).herds = s.herds := rfl
@[simp] theorem State.modOsc_regs : (s.modOsc h c f).regs = s.regs := rfl
@[simp] theorem State.modOsc_drvs : (s.modOsc h c f).drvs = s.drvs := rfl
@[simp] theorem State.modOsc_chops : (s.modOsc h c f).chops = s.chops := rfl
@[simp] theorem State.modOsc_grds : (s.modOsc h c f).grds = s.grds := rfl
@[simp] theorem State.modOsc_trks : (s.modOsc h c f).trks = s.trks := rfl
@[simp] theorem State.modOsc_adcs : (s.modOsc h c f).adcs = s.adcs := rfl
@[simp] theorem State.modOsc_mods : (s.modOsc h c f).mods = s.mods := rfl
@[simp] theorem State.modOsc_refs : (s.modOsc h c f).refs = s.refs := rfl
@[simp] theorem State.modOsc_answer : (s.modOsc h c f).answer = s.answer := rfl
@[simp] theorem State.modOsc_posPrev : (s.modOsc h c f).posPrev = s.posPrev := rfl
@[simp] theorem State.modOsc_meters : (s.modOsc h c f).meters = s.meters := rfl
@[simp] theorem State.modOsc_pulses : (s.modOsc h c f).pulses = s.pulses := rfl
@[simp] theorem State.modOsc_s0s : (s.modOsc h c f).s0s = s.s0s := rfl
@[simp] theorem State.modOsc_safety : (s.modOsc h c f).safety = s.safety := rfl
@[simp] theorem State.modOsc_aonRun : (s.modOsc h c f).aonRun = s.aonRun := rfl
@[simp] theorem State.modOsc_ramps : (s.modOsc h c f).ramps = s.ramps := rfl
@[simp] theorem State.modOsc_boot : (s.modOsc h c f).boot = s.boot := rfl
@[simp] theorem State.modOsc_answerSt : (s.modOsc h c f).answerSt = s.answerSt := rfl
@[simp] theorem State.modOsc_whistleAt : (s.modOsc h c f).whistleAt = s.whistleAt := rfl
@[simp] theorem State.modOsc_chain : (s.modOsc h c f).chain = s.chain := rfl
@[simp] theorem State.modOsc_pmbPage : (s.modOsc h c f).pmbPage = s.pmbPage := rfl
@[simp] theorem State.modOsc_canOff : (s.modOsc h c f).canOff = s.canOff := rfl
@[simp] theorem State.modOsc_spiLast : (s.modOsc h c f).spiLast = s.spiLast := rfl
@[simp] theorem State.modOsc_tap : (s.modOsc h c f).tap = s.tap := rfl
@[simp] theorem State.modOsc_slotWrites : (s.modOsc h c f).slotWrites = s.slotWrites := rfl
@[simp] theorem State.modOsc_cmps : (s.modOsc h c f).cmps = s.cmps := rfl
@[simp] theorem State.modOsc_dispatched : (s.modOsc h c f).dispatched = s.dispatched := rfl
@[simp] theorem State.modOsc_otpKey : (s.modOsc h c f).otpKey = s.otpKey := rfl
@[simp] theorem State.modOsc_pointsHeld : (s.modOsc h c f).pointsHeld = s.pointsHeld := rfl
@[simp] theorem State.modOsc_spiOut : (s.modOsc h c f).spiOut = s.spiOut := rfl
@[simp] theorem State.modOsc_pec : (s.modOsc h c f).pec = s.pec := rfl
@[simp] theorem State.modOsc_bursts : (s.modOsc h c f).bursts = s.bursts := rfl
end

/-! ### `State.modReg` -/

section
variable (s : State) (h : Nat) (f : RegRun → RegRun)
@[simp] theorem State.modReg_member : (s.modReg h f).member = s.member := rfl
@[simp] theorem State.modReg_pending : (s.modReg h f).pending = s.pending := rfl
@[simp] theorem State.modReg_fresh : (s.modReg h f).fresh = s.fresh := rfl
@[simp] theorem State.modReg_cells : (s.modReg h f).cells = s.cells := rfl
@[simp] theorem State.modReg_shadow : (s.modReg h f).shadow = s.shadow := rfl
@[simp] theorem State.modReg_points : (s.modReg h f).points = s.points := rfl
@[simp] theorem State.modReg_program : (s.modReg h f).program = s.program := rfl
@[simp] theorem State.modReg_priv : (s.modReg h f).priv = s.priv := rfl
@[simp] theorem State.modReg_shared : (s.modReg h f).shared = s.shared := rfl
@[simp] theorem State.modReg_capture : (s.modReg h f).capture = s.capture := rfl
@[simp] theorem State.modReg_flash : (s.modReg h f).flash = s.flash := rfl
@[simp] theorem State.modReg_sectors : (s.modReg h f).sectors = s.sectors := rfl
@[simp] theorem State.modReg_dieRuns : (s.modReg h f).dieRuns = s.dieRuns := rfl
@[simp] theorem State.modReg_bases : (s.modReg h f).bases = s.bases := rfl
@[simp] theorem State.modReg_trackers : (s.modReg h f).trackers = s.trackers := rfl
@[simp] theorem State.modReg_engines : (s.modReg h f).engines = s.engines := rfl
@[simp] theorem State.modReg_taskStk : (s.modReg h f).taskStk = s.taskStk := rfl
@[simp] theorem State.modReg_pendArg : (s.modReg h f).pendArg = s.pendArg := rfl
@[simp] theorem State.modReg_queues : (s.modReg h f).queues = s.queues := rfl
@[simp] theorem State.modReg_qWaiters : (s.modReg h f).qWaiters = s.qWaiters := rfl
@[simp] theorem State.modReg_ring : (s.modReg h f).ring = s.ring := rfl
@[simp] theorem State.modReg_nextXfer : (s.modReg h f).nextXfer = s.nextXfer := rfl
@[simp] theorem State.modReg_legs : (s.modReg h f).legs = s.legs := rfl
@[simp] theorem State.modReg_herdCopies : (s.modReg h f).herdCopies = s.herdCopies := rfl
@[simp] theorem State.modReg_cpLast : (s.modReg h f).cpLast = s.cpLast := rfl
@[simp] theorem State.modReg_flashRuns : (s.modReg h f).flashRuns = s.flashRuns := rfl
@[simp] theorem State.modReg_recorder : (s.modReg h f).recorder = s.recorder := rfl
@[simp] theorem State.modReg_latches : (s.modReg h f).latches = s.latches := rfl
@[simp] theorem State.modReg_recQueue : (s.modReg h f).recQueue = s.recQueue := rfl
@[simp] theorem State.modReg_mesh : (s.modReg h f).mesh = s.mesh := rfl
@[simp] theorem State.modReg_doms : (s.modReg h f).doms = s.doms := rfl
@[simp] theorem State.modReg_herds : (s.modReg h f).herds = s.herds := rfl
@[simp] theorem State.modReg_oscs : (s.modReg h f).oscs = s.oscs := rfl
@[simp] theorem State.modReg_drvs : (s.modReg h f).drvs = s.drvs := rfl
@[simp] theorem State.modReg_chops : (s.modReg h f).chops = s.chops := rfl
@[simp] theorem State.modReg_grds : (s.modReg h f).grds = s.grds := rfl
@[simp] theorem State.modReg_trks : (s.modReg h f).trks = s.trks := rfl
@[simp] theorem State.modReg_adcs : (s.modReg h f).adcs = s.adcs := rfl
@[simp] theorem State.modReg_mods : (s.modReg h f).mods = s.mods := rfl
@[simp] theorem State.modReg_refs : (s.modReg h f).refs = s.refs := rfl
@[simp] theorem State.modReg_answer : (s.modReg h f).answer = s.answer := rfl
@[simp] theorem State.modReg_posPrev : (s.modReg h f).posPrev = s.posPrev := rfl
@[simp] theorem State.modReg_meters : (s.modReg h f).meters = s.meters := rfl
@[simp] theorem State.modReg_pulses : (s.modReg h f).pulses = s.pulses := rfl
@[simp] theorem State.modReg_s0s : (s.modReg h f).s0s = s.s0s := rfl
@[simp] theorem State.modReg_safety : (s.modReg h f).safety = s.safety := rfl
@[simp] theorem State.modReg_aonRun : (s.modReg h f).aonRun = s.aonRun := rfl
@[simp] theorem State.modReg_ramps : (s.modReg h f).ramps = s.ramps := rfl
@[simp] theorem State.modReg_boot : (s.modReg h f).boot = s.boot := rfl
@[simp] theorem State.modReg_answerSt : (s.modReg h f).answerSt = s.answerSt := rfl
@[simp] theorem State.modReg_whistleAt : (s.modReg h f).whistleAt = s.whistleAt := rfl
@[simp] theorem State.modReg_chain : (s.modReg h f).chain = s.chain := rfl
@[simp] theorem State.modReg_pmbPage : (s.modReg h f).pmbPage = s.pmbPage := rfl
@[simp] theorem State.modReg_canOff : (s.modReg h f).canOff = s.canOff := rfl
@[simp] theorem State.modReg_spiLast : (s.modReg h f).spiLast = s.spiLast := rfl
@[simp] theorem State.modReg_tap : (s.modReg h f).tap = s.tap := rfl
@[simp] theorem State.modReg_slotWrites : (s.modReg h f).slotWrites = s.slotWrites := rfl
@[simp] theorem State.modReg_cmps : (s.modReg h f).cmps = s.cmps := rfl
@[simp] theorem State.modReg_dispatched : (s.modReg h f).dispatched = s.dispatched := rfl
@[simp] theorem State.modReg_otpKey : (s.modReg h f).otpKey = s.otpKey := rfl
@[simp] theorem State.modReg_pointsHeld : (s.modReg h f).pointsHeld = s.pointsHeld := rfl
@[simp] theorem State.modReg_spiOut : (s.modReg h f).spiOut = s.spiOut := rfl
@[simp] theorem State.modReg_pec : (s.modReg h f).pec = s.pec := rfl
@[simp] theorem State.modReg_bursts : (s.modReg h f).bursts = s.bursts := rfl
end

/-! ### `State.modDrv` -/

section
variable (s : State) (h : Nat) (f : DrvRun → DrvRun)
@[simp] theorem State.modDrv_member : (s.modDrv h f).member = s.member := rfl
@[simp] theorem State.modDrv_pending : (s.modDrv h f).pending = s.pending := rfl
@[simp] theorem State.modDrv_fresh : (s.modDrv h f).fresh = s.fresh := rfl
@[simp] theorem State.modDrv_cells : (s.modDrv h f).cells = s.cells := rfl
@[simp] theorem State.modDrv_shadow : (s.modDrv h f).shadow = s.shadow := rfl
@[simp] theorem State.modDrv_points : (s.modDrv h f).points = s.points := rfl
@[simp] theorem State.modDrv_program : (s.modDrv h f).program = s.program := rfl
@[simp] theorem State.modDrv_priv : (s.modDrv h f).priv = s.priv := rfl
@[simp] theorem State.modDrv_shared : (s.modDrv h f).shared = s.shared := rfl
@[simp] theorem State.modDrv_capture : (s.modDrv h f).capture = s.capture := rfl
@[simp] theorem State.modDrv_flash : (s.modDrv h f).flash = s.flash := rfl
@[simp] theorem State.modDrv_sectors : (s.modDrv h f).sectors = s.sectors := rfl
@[simp] theorem State.modDrv_dieRuns : (s.modDrv h f).dieRuns = s.dieRuns := rfl
@[simp] theorem State.modDrv_bases : (s.modDrv h f).bases = s.bases := rfl
@[simp] theorem State.modDrv_trackers : (s.modDrv h f).trackers = s.trackers := rfl
@[simp] theorem State.modDrv_engines : (s.modDrv h f).engines = s.engines := rfl
@[simp] theorem State.modDrv_taskStk : (s.modDrv h f).taskStk = s.taskStk := rfl
@[simp] theorem State.modDrv_pendArg : (s.modDrv h f).pendArg = s.pendArg := rfl
@[simp] theorem State.modDrv_queues : (s.modDrv h f).queues = s.queues := rfl
@[simp] theorem State.modDrv_qWaiters : (s.modDrv h f).qWaiters = s.qWaiters := rfl
@[simp] theorem State.modDrv_ring : (s.modDrv h f).ring = s.ring := rfl
@[simp] theorem State.modDrv_nextXfer : (s.modDrv h f).nextXfer = s.nextXfer := rfl
@[simp] theorem State.modDrv_legs : (s.modDrv h f).legs = s.legs := rfl
@[simp] theorem State.modDrv_herdCopies : (s.modDrv h f).herdCopies = s.herdCopies := rfl
@[simp] theorem State.modDrv_cpLast : (s.modDrv h f).cpLast = s.cpLast := rfl
@[simp] theorem State.modDrv_flashRuns : (s.modDrv h f).flashRuns = s.flashRuns := rfl
@[simp] theorem State.modDrv_recorder : (s.modDrv h f).recorder = s.recorder := rfl
@[simp] theorem State.modDrv_latches : (s.modDrv h f).latches = s.latches := rfl
@[simp] theorem State.modDrv_recQueue : (s.modDrv h f).recQueue = s.recQueue := rfl
@[simp] theorem State.modDrv_mesh : (s.modDrv h f).mesh = s.mesh := rfl
@[simp] theorem State.modDrv_doms : (s.modDrv h f).doms = s.doms := rfl
@[simp] theorem State.modDrv_herds : (s.modDrv h f).herds = s.herds := rfl
@[simp] theorem State.modDrv_oscs : (s.modDrv h f).oscs = s.oscs := rfl
@[simp] theorem State.modDrv_regs : (s.modDrv h f).regs = s.regs := rfl
@[simp] theorem State.modDrv_chops : (s.modDrv h f).chops = s.chops := rfl
@[simp] theorem State.modDrv_grds : (s.modDrv h f).grds = s.grds := rfl
@[simp] theorem State.modDrv_trks : (s.modDrv h f).trks = s.trks := rfl
@[simp] theorem State.modDrv_adcs : (s.modDrv h f).adcs = s.adcs := rfl
@[simp] theorem State.modDrv_mods : (s.modDrv h f).mods = s.mods := rfl
@[simp] theorem State.modDrv_refs : (s.modDrv h f).refs = s.refs := rfl
@[simp] theorem State.modDrv_answer : (s.modDrv h f).answer = s.answer := rfl
@[simp] theorem State.modDrv_posPrev : (s.modDrv h f).posPrev = s.posPrev := rfl
@[simp] theorem State.modDrv_meters : (s.modDrv h f).meters = s.meters := rfl
@[simp] theorem State.modDrv_pulses : (s.modDrv h f).pulses = s.pulses := rfl
@[simp] theorem State.modDrv_s0s : (s.modDrv h f).s0s = s.s0s := rfl
@[simp] theorem State.modDrv_safety : (s.modDrv h f).safety = s.safety := rfl
@[simp] theorem State.modDrv_aonRun : (s.modDrv h f).aonRun = s.aonRun := rfl
@[simp] theorem State.modDrv_ramps : (s.modDrv h f).ramps = s.ramps := rfl
@[simp] theorem State.modDrv_boot : (s.modDrv h f).boot = s.boot := rfl
@[simp] theorem State.modDrv_answerSt : (s.modDrv h f).answerSt = s.answerSt := rfl
@[simp] theorem State.modDrv_whistleAt : (s.modDrv h f).whistleAt = s.whistleAt := rfl
@[simp] theorem State.modDrv_chain : (s.modDrv h f).chain = s.chain := rfl
@[simp] theorem State.modDrv_pmbPage : (s.modDrv h f).pmbPage = s.pmbPage := rfl
@[simp] theorem State.modDrv_canOff : (s.modDrv h f).canOff = s.canOff := rfl
@[simp] theorem State.modDrv_spiLast : (s.modDrv h f).spiLast = s.spiLast := rfl
@[simp] theorem State.modDrv_tap : (s.modDrv h f).tap = s.tap := rfl
@[simp] theorem State.modDrv_slotWrites : (s.modDrv h f).slotWrites = s.slotWrites := rfl
@[simp] theorem State.modDrv_cmps : (s.modDrv h f).cmps = s.cmps := rfl
@[simp] theorem State.modDrv_dispatched : (s.modDrv h f).dispatched = s.dispatched := rfl
@[simp] theorem State.modDrv_otpKey : (s.modDrv h f).otpKey = s.otpKey := rfl
@[simp] theorem State.modDrv_pointsHeld : (s.modDrv h f).pointsHeld = s.pointsHeld := rfl
@[simp] theorem State.modDrv_spiOut : (s.modDrv h f).spiOut = s.spiOut := rfl
@[simp] theorem State.modDrv_pec : (s.modDrv h f).pec = s.pec := rfl
@[simp] theorem State.modDrv_bursts : (s.modDrv h f).bursts = s.bursts := rfl
end

/-! ### `State.modChop` -/

section
variable (s : State) (h : Nat) (f : ChopRun → ChopRun)
@[simp] theorem State.modChop_member : (s.modChop h f).member = s.member := rfl
@[simp] theorem State.modChop_pending : (s.modChop h f).pending = s.pending := rfl
@[simp] theorem State.modChop_fresh : (s.modChop h f).fresh = s.fresh := rfl
@[simp] theorem State.modChop_cells : (s.modChop h f).cells = s.cells := rfl
@[simp] theorem State.modChop_shadow : (s.modChop h f).shadow = s.shadow := rfl
@[simp] theorem State.modChop_points : (s.modChop h f).points = s.points := rfl
@[simp] theorem State.modChop_program : (s.modChop h f).program = s.program := rfl
@[simp] theorem State.modChop_priv : (s.modChop h f).priv = s.priv := rfl
@[simp] theorem State.modChop_shared : (s.modChop h f).shared = s.shared := rfl
@[simp] theorem State.modChop_capture : (s.modChop h f).capture = s.capture := rfl
@[simp] theorem State.modChop_flash : (s.modChop h f).flash = s.flash := rfl
@[simp] theorem State.modChop_sectors : (s.modChop h f).sectors = s.sectors := rfl
@[simp] theorem State.modChop_dieRuns : (s.modChop h f).dieRuns = s.dieRuns := rfl
@[simp] theorem State.modChop_bases : (s.modChop h f).bases = s.bases := rfl
@[simp] theorem State.modChop_trackers : (s.modChop h f).trackers = s.trackers := rfl
@[simp] theorem State.modChop_engines : (s.modChop h f).engines = s.engines := rfl
@[simp] theorem State.modChop_taskStk : (s.modChop h f).taskStk = s.taskStk := rfl
@[simp] theorem State.modChop_pendArg : (s.modChop h f).pendArg = s.pendArg := rfl
@[simp] theorem State.modChop_queues : (s.modChop h f).queues = s.queues := rfl
@[simp] theorem State.modChop_qWaiters : (s.modChop h f).qWaiters = s.qWaiters := rfl
@[simp] theorem State.modChop_ring : (s.modChop h f).ring = s.ring := rfl
@[simp] theorem State.modChop_nextXfer : (s.modChop h f).nextXfer = s.nextXfer := rfl
@[simp] theorem State.modChop_legs : (s.modChop h f).legs = s.legs := rfl
@[simp] theorem State.modChop_herdCopies : (s.modChop h f).herdCopies = s.herdCopies := rfl
@[simp] theorem State.modChop_cpLast : (s.modChop h f).cpLast = s.cpLast := rfl
@[simp] theorem State.modChop_flashRuns : (s.modChop h f).flashRuns = s.flashRuns := rfl
@[simp] theorem State.modChop_recorder : (s.modChop h f).recorder = s.recorder := rfl
@[simp] theorem State.modChop_latches : (s.modChop h f).latches = s.latches := rfl
@[simp] theorem State.modChop_recQueue : (s.modChop h f).recQueue = s.recQueue := rfl
@[simp] theorem State.modChop_mesh : (s.modChop h f).mesh = s.mesh := rfl
@[simp] theorem State.modChop_doms : (s.modChop h f).doms = s.doms := rfl
@[simp] theorem State.modChop_herds : (s.modChop h f).herds = s.herds := rfl
@[simp] theorem State.modChop_oscs : (s.modChop h f).oscs = s.oscs := rfl
@[simp] theorem State.modChop_regs : (s.modChop h f).regs = s.regs := rfl
@[simp] theorem State.modChop_drvs : (s.modChop h f).drvs = s.drvs := rfl
@[simp] theorem State.modChop_grds : (s.modChop h f).grds = s.grds := rfl
@[simp] theorem State.modChop_trks : (s.modChop h f).trks = s.trks := rfl
@[simp] theorem State.modChop_adcs : (s.modChop h f).adcs = s.adcs := rfl
@[simp] theorem State.modChop_mods : (s.modChop h f).mods = s.mods := rfl
@[simp] theorem State.modChop_refs : (s.modChop h f).refs = s.refs := rfl
@[simp] theorem State.modChop_answer : (s.modChop h f).answer = s.answer := rfl
@[simp] theorem State.modChop_posPrev : (s.modChop h f).posPrev = s.posPrev := rfl
@[simp] theorem State.modChop_meters : (s.modChop h f).meters = s.meters := rfl
@[simp] theorem State.modChop_pulses : (s.modChop h f).pulses = s.pulses := rfl
@[simp] theorem State.modChop_s0s : (s.modChop h f).s0s = s.s0s := rfl
@[simp] theorem State.modChop_safety : (s.modChop h f).safety = s.safety := rfl
@[simp] theorem State.modChop_aonRun : (s.modChop h f).aonRun = s.aonRun := rfl
@[simp] theorem State.modChop_ramps : (s.modChop h f).ramps = s.ramps := rfl
@[simp] theorem State.modChop_boot : (s.modChop h f).boot = s.boot := rfl
@[simp] theorem State.modChop_answerSt : (s.modChop h f).answerSt = s.answerSt := rfl
@[simp] theorem State.modChop_whistleAt : (s.modChop h f).whistleAt = s.whistleAt := rfl
@[simp] theorem State.modChop_chain : (s.modChop h f).chain = s.chain := rfl
@[simp] theorem State.modChop_pmbPage : (s.modChop h f).pmbPage = s.pmbPage := rfl
@[simp] theorem State.modChop_canOff : (s.modChop h f).canOff = s.canOff := rfl
@[simp] theorem State.modChop_spiLast : (s.modChop h f).spiLast = s.spiLast := rfl
@[simp] theorem State.modChop_tap : (s.modChop h f).tap = s.tap := rfl
@[simp] theorem State.modChop_slotWrites : (s.modChop h f).slotWrites = s.slotWrites := rfl
@[simp] theorem State.modChop_cmps : (s.modChop h f).cmps = s.cmps := rfl
@[simp] theorem State.modChop_dispatched : (s.modChop h f).dispatched = s.dispatched := rfl
@[simp] theorem State.modChop_otpKey : (s.modChop h f).otpKey = s.otpKey := rfl
@[simp] theorem State.modChop_pointsHeld : (s.modChop h f).pointsHeld = s.pointsHeld := rfl
@[simp] theorem State.modChop_spiOut : (s.modChop h f).spiOut = s.spiOut := rfl
@[simp] theorem State.modChop_pec : (s.modChop h f).pec = s.pec := rfl
@[simp] theorem State.modChop_bursts : (s.modChop h f).bursts = s.bursts := rfl
end

/-! ### `State.modGrd` -/

section
variable (s : State) (h : Nat) (f : GrdRun → GrdRun)
@[simp] theorem State.modGrd_member : (s.modGrd h f).member = s.member := rfl
@[simp] theorem State.modGrd_pending : (s.modGrd h f).pending = s.pending := rfl
@[simp] theorem State.modGrd_fresh : (s.modGrd h f).fresh = s.fresh := rfl
@[simp] theorem State.modGrd_cells : (s.modGrd h f).cells = s.cells := rfl
@[simp] theorem State.modGrd_shadow : (s.modGrd h f).shadow = s.shadow := rfl
@[simp] theorem State.modGrd_points : (s.modGrd h f).points = s.points := rfl
@[simp] theorem State.modGrd_program : (s.modGrd h f).program = s.program := rfl
@[simp] theorem State.modGrd_priv : (s.modGrd h f).priv = s.priv := rfl
@[simp] theorem State.modGrd_shared : (s.modGrd h f).shared = s.shared := rfl
@[simp] theorem State.modGrd_capture : (s.modGrd h f).capture = s.capture := rfl
@[simp] theorem State.modGrd_flash : (s.modGrd h f).flash = s.flash := rfl
@[simp] theorem State.modGrd_sectors : (s.modGrd h f).sectors = s.sectors := rfl
@[simp] theorem State.modGrd_dieRuns : (s.modGrd h f).dieRuns = s.dieRuns := rfl
@[simp] theorem State.modGrd_bases : (s.modGrd h f).bases = s.bases := rfl
@[simp] theorem State.modGrd_trackers : (s.modGrd h f).trackers = s.trackers := rfl
@[simp] theorem State.modGrd_engines : (s.modGrd h f).engines = s.engines := rfl
@[simp] theorem State.modGrd_taskStk : (s.modGrd h f).taskStk = s.taskStk := rfl
@[simp] theorem State.modGrd_pendArg : (s.modGrd h f).pendArg = s.pendArg := rfl
@[simp] theorem State.modGrd_queues : (s.modGrd h f).queues = s.queues := rfl
@[simp] theorem State.modGrd_qWaiters : (s.modGrd h f).qWaiters = s.qWaiters := rfl
@[simp] theorem State.modGrd_ring : (s.modGrd h f).ring = s.ring := rfl
@[simp] theorem State.modGrd_nextXfer : (s.modGrd h f).nextXfer = s.nextXfer := rfl
@[simp] theorem State.modGrd_legs : (s.modGrd h f).legs = s.legs := rfl
@[simp] theorem State.modGrd_herdCopies : (s.modGrd h f).herdCopies = s.herdCopies := rfl
@[simp] theorem State.modGrd_cpLast : (s.modGrd h f).cpLast = s.cpLast := rfl
@[simp] theorem State.modGrd_flashRuns : (s.modGrd h f).flashRuns = s.flashRuns := rfl
@[simp] theorem State.modGrd_recorder : (s.modGrd h f).recorder = s.recorder := rfl
@[simp] theorem State.modGrd_latches : (s.modGrd h f).latches = s.latches := rfl
@[simp] theorem State.modGrd_recQueue : (s.modGrd h f).recQueue = s.recQueue := rfl
@[simp] theorem State.modGrd_mesh : (s.modGrd h f).mesh = s.mesh := rfl
@[simp] theorem State.modGrd_doms : (s.modGrd h f).doms = s.doms := rfl
@[simp] theorem State.modGrd_herds : (s.modGrd h f).herds = s.herds := rfl
@[simp] theorem State.modGrd_oscs : (s.modGrd h f).oscs = s.oscs := rfl
@[simp] theorem State.modGrd_regs : (s.modGrd h f).regs = s.regs := rfl
@[simp] theorem State.modGrd_drvs : (s.modGrd h f).drvs = s.drvs := rfl
@[simp] theorem State.modGrd_chops : (s.modGrd h f).chops = s.chops := rfl
@[simp] theorem State.modGrd_trks : (s.modGrd h f).trks = s.trks := rfl
@[simp] theorem State.modGrd_adcs : (s.modGrd h f).adcs = s.adcs := rfl
@[simp] theorem State.modGrd_mods : (s.modGrd h f).mods = s.mods := rfl
@[simp] theorem State.modGrd_refs : (s.modGrd h f).refs = s.refs := rfl
@[simp] theorem State.modGrd_answer : (s.modGrd h f).answer = s.answer := rfl
@[simp] theorem State.modGrd_posPrev : (s.modGrd h f).posPrev = s.posPrev := rfl
@[simp] theorem State.modGrd_meters : (s.modGrd h f).meters = s.meters := rfl
@[simp] theorem State.modGrd_pulses : (s.modGrd h f).pulses = s.pulses := rfl
@[simp] theorem State.modGrd_s0s : (s.modGrd h f).s0s = s.s0s := rfl
@[simp] theorem State.modGrd_safety : (s.modGrd h f).safety = s.safety := rfl
@[simp] theorem State.modGrd_aonRun : (s.modGrd h f).aonRun = s.aonRun := rfl
@[simp] theorem State.modGrd_ramps : (s.modGrd h f).ramps = s.ramps := rfl
@[simp] theorem State.modGrd_boot : (s.modGrd h f).boot = s.boot := rfl
@[simp] theorem State.modGrd_answerSt : (s.modGrd h f).answerSt = s.answerSt := rfl
@[simp] theorem State.modGrd_whistleAt : (s.modGrd h f).whistleAt = s.whistleAt := rfl
@[simp] theorem State.modGrd_chain : (s.modGrd h f).chain = s.chain := rfl
@[simp] theorem State.modGrd_pmbPage : (s.modGrd h f).pmbPage = s.pmbPage := rfl
@[simp] theorem State.modGrd_canOff : (s.modGrd h f).canOff = s.canOff := rfl
@[simp] theorem State.modGrd_spiLast : (s.modGrd h f).spiLast = s.spiLast := rfl
@[simp] theorem State.modGrd_tap : (s.modGrd h f).tap = s.tap := rfl
@[simp] theorem State.modGrd_slotWrites : (s.modGrd h f).slotWrites = s.slotWrites := rfl
@[simp] theorem State.modGrd_cmps : (s.modGrd h f).cmps = s.cmps := rfl
@[simp] theorem State.modGrd_dispatched : (s.modGrd h f).dispatched = s.dispatched := rfl
@[simp] theorem State.modGrd_otpKey : (s.modGrd h f).otpKey = s.otpKey := rfl
@[simp] theorem State.modGrd_pointsHeld : (s.modGrd h f).pointsHeld = s.pointsHeld := rfl
@[simp] theorem State.modGrd_spiOut : (s.modGrd h f).spiOut = s.spiOut := rfl
@[simp] theorem State.modGrd_pec : (s.modGrd h f).pec = s.pec := rfl
@[simp] theorem State.modGrd_bursts : (s.modGrd h f).bursts = s.bursts := rfl
end

/-! ### `State.modTrk` -/

section
variable (s : State) (h : Nat) (f : TrkRun → TrkRun)
@[simp] theorem State.modTrk_member : (s.modTrk h f).member = s.member := rfl
@[simp] theorem State.modTrk_pending : (s.modTrk h f).pending = s.pending := rfl
@[simp] theorem State.modTrk_fresh : (s.modTrk h f).fresh = s.fresh := rfl
@[simp] theorem State.modTrk_cells : (s.modTrk h f).cells = s.cells := rfl
@[simp] theorem State.modTrk_shadow : (s.modTrk h f).shadow = s.shadow := rfl
@[simp] theorem State.modTrk_points : (s.modTrk h f).points = s.points := rfl
@[simp] theorem State.modTrk_program : (s.modTrk h f).program = s.program := rfl
@[simp] theorem State.modTrk_priv : (s.modTrk h f).priv = s.priv := rfl
@[simp] theorem State.modTrk_shared : (s.modTrk h f).shared = s.shared := rfl
@[simp] theorem State.modTrk_capture : (s.modTrk h f).capture = s.capture := rfl
@[simp] theorem State.modTrk_flash : (s.modTrk h f).flash = s.flash := rfl
@[simp] theorem State.modTrk_sectors : (s.modTrk h f).sectors = s.sectors := rfl
@[simp] theorem State.modTrk_dieRuns : (s.modTrk h f).dieRuns = s.dieRuns := rfl
@[simp] theorem State.modTrk_bases : (s.modTrk h f).bases = s.bases := rfl
@[simp] theorem State.modTrk_trackers : (s.modTrk h f).trackers = s.trackers := rfl
@[simp] theorem State.modTrk_engines : (s.modTrk h f).engines = s.engines := rfl
@[simp] theorem State.modTrk_taskStk : (s.modTrk h f).taskStk = s.taskStk := rfl
@[simp] theorem State.modTrk_pendArg : (s.modTrk h f).pendArg = s.pendArg := rfl
@[simp] theorem State.modTrk_queues : (s.modTrk h f).queues = s.queues := rfl
@[simp] theorem State.modTrk_qWaiters : (s.modTrk h f).qWaiters = s.qWaiters := rfl
@[simp] theorem State.modTrk_ring : (s.modTrk h f).ring = s.ring := rfl
@[simp] theorem State.modTrk_nextXfer : (s.modTrk h f).nextXfer = s.nextXfer := rfl
@[simp] theorem State.modTrk_legs : (s.modTrk h f).legs = s.legs := rfl
@[simp] theorem State.modTrk_herdCopies : (s.modTrk h f).herdCopies = s.herdCopies := rfl
@[simp] theorem State.modTrk_cpLast : (s.modTrk h f).cpLast = s.cpLast := rfl
@[simp] theorem State.modTrk_flashRuns : (s.modTrk h f).flashRuns = s.flashRuns := rfl
@[simp] theorem State.modTrk_recorder : (s.modTrk h f).recorder = s.recorder := rfl
@[simp] theorem State.modTrk_latches : (s.modTrk h f).latches = s.latches := rfl
@[simp] theorem State.modTrk_recQueue : (s.modTrk h f).recQueue = s.recQueue := rfl
@[simp] theorem State.modTrk_mesh : (s.modTrk h f).mesh = s.mesh := rfl
@[simp] theorem State.modTrk_doms : (s.modTrk h f).doms = s.doms := rfl
@[simp] theorem State.modTrk_herds : (s.modTrk h f).herds = s.herds := rfl
@[simp] theorem State.modTrk_oscs : (s.modTrk h f).oscs = s.oscs := rfl
@[simp] theorem State.modTrk_regs : (s.modTrk h f).regs = s.regs := rfl
@[simp] theorem State.modTrk_drvs : (s.modTrk h f).drvs = s.drvs := rfl
@[simp] theorem State.modTrk_chops : (s.modTrk h f).chops = s.chops := rfl
@[simp] theorem State.modTrk_grds : (s.modTrk h f).grds = s.grds := rfl
@[simp] theorem State.modTrk_adcs : (s.modTrk h f).adcs = s.adcs := rfl
@[simp] theorem State.modTrk_mods : (s.modTrk h f).mods = s.mods := rfl
@[simp] theorem State.modTrk_refs : (s.modTrk h f).refs = s.refs := rfl
@[simp] theorem State.modTrk_answer : (s.modTrk h f).answer = s.answer := rfl
@[simp] theorem State.modTrk_posPrev : (s.modTrk h f).posPrev = s.posPrev := rfl
@[simp] theorem State.modTrk_meters : (s.modTrk h f).meters = s.meters := rfl
@[simp] theorem State.modTrk_pulses : (s.modTrk h f).pulses = s.pulses := rfl
@[simp] theorem State.modTrk_s0s : (s.modTrk h f).s0s = s.s0s := rfl
@[simp] theorem State.modTrk_safety : (s.modTrk h f).safety = s.safety := rfl
@[simp] theorem State.modTrk_aonRun : (s.modTrk h f).aonRun = s.aonRun := rfl
@[simp] theorem State.modTrk_ramps : (s.modTrk h f).ramps = s.ramps := rfl
@[simp] theorem State.modTrk_boot : (s.modTrk h f).boot = s.boot := rfl
@[simp] theorem State.modTrk_answerSt : (s.modTrk h f).answerSt = s.answerSt := rfl
@[simp] theorem State.modTrk_whistleAt : (s.modTrk h f).whistleAt = s.whistleAt := rfl
@[simp] theorem State.modTrk_chain : (s.modTrk h f).chain = s.chain := rfl
@[simp] theorem State.modTrk_pmbPage : (s.modTrk h f).pmbPage = s.pmbPage := rfl
@[simp] theorem State.modTrk_canOff : (s.modTrk h f).canOff = s.canOff := rfl
@[simp] theorem State.modTrk_spiLast : (s.modTrk h f).spiLast = s.spiLast := rfl
@[simp] theorem State.modTrk_tap : (s.modTrk h f).tap = s.tap := rfl
@[simp] theorem State.modTrk_slotWrites : (s.modTrk h f).slotWrites = s.slotWrites := rfl
@[simp] theorem State.modTrk_cmps : (s.modTrk h f).cmps = s.cmps := rfl
@[simp] theorem State.modTrk_dispatched : (s.modTrk h f).dispatched = s.dispatched := rfl
@[simp] theorem State.modTrk_otpKey : (s.modTrk h f).otpKey = s.otpKey := rfl
@[simp] theorem State.modTrk_pointsHeld : (s.modTrk h f).pointsHeld = s.pointsHeld := rfl
@[simp] theorem State.modTrk_spiOut : (s.modTrk h f).spiOut = s.spiOut := rfl
@[simp] theorem State.modTrk_pec : (s.modTrk h f).pec = s.pec := rfl
@[simp] theorem State.modTrk_bursts : (s.modTrk h f).bursts = s.bursts := rfl
end

/-! ### `State.modCmp` -/

section
variable (s : State) (d k : Nat) (f : CmpRun → CmpRun)
@[simp] theorem State.modCmp_member : (s.modCmp d k f).member = s.member := rfl
@[simp] theorem State.modCmp_pending : (s.modCmp d k f).pending = s.pending := rfl
@[simp] theorem State.modCmp_fresh : (s.modCmp d k f).fresh = s.fresh := rfl
@[simp] theorem State.modCmp_cells : (s.modCmp d k f).cells = s.cells := rfl
@[simp] theorem State.modCmp_shadow : (s.modCmp d k f).shadow = s.shadow := rfl
@[simp] theorem State.modCmp_points : (s.modCmp d k f).points = s.points := rfl
@[simp] theorem State.modCmp_program : (s.modCmp d k f).program = s.program := rfl
@[simp] theorem State.modCmp_priv : (s.modCmp d k f).priv = s.priv := rfl
@[simp] theorem State.modCmp_shared : (s.modCmp d k f).shared = s.shared := rfl
@[simp] theorem State.modCmp_capture : (s.modCmp d k f).capture = s.capture := rfl
@[simp] theorem State.modCmp_flash : (s.modCmp d k f).flash = s.flash := rfl
@[simp] theorem State.modCmp_sectors : (s.modCmp d k f).sectors = s.sectors := rfl
@[simp] theorem State.modCmp_dieRuns : (s.modCmp d k f).dieRuns = s.dieRuns := rfl
@[simp] theorem State.modCmp_bases : (s.modCmp d k f).bases = s.bases := rfl
@[simp] theorem State.modCmp_trackers : (s.modCmp d k f).trackers = s.trackers := rfl
@[simp] theorem State.modCmp_engines : (s.modCmp d k f).engines = s.engines := rfl
@[simp] theorem State.modCmp_taskStk : (s.modCmp d k f).taskStk = s.taskStk := rfl
@[simp] theorem State.modCmp_pendArg : (s.modCmp d k f).pendArg = s.pendArg := rfl
@[simp] theorem State.modCmp_queues : (s.modCmp d k f).queues = s.queues := rfl
@[simp] theorem State.modCmp_qWaiters : (s.modCmp d k f).qWaiters = s.qWaiters := rfl
@[simp] theorem State.modCmp_ring : (s.modCmp d k f).ring = s.ring := rfl
@[simp] theorem State.modCmp_nextXfer : (s.modCmp d k f).nextXfer = s.nextXfer := rfl
@[simp] theorem State.modCmp_legs : (s.modCmp d k f).legs = s.legs := rfl
@[simp] theorem State.modCmp_herdCopies : (s.modCmp d k f).herdCopies = s.herdCopies := rfl
@[simp] theorem State.modCmp_cpLast : (s.modCmp d k f).cpLast = s.cpLast := rfl
@[simp] theorem State.modCmp_flashRuns : (s.modCmp d k f).flashRuns = s.flashRuns := rfl
@[simp] theorem State.modCmp_recorder : (s.modCmp d k f).recorder = s.recorder := rfl
@[simp] theorem State.modCmp_latches : (s.modCmp d k f).latches = s.latches := rfl
@[simp] theorem State.modCmp_recQueue : (s.modCmp d k f).recQueue = s.recQueue := rfl
@[simp] theorem State.modCmp_mesh : (s.modCmp d k f).mesh = s.mesh := rfl
@[simp] theorem State.modCmp_doms : (s.modCmp d k f).doms = s.doms := rfl
@[simp] theorem State.modCmp_herds : (s.modCmp d k f).herds = s.herds := rfl
@[simp] theorem State.modCmp_oscs : (s.modCmp d k f).oscs = s.oscs := rfl
@[simp] theorem State.modCmp_regs : (s.modCmp d k f).regs = s.regs := rfl
@[simp] theorem State.modCmp_drvs : (s.modCmp d k f).drvs = s.drvs := rfl
@[simp] theorem State.modCmp_chops : (s.modCmp d k f).chops = s.chops := rfl
@[simp] theorem State.modCmp_grds : (s.modCmp d k f).grds = s.grds := rfl
@[simp] theorem State.modCmp_trks : (s.modCmp d k f).trks = s.trks := rfl
@[simp] theorem State.modCmp_adcs : (s.modCmp d k f).adcs = s.adcs := rfl
@[simp] theorem State.modCmp_mods : (s.modCmp d k f).mods = s.mods := rfl
@[simp] theorem State.modCmp_refs : (s.modCmp d k f).refs = s.refs := rfl
@[simp] theorem State.modCmp_answer : (s.modCmp d k f).answer = s.answer := rfl
@[simp] theorem State.modCmp_posPrev : (s.modCmp d k f).posPrev = s.posPrev := rfl
@[simp] theorem State.modCmp_meters : (s.modCmp d k f).meters = s.meters := rfl
@[simp] theorem State.modCmp_pulses : (s.modCmp d k f).pulses = s.pulses := rfl
@[simp] theorem State.modCmp_s0s : (s.modCmp d k f).s0s = s.s0s := rfl
@[simp] theorem State.modCmp_safety : (s.modCmp d k f).safety = s.safety := rfl
@[simp] theorem State.modCmp_aonRun : (s.modCmp d k f).aonRun = s.aonRun := rfl
@[simp] theorem State.modCmp_ramps : (s.modCmp d k f).ramps = s.ramps := rfl
@[simp] theorem State.modCmp_boot : (s.modCmp d k f).boot = s.boot := rfl
@[simp] theorem State.modCmp_answerSt : (s.modCmp d k f).answerSt = s.answerSt := rfl
@[simp] theorem State.modCmp_whistleAt : (s.modCmp d k f).whistleAt = s.whistleAt := rfl
@[simp] theorem State.modCmp_chain : (s.modCmp d k f).chain = s.chain := rfl
@[simp] theorem State.modCmp_pmbPage : (s.modCmp d k f).pmbPage = s.pmbPage := rfl
@[simp] theorem State.modCmp_canOff : (s.modCmp d k f).canOff = s.canOff := rfl
@[simp] theorem State.modCmp_spiLast : (s.modCmp d k f).spiLast = s.spiLast := rfl
@[simp] theorem State.modCmp_tap : (s.modCmp d k f).tap = s.tap := rfl
@[simp] theorem State.modCmp_slotWrites : (s.modCmp d k f).slotWrites = s.slotWrites := rfl
@[simp] theorem State.modCmp_dispatched : (s.modCmp d k f).dispatched = s.dispatched := rfl
@[simp] theorem State.modCmp_otpKey : (s.modCmp d k f).otpKey = s.otpKey := rfl
@[simp] theorem State.modCmp_pointsHeld : (s.modCmp d k f).pointsHeld = s.pointsHeld := rfl
@[simp] theorem State.modCmp_spiOut : (s.modCmp d k f).spiOut = s.spiOut := rfl
@[simp] theorem State.modCmp_pec : (s.modCmp d k f).pec = s.pec := rfl
@[simp] theorem State.modCmp_bursts : (s.modCmp d k f).bursts = s.bursts := rfl
end

/-! ### `State.modDom` -/

section
variable (s : State) (d k : Nat) (f : DomRun → DomRun)
@[simp] theorem State.modDom_member : (s.modDom d k f).member = s.member := rfl
@[simp] theorem State.modDom_pending : (s.modDom d k f).pending = s.pending := rfl
@[simp] theorem State.modDom_fresh : (s.modDom d k f).fresh = s.fresh := rfl
@[simp] theorem State.modDom_cells : (s.modDom d k f).cells = s.cells := rfl
@[simp] theorem State.modDom_shadow : (s.modDom d k f).shadow = s.shadow := rfl
@[simp] theorem State.modDom_points : (s.modDom d k f).points = s.points := rfl
@[simp] theorem State.modDom_program : (s.modDom d k f).program = s.program := rfl
@[simp] theorem State.modDom_priv : (s.modDom d k f).priv = s.priv := rfl
@[simp] theorem State.modDom_shared : (s.modDom d k f).shared = s.shared := rfl
@[simp] theorem State.modDom_capture : (s.modDom d k f).capture = s.capture := rfl
@[simp] theorem State.modDom_flash : (s.modDom d k f).flash = s.flash := rfl
@[simp] theorem State.modDom_sectors : (s.modDom d k f).sectors = s.sectors := rfl
@[simp] theorem State.modDom_dieRuns : (s.modDom d k f).dieRuns = s.dieRuns := rfl
@[simp] theorem State.modDom_bases : (s.modDom d k f).bases = s.bases := rfl
@[simp] theorem State.modDom_trackers : (s.modDom d k f).trackers = s.trackers := rfl
@[simp] theorem State.modDom_engines : (s.modDom d k f).engines = s.engines := rfl
@[simp] theorem State.modDom_taskStk : (s.modDom d k f).taskStk = s.taskStk := rfl
@[simp] theorem State.modDom_pendArg : (s.modDom d k f).pendArg = s.pendArg := rfl
@[simp] theorem State.modDom_queues : (s.modDom d k f).queues = s.queues := rfl
@[simp] theorem State.modDom_qWaiters : (s.modDom d k f).qWaiters = s.qWaiters := rfl
@[simp] theorem State.modDom_ring : (s.modDom d k f).ring = s.ring := rfl
@[simp] theorem State.modDom_nextXfer : (s.modDom d k f).nextXfer = s.nextXfer := rfl
@[simp] theorem State.modDom_legs : (s.modDom d k f).legs = s.legs := rfl
@[simp] theorem State.modDom_herdCopies : (s.modDom d k f).herdCopies = s.herdCopies := rfl
@[simp] theorem State.modDom_cpLast : (s.modDom d k f).cpLast = s.cpLast := rfl
@[simp] theorem State.modDom_flashRuns : (s.modDom d k f).flashRuns = s.flashRuns := rfl
@[simp] theorem State.modDom_recorder : (s.modDom d k f).recorder = s.recorder := rfl
@[simp] theorem State.modDom_latches : (s.modDom d k f).latches = s.latches := rfl
@[simp] theorem State.modDom_recQueue : (s.modDom d k f).recQueue = s.recQueue := rfl
@[simp] theorem State.modDom_mesh : (s.modDom d k f).mesh = s.mesh := rfl
@[simp] theorem State.modDom_herds : (s.modDom d k f).herds = s.herds := rfl
@[simp] theorem State.modDom_oscs : (s.modDom d k f).oscs = s.oscs := rfl
@[simp] theorem State.modDom_regs : (s.modDom d k f).regs = s.regs := rfl
@[simp] theorem State.modDom_drvs : (s.modDom d k f).drvs = s.drvs := rfl
@[simp] theorem State.modDom_chops : (s.modDom d k f).chops = s.chops := rfl
@[simp] theorem State.modDom_grds : (s.modDom d k f).grds = s.grds := rfl
@[simp] theorem State.modDom_trks : (s.modDom d k f).trks = s.trks := rfl
@[simp] theorem State.modDom_adcs : (s.modDom d k f).adcs = s.adcs := rfl
@[simp] theorem State.modDom_mods : (s.modDom d k f).mods = s.mods := rfl
@[simp] theorem State.modDom_refs : (s.modDom d k f).refs = s.refs := rfl
@[simp] theorem State.modDom_answer : (s.modDom d k f).answer = s.answer := rfl
@[simp] theorem State.modDom_posPrev : (s.modDom d k f).posPrev = s.posPrev := rfl
@[simp] theorem State.modDom_meters : (s.modDom d k f).meters = s.meters := rfl
@[simp] theorem State.modDom_pulses : (s.modDom d k f).pulses = s.pulses := rfl
@[simp] theorem State.modDom_s0s : (s.modDom d k f).s0s = s.s0s := rfl
@[simp] theorem State.modDom_safety : (s.modDom d k f).safety = s.safety := rfl
@[simp] theorem State.modDom_aonRun : (s.modDom d k f).aonRun = s.aonRun := rfl
@[simp] theorem State.modDom_ramps : (s.modDom d k f).ramps = s.ramps := rfl
@[simp] theorem State.modDom_boot : (s.modDom d k f).boot = s.boot := rfl
@[simp] theorem State.modDom_answerSt : (s.modDom d k f).answerSt = s.answerSt := rfl
@[simp] theorem State.modDom_whistleAt : (s.modDom d k f).whistleAt = s.whistleAt := rfl
@[simp] theorem State.modDom_chain : (s.modDom d k f).chain = s.chain := rfl
@[simp] theorem State.modDom_pmbPage : (s.modDom d k f).pmbPage = s.pmbPage := rfl
@[simp] theorem State.modDom_canOff : (s.modDom d k f).canOff = s.canOff := rfl
@[simp] theorem State.modDom_spiLast : (s.modDom d k f).spiLast = s.spiLast := rfl
@[simp] theorem State.modDom_tap : (s.modDom d k f).tap = s.tap := rfl
@[simp] theorem State.modDom_slotWrites : (s.modDom d k f).slotWrites = s.slotWrites := rfl
@[simp] theorem State.modDom_cmps : (s.modDom d k f).cmps = s.cmps := rfl
@[simp] theorem State.modDom_dispatched : (s.modDom d k f).dispatched = s.dispatched := rfl
@[simp] theorem State.modDom_otpKey : (s.modDom d k f).otpKey = s.otpKey := rfl
@[simp] theorem State.modDom_pointsHeld : (s.modDom d k f).pointsHeld = s.pointsHeld := rfl
@[simp] theorem State.modDom_spiOut : (s.modDom d k f).spiOut = s.spiOut := rfl
@[simp] theorem State.modDom_pec : (s.modDom d k f).pec = s.pec := rfl
@[simp] theorem State.modDom_bursts : (s.modDom d k f).bursts = s.bursts := rfl
end

/-! ### `State.modAdc` -/

section
variable (s : State) (d n : Nat) (f : AdcRun → AdcRun)
@[simp] theorem State.modAdc_member : (s.modAdc d n f).member = s.member := rfl
@[simp] theorem State.modAdc_pending : (s.modAdc d n f).pending = s.pending := rfl
@[simp] theorem State.modAdc_fresh : (s.modAdc d n f).fresh = s.fresh := rfl
@[simp] theorem State.modAdc_cells : (s.modAdc d n f).cells = s.cells := rfl
@[simp] theorem State.modAdc_shadow : (s.modAdc d n f).shadow = s.shadow := rfl
@[simp] theorem State.modAdc_points : (s.modAdc d n f).points = s.points := rfl
@[simp] theorem State.modAdc_program : (s.modAdc d n f).program = s.program := rfl
@[simp] theorem State.modAdc_priv : (s.modAdc d n f).priv = s.priv := rfl
@[simp] theorem State.modAdc_shared : (s.modAdc d n f).shared = s.shared := rfl
@[simp] theorem State.modAdc_capture : (s.modAdc d n f).capture = s.capture := rfl
@[simp] theorem State.modAdc_flash : (s.modAdc d n f).flash = s.flash := rfl
@[simp] theorem State.modAdc_sectors : (s.modAdc d n f).sectors = s.sectors := rfl
@[simp] theorem State.modAdc_dieRuns : (s.modAdc d n f).dieRuns = s.dieRuns := rfl
@[simp] theorem State.modAdc_bases : (s.modAdc d n f).bases = s.bases := rfl
@[simp] theorem State.modAdc_trackers : (s.modAdc d n f).trackers = s.trackers := rfl
@[simp] theorem State.modAdc_engines : (s.modAdc d n f).engines = s.engines := rfl
@[simp] theorem State.modAdc_taskStk : (s.modAdc d n f).taskStk = s.taskStk := rfl
@[simp] theorem State.modAdc_pendArg : (s.modAdc d n f).pendArg = s.pendArg := rfl
@[simp] theorem State.modAdc_queues : (s.modAdc d n f).queues = s.queues := rfl
@[simp] theorem State.modAdc_qWaiters : (s.modAdc d n f).qWaiters = s.qWaiters := rfl
@[simp] theorem State.modAdc_ring : (s.modAdc d n f).ring = s.ring := rfl
@[simp] theorem State.modAdc_nextXfer : (s.modAdc d n f).nextXfer = s.nextXfer := rfl
@[simp] theorem State.modAdc_legs : (s.modAdc d n f).legs = s.legs := rfl
@[simp] theorem State.modAdc_herdCopies : (s.modAdc d n f).herdCopies = s.herdCopies := rfl
@[simp] theorem State.modAdc_cpLast : (s.modAdc d n f).cpLast = s.cpLast := rfl
@[simp] theorem State.modAdc_flashRuns : (s.modAdc d n f).flashRuns = s.flashRuns := rfl
@[simp] theorem State.modAdc_recorder : (s.modAdc d n f).recorder = s.recorder := rfl
@[simp] theorem State.modAdc_latches : (s.modAdc d n f).latches = s.latches := rfl
@[simp] theorem State.modAdc_recQueue : (s.modAdc d n f).recQueue = s.recQueue := rfl
@[simp] theorem State.modAdc_mesh : (s.modAdc d n f).mesh = s.mesh := rfl
@[simp] theorem State.modAdc_doms : (s.modAdc d n f).doms = s.doms := rfl
@[simp] theorem State.modAdc_herds : (s.modAdc d n f).herds = s.herds := rfl
@[simp] theorem State.modAdc_oscs : (s.modAdc d n f).oscs = s.oscs := rfl
@[simp] theorem State.modAdc_regs : (s.modAdc d n f).regs = s.regs := rfl
@[simp] theorem State.modAdc_drvs : (s.modAdc d n f).drvs = s.drvs := rfl
@[simp] theorem State.modAdc_chops : (s.modAdc d n f).chops = s.chops := rfl
@[simp] theorem State.modAdc_grds : (s.modAdc d n f).grds = s.grds := rfl
@[simp] theorem State.modAdc_trks : (s.modAdc d n f).trks = s.trks := rfl
@[simp] theorem State.modAdc_mods : (s.modAdc d n f).mods = s.mods := rfl
@[simp] theorem State.modAdc_refs : (s.modAdc d n f).refs = s.refs := rfl
@[simp] theorem State.modAdc_answer : (s.modAdc d n f).answer = s.answer := rfl
@[simp] theorem State.modAdc_posPrev : (s.modAdc d n f).posPrev = s.posPrev := rfl
@[simp] theorem State.modAdc_meters : (s.modAdc d n f).meters = s.meters := rfl
@[simp] theorem State.modAdc_pulses : (s.modAdc d n f).pulses = s.pulses := rfl
@[simp] theorem State.modAdc_s0s : (s.modAdc d n f).s0s = s.s0s := rfl
@[simp] theorem State.modAdc_safety : (s.modAdc d n f).safety = s.safety := rfl
@[simp] theorem State.modAdc_aonRun : (s.modAdc d n f).aonRun = s.aonRun := rfl
@[simp] theorem State.modAdc_ramps : (s.modAdc d n f).ramps = s.ramps := rfl
@[simp] theorem State.modAdc_boot : (s.modAdc d n f).boot = s.boot := rfl
@[simp] theorem State.modAdc_answerSt : (s.modAdc d n f).answerSt = s.answerSt := rfl
@[simp] theorem State.modAdc_whistleAt : (s.modAdc d n f).whistleAt = s.whistleAt := rfl
@[simp] theorem State.modAdc_chain : (s.modAdc d n f).chain = s.chain := rfl
@[simp] theorem State.modAdc_pmbPage : (s.modAdc d n f).pmbPage = s.pmbPage := rfl
@[simp] theorem State.modAdc_canOff : (s.modAdc d n f).canOff = s.canOff := rfl
@[simp] theorem State.modAdc_spiLast : (s.modAdc d n f).spiLast = s.spiLast := rfl
@[simp] theorem State.modAdc_tap : (s.modAdc d n f).tap = s.tap := rfl
@[simp] theorem State.modAdc_slotWrites : (s.modAdc d n f).slotWrites = s.slotWrites := rfl
@[simp] theorem State.modAdc_cmps : (s.modAdc d n f).cmps = s.cmps := rfl
@[simp] theorem State.modAdc_dispatched : (s.modAdc d n f).dispatched = s.dispatched := rfl
@[simp] theorem State.modAdc_otpKey : (s.modAdc d n f).otpKey = s.otpKey := rfl
@[simp] theorem State.modAdc_pointsHeld : (s.modAdc d n f).pointsHeld = s.pointsHeld := rfl
@[simp] theorem State.modAdc_spiOut : (s.modAdc d n f).spiOut = s.spiOut := rfl
@[simp] theorem State.modAdc_pec : (s.modAdc d n f).pec = s.pec := rfl
@[simp] theorem State.modAdc_bursts : (s.modAdc d n f).bursts = s.bursts := rfl
end

/-! ### `State.modMeter` -/

section
variable (s : State) (d u : Nat) (f : MeterRun → MeterRun)
@[simp] theorem State.modMeter_member : (s.modMeter d u f).member = s.member := rfl
@[simp] theorem State.modMeter_pending : (s.modMeter d u f).pending = s.pending := rfl
@[simp] theorem State.modMeter_fresh : (s.modMeter d u f).fresh = s.fresh := rfl
@[simp] theorem State.modMeter_cells : (s.modMeter d u f).cells = s.cells := rfl
@[simp] theorem State.modMeter_shadow : (s.modMeter d u f).shadow = s.shadow := rfl
@[simp] theorem State.modMeter_points : (s.modMeter d u f).points = s.points := rfl
@[simp] theorem State.modMeter_program : (s.modMeter d u f).program = s.program := rfl
@[simp] theorem State.modMeter_priv : (s.modMeter d u f).priv = s.priv := rfl
@[simp] theorem State.modMeter_shared : (s.modMeter d u f).shared = s.shared := rfl
@[simp] theorem State.modMeter_capture : (s.modMeter d u f).capture = s.capture := rfl
@[simp] theorem State.modMeter_flash : (s.modMeter d u f).flash = s.flash := rfl
@[simp] theorem State.modMeter_sectors : (s.modMeter d u f).sectors = s.sectors := rfl
@[simp] theorem State.modMeter_dieRuns : (s.modMeter d u f).dieRuns = s.dieRuns := rfl
@[simp] theorem State.modMeter_bases : (s.modMeter d u f).bases = s.bases := rfl
@[simp] theorem State.modMeter_trackers : (s.modMeter d u f).trackers = s.trackers := rfl
@[simp] theorem State.modMeter_engines : (s.modMeter d u f).engines = s.engines := rfl
@[simp] theorem State.modMeter_taskStk : (s.modMeter d u f).taskStk = s.taskStk := rfl
@[simp] theorem State.modMeter_pendArg : (s.modMeter d u f).pendArg = s.pendArg := rfl
@[simp] theorem State.modMeter_queues : (s.modMeter d u f).queues = s.queues := rfl
@[simp] theorem State.modMeter_qWaiters : (s.modMeter d u f).qWaiters = s.qWaiters := rfl
@[simp] theorem State.modMeter_ring : (s.modMeter d u f).ring = s.ring := rfl
@[simp] theorem State.modMeter_nextXfer : (s.modMeter d u f).nextXfer = s.nextXfer := rfl
@[simp] theorem State.modMeter_legs : (s.modMeter d u f).legs = s.legs := rfl
@[simp] theorem State.modMeter_herdCopies : (s.modMeter d u f).herdCopies = s.herdCopies := rfl
@[simp] theorem State.modMeter_cpLast : (s.modMeter d u f).cpLast = s.cpLast := rfl
@[simp] theorem State.modMeter_flashRuns : (s.modMeter d u f).flashRuns = s.flashRuns := rfl
@[simp] theorem State.modMeter_recorder : (s.modMeter d u f).recorder = s.recorder := rfl
@[simp] theorem State.modMeter_latches : (s.modMeter d u f).latches = s.latches := rfl
@[simp] theorem State.modMeter_recQueue : (s.modMeter d u f).recQueue = s.recQueue := rfl
@[simp] theorem State.modMeter_mesh : (s.modMeter d u f).mesh = s.mesh := rfl
@[simp] theorem State.modMeter_doms : (s.modMeter d u f).doms = s.doms := rfl
@[simp] theorem State.modMeter_herds : (s.modMeter d u f).herds = s.herds := rfl
@[simp] theorem State.modMeter_oscs : (s.modMeter d u f).oscs = s.oscs := rfl
@[simp] theorem State.modMeter_regs : (s.modMeter d u f).regs = s.regs := rfl
@[simp] theorem State.modMeter_drvs : (s.modMeter d u f).drvs = s.drvs := rfl
@[simp] theorem State.modMeter_chops : (s.modMeter d u f).chops = s.chops := rfl
@[simp] theorem State.modMeter_grds : (s.modMeter d u f).grds = s.grds := rfl
@[simp] theorem State.modMeter_trks : (s.modMeter d u f).trks = s.trks := rfl
@[simp] theorem State.modMeter_adcs : (s.modMeter d u f).adcs = s.adcs := rfl
@[simp] theorem State.modMeter_mods : (s.modMeter d u f).mods = s.mods := rfl
@[simp] theorem State.modMeter_refs : (s.modMeter d u f).refs = s.refs := rfl
@[simp] theorem State.modMeter_answer : (s.modMeter d u f).answer = s.answer := rfl
@[simp] theorem State.modMeter_posPrev : (s.modMeter d u f).posPrev = s.posPrev := rfl
@[simp] theorem State.modMeter_pulses : (s.modMeter d u f).pulses = s.pulses := rfl
@[simp] theorem State.modMeter_s0s : (s.modMeter d u f).s0s = s.s0s := rfl
@[simp] theorem State.modMeter_safety : (s.modMeter d u f).safety = s.safety := rfl
@[simp] theorem State.modMeter_aonRun : (s.modMeter d u f).aonRun = s.aonRun := rfl
@[simp] theorem State.modMeter_ramps : (s.modMeter d u f).ramps = s.ramps := rfl
@[simp] theorem State.modMeter_boot : (s.modMeter d u f).boot = s.boot := rfl
@[simp] theorem State.modMeter_answerSt : (s.modMeter d u f).answerSt = s.answerSt := rfl
@[simp] theorem State.modMeter_whistleAt : (s.modMeter d u f).whistleAt = s.whistleAt := rfl
@[simp] theorem State.modMeter_chain : (s.modMeter d u f).chain = s.chain := rfl
@[simp] theorem State.modMeter_pmbPage : (s.modMeter d u f).pmbPage = s.pmbPage := rfl
@[simp] theorem State.modMeter_canOff : (s.modMeter d u f).canOff = s.canOff := rfl
@[simp] theorem State.modMeter_spiLast : (s.modMeter d u f).spiLast = s.spiLast := rfl
@[simp] theorem State.modMeter_tap : (s.modMeter d u f).tap = s.tap := rfl
@[simp] theorem State.modMeter_slotWrites : (s.modMeter d u f).slotWrites = s.slotWrites := rfl
@[simp] theorem State.modMeter_cmps : (s.modMeter d u f).cmps = s.cmps := rfl
@[simp] theorem State.modMeter_dispatched : (s.modMeter d u f).dispatched = s.dispatched := rfl
@[simp] theorem State.modMeter_otpKey : (s.modMeter d u f).otpKey = s.otpKey := rfl
@[simp] theorem State.modMeter_pointsHeld : (s.modMeter d u f).pointsHeld = s.pointsHeld := rfl
@[simp] theorem State.modMeter_spiOut : (s.modMeter d u f).spiOut = s.spiOut := rfl
@[simp] theorem State.modMeter_pec : (s.modMeter d u f).pec = s.pec := rfl
@[simp] theorem State.modMeter_bursts : (s.modMeter d u f).bursts = s.bursts := rfl
end

/-! ### `State.modRef` -/

section
variable (s : State) (d : Nat) (f : RefRun → RefRun)
@[simp] theorem State.modRef_member : (s.modRef d f).member = s.member := rfl
@[simp] theorem State.modRef_pending : (s.modRef d f).pending = s.pending := rfl
@[simp] theorem State.modRef_fresh : (s.modRef d f).fresh = s.fresh := rfl
@[simp] theorem State.modRef_cells : (s.modRef d f).cells = s.cells := rfl
@[simp] theorem State.modRef_shadow : (s.modRef d f).shadow = s.shadow := rfl
@[simp] theorem State.modRef_points : (s.modRef d f).points = s.points := rfl
@[simp] theorem State.modRef_program : (s.modRef d f).program = s.program := rfl
@[simp] theorem State.modRef_priv : (s.modRef d f).priv = s.priv := rfl
@[simp] theorem State.modRef_shared : (s.modRef d f).shared = s.shared := rfl
@[simp] theorem State.modRef_capture : (s.modRef d f).capture = s.capture := rfl
@[simp] theorem State.modRef_flash : (s.modRef d f).flash = s.flash := rfl
@[simp] theorem State.modRef_sectors : (s.modRef d f).sectors = s.sectors := rfl
@[simp] theorem State.modRef_dieRuns : (s.modRef d f).dieRuns = s.dieRuns := rfl
@[simp] theorem State.modRef_bases : (s.modRef d f).bases = s.bases := rfl
@[simp] theorem State.modRef_trackers : (s.modRef d f).trackers = s.trackers := rfl
@[simp] theorem State.modRef_engines : (s.modRef d f).engines = s.engines := rfl
@[simp] theorem State.modRef_taskStk : (s.modRef d f).taskStk = s.taskStk := rfl
@[simp] theorem State.modRef_pendArg : (s.modRef d f).pendArg = s.pendArg := rfl
@[simp] theorem State.modRef_queues : (s.modRef d f).queues = s.queues := rfl
@[simp] theorem State.modRef_qWaiters : (s.modRef d f).qWaiters = s.qWaiters := rfl
@[simp] theorem State.modRef_ring : (s.modRef d f).ring = s.ring := rfl
@[simp] theorem State.modRef_nextXfer : (s.modRef d f).nextXfer = s.nextXfer := rfl
@[simp] theorem State.modRef_legs : (s.modRef d f).legs = s.legs := rfl
@[simp] theorem State.modRef_herdCopies : (s.modRef d f).herdCopies = s.herdCopies := rfl
@[simp] theorem State.modRef_cpLast : (s.modRef d f).cpLast = s.cpLast := rfl
@[simp] theorem State.modRef_flashRuns : (s.modRef d f).flashRuns = s.flashRuns := rfl
@[simp] theorem State.modRef_recorder : (s.modRef d f).recorder = s.recorder := rfl
@[simp] theorem State.modRef_latches : (s.modRef d f).latches = s.latches := rfl
@[simp] theorem State.modRef_recQueue : (s.modRef d f).recQueue = s.recQueue := rfl
@[simp] theorem State.modRef_mesh : (s.modRef d f).mesh = s.mesh := rfl
@[simp] theorem State.modRef_doms : (s.modRef d f).doms = s.doms := rfl
@[simp] theorem State.modRef_herds : (s.modRef d f).herds = s.herds := rfl
@[simp] theorem State.modRef_oscs : (s.modRef d f).oscs = s.oscs := rfl
@[simp] theorem State.modRef_regs : (s.modRef d f).regs = s.regs := rfl
@[simp] theorem State.modRef_drvs : (s.modRef d f).drvs = s.drvs := rfl
@[simp] theorem State.modRef_chops : (s.modRef d f).chops = s.chops := rfl
@[simp] theorem State.modRef_grds : (s.modRef d f).grds = s.grds := rfl
@[simp] theorem State.modRef_trks : (s.modRef d f).trks = s.trks := rfl
@[simp] theorem State.modRef_adcs : (s.modRef d f).adcs = s.adcs := rfl
@[simp] theorem State.modRef_mods : (s.modRef d f).mods = s.mods := rfl
@[simp] theorem State.modRef_answer : (s.modRef d f).answer = s.answer := rfl
@[simp] theorem State.modRef_posPrev : (s.modRef d f).posPrev = s.posPrev := rfl
@[simp] theorem State.modRef_meters : (s.modRef d f).meters = s.meters := rfl
@[simp] theorem State.modRef_pulses : (s.modRef d f).pulses = s.pulses := rfl
@[simp] theorem State.modRef_s0s : (s.modRef d f).s0s = s.s0s := rfl
@[simp] theorem State.modRef_safety : (s.modRef d f).safety = s.safety := rfl
@[simp] theorem State.modRef_aonRun : (s.modRef d f).aonRun = s.aonRun := rfl
@[simp] theorem State.modRef_ramps : (s.modRef d f).ramps = s.ramps := rfl
@[simp] theorem State.modRef_boot : (s.modRef d f).boot = s.boot := rfl
@[simp] theorem State.modRef_answerSt : (s.modRef d f).answerSt = s.answerSt := rfl
@[simp] theorem State.modRef_whistleAt : (s.modRef d f).whistleAt = s.whistleAt := rfl
@[simp] theorem State.modRef_chain : (s.modRef d f).chain = s.chain := rfl
@[simp] theorem State.modRef_pmbPage : (s.modRef d f).pmbPage = s.pmbPage := rfl
@[simp] theorem State.modRef_canOff : (s.modRef d f).canOff = s.canOff := rfl
@[simp] theorem State.modRef_spiLast : (s.modRef d f).spiLast = s.spiLast := rfl
@[simp] theorem State.modRef_tap : (s.modRef d f).tap = s.tap := rfl
@[simp] theorem State.modRef_slotWrites : (s.modRef d f).slotWrites = s.slotWrites := rfl
@[simp] theorem State.modRef_cmps : (s.modRef d f).cmps = s.cmps := rfl
@[simp] theorem State.modRef_dispatched : (s.modRef d f).dispatched = s.dispatched := rfl
@[simp] theorem State.modRef_otpKey : (s.modRef d f).otpKey = s.otpKey := rfl
@[simp] theorem State.modRef_pointsHeld : (s.modRef d f).pointsHeld = s.pointsHeld := rfl
@[simp] theorem State.modRef_spiOut : (s.modRef d f).spiOut = s.spiOut := rfl
@[simp] theorem State.modRef_pec : (s.modRef d f).pec = s.pec := rfl
@[simp] theorem State.modRef_bursts : (s.modRef d f).bursts = s.bursts := rfl
end

/-! ### `State.modModIn` -/

section
variable (s : State) (d m : Nat) (f : ModRun → ModRun)
@[simp] theorem State.modModIn_member : (s.modModIn d m f).member = s.member := rfl
@[simp] theorem State.modModIn_pending : (s.modModIn d m f).pending = s.pending := rfl
@[simp] theorem State.modModIn_fresh : (s.modModIn d m f).fresh = s.fresh := rfl
@[simp] theorem State.modModIn_cells : (s.modModIn d m f).cells = s.cells := rfl
@[simp] theorem State.modModIn_shadow : (s.modModIn d m f).shadow = s.shadow := rfl
@[simp] theorem State.modModIn_points : (s.modModIn d m f).points = s.points := rfl
@[simp] theorem State.modModIn_program : (s.modModIn d m f).program = s.program := rfl
@[simp] theorem State.modModIn_priv : (s.modModIn d m f).priv = s.priv := rfl
@[simp] theorem State.modModIn_shared : (s.modModIn d m f).shared = s.shared := rfl
@[simp] theorem State.modModIn_capture : (s.modModIn d m f).capture = s.capture := rfl
@[simp] theorem State.modModIn_flash : (s.modModIn d m f).flash = s.flash := rfl
@[simp] theorem State.modModIn_sectors : (s.modModIn d m f).sectors = s.sectors := rfl
@[simp] theorem State.modModIn_dieRuns : (s.modModIn d m f).dieRuns = s.dieRuns := rfl
@[simp] theorem State.modModIn_bases : (s.modModIn d m f).bases = s.bases := rfl
@[simp] theorem State.modModIn_trackers : (s.modModIn d m f).trackers = s.trackers := rfl
@[simp] theorem State.modModIn_engines : (s.modModIn d m f).engines = s.engines := rfl
@[simp] theorem State.modModIn_taskStk : (s.modModIn d m f).taskStk = s.taskStk := rfl
@[simp] theorem State.modModIn_pendArg : (s.modModIn d m f).pendArg = s.pendArg := rfl
@[simp] theorem State.modModIn_queues : (s.modModIn d m f).queues = s.queues := rfl
@[simp] theorem State.modModIn_qWaiters : (s.modModIn d m f).qWaiters = s.qWaiters := rfl
@[simp] theorem State.modModIn_ring : (s.modModIn d m f).ring = s.ring := rfl
@[simp] theorem State.modModIn_nextXfer : (s.modModIn d m f).nextXfer = s.nextXfer := rfl
@[simp] theorem State.modModIn_legs : (s.modModIn d m f).legs = s.legs := rfl
@[simp] theorem State.modModIn_herdCopies : (s.modModIn d m f).herdCopies = s.herdCopies := rfl
@[simp] theorem State.modModIn_cpLast : (s.modModIn d m f).cpLast = s.cpLast := rfl
@[simp] theorem State.modModIn_flashRuns : (s.modModIn d m f).flashRuns = s.flashRuns := rfl
@[simp] theorem State.modModIn_recorder : (s.modModIn d m f).recorder = s.recorder := rfl
@[simp] theorem State.modModIn_latches : (s.modModIn d m f).latches = s.latches := rfl
@[simp] theorem State.modModIn_recQueue : (s.modModIn d m f).recQueue = s.recQueue := rfl
@[simp] theorem State.modModIn_mesh : (s.modModIn d m f).mesh = s.mesh := rfl
@[simp] theorem State.modModIn_doms : (s.modModIn d m f).doms = s.doms := rfl
@[simp] theorem State.modModIn_herds : (s.modModIn d m f).herds = s.herds := rfl
@[simp] theorem State.modModIn_oscs : (s.modModIn d m f).oscs = s.oscs := rfl
@[simp] theorem State.modModIn_regs : (s.modModIn d m f).regs = s.regs := rfl
@[simp] theorem State.modModIn_drvs : (s.modModIn d m f).drvs = s.drvs := rfl
@[simp] theorem State.modModIn_chops : (s.modModIn d m f).chops = s.chops := rfl
@[simp] theorem State.modModIn_grds : (s.modModIn d m f).grds = s.grds := rfl
@[simp] theorem State.modModIn_trks : (s.modModIn d m f).trks = s.trks := rfl
@[simp] theorem State.modModIn_adcs : (s.modModIn d m f).adcs = s.adcs := rfl
@[simp] theorem State.modModIn_refs : (s.modModIn d m f).refs = s.refs := rfl
@[simp] theorem State.modModIn_answer : (s.modModIn d m f).answer = s.answer := rfl
@[simp] theorem State.modModIn_posPrev : (s.modModIn d m f).posPrev = s.posPrev := rfl
@[simp] theorem State.modModIn_meters : (s.modModIn d m f).meters = s.meters := rfl
@[simp] theorem State.modModIn_pulses : (s.modModIn d m f).pulses = s.pulses := rfl
@[simp] theorem State.modModIn_s0s : (s.modModIn d m f).s0s = s.s0s := rfl
@[simp] theorem State.modModIn_safety : (s.modModIn d m f).safety = s.safety := rfl
@[simp] theorem State.modModIn_aonRun : (s.modModIn d m f).aonRun = s.aonRun := rfl
@[simp] theorem State.modModIn_ramps : (s.modModIn d m f).ramps = s.ramps := rfl
@[simp] theorem State.modModIn_boot : (s.modModIn d m f).boot = s.boot := rfl
@[simp] theorem State.modModIn_answerSt : (s.modModIn d m f).answerSt = s.answerSt := rfl
@[simp] theorem State.modModIn_whistleAt : (s.modModIn d m f).whistleAt = s.whistleAt := rfl
@[simp] theorem State.modModIn_chain : (s.modModIn d m f).chain = s.chain := rfl
@[simp] theorem State.modModIn_pmbPage : (s.modModIn d m f).pmbPage = s.pmbPage := rfl
@[simp] theorem State.modModIn_canOff : (s.modModIn d m f).canOff = s.canOff := rfl
@[simp] theorem State.modModIn_spiLast : (s.modModIn d m f).spiLast = s.spiLast := rfl
@[simp] theorem State.modModIn_tap : (s.modModIn d m f).tap = s.tap := rfl
@[simp] theorem State.modModIn_slotWrites : (s.modModIn d m f).slotWrites = s.slotWrites := rfl
@[simp] theorem State.modModIn_cmps : (s.modModIn d m f).cmps = s.cmps := rfl
@[simp] theorem State.modModIn_dispatched : (s.modModIn d m f).dispatched = s.dispatched := rfl
@[simp] theorem State.modModIn_otpKey : (s.modModIn d m f).otpKey = s.otpKey := rfl
@[simp] theorem State.modModIn_pointsHeld : (s.modModIn d m f).pointsHeld = s.pointsHeld := rfl
@[simp] theorem State.modModIn_spiOut : (s.modModIn d m f).spiOut = s.spiOut := rfl
@[simp] theorem State.modModIn_pec : (s.modModIn d m f).pec = s.pec := rfl
@[simp] theorem State.modModIn_bursts : (s.modModIn d m f).bursts = s.bursts := rfl
end

/-! ### `State.modRamp` -/

section
variable (s : State) (d r : Nat) (f : RampRun → RampRun)
@[simp] theorem State.modRamp_member : (s.modRamp d r f).member = s.member := rfl
@[simp] theorem State.modRamp_pending : (s.modRamp d r f).pending = s.pending := rfl
@[simp] theorem State.modRamp_fresh : (s.modRamp d r f).fresh = s.fresh := rfl
@[simp] theorem State.modRamp_cells : (s.modRamp d r f).cells = s.cells := rfl
@[simp] theorem State.modRamp_shadow : (s.modRamp d r f).shadow = s.shadow := rfl
@[simp] theorem State.modRamp_points : (s.modRamp d r f).points = s.points := rfl
@[simp] theorem State.modRamp_program : (s.modRamp d r f).program = s.program := rfl
@[simp] theorem State.modRamp_priv : (s.modRamp d r f).priv = s.priv := rfl
@[simp] theorem State.modRamp_shared : (s.modRamp d r f).shared = s.shared := rfl
@[simp] theorem State.modRamp_capture : (s.modRamp d r f).capture = s.capture := rfl
@[simp] theorem State.modRamp_flash : (s.modRamp d r f).flash = s.flash := rfl
@[simp] theorem State.modRamp_sectors : (s.modRamp d r f).sectors = s.sectors := rfl
@[simp] theorem State.modRamp_dieRuns : (s.modRamp d r f).dieRuns = s.dieRuns := rfl
@[simp] theorem State.modRamp_bases : (s.modRamp d r f).bases = s.bases := rfl
@[simp] theorem State.modRamp_trackers : (s.modRamp d r f).trackers = s.trackers := rfl
@[simp] theorem State.modRamp_engines : (s.modRamp d r f).engines = s.engines := rfl
@[simp] theorem State.modRamp_taskStk : (s.modRamp d r f).taskStk = s.taskStk := rfl
@[simp] theorem State.modRamp_pendArg : (s.modRamp d r f).pendArg = s.pendArg := rfl
@[simp] theorem State.modRamp_queues : (s.modRamp d r f).queues = s.queues := rfl
@[simp] theorem State.modRamp_qWaiters : (s.modRamp d r f).qWaiters = s.qWaiters := rfl
@[simp] theorem State.modRamp_ring : (s.modRamp d r f).ring = s.ring := rfl
@[simp] theorem State.modRamp_nextXfer : (s.modRamp d r f).nextXfer = s.nextXfer := rfl
@[simp] theorem State.modRamp_legs : (s.modRamp d r f).legs = s.legs := rfl
@[simp] theorem State.modRamp_herdCopies : (s.modRamp d r f).herdCopies = s.herdCopies := rfl
@[simp] theorem State.modRamp_cpLast : (s.modRamp d r f).cpLast = s.cpLast := rfl
@[simp] theorem State.modRamp_flashRuns : (s.modRamp d r f).flashRuns = s.flashRuns := rfl
@[simp] theorem State.modRamp_recorder : (s.modRamp d r f).recorder = s.recorder := rfl
@[simp] theorem State.modRamp_latches : (s.modRamp d r f).latches = s.latches := rfl
@[simp] theorem State.modRamp_recQueue : (s.modRamp d r f).recQueue = s.recQueue := rfl
@[simp] theorem State.modRamp_mesh : (s.modRamp d r f).mesh = s.mesh := rfl
@[simp] theorem State.modRamp_doms : (s.modRamp d r f).doms = s.doms := rfl
@[simp] theorem State.modRamp_herds : (s.modRamp d r f).herds = s.herds := rfl
@[simp] theorem State.modRamp_oscs : (s.modRamp d r f).oscs = s.oscs := rfl
@[simp] theorem State.modRamp_regs : (s.modRamp d r f).regs = s.regs := rfl
@[simp] theorem State.modRamp_drvs : (s.modRamp d r f).drvs = s.drvs := rfl
@[simp] theorem State.modRamp_chops : (s.modRamp d r f).chops = s.chops := rfl
@[simp] theorem State.modRamp_grds : (s.modRamp d r f).grds = s.grds := rfl
@[simp] theorem State.modRamp_trks : (s.modRamp d r f).trks = s.trks := rfl
@[simp] theorem State.modRamp_adcs : (s.modRamp d r f).adcs = s.adcs := rfl
@[simp] theorem State.modRamp_mods : (s.modRamp d r f).mods = s.mods := rfl
@[simp] theorem State.modRamp_refs : (s.modRamp d r f).refs = s.refs := rfl
@[simp] theorem State.modRamp_answer : (s.modRamp d r f).answer = s.answer := rfl
@[simp] theorem State.modRamp_posPrev : (s.modRamp d r f).posPrev = s.posPrev := rfl
@[simp] theorem State.modRamp_meters : (s.modRamp d r f).meters = s.meters := rfl
@[simp] theorem State.modRamp_pulses : (s.modRamp d r f).pulses = s.pulses := rfl
@[simp] theorem State.modRamp_s0s : (s.modRamp d r f).s0s = s.s0s := rfl
@[simp] theorem State.modRamp_safety : (s.modRamp d r f).safety = s.safety := rfl
@[simp] theorem State.modRamp_aonRun : (s.modRamp d r f).aonRun = s.aonRun := rfl
@[simp] theorem State.modRamp_boot : (s.modRamp d r f).boot = s.boot := rfl
@[simp] theorem State.modRamp_answerSt : (s.modRamp d r f).answerSt = s.answerSt := rfl
@[simp] theorem State.modRamp_whistleAt : (s.modRamp d r f).whistleAt = s.whistleAt := rfl
@[simp] theorem State.modRamp_chain : (s.modRamp d r f).chain = s.chain := rfl
@[simp] theorem State.modRamp_pmbPage : (s.modRamp d r f).pmbPage = s.pmbPage := rfl
@[simp] theorem State.modRamp_canOff : (s.modRamp d r f).canOff = s.canOff := rfl
@[simp] theorem State.modRamp_spiLast : (s.modRamp d r f).spiLast = s.spiLast := rfl
@[simp] theorem State.modRamp_tap : (s.modRamp d r f).tap = s.tap := rfl
@[simp] theorem State.modRamp_slotWrites : (s.modRamp d r f).slotWrites = s.slotWrites := rfl
@[simp] theorem State.modRamp_cmps : (s.modRamp d r f).cmps = s.cmps := rfl
@[simp] theorem State.modRamp_dispatched : (s.modRamp d r f).dispatched = s.dispatched := rfl
@[simp] theorem State.modRamp_otpKey : (s.modRamp d r f).otpKey = s.otpKey := rfl
@[simp] theorem State.modRamp_pointsHeld : (s.modRamp d r f).pointsHeld = s.pointsHeld := rfl
@[simp] theorem State.modRamp_spiOut : (s.modRamp d r f).spiOut = s.spiOut := rfl
@[simp] theorem State.modRamp_pec : (s.modRamp d r f).pec = s.pec := rfl
@[simp] theorem State.modRamp_bursts : (s.modRamp d r f).bursts = s.bursts := rfl
end

/-! ### `State.modPulse` -/

section
variable (s : State) (d k : Nat) (f : PoRun → PoRun)
@[simp] theorem State.modPulse_member : (s.modPulse d k f).member = s.member := rfl
@[simp] theorem State.modPulse_pending : (s.modPulse d k f).pending = s.pending := rfl
@[simp] theorem State.modPulse_fresh : (s.modPulse d k f).fresh = s.fresh := rfl
@[simp] theorem State.modPulse_cells : (s.modPulse d k f).cells = s.cells := rfl
@[simp] theorem State.modPulse_shadow : (s.modPulse d k f).shadow = s.shadow := rfl
@[simp] theorem State.modPulse_points : (s.modPulse d k f).points = s.points := rfl
@[simp] theorem State.modPulse_program : (s.modPulse d k f).program = s.program := rfl
@[simp] theorem State.modPulse_priv : (s.modPulse d k f).priv = s.priv := rfl
@[simp] theorem State.modPulse_shared : (s.modPulse d k f).shared = s.shared := rfl
@[simp] theorem State.modPulse_capture : (s.modPulse d k f).capture = s.capture := rfl
@[simp] theorem State.modPulse_flash : (s.modPulse d k f).flash = s.flash := rfl
@[simp] theorem State.modPulse_sectors : (s.modPulse d k f).sectors = s.sectors := rfl
@[simp] theorem State.modPulse_dieRuns : (s.modPulse d k f).dieRuns = s.dieRuns := rfl
@[simp] theorem State.modPulse_bases : (s.modPulse d k f).bases = s.bases := rfl
@[simp] theorem State.modPulse_trackers : (s.modPulse d k f).trackers = s.trackers := rfl
@[simp] theorem State.modPulse_engines : (s.modPulse d k f).engines = s.engines := rfl
@[simp] theorem State.modPulse_taskStk : (s.modPulse d k f).taskStk = s.taskStk := rfl
@[simp] theorem State.modPulse_pendArg : (s.modPulse d k f).pendArg = s.pendArg := rfl
@[simp] theorem State.modPulse_queues : (s.modPulse d k f).queues = s.queues := rfl
@[simp] theorem State.modPulse_qWaiters : (s.modPulse d k f).qWaiters = s.qWaiters := rfl
@[simp] theorem State.modPulse_ring : (s.modPulse d k f).ring = s.ring := rfl
@[simp] theorem State.modPulse_nextXfer : (s.modPulse d k f).nextXfer = s.nextXfer := rfl
@[simp] theorem State.modPulse_legs : (s.modPulse d k f).legs = s.legs := rfl
@[simp] theorem State.modPulse_herdCopies : (s.modPulse d k f).herdCopies = s.herdCopies := rfl
@[simp] theorem State.modPulse_cpLast : (s.modPulse d k f).cpLast = s.cpLast := rfl
@[simp] theorem State.modPulse_flashRuns : (s.modPulse d k f).flashRuns = s.flashRuns := rfl
@[simp] theorem State.modPulse_recorder : (s.modPulse d k f).recorder = s.recorder := rfl
@[simp] theorem State.modPulse_latches : (s.modPulse d k f).latches = s.latches := rfl
@[simp] theorem State.modPulse_recQueue : (s.modPulse d k f).recQueue = s.recQueue := rfl
@[simp] theorem State.modPulse_mesh : (s.modPulse d k f).mesh = s.mesh := rfl
@[simp] theorem State.modPulse_doms : (s.modPulse d k f).doms = s.doms := rfl
@[simp] theorem State.modPulse_herds : (s.modPulse d k f).herds = s.herds := rfl
@[simp] theorem State.modPulse_oscs : (s.modPulse d k f).oscs = s.oscs := rfl
@[simp] theorem State.modPulse_regs : (s.modPulse d k f).regs = s.regs := rfl
@[simp] theorem State.modPulse_drvs : (s.modPulse d k f).drvs = s.drvs := rfl
@[simp] theorem State.modPulse_chops : (s.modPulse d k f).chops = s.chops := rfl
@[simp] theorem State.modPulse_grds : (s.modPulse d k f).grds = s.grds := rfl
@[simp] theorem State.modPulse_trks : (s.modPulse d k f).trks = s.trks := rfl
@[simp] theorem State.modPulse_adcs : (s.modPulse d k f).adcs = s.adcs := rfl
@[simp] theorem State.modPulse_mods : (s.modPulse d k f).mods = s.mods := rfl
@[simp] theorem State.modPulse_refs : (s.modPulse d k f).refs = s.refs := rfl
@[simp] theorem State.modPulse_answer : (s.modPulse d k f).answer = s.answer := rfl
@[simp] theorem State.modPulse_posPrev : (s.modPulse d k f).posPrev = s.posPrev := rfl
@[simp] theorem State.modPulse_meters : (s.modPulse d k f).meters = s.meters := rfl
@[simp] theorem State.modPulse_s0s : (s.modPulse d k f).s0s = s.s0s := rfl
@[simp] theorem State.modPulse_safety : (s.modPulse d k f).safety = s.safety := rfl
@[simp] theorem State.modPulse_aonRun : (s.modPulse d k f).aonRun = s.aonRun := rfl
@[simp] theorem State.modPulse_ramps : (s.modPulse d k f).ramps = s.ramps := rfl
@[simp] theorem State.modPulse_boot : (s.modPulse d k f).boot = s.boot := rfl
@[simp] theorem State.modPulse_answerSt : (s.modPulse d k f).answerSt = s.answerSt := rfl
@[simp] theorem State.modPulse_whistleAt : (s.modPulse d k f).whistleAt = s.whistleAt := rfl
@[simp] theorem State.modPulse_chain : (s.modPulse d k f).chain = s.chain := rfl
@[simp] theorem State.modPulse_pmbPage : (s.modPulse d k f).pmbPage = s.pmbPage := rfl
@[simp] theorem State.modPulse_canOff : (s.modPulse d k f).canOff = s.canOff := rfl
@[simp] theorem State.modPulse_spiLast : (s.modPulse d k f).spiLast = s.spiLast := rfl
@[simp] theorem State.modPulse_tap : (s.modPulse d k f).tap = s.tap := rfl
@[simp] theorem State.modPulse_slotWrites : (s.modPulse d k f).slotWrites = s.slotWrites := rfl
@[simp] theorem State.modPulse_cmps : (s.modPulse d k f).cmps = s.cmps := rfl
@[simp] theorem State.modPulse_dispatched : (s.modPulse d k f).dispatched = s.dispatched := rfl
@[simp] theorem State.modPulse_otpKey : (s.modPulse d k f).otpKey = s.otpKey := rfl
@[simp] theorem State.modPulse_pointsHeld : (s.modPulse d k f).pointsHeld = s.pointsHeld := rfl
@[simp] theorem State.modPulse_spiOut : (s.modPulse d k f).spiOut = s.spiOut := rfl
@[simp] theorem State.modPulse_pec : (s.modPulse d k f).pec = s.pec := rfl
@[simp] theorem State.modPulse_bursts : (s.modPulse d k f).bursts = s.bursts := rfl
end

/-! ### `State.modS0` -/

section
variable (s : State) (d k : Nat) (f : S0Run → S0Run)
@[simp] theorem State.modS0_member : (s.modS0 d k f).member = s.member := rfl
@[simp] theorem State.modS0_pending : (s.modS0 d k f).pending = s.pending := rfl
@[simp] theorem State.modS0_fresh : (s.modS0 d k f).fresh = s.fresh := rfl
@[simp] theorem State.modS0_cells : (s.modS0 d k f).cells = s.cells := rfl
@[simp] theorem State.modS0_shadow : (s.modS0 d k f).shadow = s.shadow := rfl
@[simp] theorem State.modS0_points : (s.modS0 d k f).points = s.points := rfl
@[simp] theorem State.modS0_program : (s.modS0 d k f).program = s.program := rfl
@[simp] theorem State.modS0_priv : (s.modS0 d k f).priv = s.priv := rfl
@[simp] theorem State.modS0_shared : (s.modS0 d k f).shared = s.shared := rfl
@[simp] theorem State.modS0_capture : (s.modS0 d k f).capture = s.capture := rfl
@[simp] theorem State.modS0_flash : (s.modS0 d k f).flash = s.flash := rfl
@[simp] theorem State.modS0_sectors : (s.modS0 d k f).sectors = s.sectors := rfl
@[simp] theorem State.modS0_dieRuns : (s.modS0 d k f).dieRuns = s.dieRuns := rfl
@[simp] theorem State.modS0_bases : (s.modS0 d k f).bases = s.bases := rfl
@[simp] theorem State.modS0_trackers : (s.modS0 d k f).trackers = s.trackers := rfl
@[simp] theorem State.modS0_engines : (s.modS0 d k f).engines = s.engines := rfl
@[simp] theorem State.modS0_taskStk : (s.modS0 d k f).taskStk = s.taskStk := rfl
@[simp] theorem State.modS0_pendArg : (s.modS0 d k f).pendArg = s.pendArg := rfl
@[simp] theorem State.modS0_queues : (s.modS0 d k f).queues = s.queues := rfl
@[simp] theorem State.modS0_qWaiters : (s.modS0 d k f).qWaiters = s.qWaiters := rfl
@[simp] theorem State.modS0_ring : (s.modS0 d k f).ring = s.ring := rfl
@[simp] theorem State.modS0_nextXfer : (s.modS0 d k f).nextXfer = s.nextXfer := rfl
@[simp] theorem State.modS0_legs : (s.modS0 d k f).legs = s.legs := rfl
@[simp] theorem State.modS0_herdCopies : (s.modS0 d k f).herdCopies = s.herdCopies := rfl
@[simp] theorem State.modS0_cpLast : (s.modS0 d k f).cpLast = s.cpLast := rfl
@[simp] theorem State.modS0_flashRuns : (s.modS0 d k f).flashRuns = s.flashRuns := rfl
@[simp] theorem State.modS0_recorder : (s.modS0 d k f).recorder = s.recorder := rfl
@[simp] theorem State.modS0_latches : (s.modS0 d k f).latches = s.latches := rfl
@[simp] theorem State.modS0_recQueue : (s.modS0 d k f).recQueue = s.recQueue := rfl
@[simp] theorem State.modS0_mesh : (s.modS0 d k f).mesh = s.mesh := rfl
@[simp] theorem State.modS0_doms : (s.modS0 d k f).doms = s.doms := rfl
@[simp] theorem State.modS0_herds : (s.modS0 d k f).herds = s.herds := rfl
@[simp] theorem State.modS0_oscs : (s.modS0 d k f).oscs = s.oscs := rfl
@[simp] theorem State.modS0_regs : (s.modS0 d k f).regs = s.regs := rfl
@[simp] theorem State.modS0_drvs : (s.modS0 d k f).drvs = s.drvs := rfl
@[simp] theorem State.modS0_chops : (s.modS0 d k f).chops = s.chops := rfl
@[simp] theorem State.modS0_grds : (s.modS0 d k f).grds = s.grds := rfl
@[simp] theorem State.modS0_trks : (s.modS0 d k f).trks = s.trks := rfl
@[simp] theorem State.modS0_adcs : (s.modS0 d k f).adcs = s.adcs := rfl
@[simp] theorem State.modS0_mods : (s.modS0 d k f).mods = s.mods := rfl
@[simp] theorem State.modS0_refs : (s.modS0 d k f).refs = s.refs := rfl
@[simp] theorem State.modS0_answer : (s.modS0 d k f).answer = s.answer := rfl
@[simp] theorem State.modS0_posPrev : (s.modS0 d k f).posPrev = s.posPrev := rfl
@[simp] theorem State.modS0_meters : (s.modS0 d k f).meters = s.meters := rfl
@[simp] theorem State.modS0_pulses : (s.modS0 d k f).pulses = s.pulses := rfl
@[simp] theorem State.modS0_safety : (s.modS0 d k f).safety = s.safety := rfl
@[simp] theorem State.modS0_aonRun : (s.modS0 d k f).aonRun = s.aonRun := rfl
@[simp] theorem State.modS0_ramps : (s.modS0 d k f).ramps = s.ramps := rfl
@[simp] theorem State.modS0_boot : (s.modS0 d k f).boot = s.boot := rfl
@[simp] theorem State.modS0_answerSt : (s.modS0 d k f).answerSt = s.answerSt := rfl
@[simp] theorem State.modS0_whistleAt : (s.modS0 d k f).whistleAt = s.whistleAt := rfl
@[simp] theorem State.modS0_chain : (s.modS0 d k f).chain = s.chain := rfl
@[simp] theorem State.modS0_pmbPage : (s.modS0 d k f).pmbPage = s.pmbPage := rfl
@[simp] theorem State.modS0_canOff : (s.modS0 d k f).canOff = s.canOff := rfl
@[simp] theorem State.modS0_spiLast : (s.modS0 d k f).spiLast = s.spiLast := rfl
@[simp] theorem State.modS0_tap : (s.modS0 d k f).tap = s.tap := rfl
@[simp] theorem State.modS0_slotWrites : (s.modS0 d k f).slotWrites = s.slotWrites := rfl
@[simp] theorem State.modS0_cmps : (s.modS0 d k f).cmps = s.cmps := rfl
@[simp] theorem State.modS0_dispatched : (s.modS0 d k f).dispatched = s.dispatched := rfl
@[simp] theorem State.modS0_otpKey : (s.modS0 d k f).otpKey = s.otpKey := rfl
@[simp] theorem State.modS0_pointsHeld : (s.modS0 d k f).pointsHeld = s.pointsHeld := rfl
@[simp] theorem State.modS0_spiOut : (s.modS0 d k f).spiOut = s.spiOut := rfl
@[simp] theorem State.modS0_pec : (s.modS0 d k f).pec = s.pec := rfl
@[simp] theorem State.modS0_bursts : (s.modS0 d k f).bursts = s.bursts := rfl
end

/-! ### `State.modSector` -/

section
variable (s : State) (d c : Nat) (f : SectorHdr → SectorHdr)
@[simp] theorem State.modSector_member : (s.modSector d c f).member = s.member := rfl
@[simp] theorem State.modSector_pending : (s.modSector d c f).pending = s.pending := rfl
@[simp] theorem State.modSector_fresh : (s.modSector d c f).fresh = s.fresh := rfl
@[simp] theorem State.modSector_cells : (s.modSector d c f).cells = s.cells := rfl
@[simp] theorem State.modSector_shadow : (s.modSector d c f).shadow = s.shadow := rfl
@[simp] theorem State.modSector_points : (s.modSector d c f).points = s.points := rfl
@[simp] theorem State.modSector_program : (s.modSector d c f).program = s.program := rfl
@[simp] theorem State.modSector_priv : (s.modSector d c f).priv = s.priv := rfl
@[simp] theorem State.modSector_shared : (s.modSector d c f).shared = s.shared := rfl
@[simp] theorem State.modSector_capture : (s.modSector d c f).capture = s.capture := rfl
@[simp] theorem State.modSector_flash : (s.modSector d c f).flash = s.flash := rfl
@[simp] theorem State.modSector_dieRuns : (s.modSector d c f).dieRuns = s.dieRuns := rfl
@[simp] theorem State.modSector_bases : (s.modSector d c f).bases = s.bases := rfl
@[simp] theorem State.modSector_trackers : (s.modSector d c f).trackers = s.trackers := rfl
@[simp] theorem State.modSector_engines : (s.modSector d c f).engines = s.engines := rfl
@[simp] theorem State.modSector_taskStk : (s.modSector d c f).taskStk = s.taskStk := rfl
@[simp] theorem State.modSector_pendArg : (s.modSector d c f).pendArg = s.pendArg := rfl
@[simp] theorem State.modSector_queues : (s.modSector d c f).queues = s.queues := rfl
@[simp] theorem State.modSector_qWaiters : (s.modSector d c f).qWaiters = s.qWaiters := rfl
@[simp] theorem State.modSector_ring : (s.modSector d c f).ring = s.ring := rfl
@[simp] theorem State.modSector_nextXfer : (s.modSector d c f).nextXfer = s.nextXfer := rfl
@[simp] theorem State.modSector_legs : (s.modSector d c f).legs = s.legs := rfl
@[simp] theorem State.modSector_herdCopies : (s.modSector d c f).herdCopies = s.herdCopies := rfl
@[simp] theorem State.modSector_cpLast : (s.modSector d c f).cpLast = s.cpLast := rfl
@[simp] theorem State.modSector_flashRuns : (s.modSector d c f).flashRuns = s.flashRuns := rfl
@[simp] theorem State.modSector_recorder : (s.modSector d c f).recorder = s.recorder := rfl
@[simp] theorem State.modSector_latches : (s.modSector d c f).latches = s.latches := rfl
@[simp] theorem State.modSector_recQueue : (s.modSector d c f).recQueue = s.recQueue := rfl
@[simp] theorem State.modSector_mesh : (s.modSector d c f).mesh = s.mesh := rfl
@[simp] theorem State.modSector_doms : (s.modSector d c f).doms = s.doms := rfl
@[simp] theorem State.modSector_herds : (s.modSector d c f).herds = s.herds := rfl
@[simp] theorem State.modSector_oscs : (s.modSector d c f).oscs = s.oscs := rfl
@[simp] theorem State.modSector_regs : (s.modSector d c f).regs = s.regs := rfl
@[simp] theorem State.modSector_drvs : (s.modSector d c f).drvs = s.drvs := rfl
@[simp] theorem State.modSector_chops : (s.modSector d c f).chops = s.chops := rfl
@[simp] theorem State.modSector_grds : (s.modSector d c f).grds = s.grds := rfl
@[simp] theorem State.modSector_trks : (s.modSector d c f).trks = s.trks := rfl
@[simp] theorem State.modSector_adcs : (s.modSector d c f).adcs = s.adcs := rfl
@[simp] theorem State.modSector_mods : (s.modSector d c f).mods = s.mods := rfl
@[simp] theorem State.modSector_refs : (s.modSector d c f).refs = s.refs := rfl
@[simp] theorem State.modSector_answer : (s.modSector d c f).answer = s.answer := rfl
@[simp] theorem State.modSector_posPrev : (s.modSector d c f).posPrev = s.posPrev := rfl
@[simp] theorem State.modSector_meters : (s.modSector d c f).meters = s.meters := rfl
@[simp] theorem State.modSector_pulses : (s.modSector d c f).pulses = s.pulses := rfl
@[simp] theorem State.modSector_s0s : (s.modSector d c f).s0s = s.s0s := rfl
@[simp] theorem State.modSector_safety : (s.modSector d c f).safety = s.safety := rfl
@[simp] theorem State.modSector_aonRun : (s.modSector d c f).aonRun = s.aonRun := rfl
@[simp] theorem State.modSector_ramps : (s.modSector d c f).ramps = s.ramps := rfl
@[simp] theorem State.modSector_boot : (s.modSector d c f).boot = s.boot := rfl
@[simp] theorem State.modSector_answerSt : (s.modSector d c f).answerSt = s.answerSt := rfl
@[simp] theorem State.modSector_whistleAt : (s.modSector d c f).whistleAt = s.whistleAt := rfl
@[simp] theorem State.modSector_chain : (s.modSector d c f).chain = s.chain := rfl
@[simp] theorem State.modSector_pmbPage : (s.modSector d c f).pmbPage = s.pmbPage := rfl
@[simp] theorem State.modSector_canOff : (s.modSector d c f).canOff = s.canOff := rfl
@[simp] theorem State.modSector_spiLast : (s.modSector d c f).spiLast = s.spiLast := rfl
@[simp] theorem State.modSector_tap : (s.modSector d c f).tap = s.tap := rfl
@[simp] theorem State.modSector_slotWrites : (s.modSector d c f).slotWrites = s.slotWrites := rfl
@[simp] theorem State.modSector_cmps : (s.modSector d c f).cmps = s.cmps := rfl
@[simp] theorem State.modSector_dispatched : (s.modSector d c f).dispatched = s.dispatched := rfl
@[simp] theorem State.modSector_otpKey : (s.modSector d c f).otpKey = s.otpKey := rfl
@[simp] theorem State.modSector_pointsHeld : (s.modSector d c f).pointsHeld = s.pointsHeld := rfl
@[simp] theorem State.modSector_spiOut : (s.modSector d c f).spiOut = s.spiOut := rfl
@[simp] theorem State.modSector_pec : (s.modSector d c f).pec = s.pec := rfl
@[simp] theorem State.modSector_bursts : (s.modSector d c f).bursts = s.bursts := rfl
end

/-! ### `State.modRec` -/

section
variable (s : State) (f : Recorder → Recorder)
@[simp] theorem State.modRec_member : (s.modRec f).member = s.member := rfl
@[simp] theorem State.modRec_pending : (s.modRec f).pending = s.pending := rfl
@[simp] theorem State.modRec_fresh : (s.modRec f).fresh = s.fresh := rfl
@[simp] theorem State.modRec_cells : (s.modRec f).cells = s.cells := rfl
@[simp] theorem State.modRec_shadow : (s.modRec f).shadow = s.shadow := rfl
@[simp] theorem State.modRec_points : (s.modRec f).points = s.points := rfl
@[simp] theorem State.modRec_program : (s.modRec f).program = s.program := rfl
@[simp] theorem State.modRec_priv : (s.modRec f).priv = s.priv := rfl
@[simp] theorem State.modRec_shared : (s.modRec f).shared = s.shared := rfl
@[simp] theorem State.modRec_capture : (s.modRec f).capture = s.capture := rfl
@[simp] theorem State.modRec_flash : (s.modRec f).flash = s.flash := rfl
@[simp] theorem State.modRec_sectors : (s.modRec f).sectors = s.sectors := rfl
@[simp] theorem State.modRec_dieRuns : (s.modRec f).dieRuns = s.dieRuns := rfl
@[simp] theorem State.modRec_bases : (s.modRec f).bases = s.bases := rfl
@[simp] theorem State.modRec_trackers : (s.modRec f).trackers = s.trackers := rfl
@[simp] theorem State.modRec_engines : (s.modRec f).engines = s.engines := rfl
@[simp] theorem State.modRec_taskStk : (s.modRec f).taskStk = s.taskStk := rfl
@[simp] theorem State.modRec_pendArg : (s.modRec f).pendArg = s.pendArg := rfl
@[simp] theorem State.modRec_queues : (s.modRec f).queues = s.queues := rfl
@[simp] theorem State.modRec_qWaiters : (s.modRec f).qWaiters = s.qWaiters := rfl
@[simp] theorem State.modRec_ring : (s.modRec f).ring = s.ring := rfl
@[simp] theorem State.modRec_nextXfer : (s.modRec f).nextXfer = s.nextXfer := rfl
@[simp] theorem State.modRec_legs : (s.modRec f).legs = s.legs := rfl
@[simp] theorem State.modRec_herdCopies : (s.modRec f).herdCopies = s.herdCopies := rfl
@[simp] theorem State.modRec_cpLast : (s.modRec f).cpLast = s.cpLast := rfl
@[simp] theorem State.modRec_flashRuns : (s.modRec f).flashRuns = s.flashRuns := rfl
@[simp] theorem State.modRec_latches : (s.modRec f).latches = s.latches := rfl
@[simp] theorem State.modRec_recQueue : (s.modRec f).recQueue = s.recQueue := rfl
@[simp] theorem State.modRec_mesh : (s.modRec f).mesh = s.mesh := rfl
@[simp] theorem State.modRec_doms : (s.modRec f).doms = s.doms := rfl
@[simp] theorem State.modRec_herds : (s.modRec f).herds = s.herds := rfl
@[simp] theorem State.modRec_oscs : (s.modRec f).oscs = s.oscs := rfl
@[simp] theorem State.modRec_regs : (s.modRec f).regs = s.regs := rfl
@[simp] theorem State.modRec_drvs : (s.modRec f).drvs = s.drvs := rfl
@[simp] theorem State.modRec_chops : (s.modRec f).chops = s.chops := rfl
@[simp] theorem State.modRec_grds : (s.modRec f).grds = s.grds := rfl
@[simp] theorem State.modRec_trks : (s.modRec f).trks = s.trks := rfl
@[simp] theorem State.modRec_adcs : (s.modRec f).adcs = s.adcs := rfl
@[simp] theorem State.modRec_mods : (s.modRec f).mods = s.mods := rfl
@[simp] theorem State.modRec_refs : (s.modRec f).refs = s.refs := rfl
@[simp] theorem State.modRec_answer : (s.modRec f).answer = s.answer := rfl
@[simp] theorem State.modRec_posPrev : (s.modRec f).posPrev = s.posPrev := rfl
@[simp] theorem State.modRec_meters : (s.modRec f).meters = s.meters := rfl
@[simp] theorem State.modRec_pulses : (s.modRec f).pulses = s.pulses := rfl
@[simp] theorem State.modRec_s0s : (s.modRec f).s0s = s.s0s := rfl
@[simp] theorem State.modRec_safety : (s.modRec f).safety = s.safety := rfl
@[simp] theorem State.modRec_aonRun : (s.modRec f).aonRun = s.aonRun := rfl
@[simp] theorem State.modRec_ramps : (s.modRec f).ramps = s.ramps := rfl
@[simp] theorem State.modRec_boot : (s.modRec f).boot = s.boot := rfl
@[simp] theorem State.modRec_answerSt : (s.modRec f).answerSt = s.answerSt := rfl
@[simp] theorem State.modRec_whistleAt : (s.modRec f).whistleAt = s.whistleAt := rfl
@[simp] theorem State.modRec_chain : (s.modRec f).chain = s.chain := rfl
@[simp] theorem State.modRec_pmbPage : (s.modRec f).pmbPage = s.pmbPage := rfl
@[simp] theorem State.modRec_canOff : (s.modRec f).canOff = s.canOff := rfl
@[simp] theorem State.modRec_spiLast : (s.modRec f).spiLast = s.spiLast := rfl
@[simp] theorem State.modRec_tap : (s.modRec f).tap = s.tap := rfl
@[simp] theorem State.modRec_slotWrites : (s.modRec f).slotWrites = s.slotWrites := rfl
@[simp] theorem State.modRec_cmps : (s.modRec f).cmps = s.cmps := rfl
@[simp] theorem State.modRec_dispatched : (s.modRec f).dispatched = s.dispatched := rfl
@[simp] theorem State.modRec_otpKey : (s.modRec f).otpKey = s.otpKey := rfl
@[simp] theorem State.modRec_pointsHeld : (s.modRec f).pointsHeld = s.pointsHeld := rfl
@[simp] theorem State.modRec_spiOut : (s.modRec f).spiOut = s.spiOut := rfl
@[simp] theorem State.modRec_pec : (s.modRec f).pec = s.pec := rfl
@[simp] theorem State.modRec_bursts : (s.modRec f).bursts = s.bursts := rfl
end

/-! ### `State.modAon` -/

section
variable (s : State) (f : AonRun → AonRun)
@[simp] theorem State.modAon_member : (s.modAon f).member = s.member := rfl
@[simp] theorem State.modAon_pending : (s.modAon f).pending = s.pending := rfl
@[simp] theorem State.modAon_fresh : (s.modAon f).fresh = s.fresh := rfl
@[simp] theorem State.modAon_cells : (s.modAon f).cells = s.cells := rfl
@[simp] theorem State.modAon_shadow : (s.modAon f).shadow = s.shadow := rfl
@[simp] theorem State.modAon_points : (s.modAon f).points = s.points := rfl
@[simp] theorem State.modAon_program : (s.modAon f).program = s.program := rfl
@[simp] theorem State.modAon_priv : (s.modAon f).priv = s.priv := rfl
@[simp] theorem State.modAon_shared : (s.modAon f).shared = s.shared := rfl
@[simp] theorem State.modAon_capture : (s.modAon f).capture = s.capture := rfl
@[simp] theorem State.modAon_flash : (s.modAon f).flash = s.flash := rfl
@[simp] theorem State.modAon_sectors : (s.modAon f).sectors = s.sectors := rfl
@[simp] theorem State.modAon_dieRuns : (s.modAon f).dieRuns = s.dieRuns := rfl
@[simp] theorem State.modAon_bases : (s.modAon f).bases = s.bases := rfl
@[simp] theorem State.modAon_trackers : (s.modAon f).trackers = s.trackers := rfl
@[simp] theorem State.modAon_engines : (s.modAon f).engines = s.engines := rfl
@[simp] theorem State.modAon_taskStk : (s.modAon f).taskStk = s.taskStk := rfl
@[simp] theorem State.modAon_pendArg : (s.modAon f).pendArg = s.pendArg := rfl
@[simp] theorem State.modAon_queues : (s.modAon f).queues = s.queues := rfl
@[simp] theorem State.modAon_qWaiters : (s.modAon f).qWaiters = s.qWaiters := rfl
@[simp] theorem State.modAon_ring : (s.modAon f).ring = s.ring := rfl
@[simp] theorem State.modAon_nextXfer : (s.modAon f).nextXfer = s.nextXfer := rfl
@[simp] theorem State.modAon_legs : (s.modAon f).legs = s.legs := rfl
@[simp] theorem State.modAon_herdCopies : (s.modAon f).herdCopies = s.herdCopies := rfl
@[simp] theorem State.modAon_cpLast : (s.modAon f).cpLast = s.cpLast := rfl
@[simp] theorem State.modAon_flashRuns : (s.modAon f).flashRuns = s.flashRuns := rfl
@[simp] theorem State.modAon_recorder : (s.modAon f).recorder = s.recorder := rfl
@[simp] theorem State.modAon_latches : (s.modAon f).latches = s.latches := rfl
@[simp] theorem State.modAon_recQueue : (s.modAon f).recQueue = s.recQueue := rfl
@[simp] theorem State.modAon_mesh : (s.modAon f).mesh = s.mesh := rfl
@[simp] theorem State.modAon_doms : (s.modAon f).doms = s.doms := rfl
@[simp] theorem State.modAon_herds : (s.modAon f).herds = s.herds := rfl
@[simp] theorem State.modAon_oscs : (s.modAon f).oscs = s.oscs := rfl
@[simp] theorem State.modAon_regs : (s.modAon f).regs = s.regs := rfl
@[simp] theorem State.modAon_drvs : (s.modAon f).drvs = s.drvs := rfl
@[simp] theorem State.modAon_chops : (s.modAon f).chops = s.chops := rfl
@[simp] theorem State.modAon_grds : (s.modAon f).grds = s.grds := rfl
@[simp] theorem State.modAon_trks : (s.modAon f).trks = s.trks := rfl
@[simp] theorem State.modAon_adcs : (s.modAon f).adcs = s.adcs := rfl
@[simp] theorem State.modAon_mods : (s.modAon f).mods = s.mods := rfl
@[simp] theorem State.modAon_refs : (s.modAon f).refs = s.refs := rfl
@[simp] theorem State.modAon_answer : (s.modAon f).answer = s.answer := rfl
@[simp] theorem State.modAon_posPrev : (s.modAon f).posPrev = s.posPrev := rfl
@[simp] theorem State.modAon_meters : (s.modAon f).meters = s.meters := rfl
@[simp] theorem State.modAon_pulses : (s.modAon f).pulses = s.pulses := rfl
@[simp] theorem State.modAon_s0s : (s.modAon f).s0s = s.s0s := rfl
@[simp] theorem State.modAon_safety : (s.modAon f).safety = s.safety := rfl
@[simp] theorem State.modAon_ramps : (s.modAon f).ramps = s.ramps := rfl
@[simp] theorem State.modAon_boot : (s.modAon f).boot = s.boot := rfl
@[simp] theorem State.modAon_answerSt : (s.modAon f).answerSt = s.answerSt := rfl
@[simp] theorem State.modAon_whistleAt : (s.modAon f).whistleAt = s.whistleAt := rfl
@[simp] theorem State.modAon_chain : (s.modAon f).chain = s.chain := rfl
@[simp] theorem State.modAon_pmbPage : (s.modAon f).pmbPage = s.pmbPage := rfl
@[simp] theorem State.modAon_canOff : (s.modAon f).canOff = s.canOff := rfl
@[simp] theorem State.modAon_spiLast : (s.modAon f).spiLast = s.spiLast := rfl
@[simp] theorem State.modAon_tap : (s.modAon f).tap = s.tap := rfl
@[simp] theorem State.modAon_slotWrites : (s.modAon f).slotWrites = s.slotWrites := rfl
@[simp] theorem State.modAon_cmps : (s.modAon f).cmps = s.cmps := rfl
@[simp] theorem State.modAon_dispatched : (s.modAon f).dispatched = s.dispatched := rfl
@[simp] theorem State.modAon_otpKey : (s.modAon f).otpKey = s.otpKey := rfl
@[simp] theorem State.modAon_pointsHeld : (s.modAon f).pointsHeld = s.pointsHeld := rfl
@[simp] theorem State.modAon_spiOut : (s.modAon f).spiOut = s.spiOut := rfl
@[simp] theorem State.modAon_pec : (s.modAon f).pec = s.pec := rfl
@[simp] theorem State.modAon_bursts : (s.modAon f).bursts = s.bursts := rfl
end

/-! ### `State.modBoot` -/

section
variable (s : State) (f : BootRun → BootRun)
@[simp] theorem State.modBoot_member : (s.modBoot f).member = s.member := rfl
@[simp] theorem State.modBoot_pending : (s.modBoot f).pending = s.pending := rfl
@[simp] theorem State.modBoot_fresh : (s.modBoot f).fresh = s.fresh := rfl
@[simp] theorem State.modBoot_cells : (s.modBoot f).cells = s.cells := rfl
@[simp] theorem State.modBoot_shadow : (s.modBoot f).shadow = s.shadow := rfl
@[simp] theorem State.modBoot_points : (s.modBoot f).points = s.points := rfl
@[simp] theorem State.modBoot_program : (s.modBoot f).program = s.program := rfl
@[simp] theorem State.modBoot_priv : (s.modBoot f).priv = s.priv := rfl
@[simp] theorem State.modBoot_shared : (s.modBoot f).shared = s.shared := rfl
@[simp] theorem State.modBoot_capture : (s.modBoot f).capture = s.capture := rfl
@[simp] theorem State.modBoot_flash : (s.modBoot f).flash = s.flash := rfl
@[simp] theorem State.modBoot_sectors : (s.modBoot f).sectors = s.sectors := rfl
@[simp] theorem State.modBoot_dieRuns : (s.modBoot f).dieRuns = s.dieRuns := rfl
@[simp] theorem State.modBoot_bases : (s.modBoot f).bases = s.bases := rfl
@[simp] theorem State.modBoot_trackers : (s.modBoot f).trackers = s.trackers := rfl
@[simp] theorem State.modBoot_engines : (s.modBoot f).engines = s.engines := rfl
@[simp] theorem State.modBoot_taskStk : (s.modBoot f).taskStk = s.taskStk := rfl
@[simp] theorem State.modBoot_pendArg : (s.modBoot f).pendArg = s.pendArg := rfl
@[simp] theorem State.modBoot_queues : (s.modBoot f).queues = s.queues := rfl
@[simp] theorem State.modBoot_qWaiters : (s.modBoot f).qWaiters = s.qWaiters := rfl
@[simp] theorem State.modBoot_ring : (s.modBoot f).ring = s.ring := rfl
@[simp] theorem State.modBoot_nextXfer : (s.modBoot f).nextXfer = s.nextXfer := rfl
@[simp] theorem State.modBoot_legs : (s.modBoot f).legs = s.legs := rfl
@[simp] theorem State.modBoot_herdCopies : (s.modBoot f).herdCopies = s.herdCopies := rfl
@[simp] theorem State.modBoot_cpLast : (s.modBoot f).cpLast = s.cpLast := rfl
@[simp] theorem State.modBoot_flashRuns : (s.modBoot f).flashRuns = s.flashRuns := rfl
@[simp] theorem State.modBoot_recorder : (s.modBoot f).recorder = s.recorder := rfl
@[simp] theorem State.modBoot_latches : (s.modBoot f).latches = s.latches := rfl
@[simp] theorem State.modBoot_recQueue : (s.modBoot f).recQueue = s.recQueue := rfl
@[simp] theorem State.modBoot_mesh : (s.modBoot f).mesh = s.mesh := rfl
@[simp] theorem State.modBoot_doms : (s.modBoot f).doms = s.doms := rfl
@[simp] theorem State.modBoot_herds : (s.modBoot f).herds = s.herds := rfl
@[simp] theorem State.modBoot_oscs : (s.modBoot f).oscs = s.oscs := rfl
@[simp] theorem State.modBoot_regs : (s.modBoot f).regs = s.regs := rfl
@[simp] theorem State.modBoot_drvs : (s.modBoot f).drvs = s.drvs := rfl
@[simp] theorem State.modBoot_chops : (s.modBoot f).chops = s.chops := rfl
@[simp] theorem State.modBoot_grds : (s.modBoot f).grds = s.grds := rfl
@[simp] theorem State.modBoot_trks : (s.modBoot f).trks = s.trks := rfl
@[simp] theorem State.modBoot_adcs : (s.modBoot f).adcs = s.adcs := rfl
@[simp] theorem State.modBoot_mods : (s.modBoot f).mods = s.mods := rfl
@[simp] theorem State.modBoot_refs : (s.modBoot f).refs = s.refs := rfl
@[simp] theorem State.modBoot_answer : (s.modBoot f).answer = s.answer := rfl
@[simp] theorem State.modBoot_posPrev : (s.modBoot f).posPrev = s.posPrev := rfl
@[simp] theorem State.modBoot_meters : (s.modBoot f).meters = s.meters := rfl
@[simp] theorem State.modBoot_pulses : (s.modBoot f).pulses = s.pulses := rfl
@[simp] theorem State.modBoot_s0s : (s.modBoot f).s0s = s.s0s := rfl
@[simp] theorem State.modBoot_safety : (s.modBoot f).safety = s.safety := rfl
@[simp] theorem State.modBoot_aonRun : (s.modBoot f).aonRun = s.aonRun := rfl
@[simp] theorem State.modBoot_ramps : (s.modBoot f).ramps = s.ramps := rfl
@[simp] theorem State.modBoot_answerSt : (s.modBoot f).answerSt = s.answerSt := rfl
@[simp] theorem State.modBoot_whistleAt : (s.modBoot f).whistleAt = s.whistleAt := rfl
@[simp] theorem State.modBoot_chain : (s.modBoot f).chain = s.chain := rfl
@[simp] theorem State.modBoot_pmbPage : (s.modBoot f).pmbPage = s.pmbPage := rfl
@[simp] theorem State.modBoot_canOff : (s.modBoot f).canOff = s.canOff := rfl
@[simp] theorem State.modBoot_spiLast : (s.modBoot f).spiLast = s.spiLast := rfl
@[simp] theorem State.modBoot_tap : (s.modBoot f).tap = s.tap := rfl
@[simp] theorem State.modBoot_slotWrites : (s.modBoot f).slotWrites = s.slotWrites := rfl
@[simp] theorem State.modBoot_cmps : (s.modBoot f).cmps = s.cmps := rfl
@[simp] theorem State.modBoot_dispatched : (s.modBoot f).dispatched = s.dispatched := rfl
@[simp] theorem State.modBoot_otpKey : (s.modBoot f).otpKey = s.otpKey := rfl
@[simp] theorem State.modBoot_pointsHeld : (s.modBoot f).pointsHeld = s.pointsHeld := rfl
@[simp] theorem State.modBoot_spiOut : (s.modBoot f).spiOut = s.spiOut := rfl
@[simp] theorem State.modBoot_pec : (s.modBoot f).pec = s.pec := rfl
@[simp] theorem State.modBoot_bursts : (s.modBoot f).bursts = s.bursts := rfl
end

/-! ### `State.modChain` -/

section
variable (s : State) (f : ChainRun → ChainRun)
@[simp] theorem State.modChain_member : (s.modChain f).member = s.member := rfl
@[simp] theorem State.modChain_pending : (s.modChain f).pending = s.pending := rfl
@[simp] theorem State.modChain_fresh : (s.modChain f).fresh = s.fresh := rfl
@[simp] theorem State.modChain_cells : (s.modChain f).cells = s.cells := rfl
@[simp] theorem State.modChain_shadow : (s.modChain f).shadow = s.shadow := rfl
@[simp] theorem State.modChain_points : (s.modChain f).points = s.points := rfl
@[simp] theorem State.modChain_program : (s.modChain f).program = s.program := rfl
@[simp] theorem State.modChain_priv : (s.modChain f).priv = s.priv := rfl
@[simp] theorem State.modChain_shared : (s.modChain f).shared = s.shared := rfl
@[simp] theorem State.modChain_capture : (s.modChain f).capture = s.capture := rfl
@[simp] theorem State.modChain_flash : (s.modChain f).flash = s.flash := rfl
@[simp] theorem State.modChain_sectors : (s.modChain f).sectors = s.sectors := rfl
@[simp] theorem State.modChain_dieRuns : (s.modChain f).dieRuns = s.dieRuns := rfl
@[simp] theorem State.modChain_bases : (s.modChain f).bases = s.bases := rfl
@[simp] theorem State.modChain_trackers : (s.modChain f).trackers = s.trackers := rfl
@[simp] theorem State.modChain_engines : (s.modChain f).engines = s.engines := rfl
@[simp] theorem State.modChain_taskStk : (s.modChain f).taskStk = s.taskStk := rfl
@[simp] theorem State.modChain_pendArg : (s.modChain f).pendArg = s.pendArg := rfl
@[simp] theorem State.modChain_queues : (s.modChain f).queues = s.queues := rfl
@[simp] theorem State.modChain_qWaiters : (s.modChain f).qWaiters = s.qWaiters := rfl
@[simp] theorem State.modChain_ring : (s.modChain f).ring = s.ring := rfl
@[simp] theorem State.modChain_nextXfer : (s.modChain f).nextXfer = s.nextXfer := rfl
@[simp] theorem State.modChain_legs : (s.modChain f).legs = s.legs := rfl
@[simp] theorem State.modChain_herdCopies : (s.modChain f).herdCopies = s.herdCopies := rfl
@[simp] theorem State.modChain_cpLast : (s.modChain f).cpLast = s.cpLast := rfl
@[simp] theorem State.modChain_flashRuns : (s.modChain f).flashRuns = s.flashRuns := rfl
@[simp] theorem State.modChain_recorder : (s.modChain f).recorder = s.recorder := rfl
@[simp] theorem State.modChain_latches : (s.modChain f).latches = s.latches := rfl
@[simp] theorem State.modChain_recQueue : (s.modChain f).recQueue = s.recQueue := rfl
@[simp] theorem State.modChain_mesh : (s.modChain f).mesh = s.mesh := rfl
@[simp] theorem State.modChain_doms : (s.modChain f).doms = s.doms := rfl
@[simp] theorem State.modChain_herds : (s.modChain f).herds = s.herds := rfl
@[simp] theorem State.modChain_oscs : (s.modChain f).oscs = s.oscs := rfl
@[simp] theorem State.modChain_regs : (s.modChain f).regs = s.regs := rfl
@[simp] theorem State.modChain_drvs : (s.modChain f).drvs = s.drvs := rfl
@[simp] theorem State.modChain_chops : (s.modChain f).chops = s.chops := rfl
@[simp] theorem State.modChain_grds : (s.modChain f).grds = s.grds := rfl
@[simp] theorem State.modChain_trks : (s.modChain f).trks = s.trks := rfl
@[simp] theorem State.modChain_adcs : (s.modChain f).adcs = s.adcs := rfl
@[simp] theorem State.modChain_mods : (s.modChain f).mods = s.mods := rfl
@[simp] theorem State.modChain_refs : (s.modChain f).refs = s.refs := rfl
@[simp] theorem State.modChain_answer : (s.modChain f).answer = s.answer := rfl
@[simp] theorem State.modChain_posPrev : (s.modChain f).posPrev = s.posPrev := rfl
@[simp] theorem State.modChain_meters : (s.modChain f).meters = s.meters := rfl
@[simp] theorem State.modChain_pulses : (s.modChain f).pulses = s.pulses := rfl
@[simp] theorem State.modChain_s0s : (s.modChain f).s0s = s.s0s := rfl
@[simp] theorem State.modChain_safety : (s.modChain f).safety = s.safety := rfl
@[simp] theorem State.modChain_aonRun : (s.modChain f).aonRun = s.aonRun := rfl
@[simp] theorem State.modChain_ramps : (s.modChain f).ramps = s.ramps := rfl
@[simp] theorem State.modChain_boot : (s.modChain f).boot = s.boot := rfl
@[simp] theorem State.modChain_answerSt : (s.modChain f).answerSt = s.answerSt := rfl
@[simp] theorem State.modChain_whistleAt : (s.modChain f).whistleAt = s.whistleAt := rfl
@[simp] theorem State.modChain_pmbPage : (s.modChain f).pmbPage = s.pmbPage := rfl
@[simp] theorem State.modChain_canOff : (s.modChain f).canOff = s.canOff := rfl
@[simp] theorem State.modChain_spiLast : (s.modChain f).spiLast = s.spiLast := rfl
@[simp] theorem State.modChain_tap : (s.modChain f).tap = s.tap := rfl
@[simp] theorem State.modChain_slotWrites : (s.modChain f).slotWrites = s.slotWrites := rfl
@[simp] theorem State.modChain_cmps : (s.modChain f).cmps = s.cmps := rfl
@[simp] theorem State.modChain_dispatched : (s.modChain f).dispatched = s.dispatched := rfl
@[simp] theorem State.modChain_otpKey : (s.modChain f).otpKey = s.otpKey := rfl
@[simp] theorem State.modChain_pointsHeld : (s.modChain f).pointsHeld = s.pointsHeld := rfl
@[simp] theorem State.modChain_spiOut : (s.modChain f).spiOut = s.spiOut := rfl
@[simp] theorem State.modChain_pec : (s.modChain f).pec = s.pec := rfl
@[simp] theorem State.modChain_bursts : (s.modChain f).bursts = s.bursts := rfl
end

/-! ### `State.modSafety` -/

section
variable (s : State) (f : SafetyRun → SafetyRun)
@[simp] theorem State.modSafety_member : (s.modSafety f).member = s.member := rfl
@[simp] theorem State.modSafety_pending : (s.modSafety f).pending = s.pending := rfl
@[simp] theorem State.modSafety_fresh : (s.modSafety f).fresh = s.fresh := rfl
@[simp] theorem State.modSafety_cells : (s.modSafety f).cells = s.cells := rfl
@[simp] theorem State.modSafety_shadow : (s.modSafety f).shadow = s.shadow := rfl
@[simp] theorem State.modSafety_points : (s.modSafety f).points = s.points := rfl
@[simp] theorem State.modSafety_program : (s.modSafety f).program = s.program := rfl
@[simp] theorem State.modSafety_priv : (s.modSafety f).priv = s.priv := rfl
@[simp] theorem State.modSafety_shared : (s.modSafety f).shared = s.shared := rfl
@[simp] theorem State.modSafety_capture : (s.modSafety f).capture = s.capture := rfl
@[simp] theorem State.modSafety_flash : (s.modSafety f).flash = s.flash := rfl
@[simp] theorem State.modSafety_sectors : (s.modSafety f).sectors = s.sectors := rfl
@[simp] theorem State.modSafety_dieRuns : (s.modSafety f).dieRuns = s.dieRuns := rfl
@[simp] theorem State.modSafety_bases : (s.modSafety f).bases = s.bases := rfl
@[simp] theorem State.modSafety_trackers : (s.modSafety f).trackers = s.trackers := rfl
@[simp] theorem State.modSafety_engines : (s.modSafety f).engines = s.engines := rfl
@[simp] theorem State.modSafety_taskStk : (s.modSafety f).taskStk = s.taskStk := rfl
@[simp] theorem State.modSafety_pendArg : (s.modSafety f).pendArg = s.pendArg := rfl
@[simp] theorem State.modSafety_queues : (s.modSafety f).queues = s.queues := rfl
@[simp] theorem State.modSafety_qWaiters : (s.modSafety f).qWaiters = s.qWaiters := rfl
@[simp] theorem State.modSafety_ring : (s.modSafety f).ring = s.ring := rfl
@[simp] theorem State.modSafety_nextXfer : (s.modSafety f).nextXfer = s.nextXfer := rfl
@[simp] theorem State.modSafety_legs : (s.modSafety f).legs = s.legs := rfl
@[simp] theorem State.modSafety_herdCopies : (s.modSafety f).herdCopies = s.herdCopies := rfl
@[simp] theorem State.modSafety_cpLast : (s.modSafety f).cpLast = s.cpLast := rfl
@[simp] theorem State.modSafety_flashRuns : (s.modSafety f).flashRuns = s.flashRuns := rfl
@[simp] theorem State.modSafety_recorder : (s.modSafety f).recorder = s.recorder := rfl
@[simp] theorem State.modSafety_latches : (s.modSafety f).latches = s.latches := rfl
@[simp] theorem State.modSafety_recQueue : (s.modSafety f).recQueue = s.recQueue := rfl
@[simp] theorem State.modSafety_mesh : (s.modSafety f).mesh = s.mesh := rfl
@[simp] theorem State.modSafety_doms : (s.modSafety f).doms = s.doms := rfl
@[simp] theorem State.modSafety_herds : (s.modSafety f).herds = s.herds := rfl
@[simp] theorem State.modSafety_oscs : (s.modSafety f).oscs = s.oscs := rfl
@[simp] theorem State.modSafety_regs : (s.modSafety f).regs = s.regs := rfl
@[simp] theorem State.modSafety_drvs : (s.modSafety f).drvs = s.drvs := rfl
@[simp] theorem State.modSafety_chops : (s.modSafety f).chops = s.chops := rfl
@[simp] theorem State.modSafety_grds : (s.modSafety f).grds = s.grds := rfl
@[simp] theorem State.modSafety_trks : (s.modSafety f).trks = s.trks := rfl
@[simp] theorem State.modSafety_adcs : (s.modSafety f).adcs = s.adcs := rfl
@[simp] theorem State.modSafety_mods : (s.modSafety f).mods = s.mods := rfl
@[simp] theorem State.modSafety_refs : (s.modSafety f).refs = s.refs := rfl
@[simp] theorem State.modSafety_answer : (s.modSafety f).answer = s.answer := rfl
@[simp] theorem State.modSafety_posPrev : (s.modSafety f).posPrev = s.posPrev := rfl
@[simp] theorem State.modSafety_meters : (s.modSafety f).meters = s.meters := rfl
@[simp] theorem State.modSafety_pulses : (s.modSafety f).pulses = s.pulses := rfl
@[simp] theorem State.modSafety_s0s : (s.modSafety f).s0s = s.s0s := rfl
@[simp] theorem State.modSafety_aonRun : (s.modSafety f).aonRun = s.aonRun := rfl
@[simp] theorem State.modSafety_ramps : (s.modSafety f).ramps = s.ramps := rfl
@[simp] theorem State.modSafety_boot : (s.modSafety f).boot = s.boot := rfl
@[simp] theorem State.modSafety_answerSt : (s.modSafety f).answerSt = s.answerSt := rfl
@[simp] theorem State.modSafety_whistleAt : (s.modSafety f).whistleAt = s.whistleAt := rfl
@[simp] theorem State.modSafety_chain : (s.modSafety f).chain = s.chain := rfl
@[simp] theorem State.modSafety_pmbPage : (s.modSafety f).pmbPage = s.pmbPage := rfl
@[simp] theorem State.modSafety_canOff : (s.modSafety f).canOff = s.canOff := rfl
@[simp] theorem State.modSafety_spiLast : (s.modSafety f).spiLast = s.spiLast := rfl
@[simp] theorem State.modSafety_tap : (s.modSafety f).tap = s.tap := rfl
@[simp] theorem State.modSafety_slotWrites : (s.modSafety f).slotWrites = s.slotWrites := rfl
@[simp] theorem State.modSafety_cmps : (s.modSafety f).cmps = s.cmps := rfl
@[simp] theorem State.modSafety_dispatched : (s.modSafety f).dispatched = s.dispatched := rfl
@[simp] theorem State.modSafety_otpKey : (s.modSafety f).otpKey = s.otpKey := rfl
@[simp] theorem State.modSafety_pointsHeld : (s.modSafety f).pointsHeld = s.pointsHeld := rfl
@[simp] theorem State.modSafety_spiOut : (s.modSafety f).spiOut = s.spiOut := rfl
@[simp] theorem State.modSafety_pec : (s.modSafety f).pec = s.pec := rfl
@[simp] theorem State.modSafety_bursts : (s.modSafety f).bursts = s.bursts := rfl
end

/-! ### Reads after updates -/

/-- A register field read after it was put: the value cut to the field's width. -/
@[simp] theorem State.get_put_same (s : State) (F : Fld) (v d i j : Nat) :
    (s.put F v d i j).get F d i j = v % 2 ^ F.width := by
  simp [State.get, State.put]

/-- A put leaves every field with another key. -/
theorem State.get_put_other (s : State) (F G : Fld) (v d i j d' i' j' : Nat) (h : G.key d' i' j' ≠ F.key d i j) :
    (s.put F v d i j).get G d' i' j' = s.get G d' i' j' := by
  simp [State.get, State.put, Store.get_set_other _ _ _ _ h]

/-- A shadow value read after it was put. -/
@[simp] theorem State.getSh_putSh_same (s : State) (F : Fld) (v d i j : Nat) :
    (s.putSh F v d i j).getSh F d i j = v % 2 ^ F.width := by
  simp [State.getSh, State.putSh]

/-- A put of a shadow leaves every shadow with another key. -/
theorem State.getSh_putSh_other (s : State) (F G : Fld) (v d i j d' i' j' : Nat) (h : G.key d' i' j' ≠ F.key d i j) :
    (s.putSh F v d i j).getSh G d' i' j' = s.getSh G d' i' j' := by
  simp [State.getSh, State.putSh, Store.get_set_other _ _ _ _ h]

/-- A put of a shadow leaves every register. -/
@[simp] theorem State.get_putSh (s : State) (F G : Fld) (v d i j d' i' j' : Nat) :
    (s.putSh F v d i j).get G d' i' j' = s.get G d' i' j' := rfl

/-- A put of a register leaves every shadow. -/
@[simp] theorem State.getSh_put (s : State) (F G : Fld) (v d i j d' i' j' : Nat) :
    (s.put F v d i j).getSh G d' i' j' = s.getSh G d' i' j' := rfl

@[simp] theorem State.die_modDie_same (s : State) (d : Nat) (f : DieRun → DieRun) :
    (s.modDie d f).die d = f (s.die d) := by simp [State.die, State.modDie]

theorem State.die_modDie_other (s : State) (d d' : Nat) (f : DieRun → DieRun) (hne : d' ≠ d) :
    (s.modDie d f).die d' = s.die d' := by simp [State.die, State.modDie, Store.get_set_other _ _ _ _ hne]

@[simp] theorem State.base_modBase_same (s : State) (d b : Nat) (f : Base → Base) :
    (s.modBase d b f).base d b = f (s.base d b) := by simp [State.base, State.modBase]

theorem State.base_modBase_other (s : State) (d b d' b' : Nat) (f : Base → Base) (hne : (d' * 16 + b') ≠ (d * 16 + b)) :
    (s.modBase d b f).base d' b' = s.base d' b' := by simp [State.base, State.modBase, Store.get_set_other _ _ _ _ hne]

@[simp] theorem State.tracker_modTracker_same (s : State) (d m : Nat) (f : Tracker → Tracker) :
    (s.modTracker d m f).tracker d m = f (s.tracker d m) := by simp [State.tracker, State.modTracker]

theorem State.tracker_modTracker_other (s : State) (d m d' m' : Nat) (f : Tracker → Tracker) (hne : (d' * 2 + m') ≠ (d * 2 + m)) :
    (s.modTracker d m f).tracker d' m' = s.tracker d' m' := by simp [State.tracker, State.modTracker, Store.get_set_other _ _ _ _ hne]

@[simp] theorem State.eng_modEng_same (s : State) (pe : Nat) (f : Engine → Engine) :
    (s.modEng pe f).eng pe = f (s.eng pe) := by simp [State.eng, State.modEng]

theorem State.eng_modEng_other (s : State) (pe pe' : Nat) (f : Engine → Engine) (hne : pe' ≠ pe) :
    (s.modEng pe f).eng pe' = s.eng pe' := by simp [State.eng, State.modEng, Store.get_set_other _ _ _ _ hne]

@[simp] theorem State.leg_modLeg_same (s : State) (d n : Nat) (f : Leg → Leg) :
    (s.modLeg d n f).leg d n = f (s.leg d n) := by simp [State.leg, State.modLeg]

theorem State.leg_modLeg_other (s : State) (d n d' n' : Nat) (f : Leg → Leg) (hne : (d' * 24 + n') ≠ (d * 24 + n)) :
    (s.modLeg d n f).leg d' n' = s.leg d' n' := by simp [State.leg, State.modLeg, Store.get_set_other _ _ _ _ hne]

@[simp] theorem State.flashRun_modFlash_same (s : State) (d : Nat) (f : FlashRun → FlashRun) :
    (s.modFlash d f).flashRun d = f (s.flashRun d) := by simp [State.flashRun, State.modFlash]

theorem State.flashRun_modFlash_other (s : State) (d d' : Nat) (f : FlashRun → FlashRun) (hne : d' ≠ d) :
    (s.modFlash d f).flashRun d' = s.flashRun d' := by simp [State.flashRun, State.modFlash, Store.get_set_other _ _ _ _ hne]

@[simp] theorem State.herd_modHerdRun_same (s : State) (h : Nat) (f : HerdRun → HerdRun) :
    (s.modHerdRun h f).herd h = f (s.herd h) := by simp [State.herd, State.modHerdRun]

theorem State.herd_modHerdRun_other (s : State) (h h' : Nat) (f : HerdRun → HerdRun) (hne : h' ≠ h) :
    (s.modHerdRun h f).herd h' = s.herd h' := by simp [State.herd, State.modHerdRun, Store.get_set_other _ _ _ _ hne]

@[simp] theorem State.osc_modOsc_same (s : State) (h c : Nat) (f : OscRun → OscRun) :
    (s.modOsc h c f).osc h c = f (s.osc h c) := by simp [State.osc, State.modOsc]

theorem State.osc_modOsc_other (s : State) (h c h' c' : Nat) (f : OscRun → OscRun) (hne : (h' * 4 + c') ≠ (h * 4 + c)) :
    (s.modOsc h c f).osc h' c' = s.osc h' c' := by simp [State.osc, State.modOsc, Store.get_set_other _ _ _ _ hne]

@[simp] theorem State.reg_modReg_same (s : State) (h : Nat) (f : RegRun → RegRun) :
    (s.modReg h f).reg h = f (s.reg h) := by simp [State.reg, State.modReg]

theorem State.reg_modReg_other (s : State) (h h' : Nat) (f : RegRun → RegRun) (hne : h' ≠ h) :
    (s.modReg h f).reg h' = s.reg h' := by simp [State.reg, State.modReg, Store.get_set_other _ _ _ _ hne]

@[simp] theorem State.drv_modDrv_same (s : State) (h : Nat) (f : DrvRun → DrvRun) :
    (s.modDrv h f).drv h = f (s.drv h) := by simp [State.drv, State.modDrv]

theorem State.drv_modDrv_other (s : State) (h h' : Nat) (f : DrvRun → DrvRun) (hne : h' ≠ h) :
    (s.modDrv h f).drv h' = s.drv h' := by simp [State.drv, State.modDrv, Store.get_set_other _ _ _ _ hne]

@[simp] theorem State.chop_modChop_same (s : State) (h : Nat) (f : ChopRun → ChopRun) :
    (s.modChop h f).chop h = f (s.chop h) := by simp [State.chop, State.modChop]

theorem State.chop_modChop_other (s : State) (h h' : Nat) (f : ChopRun → ChopRun) (hne : h' ≠ h) :
    (s.modChop h f).chop h' = s.chop h' := by simp [State.chop, State.modChop, Store.get_set_other _ _ _ _ hne]

@[simp] theorem State.grd_modGrd_same (s : State) (h : Nat) (f : GrdRun → GrdRun) :
    (s.modGrd h f).grd h = f (s.grd h) := by simp [State.grd, State.modGrd]

theorem State.grd_modGrd_other (s : State) (h h' : Nat) (f : GrdRun → GrdRun) (hne : h' ≠ h) :
    (s.modGrd h f).grd h' = s.grd h' := by simp [State.grd, State.modGrd, Store.get_set_other _ _ _ _ hne]

@[simp] theorem State.trk_modTrk_same (s : State) (h : Nat) (f : TrkRun → TrkRun) :
    (s.modTrk h f).trk h = f (s.trk h) := by simp [State.trk, State.modTrk]

theorem State.trk_modTrk_other (s : State) (h h' : Nat) (f : TrkRun → TrkRun) (hne : h' ≠ h) :
    (s.modTrk h f).trk h' = s.trk h' := by simp [State.trk, State.modTrk, Store.get_set_other _ _ _ _ hne]

@[simp] theorem State.dom_modDom_same (s : State) (d k : Nat) (f : DomRun → DomRun) :
    (s.modDom d k f).dom d k = f (s.dom d k) := by simp [State.dom, State.modDom]

theorem State.dom_modDom_other (s : State) (d k d' k' : Nat) (f : DomRun → DomRun) (hne : (d' * 16 + k') ≠ (d * 16 + k)) :
    (s.modDom d k f).dom d' k' = s.dom d' k' := by simp [State.dom, State.modDom, Store.get_set_other _ _ _ _ hne]

@[simp] theorem State.adc_modAdc_same (s : State) (d n : Nat) (f : AdcRun → AdcRun) :
    (s.modAdc d n f).adc d n = f (s.adc d n) := by simp [State.adc, State.modAdc]

theorem State.adc_modAdc_other (s : State) (d n d' n' : Nat) (f : AdcRun → AdcRun) (hne : (d' * 8 + n') ≠ (d * 8 + n)) :
    (s.modAdc d n f).adc d' n' = s.adc d' n' := by simp [State.adc, State.modAdc, Store.get_set_other _ _ _ _ hne]

@[simp] theorem State.meter_modMeter_same (s : State) (d u : Nat) (f : MeterRun → MeterRun) :
    (s.modMeter d u f).meter d u = f (s.meter d u) := by simp [State.meter, State.modMeter]

theorem State.meter_modMeter_other (s : State) (d u d' u' : Nat) (f : MeterRun → MeterRun) (hne : (d' * 2 + u') ≠ (d * 2 + u)) :
    (s.modMeter d u f).meter d' u' = s.meter d' u' := by simp [State.meter, State.modMeter, Store.get_set_other _ _ _ _ hne]

@[simp] theorem State.ref_modRef_same (s : State) (d : Nat) (f : RefRun → RefRun) :
    (s.modRef d f).ref d = f (s.ref d) := by simp [State.ref, State.modRef]

theorem State.ref_modRef_other (s : State) (d d' : Nat) (f : RefRun → RefRun) (hne : d' ≠ d) :
    (s.modRef d f).ref d' = s.ref d' := by simp [State.ref, State.modRef, Store.get_set_other _ _ _ _ hne]

@[simp] theorem State.modIn_modModIn_same (s : State) (d m : Nat) (f : ModRun → ModRun) :
    (s.modModIn d m f).modIn d m = f (s.modIn d m) := by simp [State.modIn, State.modModIn]

theorem State.modIn_modModIn_other (s : State) (d m d' m' : Nat) (f : ModRun → ModRun) (hne : (d' * 24 + m') ≠ (d * 24 + m)) :
    (s.modModIn d m f).modIn d' m' = s.modIn d' m' := by simp [State.modIn, State.modModIn, Store.get_set_other _ _ _ _ hne]

@[simp] theorem State.ramp_modRamp_same (s : State) (d r : Nat) (f : RampRun → RampRun) :
    (s.modRamp d r f).ramp d r = f (s.ramp d r) := by simp [State.ramp, State.modRamp]

theorem State.ramp_modRamp_other (s : State) (d r d' r' : Nat) (f : RampRun → RampRun) (hne : (d' * 2 + r') ≠ (d * 2 + r)) :
    (s.modRamp d r f).ramp d' r' = s.ramp d' r' := by simp [State.ramp, State.modRamp, Store.get_set_other _ _ _ _ hne]

@[simp] theorem State.pulse_modPulse_same (s : State) (d k : Nat) (f : PoRun → PoRun) :
    (s.modPulse d k f).pulse d k = f (s.pulse d k) := by simp [State.pulse, State.modPulse]

theorem State.pulse_modPulse_other (s : State) (d k d' k' : Nat) (f : PoRun → PoRun) (hne : (d' * 8 + k') ≠ (d * 8 + k)) :
    (s.modPulse d k f).pulse d' k' = s.pulse d' k' := by simp [State.pulse, State.modPulse, Store.get_set_other _ _ _ _ hne]

@[simp] theorem State.s0_modS0_same (s : State) (d k : Nat) (f : S0Run → S0Run) :
    (s.modS0 d k f).s0 d k = f (s.s0 d k) := by simp [State.s0, State.modS0]

theorem State.s0_modS0_other (s : State) (d k d' k' : Nat) (f : S0Run → S0Run) (hne : (d' * 8 + k') ≠ (d * 8 + k)) :
    (s.modS0 d k f).s0 d' k' = s.s0 d' k' := by simp [State.s0, State.modS0, Store.get_set_other _ _ _ _ hne]

@[simp] theorem State.sector_modSector_same (s : State) (d c : Nat) (f : SectorHdr → SectorHdr) :
    (s.modSector d c f).sector d c = f (s.sector d c) := by simp [State.sector, State.modSector]

theorem State.sector_modSector_other (s : State) (d c d' c' : Nat) (f : SectorHdr → SectorHdr) (hne : (d' * 256 + c') ≠ (d * 256 + c)) :
    (s.modSector d c f).sector d' c' = s.sector d' c' := by simp [State.sector, State.modSector, Store.get_set_other _ _ _ _ hne]

/-! ### Registers and engines through the updates of other units -/

@[simp] theorem State.get_modDie (s : State) (d : Nat) (f : DieRun → DieRun) (F : Fld) (d' i' j' : Nat) : (s.modDie d f).get F d' i' j' = s.get F d' i' j' := rfl
@[simp] theorem State.eng_modDie (s : State) (d : Nat) (f : DieRun → DieRun) (pe : Nat) : (s.modDie d f).eng pe = s.eng pe := rfl
@[simp] theorem State.get_modBase (s : State) (d b : Nat) (f : Base → Base) (F : Fld) (d' i' j' : Nat) : (s.modBase d b f).get F d' i' j' = s.get F d' i' j' := rfl
@[simp] theorem State.eng_modBase (s : State) (d b : Nat) (f : Base → Base) (pe : Nat) : (s.modBase d b f).eng pe = s.eng pe := rfl
@[simp] theorem State.get_modTracker (s : State) (d m : Nat) (f : Tracker → Tracker) (F : Fld) (d' i' j' : Nat) : (s.modTracker d m f).get F d' i' j' = s.get F d' i' j' := rfl
@[simp] theorem State.eng_modTracker (s : State) (d m : Nat) (f : Tracker → Tracker) (pe : Nat) : (s.modTracker d m f).eng pe = s.eng pe := rfl
@[simp] theorem State.get_modEng (s : State) (pe : Nat) (f : Engine → Engine) (F : Fld) (d i j : Nat) : (s.modEng pe f).get F d i j = s.get F d i j := rfl
@[simp] theorem State.get_modLeg (s : State) (d n : Nat) (f : Leg → Leg) (F : Fld) (d' i' j' : Nat) : (s.modLeg d n f).get F d' i' j' = s.get F d' i' j' := rfl
@[simp] theorem State.eng_modLeg (s : State) (d n : Nat) (f : Leg → Leg) (pe : Nat) : (s.modLeg d n f).eng pe = s.eng pe := rfl
@[simp] theorem State.get_modFlash (s : State) (d : Nat) (f : FlashRun → FlashRun) (F : Fld) (d' i' j' : Nat) : (s.modFlash d f).get F d' i' j' = s.get F d' i' j' := rfl
@[simp] theorem State.eng_modFlash (s : State) (d : Nat) (f : FlashRun → FlashRun) (pe : Nat) : (s.modFlash d f).eng pe = s.eng pe := rfl
@[simp] theorem State.get_modHerdRun (s : State) (h : Nat) (f : HerdRun → HerdRun) (F : Fld) (d i j : Nat) : (s.modHerdRun h f).get F d i j = s.get F d i j := rfl
@[simp] theorem State.eng_modHerdRun (s : State) (h : Nat) (f : HerdRun → HerdRun) (pe : Nat) : (s.modHerdRun h f).eng pe = s.eng pe := rfl
@[simp] theorem State.get_modOsc (s : State) (h c : Nat) (f : OscRun → OscRun) (F : Fld) (d i j : Nat) : (s.modOsc h c f).get F d i j = s.get F d i j := rfl
@[simp] theorem State.eng_modOsc (s : State) (h c : Nat) (f : OscRun → OscRun) (pe : Nat) : (s.modOsc h c f).eng pe = s.eng pe := rfl
@[simp] theorem State.get_modReg (s : State) (h : Nat) (f : RegRun → RegRun) (F : Fld) (d i j : Nat) : (s.modReg h f).get F d i j = s.get F d i j := rfl
@[simp] theorem State.eng_modReg (s : State) (h : Nat) (f : RegRun → RegRun) (pe : Nat) : (s.modReg h f).eng pe = s.eng pe := rfl
@[simp] theorem State.get_modDrv (s : State) (h : Nat) (f : DrvRun → DrvRun) (F : Fld) (d i j : Nat) : (s.modDrv h f).get F d i j = s.get F d i j := rfl
@[simp] theorem State.eng_modDrv (s : State) (h : Nat) (f : DrvRun → DrvRun) (pe : Nat) : (s.modDrv h f).eng pe = s.eng pe := rfl
@[simp] theorem State.get_modChop (s : State) (h : Nat) (f : ChopRun → ChopRun) (F : Fld) (d i j : Nat) : (s.modChop h f).get F d i j = s.get F d i j := rfl
@[simp] theorem State.eng_modChop (s : State) (h : Nat) (f : ChopRun → ChopRun) (pe : Nat) : (s.modChop h f).eng pe = s.eng pe := rfl
@[simp] theorem State.get_modGrd (s : State) (h : Nat) (f : GrdRun → GrdRun) (F : Fld) (d i j : Nat) : (s.modGrd h f).get F d i j = s.get F d i j := rfl
@[simp] theorem State.eng_modGrd (s : State) (h : Nat) (f : GrdRun → GrdRun) (pe : Nat) : (s.modGrd h f).eng pe = s.eng pe := rfl
@[simp] theorem State.get_modTrk (s : State) (h : Nat) (f : TrkRun → TrkRun) (F : Fld) (d i j : Nat) : (s.modTrk h f).get F d i j = s.get F d i j := rfl
@[simp] theorem State.eng_modTrk (s : State) (h : Nat) (f : TrkRun → TrkRun) (pe : Nat) : (s.modTrk h f).eng pe = s.eng pe := rfl
@[simp] theorem State.get_modCmp (s : State) (d k : Nat) (f : CmpRun → CmpRun) (F : Fld) (d' i' j' : Nat) : (s.modCmp d k f).get F d' i' j' = s.get F d' i' j' := rfl
@[simp] theorem State.eng_modCmp (s : State) (d k : Nat) (f : CmpRun → CmpRun) (pe : Nat) : (s.modCmp d k f).eng pe = s.eng pe := rfl
@[simp] theorem State.get_modDom (s : State) (d k : Nat) (f : DomRun → DomRun) (F : Fld) (d' i' j' : Nat) : (s.modDom d k f).get F d' i' j' = s.get F d' i' j' := rfl
@[simp] theorem State.eng_modDom (s : State) (d k : Nat) (f : DomRun → DomRun) (pe : Nat) : (s.modDom d k f).eng pe = s.eng pe := rfl
@[simp] theorem State.get_modAdc (s : State) (d n : Nat) (f : AdcRun → AdcRun) (F : Fld) (d' i' j' : Nat) : (s.modAdc d n f).get F d' i' j' = s.get F d' i' j' := rfl
@[simp] theorem State.eng_modAdc (s : State) (d n : Nat) (f : AdcRun → AdcRun) (pe : Nat) : (s.modAdc d n f).eng pe = s.eng pe := rfl
@[simp] theorem State.get_modMeter (s : State) (d u : Nat) (f : MeterRun → MeterRun) (F : Fld) (d' i' j' : Nat) : (s.modMeter d u f).get F d' i' j' = s.get F d' i' j' := rfl
@[simp] theorem State.eng_modMeter (s : State) (d u : Nat) (f : MeterRun → MeterRun) (pe : Nat) : (s.modMeter d u f).eng pe = s.eng pe := rfl
@[simp] theorem State.get_modRef (s : State) (d : Nat) (f : RefRun → RefRun) (F : Fld) (d' i' j' : Nat) : (s.modRef d f).get F d' i' j' = s.get F d' i' j' := rfl
@[simp] theorem State.eng_modRef (s : State) (d : Nat) (f : RefRun → RefRun) (pe : Nat) : (s.modRef d f).eng pe = s.eng pe := rfl
@[simp] theorem State.get_modModIn (s : State) (d m : Nat) (f : ModRun → ModRun) (F : Fld) (d' i' j' : Nat) : (s.modModIn d m f).get F d' i' j' = s.get F d' i' j' := rfl
@[simp] theorem State.eng_modModIn (s : State) (d m : Nat) (f : ModRun → ModRun) (pe : Nat) : (s.modModIn d m f).eng pe = s.eng pe := rfl
@[simp] theorem State.get_modRamp (s : State) (d r : Nat) (f : RampRun → RampRun) (F : Fld) (d' i' j' : Nat) : (s.modRamp d r f).get F d' i' j' = s.get F d' i' j' := rfl
@[simp] theorem State.eng_modRamp (s : State) (d r : Nat) (f : RampRun → RampRun) (pe : Nat) : (s.modRamp d r f).eng pe = s.eng pe := rfl
@[simp] theorem State.get_modPulse (s : State) (d k : Nat) (f : PoRun → PoRun) (F : Fld) (d' i' j' : Nat) : (s.modPulse d k f).get F d' i' j' = s.get F d' i' j' := rfl
@[simp] theorem State.eng_modPulse (s : State) (d k : Nat) (f : PoRun → PoRun) (pe : Nat) : (s.modPulse d k f).eng pe = s.eng pe := rfl
@[simp] theorem State.get_modS0 (s : State) (d k : Nat) (f : S0Run → S0Run) (F : Fld) (d' i' j' : Nat) : (s.modS0 d k f).get F d' i' j' = s.get F d' i' j' := rfl
@[simp] theorem State.eng_modS0 (s : State) (d k : Nat) (f : S0Run → S0Run) (pe : Nat) : (s.modS0 d k f).eng pe = s.eng pe := rfl
@[simp] theorem State.get_modSector (s : State) (d c : Nat) (f : SectorHdr → SectorHdr) (F : Fld) (d' i' j' : Nat) : (s.modSector d c f).get F d' i' j' = s.get F d' i' j' := rfl
@[simp] theorem State.eng_modSector (s : State) (d c : Nat) (f : SectorHdr → SectorHdr) (pe : Nat) : (s.modSector d c f).eng pe = s.eng pe := rfl
@[simp] theorem State.get_modRec (s : State) (f : Recorder → Recorder) (F : Fld) (d i j : Nat) : (s.modRec f).get F d i j = s.get F d i j := rfl
@[simp] theorem State.eng_modRec (s : State) (f : Recorder → Recorder) (pe : Nat) : (s.modRec f).eng pe = s.eng pe := rfl
@[simp] theorem State.get_modAon (s : State) (f : AonRun → AonRun) (F : Fld) (d i j : Nat) : (s.modAon f).get F d i j = s.get F d i j := rfl
@[simp] theorem State.eng_modAon (s : State) (f : AonRun → AonRun) (pe : Nat) : (s.modAon f).eng pe = s.eng pe := rfl
@[simp] theorem State.get_modBoot (s : State) (f : BootRun → BootRun) (F : Fld) (d i j : Nat) : (s.modBoot f).get F d i j = s.get F d i j := rfl
@[simp] theorem State.eng_modBoot (s : State) (f : BootRun → BootRun) (pe : Nat) : (s.modBoot f).eng pe = s.eng pe := rfl
@[simp] theorem State.get_modChain (s : State) (f : ChainRun → ChainRun) (F : Fld) (d i j : Nat) : (s.modChain f).get F d i j = s.get F d i j := rfl
@[simp] theorem State.eng_modChain (s : State) (f : ChainRun → ChainRun) (pe : Nat) : (s.modChain f).eng pe = s.eng pe := rfl
@[simp] theorem State.get_modSafety (s : State) (f : SafetyRun → SafetyRun) (F : Fld) (d i j : Nat) : (s.modSafety f).get F d i j = s.get F d i j := rfl
@[simp] theorem State.eng_modSafety (s : State) (f : SafetyRun → SafetyRun) (pe : Nat) : (s.modSafety f).eng pe = s.eng pe := rfl
@[simp] theorem State.eng_put (s : State) (F : Fld) (v d i j : Nat) (pe : Nat) : (s.put F v d i j).eng pe = s.eng pe := rfl
@[simp] theorem State.eng_putB (s : State) (F : Fld) (b : Bool) (d i j : Nat) (pe : Nat) : (s.putB F b d i j).eng pe = s.eng pe := rfl
@[simp] theorem State.eng_putI (s : State) (F : Fld) (v : Int) (d i j : Nat) (pe : Nat) : (s.putI F v d i j).eng pe = s.eng pe := rfl
@[simp] theorem State.eng_incSat (s : State) (F : Fld) (d i j : Nat) (pe : Nat) : (s.incSat F d i j).eng pe = s.eng pe := rfl
@[simp] theorem State.eng_incMod (s : State) (F : Fld) (d i j : Nat) (pe : Nat) : (s.incMod F d i j).eng pe = s.eng pe := rfl
@[simp] theorem State.eng_putSh (s : State) (F : Fld) (v d i j : Nat) (pe : Nat) : (s.putSh F v d i j).eng pe = s.eng pe := rfl
@[simp] theorem State.eng_loadSh (s : State) (F : Fld) (d i j : Nat) (pe : Nat) : (s.loadSh F d i j).eng pe = s.eng pe := rfl
@[simp] theorem State.eng_nextFresh (s : State)  (pe : Nat) : (s.nextFresh).eng pe = s.eng pe := rfl

end Sys2Proof.Machine
end

