-- ==== Sys2Proof/Laws/Ops.lean ====
section
/-!
SUPPORT. What the shared operations can do, said once: a guarded meaning, an issued instruction, its completion with a result,
and the frame of a completed instruction.
-/
namespace Sys2Proof.Machine

/-! ### Meanings -/

/-- A meaning answers a next state or refuses an ill-formed command; it never faults. -/
theorem guarded_cases (ok : Bool) (s t : State) :
    (ok = true ∧ guarded ok s t = .next { t with member := s.member, pending := s.pending }) ∨
    (ok = false ∧ guarded ok s t = .refused .noSuchUnit) := by
  cases ok <;> simp [guarded]

@[simp] theorem guarded_true (s t : State) :
    guarded true s t = .next { t with member := s.member, pending := s.pending } := rfl

/-- Where the effect keeps the member and the queue, a well-formed command answers it as it is. -/
theorem guarded_next {ok : Bool} {s t : State} (h : ok = true) (hm : t.member = s.member) (hp : t.pending = s.pending) :
    guarded ok s t = .next t := by
  subst h
  rw [guarded_true, ← hm, ← hp]

@[simp] theorem whenAnswers_of_le {s t : State} {n : Nat} (h : n ≤ s.pkgState) : s.whenAnswers n t = t := by
  simp [State.whenAnswers, h]

/-! ### Issue and completion of an instruction -/

/-- What an issue can do: nothing, an ILL trap, or the instruction itself. -/
theorem issue_cases (s : State) (pe : Nat) (rs ws : List Spec) (ok : Bool) (run : State → Act) :
    s.issue pe rs ws ok run = s ∨ s.issue pe rs ws ok run = s.takeTrap pe trapILL ∨
    s.issue pe rs ws ok run = s.finish pe rs (run s) := by
  unfold State.issue
  split
  · exact .inl rfl
  · split
    · exact .inr (.inl rfl)
    · split
      · exact .inl rfl
      · exact .inr (.inr rfl)

/-- An engine that can run issues an instruction whose operands are there. -/
theorem issue_ready {s : State} {pe : Nat} {rs ws : List Spec} {run : State → Act} (h : s.canRun pe = true)
    (ha : s.awaited pe (rs ++ ws) = false) : s.issue pe rs ws true run = s.finish pe rs (run s) := by
  simp [State.issue, h, ha]

theorem canRun_active {s : State} {pe : Nat} (h : s.canRun pe = true) : (s.eng pe).active = true := by
  cases ha : (s.eng pe).active
  · simp [State.canRun, ha] at h
  · rfl

@[simp] theorem Engine.store_active (E : Engine) (v : Word) (x : Slot) : (E.store v x).active = E.active := by
  unfold Engine.store; split <;> first | rfl | (split <;> rfl)

@[simp] theorem Engine.store_pc (E : Engine) (v : Word) (x : Slot) : (E.store v x).pc = E.pc := by
  unfold Engine.store; split <;> first | rfl | (split <;> rfl)

@[simp] theorem Engine.store_fast (E : Engine) (v : Word) (x : Slot) : (E.store v x).fast = E.fast := by
  unfold Engine.store; split <;> first | rfl | (split <;> rfl)

@[simp] theorem Engine.setStk_active (E : Engine) (v : Word) : (E.setStk v).active = E.active := by
  unfold Engine.setStk; split <;> rfl

@[simp] theorem Engine.setStk_pc (E : Engine) (v : Word) : (E.setStk v).pc = E.pc := by
  unfold Engine.setStk; split <;> rfl

@[simp] theorem Engine.setStk_fast (E : Engine) (v : Word) : (E.setStk v).fast = E.fast := by
  unfold Engine.setStk; split <;> rfl

@[simp] theorem Engine.stkNow_setStk (E : Engine) (v : Word) : (E.setStk v).stkNow = v := by
  cases h : E.fast <;> simp [Engine.setStk, Engine.stkNow, h]

@[simp] theorem Engine.setStk_setStk (E : Engine) (v w : Word) : (E.setStk v).setStk w = E.setStk w := by
  cases h : E.fast <;> simp [Engine.setStk, h]

@[simp] theorem Engine.setStk_stkNow (E : Engine) : E.setStk E.stkNow = E := by
  unfold Engine.setStk Engine.stkNow
  split <;> rfl

@[simp] theorem stkRaise_zero (v : Word) : stkRaise v 0 = v := by simp [stkRaise]

theorem stkRaise_stkRaise (v : Word) (m n : Nat) : stkRaise (stkRaise v m) n = stkRaise v (m ||| n) := by
  have h : (m ||| n) % 128 = m % 128 ||| n % 128 := Nat.or_mod_two_pow (n := 7)
  apply BitVec.eq_of_toNat_eq
  simp [stkRaise, h, Nat.or_assoc, BitVec.toNat_or]

/-- Two changes of one engine are one. -/
@[simp] theorem modEng_modEng (s : State) (pe : Nat) (f g : Engine → Engine) :
    (s.modEng pe f).modEng pe g = s.modEng pe (fun E => g (f E)) := by
  simp [State.modEng, State.eng]

/-- A change of an engine depends on what it does to that engine's state only. -/
theorem modEng_congr (s : State) (pe : Nat) {f g : Engine → Engine} (h : f (s.eng pe) = g (s.eng pe)) :
    s.modEng pe f = s.modEng pe g := by
  simp [State.modEng, h]

theorem raiseFlags_modEng (s : State) (pe m : Nat) (f : Engine → Engine) :
    (s.modEng pe f).raiseFlags pe m = s.modEng pe fun E => (f E).setStk (stkRaise (f E).stkNow m) := by
  unfold State.raiseFlags
  split
  · rename_i h; subst h; exact modEng_congr _ _ (by simp)
  · simp

/-- The completion of an instruction that has changed its engine. -/
theorem complete_modEng {s : State} {pe : Nat} (m : Nat) (pc : BitVec 15) (f : Engine → Engine)
    (h : (f (s.eng pe)).active = true) :
    (s.modEng pe f).complete pe m pc = s.modEng pe fun E => { (f E).setStk (stkRaise (f E).stkNow m) with pc := pc } := by
  unfold State.complete
  rw [State.eng_modEng_same, h, if_pos rfl, raiseFlags_modEng, modEng_modEng]

/-- What a completion can do where STK is concerned: it stands, or the instruction has to wait. -/
theorem unlessStk_cases (s : State) (pe : Nat) (t : State) :
    s.unlessStk pe t = t ∨ (s.unlessStk pe t = s ∧ s.awaited pe [specSTK] = true) := by
  unfold State.unlessStk
  split <;> rename_i h
  · exact .inr ⟨rfl, (Bool.and_eq_true_iff.mp h).1⟩
  · exact .inl rfl

@[simp] theorem unlessStk_of_stk {s : State} {pe : Nat} (t : State) (h : s.awaited pe [specSTK] = false) :
    s.unlessStk pe t = t := by simp [State.unlessStk, State.stkBlocks, h]

/-- Of several registers none awaits data exactly where no single one does. -/
theorem awaited_cons (s : State) (pe : Nat) (sp : Spec) (sps : List Spec) :
    s.awaited pe (sp :: sps) = (s.awaited pe [sp] || s.awaited pe sps) := by simp [State.awaited]

/-- A ready engine does not await STK. -/
theorem State.Ready.stk {s : State} {pe : Nat} {sps : List Spec} (h : s.Ready pe sps) : s.awaited pe [specSTK] = false := by
  have := h.2.2; rw [awaited_cons, Bool.or_eq_false_iff] at this; exact this.1

/-- A ready engine awaits none of the registers it uses. -/
theorem State.Ready.regs {s : State} {pe : Nat} {sps : List Spec} (h : s.Ready pe sps) : s.awaited pe sps = false := by
  have := h.2.2; rw [awaited_cons, Bool.or_eq_false_iff] at this; exact this.2

/-- An instruction that has given a result to `rd` leaves `State.wrote`. -/
theorem finish_result {s : State} {pe : Nat} (rs : List Spec) (rd : Spec) (r : Word × Nat) (h : s.canRun pe = true)
    (hk : s.awaited pe [specSTK] = false) : s.finish pe rs (s.result pe rd r) = s.wrote pe rd r.1 r.2 rs := by
  simp only [State.result, State.finish, State.setVal, raiseFlags_modEng, unlessStk_of_stk _ hk]
  rw [complete_modEng _ _ _ (by simpa using canRun_active h)]
  apply modEng_congr
  simp only [Engine.stkNow_setStk, Engine.setStk_setStk, stkRaise_stkRaise]
  rfl

/-- An issued one-operand instruction. -/
theorem unary_ready {s : State} {pe : Nat} {rd ra : Spec} {f : Word → Word × Nat} (h : s.Ready pe [ra, rd]) :
    s.unary pe rd ra f = s.wrote pe rd (f (s.val pe ra)).1 (f (s.val pe ra)).2 [ra] := by
  rw [State.unary, issue_ready h.2.1 h.regs, finish_result _ _ _ h.2.1 h.stk]

/-- An issued two-operand instruction. -/
theorem binary_ready {s : State} {pe : Nat} {rd ra rb : Spec} {f : Word → Word → Word × Nat} (h : s.Ready pe [ra, rb, rd]) :
    s.binary pe rd ra rb f =
      s.wrote pe rd (f (s.val pe ra) (s.val pe rb)).1 (f (s.val pe ra) (s.val pe rb)).2 [ra, rb] := by
  rw [State.binary, issue_ready h.2.1 h.regs, finish_result _ _ _ h.2.1 h.stk]

@[simp] theorem wrote_member (s : State) (pe : Nat) (rd : Spec) (v : Word) (m : Nat) (rs : List Spec) :
    (s.wrote pe rd v m rs).member = s.member := rfl
@[simp] theorem wrote_pending (s : State) (pe : Nat) (rd : Spec) (v : Word) (m : Nat) (rs : List Spec) :
    (s.wrote pe rd v m rs).pending = s.pending := rfl

/-- Nothing but its engine changes with a completed instruction that only writes a register. -/
theorem wrote_frame (s : State) (pe : Nat) (rd : Spec) (v : Word) (m : Nat) (rs : List Spec) :
    OnlyEngine s (s.wrote pe rd v m rs) pe := by
  refine ⟨rfl, fun p hp => ?_⟩
  exact State.eng_modEng_other s pe p _ hp

end Sys2Proof.Machine
end

