-- ==== Sys2Proof/Tests/Base.lean ====
section
/-!
SUPPORT. The small states and readers on which the tests run.
-/
namespace Sys2Proof.Tests
open Sys2Proof.Machine
set_option Elab.async false

/-- The state that a command answers, if it answers one. -/
def next (c : Instr) (s : State) : Option State :=
  match exec c s with | .next t => some t | .fault _ => none | .refused _ => none

/-- The state that a command leaves. -/
def after (c : Instr) (s : State) : State := (next c s).getD s

/-- A part in READY. -/
def rdy : State := State.reset.put F.PKG_STATE_STATE 4

/-- A part in READY whose engine 3 runs task 5, with the engine changed by `f`. -/
def run (f : Engine → Engine) : State := rdy.modEng 3 fun E => f { E with task := some 5, pc := 100 }

/-- Engine 3 with `v` in g0, `w` in g1 and `x` in g2. -/
def run3 (v w x : Word) : State := run fun E => { E with regs := [(128, v), (129, w), (130, x)] }

/-- The register fields outside `ks` are as they were. -/
def kept (s t : State) (ks : List Nat) : Bool :=
  (t.cells.filter fun p => !ks.contains p.1) == s.cells.filter fun p => !ks.contains p.1

/-- Engines, points, queues and bases are as they were. -/
def still (s t : State) : Bool :=
  t.engines == s.engines && t.points == s.points && t.queues == s.queues && t.bases == s.bases

/-- A part in READY at tick `t` of die `d`. -/
def at_ (d t : Nat) : State := rdy.modDie d fun D => { D with tick := t }

end Sys2Proof.Tests
end

