-- ==== Sys2Proof/Tests/Engines.lean ====
section
/-!
SUPPORT. Witnesses for the statements about Uselo and its engines: states that meet the hypotheses of each clause, with what the
clause then gives, worked out by hand from the spec's tables; and small tests of single instructions.
-/
namespace Sys2Proof.Tests
open Sys2Proof.Machine
set_option Elab.async false

/-! ### Arithmetic -/

theorem witness_alu : (run3 0x7FFFFF 1 5).Ready 3 [16, 17, 18] ∧ (run3 0x800000 1 5).Ready 3 [16, 18] ∧
    (run3 9 1 5).Ready 3 [18, 16, 17] := by
  unfold State.Ready
  decide +kernel

theorem test_add_saturates : (after (.add 3 18 16 17) (run3 0x7FFFFF 1 5)).val 3 18 = 0x7FFFFF ∧
    ((after (.add 3 18 16 17) (run3 0x7FFFFF 1 5)).eng 3).stk = 1 := by decide +kernel

theorem test_neg_of_the_lowest : (after (.neg 3 18 16) (run3 0x800000 1 5)).val 3 18 = 0x7FFFFF ∧
    ((after (.neg 3 18 16) (run3 0x800000 1 5)).eng 3).pc = 101 := by decide +kernel

theorem test_clamp_to_the_upper_bound : (after (.clamp 3 18 16 17) (run3 9 1 5)).val 3 18 = 1 := by decide +kernel

theorem witness_moves : (run3 3 4 5).Ready 3 [16, 18] ∧ (run3 3 4 5).Ready 3 [16, 17, 18] ∧ (run3 3 4 5).Ready 3 [18] ∧
    (run3 3 4 5).Ready 3 [18, 18] := by
  unfold State.Ready
  decide +kernel

theorem test_adda_wraps : (after (.adda 3 18 16 0xFFFF) (run3 0 0 0)).val 3 18 = 0xFFFFFF ∧
    ((after (.adda 3 18 16 0xFFFF) (run3 0 0 0)).eng 3).stk = 0 := by decide +kernel

theorem test_ldh_over_ldl : (after (.ldh 3 18 5) (run3 0 0 0x12345)).val 3 18 = 0xA12345 := by decide +kernel

theorem witness_shifts : (run3 0x400000 33 5).Ready 3 (shiftReads 16 (.reg 17) ++ [18]) ∧
    (run3 0x400000 33 5).Ready 3 (shiftReads 16 (.imm 1) ++ [18]) ∧ (run3 0x400000 33 5).Ready 3 [16, 18] := by
  unfold State.Ready
  decide +kernel

theorem test_shl_saturates : (after (.shl 3 18 16 (.reg 17)) (run3 0x400000 33 5)).val 3 18 = 0x7FFFFF ∧
    ((after (.shl 3 18 16 (.reg 17)) (run3 0x400000 33 5)).eng 3).stk = 8 := by decide +kernel

theorem test_norm_counts : (after (.norm 3 18 16) (run3 0x000001 0 0)).val 3 18 = 22 ∧
    (after (.norm 3 18 16) (run3 0xFFFFFF 0 0)).val 3 18 = 23 := by decide +kernel

theorem witness_products : (run3 0x400000 0x400000 0).Ready 3 [16, 17, 18] ∧ ((run3 5 0 0).val 3 17).toInt = 0 ∧
    ((run3 5 3 0).val 3 17).toInt ≠ 0 := by
  unfold State.Ready
  decide +kernel

theorem test_mul_of_halves : (after (.mul 3 18 16 17) (run3 0x400000 0x400000 0)).val 3 18 = 0x200000 := by decide +kernel

theorem test_div_by_zero : (after (.div 3 18 16 17) (run3 0xFFFFFF 0 0)).val 3 18 = 0x800000 ∧
    ((after (.div 3 18 16 17) (run3 0xFFFFFF 0 0)).eng 3).stk = 32 := by decide +kernel

/-- Engine 3 with 1.5 in acc0, as Q1.23 times 2²³, and 2⁵⁵ − 1 in acc1. -/
def accs3 : State := run fun E => { E with regs := [(128, 0x7FFFFF), (129, 0x7FFFFF)], accs := [(0, 0x600000000000), (1, 0x7FFFFFFFFFFFFF)] }

theorem witness_accumulators : accs3.Ready 3 [24, 18] ∧ accs3.Ready 3 [16, 17, 25] ∧ accs3.Ready 3 [16, 24] ∧ accs3.Ready 3 [25, 24] ∧
    (3 < 32 * accs3.dies ∧ accs3.canRun 3 = true) := by
  unfold State.Ready
  decide +kernel

theorem test_accv_saturates : (after (.accv 3 18 24 0) accs3).val 3 18 = 0x7FFFFF ∧ ((after (.accv 3 18 24 0) accs3).eng 3).stk = 16 ∧
    (after (.accmid 3 18 24) accs3).val 3 18 = 0x600000 := by decide +kernel

theorem test_mac_saturates : (after (.mac 3 25 16 17) accs3).accVal 3 25 = 0x7FFFFFFFFFFFFF ∧
    ((after (.mac 3 25 16 17) accs3).eng 3).stk = 4 ∧ ((after (.mac 3 18 16 17) accs3).eng 3).trap = true := by decide +kernel

theorem witness_compares : (run3 0xFFFFFF 1 0).Ready 3 [16, 17] ∧ (run3 0xFFFFFF 1 0).Ready 3 [16] := by
  unfold State.Ready
  decide +kernel

theorem test_cmp_signed_and_unsigned : ((after (.cmp 3 16 17) (run3 0xFFFFFF 1 0)).eng 3).stk = 0x100 ∧
    ((after (.cmp 3 17 16) (run3 0xFFFFFF 1 0)).eng 3).stk = 0x400 := by decide +kernel

/-! ### Operands -/

/-- Engine 3 in the fast bank, and in the trap window, with their registers. -/
def fast3 : State := run fun E => { E with fast := true, regs := [(113, 7), (128, 1)], stkFast := 0x703, hc := 4, fastHc := 9, taskReg := 11 }
def trap3 : State := run fun E => { E with trap := true, regs := [(97, 8)] }

theorem witness_operands : (accs3.Ready 3 [24, 28]) ∧ fast3.Ready 3 [1, 17] ∧ trap3.Ready 3 [1, 17] ∧
    fast3.val 3 1 = 7 ∧ trap3.val 3 1 = 8 ∧ fast3.val 3 28 = 0x703 ∧ fast3.val 3 29 = 9 ∧ fast3.val 3 30 = 11 ∧ fast3.val 3 31 = 0 := by
  unfold State.Ready
  decide +kernel

theorem test_mov_of_an_accumulator : ((after (.mov 3 28 24) accs3).eng 3).stk = 0x77F ∧
    ((after (.mov 3 24 16) accs3).accVal 3 24) = 0x3FFFFF800000 := by decide +kernel

theorem test_window_overlap : (after (.mov 3 12 16) (run3 5 0 0)).eng 3 |>.regs.find 12 |> (· == some 5) := by decide +kernel

/-! ### Angles, memory, points, queues and legs -/

/-- Engine 3 with the angles 0xFFFFFF01 and 0x000002FF in the pairs g0 and g2, bases 4 (NCO) and 5 (other) running. -/
def ang3 : State :=
  ((((run fun E => { E with regs := [(128, 0xFFFFFF), (129, 1), (130, 2), (131, 0xFF), (132, 3)] }).put F.AB_CFG_RUN 1 0 4).put
    F.AB_CFG_TYPE 2 0 4).put F.AB_CFG_RUN 1 0 5).put F.AB_CFG_TYPE 0 0 5

theorem witness_angles : isPair 16 = true ∧ isPair 18 = true ∧ isPair 20 = true ∧ ang3.Ready 3 [16, 17, 18, 19, 20, 21] ∧
    ang3.get F.AB_CFG_RUN 0 4 ≠ 0 ∧ ang3.get F.AB_CFG_TYPE 0 4 = 2 ∧ ang3.get F.AB_CFG_RUN 0 5 ≠ 0 ∧ ang3.get F.AB_CFG_TYPE 0 5 = 0 := by
  unfold State.Ready
  decide +kernel

theorem test_aadd_wraps : angleOf (after (.aadd 3 20 16 18) ang3) 3 20 = 0x200 ∧
    angleOf (after (.amuli 3 20 16 20) ang3) 3 20 = 0xFFFFFD03 := by decide +kernel

theorem test_ainc_and_acorr : (after (.ainc 3 16 4) ang3).get F.AB_INC_INC 0 4 = 0xFFFFFF01 ∧
    ((after (.acorr 3 18 4) ang3).base 0 4).rem = 0x2FF := by decide +kernel

/-- Engine 3 with one word in each region of its address space. -/
def mem3 (a : Word) : State :=
  { run3 a 0x55 0 with priv := [(3 * 2048 + 0x7FF, 1)], shared := [(0x3FFF, 2)], capture := [(0xFFFF, 3)], points := [(0x1FFFF, 4)] }

theorem witness_loads : (mem3 0x7FF).Ready 3 [16, 18] ∧ (mem3 0x800).Ready 3 [16, 31, 18] ∧
    (after (.ld 3 18 16 0) (mem3 0x7FF)).val 3 18 = 1 ∧ (after (.ld 3 18 16 0) (mem3 0x13FFF)).val 3 18 = 2 ∧
    (after (.ldx 3 18 16 31) (mem3 0x40FFFF)).val 3 18 = 3 ∧
    ((mem3 0x81FFFF).memOn 0 = true ∧ (after (.ld 3 18 16 0) (mem3 0x81FFFF)).val 3 18 = 4) ∧
    ((after (.ld 3 18 16 0) (mem3 0x800)).eng 3).trap = true := by
  unfold State.Ready
  decide +kernel

theorem witness_stores : (mem3 0x7FF).Ready 3 [17, 16] ∧ (mem3 0x14000).Ready 3 [17, 16, 31] ∧
    Store.get (after (.st 3 17 16 0) (mem3 0x7FF)).priv 0 (3 * 2048 + 0x7FF) = 0x55 ∧
    Store.get (after (.stx 3 17 16 31) (mem3 0x10000)).shared 0 0 = 0x55 ∧
    ((mem3 0x800007).memOn 0 = true ∧ (after (.st 3 17 16 0) (mem3 0x800007)).point 7 = 0x55) ∧
    ((after (.st 3 17 16 0) (mem3 0x14000)).eng 3).trap = true := by
  unfold State.Ready
  decide +kernel

theorem witness_odd_word : (run3 0 0 0).Ready 3 [] ∧
    Store.get ((after (.oddWordWrite 3 0x680001 0x1AB) (run3 0 0 0)).eng 3).holds (0, 0) 0 = (1, 0xAB) ∧
    Store.get ((after (.oddWordWrite 3 0x67FFFF 0x1AB) (run3 0 0 0)).eng 3).holds (0, 0) 0 = (0x100FFFFD, 0xAB) := by
  unfold State.Ready
  decide +kernel

/-- Engine 3 with the point `p` in g0. -/
def pt3 (p : Word) : State := { run3 p 0x77 0 with points := [(7, 9)] }

theorem witness_points : (pt3 7).Ready 3 [16, 18, 19] ∧ (pt3 7).Ready 3 [17, 16, 19] ∧ isGroup 17 2 = true ∧
    (pt3 7).Ready 3 (16 :: groupOf 17 2 ++ [19]) ∧ (pt3 7).memOn 0 = true ∧ (pt3 0x20000).postsFull 3 = false ∧
    ((pt3 7).put F.PWR_DOM_STATE 2 0 10).memOn 0 = false := by
  unfold State.Ready
  decide +kernel

theorem test_sget : (after (.sget 3 18 16 19 false 0) (pt3 7)).val 3 18 = 9 ∧
    (after (.sget 3 18 16 19 false 0) (pt3 0x40000)).val 3 19 = 3 ∧
    (after (.sget 3 18 16 19 false 0) ((pt3 7).put F.PWR_DOM_STATE 2 0 10)).val 3 19 = 10 := by decide +kernel

theorem test_sput : (after (.sput 3 17 16 19 false 1) (pt3 7)).point 8 = 0x77 ∧
    (after (.sput 3 17 16 19 false 0) (pt3 0x20000)).ring.length = 1 ∧
    (after (.sputg 3 17 16 19 false 1 0) (pt3 7)).point 7 = 0x77 ∧
    ((after (.sputg 3 17 16 19 false 1 0) (pt3 0x1FFFF)).eng 3).trap = true := by decide +kernel

/-- Engine 3 with queue 5 of its die in g0: kind `k`, depth 2, holding `es`. -/
def q3 (k : Nat) (es : List QEntry) : State :=
  { (((run3 5 0x11 0x22).put F.Q_CFG_EN 1 0 5).put F.Q_SIZE_DEPTH 2 0 5).put F.Q_CFG_KIND k 0 5 with
    queues := Store.set [] [] 5 es }.put F.Q_STAT_COUNT es.length 0 5

/-- An entry. -/
def e0 : QEntry := ⟨0x123, ⟨1, 2, 3, 4⟩⟩

theorem witness_queues : (q3 0 [e0]).queueStatus 5 = .ok ∧ isGroup 17 4 = true ∧ (q3 0 [e0]).Ready 3 (16 :: groupOf 17 4 ++ [18]) ∧
    (q3 0 [e0]).get F.Q_CFG_KIND 0 5 = 0 ∧ ((q3 0 [e0]).entries 5).length < (q3 0 [e0]).get F.Q_SIZE_DEPTH 0 5 ∧
    (q3 0 [e0, e0]).get F.Q_SIZE_DEPTH 0 5 ≤ ((q3 0 [e0, e0]).entries 5).length ∧ (q3 2 []).get F.Q_CFG_KIND 0 5 = 2 ∧
    (q3 2 []).queueStatus 5 = .ok ∧ (q3 0 [e0]).entries 5 = [e0] ∧ (q3 0 []).entries 5 = [] := by
  unfold State.Ready
  decide +kernel

theorem test_qpush : ((after (.qpush 3 18 16 17 false 9) (q3 0 [e0])).entries 5).getLast? = some ⟨0x189, ⟨0x11, 0x22, 0, 0⟩⟩ ∧
    (after (.qpush 3 19 16 17 true 9) (q3 0 [e0, e0])).val 3 19 = 1 ∧
    (after (.qpush 3 19 16 17 true 9) (q3 2 [])).val 3 19 = 3 := by decide +kernel

theorem test_qpop : (after (.qpop 3 0 16 18) (q3 0 [e0])).val 3 3 = 4 ∧ (after (.qpop 3 0 16 18) (q3 0 [e0])).val 3 18 = 0x123 ∧
    ((after (.qpop 3 0 16 18) (q3 0 [])).eng 3).pc = 101 ∧ (after (.qstat 3 18 16) (q3 0 [e0, e0])).val 3 18 = 0x20002 := by
  decide +kernel

/-- Engine 3 running a task of herd 2, which owns leg 21, with leg 21 in g0. -/
def ofHerd2 : State :=
  (((((run3 21 0x40 0x7FFFFF).put F.ENG_TCFG_HB 1 0 3 5).put F.ENG_TCFG_HERD 2 0 3 5).put F.OWN_LEG_EN 1 0 21).put
    F.OWN_LEG_HERD 2 0 21).putI F.LEASH_HI_HI 1000 0 2 1

theorem witness_leg_instructions : ofHerd2.runningHerd 3 = some 2 ∧ ofHerd2.Ready 3 [16, 17, 19] ∧ ofHerd2.legHerd 0 21 = some 2 ∧
    ofHerd2.legHerd 0 22 ≠ some 2 ∧ ofHerd2.Ready 3 [] ∧ ofHerd2.Ready 3 [18, 19] ∧ ofHerd2.get F.LEASH_RATE_RATE 0 2 1 = 0 ∧
    ofHerd2.get F.LAW_STAT_DERATED 0 2 = 0 ∧ (run3 0 0 0).runningHerd 3 = none ∧ (run3 0 0 0).canRun 3 = true := by
  unfold State.Ready
  decide +kernel

theorem test_lsh_clamps : (after (.lsh 3 19 18 1) ofHerd2).val 3 19 = 1000 ∧ ((after (.lsh 3 19 18 1) ofHerd2).eng 3).stk = 64 ∧
    (after (.lset 3 19 16 17 0) ofHerd2).val 3 19 = 0 ∧ (after (.lset 3 19 17 17 0) ofHerd2).val 3 19 = 3 := by decide +kernel

/-! ### Control -/

/-- Engine 3 in window `w` with `used` windows, STK `stk`, `v` in g0 and 200 in the w11 of its frame. -/
def win3 (w used : Nat) (stk v : Word) : State :=
  ((run fun E => { E with regs := [(12 * w + 11, 200), (128, v)], stk := stk }).put F.ENG_WIN_CWP w 0 3).put F.ENG_WIN_WIN_USED used 0 3

theorem witness_branches : (win3 0 2 0x100 0).Ready 3 [] ∧ (win3 0 2 0x100 0).Ready 3 [16] ∧ (win3 0 2 0 0).canRun 3 = true ∧
    ((after (.br 3 3 0 0x1FFFF) (win3 0 2 0x100 0)).eng 3).pc = 100 ∧ ((after (.br 3 4 0 9) (win3 0 2 0x100 0)).eng 3).pc = 101 ∧
    ((after (.br 3 9 16 9) (win3 0 2 0 0)).eng 3).pc = 110 ∧ ((after (.br 3 15 0 9) (win3 0 2 0 0)).eng 3).trap = true ∧
    ((after (.jr 3 16) (win3 0 2 0 0x8007)).eng 3).pc = 7 := by
  unfold State.Ready
  decide +kernel

theorem witness_calls : (win3 7 2 0 0x44).Ready 3 [] ∧ (win3 7 2 0 0x44).Ready 3 [16] ∧ ((win3 7 2 0 0).eng 3).awaits = [] ∧
    (after (.call 3 5) (win3 7 2 0 0)).get F.ENG_WIN_CWP 0 3 = 0 ∧ (after (.call 3 5) (win3 7 2 0 0)).val 3 11 = 101 ∧
    ((after (.callr 3 16) (win3 7 2 0 0x44)).eng 3).pc = 0x44 ∧
    (after (.call 3 5) (win3 7 8 0 0)).get F.ENG_TRAP_CAUSE 0 3 = 0 ∧ ((after (.call 3 5) (win3 7 8 0 0)).eng 3).trap = true ∧
    (fast3.eng 3).fast = true ∧ fast3.Ready 3 [] ∧ (after (.call 3 5) fast3).get F.ENG_TRAP_CAUSE 0 3 = 3 := by
  unfold State.Ready
  decide +kernel

theorem witness_returns : (win3 0 3 0 0).Ready 3 [11] ∧ ((after (.ret 3) (win3 0 3 0 0)).eng 3).pc = 200 ∧
    (after (.ret 3) (win3 0 3 0 0)).get F.ENG_WIN_CWP 0 3 = 7 ∧ (after (.ret 3) (win3 0 3 0 0)).get F.ENG_WIN_WIN_USED 0 3 = 2 ∧
    ((win3 0 2 0 0).put F.ENG_WIN_SPILLED 1 0 3).Ready 3 [11] ∧
    (after (.ret 3) ((win3 0 2 0 0).put F.ENG_WIN_SPILLED 1 0 3)).get F.ENG_TRAP_CAUSE 0 3 = 1 ∧ trap3.Ready 3 [11] ∧
    ((after (.ret 3) trap3).eng 3).dfault = true := by
  unfold State.Ready
  decide +kernel

theorem witness_traps : (run3 0 0 0).canRun 3 = true ∧ ((run3 0 0 0).eng 3).trap = false ∧ trap3.canRun 3 = true ∧
    (trap3.eng 3).trap = true ∧ isDefined 0 = false ∧ (after (.trap 3) (run3 0 0 0)).get F.ENG_TRAP_TPC 0 3 = 100 ∧
    ((after (.trap 3) ((run3 0 0 0).put F.ENG_TVEC_BASE 2 0 3)).eng 3).pc = 84 ∧ ((after (.undefinedEncoding 3 0) trap3).eng 3).dfault = true ∧
    (after (.undefinedEncoding 3 0) (run3 0 0 0)).get F.ENG_TRAP_CAUSE 0 3 = 3 := by decide +kernel

theorem witness_trap_return : trap3.Ready 3 [] ∧ (run3 0 0 0).Ready 3 [] ∧
    ((after (.tret 3) ((trap3.put F.ENG_TRAP_TPC 40 0 3).put F.ENG_TRAP_CAUSE 2 0 3)).eng 3).pc = 40 ∧
    ((after (.tret 3) ((trap3.put F.ENG_TRAP_TPC 40 0 3).put F.ENG_TRAP_CAUSE 3 0 3)).eng 3).pc = 41 ∧
    (after (.tret 3) (run3 0 0 0)).get F.ENG_TRAP_CAUSE 0 3 = 3 := by
  unfold State.Ready
  decide +kernel

/-- Engine 3 in the trap window with its spill area at 100 to 200, the pointer at `spp`, and `k` frames spilled. -/
def spill3 (spp used k : Nat) : State :=
  { (((((run fun E => { E with trap := true, regs := [(12, 0xA), (23, 0xB)] }).put F.ENG_SPB_SPBASE 100 0 3).put F.ENG_SPB_SPLIM 200 0
      3).put F.ENG_SPP_SPP spp 0 3).put F.ENG_WIN_WIN_USED used 0 3).put F.ENG_WIN_SPILLED k 0 3 with
    priv := [(3 * 2048 + 100, 0xC), (3 * 2048 + 111, 0xD)] }.put F.ENG_WIN_CWP 7 0 3

theorem witness_spill_and_fill : (spill3 100 8 0).Ready 3 [] ∧ ((spill3 100 8 0).eng 3).awaits = [] ∧
    ((spill3 188 8 0).get F.ENG_SPP_SPP 0 3 + 12 ≤ (spill3 188 8 0).get F.ENG_SPB_SPLIM 0 3) ∧
    Store.get (after (.wspill 3) (spill3 188 8 0)).priv 0 (3 * 2048 + 188) = 0xA ∧
    (after (.wspill 3) (spill3 188 8 0)).get F.ENG_SPP_SPP 0 3 = 200 ∧
    (after (.wspill 3) (spill3 188 8 0)).get F.ENG_WIN_SPILLED 0 3 = 1 ∧
    (after (.wspill 3) (spill3 189 8 0)).get F.ENG_TRAP_CAUSE 0 3 = 0 ∧ ((after (.wspill 3) (spill3 189 8 0)).eng 3).dfault = true ∧
    Store.get ((after (.wfill 3) (spill3 112 2 1)).eng 3).regs 0 72 = 0xC ∧
    Store.get ((after (.wfill 3) (spill3 112 2 1)).eng 3).regs 0 83 = 0xD ∧
    (after (.wfill 3) (spill3 112 2 1)).get F.ENG_SPP_SPP 0 3 = 100 ∧ ((after (.wfill 3) (spill3 111 2 1)).eng 3).dfault = true ∧
    (run3 0 0 0).Ready 3 [] ∧ (after (.wspill 3) (run3 0 0 0)).get F.ENG_TRAP_CAUSE 0 3 = 3 := by
  unfold State.Ready
  decide +kernel

/-- Engine 3 running, with a read of another die outstanding. -/
def out3 : State := { run3 0 0 0 with ring := [⟨1, 0, 1, .engine 3, none, .read 131072, .request⟩] }

theorem witness_system_instructions : (run3 0 0 0).Ready 3 [] ∧ (run3 0 0 0).outstanding 3 = false ∧ out3.Ready 3 [] ∧
    out3.outstanding 3 = true ∧ (out3.eng 3).normal = false ∧ ((after (.halt 3) out3).eng 3).ending = true ∧
    (after (.fence 3) out3 = out3) ∧ ((after (.clrstk 3) (win3 0 2 0x77F 0)).eng 3).stk = 0x700 ∧
    (after (.halt 3) fast3).get F.ENG_TRAP_CAUSE 0 3 = 3 := by
  unfold State.Ready
  decide +kernel

theorem witness_task_end : (∀ src < 256, (win3 0 2 0x41 0).get F.IRQ_SRC_MODE 0 src = 0) ∧ ((win3 0 2 0x41 0).eng 3).task = some 5 ∧
    (win3 0 2 0x41 0).outstanding 3 = false ∧ (win3 0 2 0x41 0).get F.ENG_TFLG_FLAGS 0 3 5 < 128 ∧ (win3 0 2 0x41 0).Ready 3 [] ∧
    (win3 0 2 0x41 0).Ready 3 [11] ∧ (win3 0 2 0x41 0).get F.ENG_WIN_SPILLED 0 3 = 0 ∧
    (after (.halt 3) (win3 0 2 0x41 0)).get F.ENG_TFLG_FLAGS 0 3 5 = 0x41 ∧ ((after (.ret 3) (win3 0 2 0x41 0)).eng 3).task = none ∧
    Store.get (after (.halt 3) (win3 0 2 0x41 0)).taskStk 0 101 = 0x41 ∧
    ((run fun E => { E with ending := true }).engOn 3 = true) ∧ ((after (.taskEnd 3) (run fun E => { E with ending := true })).eng 3).task = none := by
  unfold State.Ready
  decide +kernel

/-! ### Tasks, handlers and control -/

/-- Engine 7 free, with task 9 enabled: entry 77, HC 0x1234, saved STK 0x55; engine 3 runs with the number of that task in g0. -/
def disp7 : State :=
  { ((((run3 (7 * 32 + 9) 0xABC 0).put F.ENG_TCFG_EN 1 0 7 9).put F.ENG_TCFG_ENTRY 77 0 7 9).put F.ENG_CTL_EN 1 0 7).put F.ENG_THC_HC
      0x1234 0 7 9 with taskStk := [(7 * 32 + 9, 0x55)] }

/-- The same with another task on engine 7. -/
def busy7 : State := disp7.modEng 7 fun E => { E with task := some 1 }

/-- The same with task 9 of the free engine pending. -/
def pend7 : State := { disp7.put F.ENG_TSTAT_PEND 1 0 7 9 with pendArg := [(7 * 32 + 9, 0x13)] }

theorem witness_dispatch : disp7.dispatchDiscarded 7 9 = false ∧ disp7.dispatchOverrun 7 9 = false ∧ disp7.engineFree 7 = true ∧
    disp7.anyTaskPend 7 = false ∧ disp7.pendingSource 7 0 = none ∧ busy7.dispatchDiscarded 7 9 = false ∧
    busy7.dispatchOverrun 7 9 = false ∧ busy7.engineFree 7 = false ∧ disp7.dispatchDiscarded 7 8 = true ∧ pend7.engineFree 7 = true ∧
    pend7.pendingSource 7 1 = none ∧ (∀ k < 9, pend7.get F.ENG_TSTAT_PEND 0 7 k = 0) ∧ busy7.Ready 3 [16, 17] ∧
    (busy7.val 3 16).toNat % 1024 = 7 * 32 + 9 := by
  unfold State.Ready
  decide +kernel

theorem test_dispatch : ((after (.engDisp .host 7 3 9) disp7).eng 7).taskReg = 0x369 ∧ ((after (.engDisp .host 7 3 9) disp7).eng 7).pc = 77 ∧
    Store.get (after (.disp 3 16 17) busy7).pendArg 0 (7 * 32 + 9) = 0x55E4 ∧ ((after (.taskStart 7) pend7).eng 7).stk = 0x55 ∧
    (after (.engDisp .host 7 3 8) disp7).get F.ENG_TSTAT_OVR_CNT 0 7 8 = 1 := by decide +kernel

/-- Source 300 pending for engine 3 with entry 90, class `cls`, over a context of the engine. -/
def irq3 (cls depth used : Nat) (f : Engine → Engine) : State :=
  (((((((run f).put F.IRQ_SRC_EN 1 0 300).put F.IRQ_SRC_CLASS cls 0 300).put F.IRQ_SRC_ENGINE 3 0 300).put F.IRQ_SRC_TARGET 90 0 300).setPend
    0 300 true).put F.IRQ_STK_DEPTH depth 0 3).put F.ENG_WIN_WIN_USED used 0 3

/-- The same on the idle engine 4. -/
def idle4 : State := ((((rdy.put F.IRQ_SRC_EN 1 0 300).put F.IRQ_SRC_ENGINE 4 0 300).put F.IRQ_SRC_TARGET 90 0 300).setPend 0 300 true)

theorem witness_handlers : (irq3 1 1 2 id).engOn 3 = true ∧ (irq3 1 1 2 id).pendingSource 3 1 = some 300 ∧
    (irq3 0 0 2 id).pendingSource 3 0 = some 300 ∧ (irq3 0 0 2 id).pendingSource 3 1 = none ∧ ((irq3 0 0 2 id).eng 3).task ≠ none ∧
    ((irq3 0 0 2 id).eng 3).resume = none ∧ idle4.engOn 4 = true ∧ idle4.pendingSource 4 0 = some 300 ∧ (idle4.eng 4).task = none ∧
    (irq3 0 0 8 id).get F.ENG_WIN_WIN_USED 0 3 = 8 := by decide +kernel

theorem test_handler_entry : ((after (.fastInterruptEntry 3) (irq3 1 1 2 id)).eng 3).fastPc = 100 ∧
    (after (.fastInterruptEntry 3) (irq3 1 1 2 id)).get F.IRQ_STK_UPPER 0 3 = 300 ∧
    (after (.normalInterruptEntry 3) (irq3 0 0 2 id)).val 3 11 = 100 ∧
    ((after (.normalInterruptEntry 4) idle4).eng 4).normalIdle = true ∧
    (after (.normalInterruptEntry 3) (irq3 0 0 8 id)).get F.ENG_TRAP_CAUSE 0 3 = 0 := by decide +kernel

/-- A handler of source 300 on engine 3, with its number in g0. -/
def eoi3 (f : Engine → Engine) : State :=
  (((run fun E => f { E with regs := [(11, 200), (128, 300)] }).put F.IRQ_STK_DEPTH 1 0 3).put F.IRQ_STK_LOWER 300 0 3).put F.IRQ_SRC_ACTIVE
    1 0 300

theorem witness_eoi : (eoi3 fun E => { E with fast := true, fastPc := 55 }).Ready 3 [16] ∧ isAcc 16 = false ∧ isLevel 300 = false ∧
    ((after (.eoi 3 16) (eoi3 fun E => { E with fast := true, fastPc := 55 })).eng 3).pc = 55 ∧
    ((after (.eoi 3 16) (eoi3 fun E => { E with normal := true, normalIdle := true, task := none })).eng 3).normal = false ∧
    ((after (.eoi 3 16) (eoi3 fun E => { E with normal := true })).eng 3).pc = 200 ∧
    (after (.eoi 3 16) (eoi3 fun E => { E with normal := true })).get F.IRQ_SRC_ACTIVE 0 300 = 0 ∧
    (after (.eoi 3 16) (eoi3 id)).get F.ENG_TRAP_CAUSE 0 3 = 3 := by
  unfold State.Ready
  decide +kernel

/-- Engine 3 with a task of a herd that is RUNNING. -/
def locked3 : State := ((((run3 0 0 0).put F.ENG_TCFG_EN 1 0 3 5).put F.ENG_TCFG_HB 1 0 3 5).put F.ENG_TCFG_HERD 2 0 3 5).put F.HERD_STAT_STATE 3 0 2

theorem witness_engine_control : 2 ≤ rdy.pkgState ∧ (run3 0 0 0).engineLocked 3 = false ∧ locked3.engineLocked 3 = true ∧
    (run3 0 0 0).get F.ENG_TSEL_TASK 0 3 0 < 32 ∧ (after (.engineStop .host 3) (run3 0 0 0)).get F.ENG_CTL_STOP 0 3 = 1 ∧
    (after (.engineReset .host 3) locked3).get F.DIE_WREF_CNT 0 = 1 ∧
    ((after (.engineResume .host 3) (run fun E => { E with stopped := true })).eng 3).stopped = false ∧
    (after (.engTflgRead .host 3) ((run3 0 0 0).put F.ENG_TFLG_FLAGS 5 0 3 0)).answer = [5] ∧
    (after (.tickLoRead .host 0) (rdy.modDie 0 fun D => { D with tick := 2 ^ 32 + 7 })).answer = [7] := by decide +kernel

/-! ### Long instructions and transforms -/

/-- Engine 3 with [[1/2, 1/2], [1/4, 0]] at 0, [1/2, −1/2] at 8 and 0x10 at 20. -/
def vec3 : State :=
  { run fun E => { E with regs := [(129, 8), (130, 20)] } with
    priv := [(6144, 0x400000), (6145, 0x400000), (6146, 0x200000), (6152, 0x400000), (6153, 0xC00000), (6164, 0x10)] }

theorem witness_matrix : isPair 16 = true ∧ vec3.Ready 3 [16, 17, 18] ∧ (vec3.eng 3).resume = none ∧
    Store.get (after (.mvm 3 16 1 1 18 false true 0 none) vec3).priv 0 6164 = 0 ∧
    Store.get (after (.mvm 3 16 1 1 18 false true 0 none) vec3).priv 0 6165 = 0xF00000 ∧
    Store.get (after (.mva 3 16 1 1 18 false false 1 none) vec3).priv 0 6164 = 0x20 := by
  unfold State.Ready
  decide +kernel

theorem witness_fir_and_copy : vec3.Ready 3 [16, 17, 18] ∧ isGeneral 16 = true ∧ vec3.Ready 3 [16, 18] ∧
    (after (.fir 3 16 1 5 0 none) vec3).val 3 5 = 0 ∧ (after (.fir 3 16 0 5 0 none) vec3).val 3 5 = 0x200000 ∧
    ((run3 0x14000 0 0).eng 3).resume = none ∧ (after (.fir 3 16 0 5 0 none) (run3 0x14000 0 0)).get F.ENG_TRAP_CAUSE 0 3 = 2 ∧
    Store.get (after (.bcopy 3 16 2 18 none) vec3).priv 0 6166 = 0x200000 := by
  unfold State.Ready
  decide +kernel

theorem witness_transforms : isPair 16 = true ∧ isPair 18 = true ∧ isPair 20 = true ∧ isGroup 16 3 = true ∧
    ang3.Ready 3 [16, 17, 18, 19, 20, 21] ∧ ((run3 0 0 0).val 3 16).toInt = 0 ∧ ((run3 5 0 0).val 3 16).toInt ≠ 0 ∧
    ((run3 0xFFFFFF 0 0).val 3 16).toInt < 0 ∧ angleOf (after (.atan2 3 20 16 17) (run3 0 0 0)) 3 20 = 0 ∧
    ((after (.atan2 3 20 16 17) (run3 0 0 0)).eng 3).stk = 32 ∧ (after (.sqrt 3 20 16) (run3 0xFFFFFF 0 0)).val 3 20 = 0 := by
  unfold State.Ready
  decide +kernel

/-- Engine 3 with the bound of posted writes of its die reached, and a stalled write to point 0x20000. -/
def bound3 (n : Nat) (f : Engine → Engine) : State :=
  { run fun E => f { E with regs := [(128, 0x20000), (129, 7)] } with
    ring := (List.range n).map fun k => ⟨k, 0, 1, .engine 3, none, .write 131073 0, .request⟩ }

/-- The stalled instruction. -/
def stalledPut : Engine → Engine := fun E => { E with stalled := Store.set [] none 0 (some (.sput 3 17 16 19 false 0)) }

theorem witness_stalls : (bound3 16 id).Ready 3 [17, 16, 19] ∧ (bound3 16 id).isRemote 3 ((bound3 16 id).pointOf 3 16 0) = true ∧
    (bound3 16 id).postsFull 3 = true ∧ (bound3 15 stalledPut).stalledOp 3 = some (.sput 3 17 16 19 false 0) ∧
    (bound3 15 stalledPut).postsFull 3 = false ∧
    ((bound3 15 stalledPut).modEng 3 fun E => { E with stalled := Store.set E.stalled none E.lane none }).Ready 3 [17, 16, 19] ∧
    (after (.sput 3 17 16 19 false 0) (bound3 16 id)).get F.RING_FULL_STALL_CNT 0 = 1 ∧
    (after (.blockingStallRelease 3) (bound3 15 stalledPut)).ring.length = 16 := by
  unfold State.Ready
  decide +kernel

/-- Queue 5 with one entry, and a push to it stalled on engine 3. -/
def retry3 : State := (q3 0 [e0]).modEng 3 fun E => { E with stalled := Store.set [] none 0 (some (.qpush 3 18 16 17 false 9)) }

theorem witness_push_retry : retry3.stalledOp 3 = some (.qpush 3 18 16 17 false 9) ∧ (retry3.queueOf 3 16).toNat = 5 ∧
    retry3.queueStatus 5 = .ok ∧ retry3.get F.Q_CFG_KIND 0 5 = 0 ∧ (retry3.entries 5).length < retry3.get F.Q_SIZE_DEPTH 0 5 ∧
    (retry3.modEng 3 fun E => { E with stalled := Store.set E.stalled none E.lane none }).Ready 3 (16 :: groupOf 17 4 ++ [18]) ∧
    ((after (.queuePushRetry 3) retry3).entries 5).length = 2 := by
  unfold State.Ready
  decide +kernel

end Sys2Proof.Tests
end

