-- ==== Sys2Proof/Tests/Herds.lean ====
section
/-!
SUPPORT. Witnesses for the statements about herds, their law and the roles REGULATE, DRIVE and CHOP: states that meet the hypotheses
of each clause, with what the clause then gives.
-/
namespace Sys2Proof.Tests
open Sys2Proof.Machine
set_option Elab.async false

/-! ### The law of a herd -/

/-- Herd 3 of die 0 in the state with code `k` and role `r`, at tick `t`. -/
def herd3 (k r t : Nat) : State := ((at_ 0 t).put F.HERD_STAT_STATE k 0 3).put F.HERD_CTL_ROLE r 0 3

/-- Its law in a long episode. -/
def sat3 (t : Nat) (b : Bool) : State :=
  ((herd3 3 4 t).put F.LAW_STAT_VSAT_NOW 1 0 3).modHerdRun 3 fun H => { H with vsatAt := 5, vsatRecorded := b }

/-- Its heel 2 from point 40 to point 50. -/
def heel3 (k en : Nat) : State :=
  { (((herd3 k 4 9).put F.HEEL_SRC_EN en 0 3 2).put F.HEEL_SRC_POINT 40 0 3 2).put F.HEEL_OUT_POINT 50 0 3 2 with points := [(40, 77)] }

/-- Its detector channel 1 about to take a sample of `v`, with that record. -/
def osc3 (v : Word) (O : OscRun) : State :=
  ({ (((((herd3 3 4 99).put F.OSC_CFG_EN 1 0 3 1).put F.OSC_CFG_POINT 60 0 3 1).put F.OSC_SPER_SPER 99 0 3 1).put F.OSC_PAR_WLEN 0 0 3 1).put F.OSC_PAR_MSH 1 0 3 1 with points := Store.set [] 0 60 v }).modOsc 3 1 fun _ => O

theorem witness_law_units :
    (sat3 1000005 false).recQueue = none ∧
    (sat3 1000005 false).get F.LAW_STAT_VSAT_NOW 0 3 = 1 ∧
    ((sat3 1000005 false).herd 3).vsatAt + 1000000 ≤ (sat3 1000005 false).tick 0 ∧
    ((after (.vsatLong 3) (sat3 1000005 false)).herd 3).vsatRecorded = true ∧
    (heel3 1 1).pointStatus 50 = .ok ∧
    (heel3 1 1).get F.HEEL_SRC_EN 0 3 2 = 1 ∧
    (after (.heelRestart .host 3 4) (heel3 1 1)).point 50 = 77 ∧
    Store.get ((after (.heelRestart .host 3 4) (heel3 1 1)).herd 3).heelAt 0 2 = 10 ∧
    (heel3 3 0).herdState 3 = .running ∧
    (after (.heelEnable .host 3 2) (heel3 3 0)).point 50 = 77 ∧
    (heel3 1 0).herdState 3 = .bound ∧
    (after (.heelEnable .host 3 2) (heel3 1 0)).point 50 = 0 ∧
    (osc3 100 OscRun.reset).oscDue 3 = [1] ∧
    ((after (.oscSample 3) (osc3 100 OscRun.reset)).osc 3 1).m = 100 ∧
    ((after (.oscSample 3) (osc3 100 ⟨false, 80, 0, 5, 0, 0, 3, 0, 0⟩)).osc 3 1).m = 90 ∧
    ((after (.oscSample 3) (osc3 100 ⟨false, 80, 0, 5, 0, 0, 3, 0, 0⟩)).osc 3 1).amp = 10 ∧
    (osc3 100 ⟨false, 80, 0, 63, 3, 9, 30, 0, 0⟩).oscDue 3 = [1] ∧
    (osc3 100 ⟨false, 80, 0, 63, 3, 9, 30, 0, 0⟩).get F.OSC_PAR_WLEN 0 3 1 = 0 ∧
    (after (.oscSample 3) (osc3 100 ⟨false, 80, 0, 63, 3, 9, 30, 0, 0⟩)).get F.OSC_MEAS_AMP 0 3 1 = 30 ∧
    ((after (.oscSample 3) (osc3 100 ⟨false, 80, 0, 63, 3, 9, 30, 0, 0⟩)).osc 3 1).wins = 4 ∧
    (herd3 1 4 9).get F.OSC_CFG_EN 0 3 1 = 0 ∧
    ((herd3 1 4 9).herdState 3).locked = false ∧
    (after (.oscEnable .host 3 1) (herd3 1 4 9)).get F.OSC_CFG_EN 0 3 1 = 1 ∧
    ((herd3 3 4 9).herdState 3).locked = true ∧
    (after (.oscEnable .host 3 1) (herd3 3 4 9)).get F.DIE_WREF_CNT 0 = 1 := by decide +kernel

/-! ### Commands, checks, owners and roles -/

/-- Leg 21 of die 0 enabled and owned by herd 3. -/
def owned (s : State) : State := ((s.put F.OWN_LEG_EN 1 0 21).put F.OWN_LEG_HERD 3 0 21).put F.LEG_MODE_EN 1 0 21

/-- Herd 3 with that leg and a task on engine 4. -/
def herd3o (k r t : Nat) : State :=
  (((owned (herd3 k r t)).put F.ENG_TCFG_EN 1 0 4 0).put F.ENG_TCFG_HB 1 0 4 0).put F.ENG_TCFG_HERD 3 0 4 0

/-- What holds of every state of the witness that follows. -/
def calm3 (s : State) : Bool :=
  decide (2 ≤ s.pkgState) && s.recQueue.isNone && decide (s.get F.REG_STAT_BURST 0 3 = 0) && decide (s.get F.REG_STAT_ASLEEP 0 3 = 0)

/-- The state of herd 3 after a command, with its result. -/
def res3 (c : Instr) (s : State) : HState × Nat := ((after c s).herdState 3, (after c s).get F.HERD_STAT_CMD_RES 0 3)

/-- Herd 3 FAULTED, or in another state, by a transition of this tick that a SAFE or a FAULT of the tick has overtaken. -/
def justBound3 (k : Nat) : State := (herd3o k 2 9).modHerdRun 3 fun H => { H with freshAt := 10 }

/-- Herd 3 with a double fault of engine 4. -/
def dfault3 : State := (herd3o 5 2 9).modEng 4 fun E => { E with dfault := true }

theorem witness_herd_commands :
    calm3 (herd3o 0 2 9) = true ∧
    (herd3o 0 2 9).bindable 3 = true ∧
    (herd3 0 2 9).bindable 3 = false ∧
    res3 (.bind .host 3) (herd3o 0 2 9) = (.bound, 0) ∧
    res3 (.bind .host 3) (herd3 0 2 9) = (.unbound, 3) ∧
    res3 (.bind .host 3) (herd3o 3 2 9) = (.running, 3) ∧
    (herd3o 1 2 9).get F.HERD_STAT_CHECKING 0 3 = 0 ∧
    res3 (.unbind .host 3) (herd3o 1 2 9) = (.unbound, 0) ∧
    (after (.unbind .host 3) (herd3o 1 2 9)).herdLegs 3 = [] ∧
    res3 (.unbind .host 3) (herd3o 2 2 9) = (.armed, 3) ∧
    (herd3o 1 2 9).armStatus 3 = .ok ∧
    res3 (.arm .host 3) (herd3o 1 2 9) = (.bound, 0) ∧
    ((after (.arm .host 3) (herd3o 1 2 9)).herd 3).check = some 0 ∧
    (herd3o 2 2 9).armStatus 3 = .refused ∧
    res3 (.arm .host 3) (herd3o 2 2 9) = (.armed, 3) ∧
    res3 (.run .host 3) (herd3o 2 2 9) = (.running, 0) ∧
    (after (.run .host 3) (herd3o 2 2 9)).get F.LAW_STAT_COLD 0 3 = 1 ∧
    res3 (.run .host 3) (herd3o 1 2 9) = (.bound, 3) ∧
    res3 (.stop .host 3) (herd3o 3 2 9) = (.stopping, 0) ∧
    res3 (.stop .host 3) (herd3o 2 2 9) = (.bound, 0) ∧
    (after (.stop .host 3) ((herd3o 1 2 9).put F.HERD_STAT_CHECKING 1 0 3)).get F.HERD_STAT_CHECKING 0 3 = 0 ∧
    res3 (.stop .host 3) (herd3o 4 2 9) = (.stopping, 3) ∧
    (herd3o 4 2 9).fromTask .host 3 = false ∧
    res3 (.stopped .host 3) (herd3o 4 2 9) = (.stopping, 3) ∧
    (((herd3o 4 2 9).modEng 4 fun E => { E with task := some 0 }).fromTask (.engine 4) 3 = true) ∧
    (res3 (.stopped (.engine 4) 3) ((herd3o 4 2 9).modEng 4 fun E => { E with task := some 0 }) = (.bound, 0)) := by decide +kernel

theorem witness_herd_commands_safe :
    res3 (.safe .host 3) (herd3o 3 2 9) = (.safe, 0) ∧
    res3 (.safe .host 3) (herd3o 6 2 9) = (.safe, 3) ∧
    (herd3o 3 2 9).justBound 3 = false ∧
    (justBound3 1).justBound 3 = true ∧
    (after (.safe .host 3) (justBound3 1)).herdState 3 = .bound ∧
    (after (.fault .host 3) (justBound3 1)).herdState 3 = .bound ∧
    ((herd3o 3 2 9).overtaken 3 0 = false ∧ (herd3o 3 2 9).overtaken 3 1 = false ∧ ((herd3o 1 2 9).herd 3).tick.at_ ≠ 10) ∧
    res3 (.safe (.engine 4) 3) (after (.unbind (.engine 4) 3) (herd3o 1 2 9)) = (.safe, 3) ∧
    (after (.safe (.engine 4) 3) (after (.unbind (.engine 4) 3) (herd3o 1 2 9))).herdLegs 3 = (herd3o 1 2 9).herdLegs 3 ∧
    res3 (.safe (.engine 4) 3) (after (.run (.engine 4) 3) (herd3o 2 2 9)) = (.safe, 3) ∧
    (after (.safe (.engine 4) 3) (after (.run (.engine 4) 3) (herd3o 2 2 9))).get F.LAW_STAT_COLD 0 3 = 0 ∧
    ((after (.recover .host 3) (herd3o 5 2 9)).justBound 3) = true ∧
    (herd3o 5 2 9).herdDfault 3 = false ∧
    res3 (.recover .host 3) (herd3o 5 2 9) = (.bound, 0) ∧
    res3 (.recover .host 3) (herd3o 6 2 9) = (.bound, 0) ∧
    res3 (.recover .host 3) (herd3o 1 2 9) = (.bound, 3) ∧
    dfault3.herdDfault 3 = true ∧
    res3 (.recover .host 3) dfault3 = (.faulted, 3) ∧
    res3 (.fault .host 3) (herd3o 3 2 9) = (.faulted, 0) ∧
    res3 (.fault .host 3) (herd3o 6 2 9) = (.safe, 0) ∧
    res3 (.fault .host 3) (herd3o 0 2 9) = (.unbound, 3) ∧
    (herd3o 4 2 100000000).get F.HERD_CTL_STOP_TMO 0 3 < 999 ∧
    ((herd3o 4 2 100000000).herd 3).stopAt = 0 ∧
    (after (.stopTimeout 3) (herd3o 4 2 100000000)).herdState 3 = .bound := by decide +kernel

/-- Herd 3 in check `k` of its arming. -/
def check3 (k t : Nat) : State := (herd3o 1 2 t).modHerdRun 3 fun H => { H with check := some k }

/-- The same with a gate port, whose check waits. -/
def wait3 : State := (check3 2 9).put F.GATE_CFG_EN 1 0 21

/-- The same with a tripped leg. -/
def trip3 : State := (check3 0 9).put F.LEG_STAT_TRIP 1 0 21

theorem witness_arming_checks :
    wait3.recQueue = none ∧
    wait3.herdState 3 = .bound ∧
    (wait3.herd 3).check = some 2 ∧
    wait3.check 3 [] 2 = .waits ∧
    { after (.armCheckComplete 3 []) wait3 with herds := wait3.herds } = wait3 ∧
    ((check3 5 9).herd 3).check = some 5 ∧
    (∀ i < 8, (check3 5 9).get F.HERD_PLB_EN 0 3 i = 0) ∧
    (after (.armCheckComplete 3 []) (check3 5 9)).herdState 3 = .armed ∧
    (after (.armCheckComplete 3 []) (check3 0 9)).herdState 3 = .armed ∧
    trip3.check 3 [] 0 = .fails (some 21) ∧
    (after (.armCheckComplete 3 []) trip3).get F.HERD_CHK_FAILED 0 3 = 32 ∧
    (after (.armCheckComplete 3 []) trip3).herdState 3 = .faulted ∧
    ((check3 5 9).put F.HERD_PLB_EN 1 0 3 7).herdState 3 = .bound ∧
    (((check3 5 9).put F.HERD_PLB_EN 1 0 3 7).putI F.HERD_PLB_LO_LO 1 0 3 7).check 3 [] 5 = .fails (some 7) ∧
    (after (.armCheckComplete 3 []) (((check3 5 9).put F.HERD_PLB_EN 1 0 3 7).putI F.HERD_PLB_LO_LO 1 0 3 7)).get F.HERD_CHK_FAILED 0 3 = 1 ∧
    ((check3 3 100000000).herd 3).armAt + ((check3 3 100000000).get F.HERD_CTL_CHK_TMO 0 3 + 1) * 100000 ≤ (check3 3 100000000).tick 0 ∧
    (after (.armCheckTimeout 3) (check3 3 100000000)).get F.HERD_CHK_FAILED 0 3 = 4 := by decide +kernel

/-- The copy of a bound herd on its way to die 1. -/
def copied3 : State := herd3o 1 2 9

theorem witness_owners_and_roles :
    rdy.ownerOf F.OWN_LEG_EN F.OWN_LEG_HERD 1 23 = none ∧
    (2 : BitVec 6).toNat / 8 < rdy.dies ∧
    rdy.bindingOpen 1 2 = true ∧
    (after (.ownerWrite .host 1 .leg 23 true 2) rdy).ownerOf F.OWN_LEG_EN F.OWN_LEG_HERD 1 23 = some 2 ∧
    (after (.ownerWrite .host 1 .ab 15 true 2) rdy).ownerOf F.OWN_AB_EN F.OWN_AB_HERD 1 15 = some 2 ∧
    (after (.ownerWrite .host 1 .leg 23 false 2) rdy).ownerOf F.OWN_LEG_EN F.OWN_LEG_HERD 1 23 = none ∧
    (herd3o 3 2 9).ownerOf F.OWN_LEG_EN F.OWN_LEG_HERD 0 21 = some 3 ∧
    (herd3o 3 2 9).bindingOpen 0 3 = false ∧
    (after (.ownerWrite .host 0 .leg 21 false 0) (herd3o 3 2 9)).ownerOf F.OWN_LEG_EN F.OWN_LEG_HERD 0 21 = some 3 ∧
    (after (.ownerWrite .host 0 .leg 21 false 0) (herd3o 3 2 9)).get F.DIE_WREF_CNT 0 = 1 ∧
    next (.ownerWrite .host 0 .leg 21 true 3) (herd3o 3 2 9) = some (herd3o 3 2 9) ∧
    (after (.ownerWrite .host 0 .leg 20 true 3) (herd3o 3 2 9)).ownerOf F.OWN_LEG_EN F.OWN_LEG_HERD 0 20 = none ∧
    (after (.ownerWrite .host 0 .leg 20 true 3) (herd3o 3 2 9)).get F.DIE_WREF_CNT 0 = 1 ∧
    (after (.roleWrite .host 3 4) (herd3o 1 2 9)).get F.HERD_CTL_ROLE 0 3 = 4 ∧
    (after (.roleWrite .host 3 4) (herd3o 0 2 9)).get F.HERD_CTL_ROLE 0 3 = 4 ∧
    (after (.roleWrite .host 3 4) (herd3o 3 2 9)).get F.HERD_CTL_ROLE 0 3 = 2 ∧
    ((after (.roleWrite .host 3 4) (herd3o 1 2 9)).herd 3).roleAt = some 9 ∧
    (after (.roleWrite .host 3 4) ((herd3o 1 2 9).put F.DRV_CFG_EN 1 0 3)).get F.DRV_CFG_EN 0 3 = 0 ∧
    (after (.roleWrite .host 3 4) ((herd3o 1 2 9).put F.REG_CFG_EN 1 0 3)).get F.REG_CFG_EN 0 3 = 1 ∧
    (after (.roleChangeDone 3) ((after (.roleWrite .host 3 4) (herd3o 1 2 9)).put F.DRV_CFG_EN 1 0 3)).get F.DRV_CFG_EN 0 3 = 0 ∧
    copied3.herdState 3 = .bound ∧
    (after (.herdStateCopy 1 3) copied3).herdStateAt 1 3 = .bound ∧
    ((copied3.put F.CP_CFG_EN 1 0 3 2).put F.CP_TMO_TMO 7 0 3 2).get F.CP_TMO_TMO 0 3 2 = 7 ∧
    (after (.commandPointStale 3 2) ((copied3.put F.CP_CFG_EN 1 0 3 2).put F.CP_TMO_TMO 7 0 3 2)).get F.CP_STAT_STALE 0 3 2 = 1 := by decide +kernel

/-! ### REGULATE, DRIVE and CHOP -/

/-- Herd 3 as a REGULATE herd of one phase. -/
def reg3 (k t : Nat) : State :=
  ((((((herd3o k 4 t).put F.REG_LCFG_PH 1 0 21).put F.REG_LCFG_CMP 7 0 21).put F.CMP_CFG_LEG 21 0 7).put F.CMP_CFG_CBC 1 0 7).put
    F.CMP_CFG_LMODE 1 0 7).put F.REG_CFG_N_MAX 1 0 3

/-- The same with more phases asked for than there are. -/
def reg3bad (k t : Nat) : State := (reg3 k t).put F.REG_CFG_N_MAX 2 0 3

/-- Overloaded since tick 0. -/
def ovl3 : State := (((reg3 3 100000).put F.REG_CFG_EN 1 0 3).put F.REG_STAT_OVL 1 0 3).put F.REG_TIME_TOVL 0 0 3

/-- At the end of a burst. -/
def burst3 : State := ((reg3 3 50).put F.REG_STAT_BURST 1 0 3).modReg 3 fun R => { R with phases := [(0, 21)] }

theorem witness_regulate :
    (reg3 1 9).regOk 3 = true ∧
    (reg3 1 9).get F.REG_CFG_EN 0 3 = 0 ∧
    ((reg3 1 9).herdState 3).locked = false ∧
    (after (.regEnable .host 3) (reg3 1 9)).get F.REG_CFG_EN 0 3 = 1 ∧
    (after (.regEnable .host 3) (reg3 1 9)).get F.REG_STAT_N_PH 0 3 = 1 ∧
    (reg3bad 1 9).regOk 3 = false ∧
    (after (.regEnable .host 3) (reg3bad 1 9)).get F.REG_STAT_CFG_RES 0 3 = 3 ∧
    ovl3.herdState 3 = .running ∧
    ovl3.get F.REG_STAT_BURST 0 3 = 0 ∧
    ovl3.get F.REG_STAT_ASLEEP 0 3 = 0 ∧
    ovl3.get F.CH_STAT_ENG 0 3 = 0 ∧
    ovl3.justBound 3 = false ∧
    (ovl3.reg 3).ovlSince + max (ovl3.get F.REG_TIME_TOVL 0 3) 1 * 100000 ≤ ovl3.tick 0 ∧
    (after (.regOverload 3) ovl3).get F.REG_STAT_OVL_TRIP 0 3 = 1 ∧
    (after (.regOverload 3) ovl3).herdState 3 = .faulted ∧
    burst3.herdActive 3 = true ∧
    burst3.get F.REG_STAT_ASLEEP 0 3 = 0 ∧
    (burst3.reg 3).burstWait = false ∧
    (burst3.reg 3).burstLeft = 0 ∧
    burst3.get F.REG_CFG_RET 0 3 = 0 ∧
    burst3.get F.REG_BSLOT_DS0_EN 0 3 = 0 ∧
    burst3.get F.REG_BSLOT_DS1_EN 0 3 = 0 ∧
    burst3.get F.REG_BURST_WC 0 3 = 0 ∧
    burst3.get F.WC_CFG_STATE 0 0 ≠ 1 ∧
    (after (.burstSleep 3) burst3).get F.REG_STAT_ASLEEP 0 3 = 1 ∧
    ((after (.burstSleep 3) burst3).leg 0 21).burstMask = true ∧
    (burst3.put F.GRP_MASK_MASK 63 0 3).getBit F.GRP_MASK_MASK 3 0 3 = true ∧
    (after (.burstSleep 3) (burst3.put F.GRP_MASK_MASK 63 0 3)).get F.GRP_MASK_MASK 0 3 = 55 ∧
    (∀ p ∈ (burst3.reg 3).phases, p.1 < burst3.dies ∧ p.2 < 24) ∧
    (after (.burstDisable .host 3) (burst3.put F.REG_CFG_BURST_EN 1 0 3)).get F.REG_STAT_BURST 0 3 = 0 := by decide +kernel

/-- Herd 3 as a DRIVE herd whose shaft base is base 2. -/
def drv3 (k t : Nat) : State :=
  (((((herd3o k 2 t).put F.OWN_AB_EN 1 0 2).put F.OWN_AB_HERD 3 0 2).put F.AB_CFG_TYPE 2 0 2).put F.DRV_CFG_SHAFT 2 0 3).put
    F.DRV_LCFG_PH 1 0 21

/-- In a catch, in sequencer state `f`. -/
def catch3 (f amp : Nat) : State :=
  { (((drv3 3 100000000).put F.DRV_STAT_FSTATE f 0 3).put F.DRV_FAMP_POINT 40 0 3).put F.DRV_FLY_TRIES 3 0 3 with
    points := Store.set [] 0 40 (BitVec.ofNat 24 amp) }

/-- With a limit above every amplitude. -/
def caught3 (amp : Nat) : State :=
  { (((catch3 1 amp).put F.DRV_FVDC_POINT 41 0 3).put F.DRV_FLIM_KMAX 0x7FFFFF 0 3).putI F.DRV_FAMIN_AMIN 9 0 3 with
    points := [(40, BitVec.ofNat 24 amp), (41, 0x400000)] }

/-- Running with a winding short allowed. -/
def short3 : State := ((drv3 3 9).put F.DRV_CFG_EN 1 0 3).put F.DRV_WSCFG_NWC 1 0 3

theorem witness_drive :
    (drv3 1 9).driveOk 3 = true ∧
    (drv3 1 9).get F.DRV_CFG_EN 0 3 = 0 ∧
    ((drv3 1 9).herdState 3).locked = false ∧
    next (.driveEnable .host 3) (drv3 1 9) = some (((drv3 1 9).put F.DRV_CFG_EN 1 0 3).put F.DRV_STAT_CFG_RES 0 0 3) ∧
    (herd3o 1 2 9).driveOk 3 = false ∧
    (after (.driveEnable .host 3) (herd3o 1 2 9)).get F.DRV_STAT_CFG_RES 0 3 = 3 ∧
    (catch3 1 0).catchDue 3 1 ((catch3 1 0).get F.DRV_FLY_FLY_T 0 3) = true ∧
    ((catch3 1 0).putI F.DRV_FAMIN_AMIN 1 0 3).catchDue 3 1 ((catch3 1 0).get F.DRV_FLY_FLY_T 0 3) = true ∧
    (after (.catchWindowEnd 3) ((catch3 1 0).putI F.DRV_FAMIN_AMIN 1 0 3)).get F.DRV_STAT_FSTATE 0 3 = 3 ∧
    (caught3 9).catchDue 3 1 ((caught3 9).get F.DRV_FLY_FLY_T 0 3) = true ∧
    ((caught3 9).point ((caught3 9).get F.DRV_FAMP_POINT 0 3)).toInt = 9 ∧
    (aluMul ((caught3 9).point ((caught3 9).get F.DRV_FVDC_POINT 0 3)) (BitVec.ofNat 24 ((caught3 9).get F.DRV_FLIM_KMAX 0 3))).1.toInt > 9 ∧
    ((caught3 9).drv 3).seeded = false ∧
    (caught3 9).get F.DRV_STAT_FTRIES 0 3 < (caught3 9).get F.DRV_FLY_TRIES 0 3 ∧
    (after (.catchWindowEnd 3) (caught3 9)).get F.DRV_STAT_FTRIES 0 3 = 1 ∧
    (after (.catchWindowEnd 3) (caught3 9)).get F.DRV_STAT_FSTATE 0 3 = 1 ∧
    (catch3 2 0).catchDue 3 2 (max ((catch3 2 0).get F.DRV_FLY_ASC_T 0 3) 1) = true ∧
    (after (.ascPeriodEnd 3) (catch3 2 0)).get F.DRV_STAT_FSTATE 0 3 = 1 ∧
    ((after (.seeded .host 3) (catch3 2 0)).drv 3).seeded = true ∧
    (drv3 3 9).shortOk 3 = false ∧
    (after (.wsLow .host 3) (drv3 3 9)).get F.DRV_STAT_WS_RES 0 3 = 3 ∧
    short3.shortOk 3 = true ∧
    ((after (.wsLow .host 3) short3).leg 0 21).short = some .ascLow ∧
    ((after (.wsHigh .host 3) short3).leg 0 21).short = some .ascHigh ∧
    (after (.wsHigh .host 3) short3).get F.DRV_CNT_WS_CNT 0 3 = 1 ∧
    (after (.wsHigh .host 3) short3).get F.DRV_STAT_WS_ACTIVE 0 3 = 1 ∧
    ((after (.wsRelease .host 3) (after (.wsHigh .host 3) short3)).leg 0 21).shortRelease = true := by decide +kernel

/-- Herd 3 as a CHOP herd with one section. -/
def chop3 (k t : Nat) : State :=
  ((((((herd3o k 3 t).put F.CH_CFG_NSEC 1 0 3).put F.CH_SCFG_LEG 21 0 3 0).put F.CH_SCFG_ON 2 0 3 0).put F.CH_RTH_RTH 1 0 3 0).put
    F.CH_CTH_CTH 1 0 3 0).putI F.CH_VON_VON 100 0 3

/-- Running with the voltage above V_ON. -/
def high3 (at0 : Nat) : State :=
  { (((chop3 3 9000000).put F.CH_CFG_EN 1 0 3).put F.CH_VDC_POINT 40 0 3).put F.CH_TLIM_TLIM 50 0 3 0 with points := [(40, 101)] }.modChop 3
    fun C => { C with at_ := at0 }

theorem witness_chopper :
    (chop3 1 9).chopOk 3 = true ∧
    (chop3 1 9).get F.CH_CFG_EN 0 3 = 0 ∧
    ((chop3 1 9).herdState 3).locked = false ∧
    (∀ k < (chop3 1 9).get F.CH_CFG_NSEC 0 3, (chop3 1 9).sectionLeg 3 k < 24 * (chop3 1 9).dies) ∧
    (after (.chopEnable .host 3) (chop3 1 9)).get F.CH_CFG_EN 0 3 = 1 ∧
    (after (.chopEnable .host 3) (chop3 1 9)).get F.LEG_FORCE_FORCE 0 21 = 3 ∧
    (herd3o 1 3 9).chopOk 3 = false ∧
    (after (.chopEnable .host 3) (herd3o 1 3 9)).get F.CH_STAT_CFG_RES 0 3 = 3 ∧
    (high3 9000000).tick 0 < ((high3 9000000).chop 3).at_ + max ((high3 9000000).get F.CH_CFG_SPER 0 3) 1 ∧
    next (.chopSample 3) (high3 9000000) = some (high3 9000000) ∧
    (high3 0).get F.CH_CFG_EN 0 3 = 1 ∧
    ((high3 0).chop 3).at_ + max ((high3 0).get F.CH_CFG_SPER 0 3) 1 ≤ (high3 0).tick 0 ∧
    (high3 0).herdState 3 = .running ∧
    (high3 0).get F.CH_STAT_ENG 0 3 = 0 ∧
    (high3 0).get F.CH_STAT_LOCK 0 3 = 0 ∧
    Store.get ((high3 0).chop 3).rise 0 0 = 0 ∧
    (high3 0).getI F.CH_TAMB_TAMB 0 3 < (high3 0).get F.CH_TLIM_TLIM 0 3 0 ∧
    (high3 0).get F.CH_TMEAS_EN 0 3 0 = 0 ∧
    (high3 0).get F.CH_AVPT_EN 0 3 = 0 ∧
    (high3 0).getI F.CH_VON_VON 0 3 < ((high3 0).point ((high3 0).get F.CH_VDC_POINT 0 3)).toInt ∧
    (after (.chopSample 3) (high3 0)).get F.CH_STAT_ENG 0 3 = 1 ∧
    (after (.chopSample 3) (high3 0)).get F.LEG_FORCE_FORCE 0 21 = 2 := by decide +kernel

end Sys2Proof.Tests
end

