-- ==== Sys2Proof/Tests/Monitors.lean ====
section
/-!
SUPPORT. Witnesses for the statements about GRID and TRACK herds and about metrology: states that meet the hypotheses of each clause,
with what the clause then gives.
-/
namespace Sys2Proof.Tests
open Sys2Proof.Machine
set_option Elab.async false

/-! ### GRID and TRACK -/

/-- Herd 3 of die 0 RUNNING or in another state with code `k`, with role `r`, at tick `t`, owning leg 21 and base 2. -/
def member3 (k r t : Nat) : State :=
  ((((((at_ 0 t).put F.HERD_STAT_STATE k 0 3).put F.HERD_CTL_ROLE r 0 3).put F.OWN_LEG_EN 1 0 21).put F.OWN_LEG_HERD 3 0 21).put
    F.OWN_AB_EN 1 0 2).put F.OWN_AB_HERD 3 0 2

/-- As a GRID herd. -/
def grd3 (k t : Nat) : State :=
  ((((member3 k 6 t).put F.AB_CFG_TYPE 1 0 2).put F.GRD_CFG_BASE 2 0 3).put F.MT_CFG_EN 1 0 0).put F.GRD_VNOM_V_NOM 100 0 3

/-- Running with its monitor enabled, and the monitor's record. -/
def mon3 (t : Nat) (f : GrdRun → GrdRun) : State := ((grd3 3 t).put F.GRD_CFG_EN 1 0 3).modGrd 3 f

/-- Entry 2 has held for 21 s. -/
def due3 : State := mon3 2100000000 fun G => { G with timers := [(2, 1)] }

/-- At tick `t`, 2 ms of RESTORE and a cessation that ended at tick 9, with the times of its latest evaluation. -/
def ceased3 (t : Nat) (times : List Nat) : State :=
  ((mon3 t fun G => { G with mcEndAt := some 9, times := times }).put F.GRD_TIME_RESTORE 2 0 3).modLeg 0 21 fun L => { L with mcHold := true }

/-- In holdover for its full time. -/
def lost3 : State :=
  ((mon3 100000000 id).put F.GRD_AI_LOL_EN 1 0 3).put F.MT_STAT_HOLD 1 0 0 |>.modTracker 0 0 fun T => { T with holdAt := 5 }

/-- Suspicious on an earlier tick, at an evaluation. -/
def susp3 : State :=
  (((mon3 9 fun G => { G with suspAt := some 5, evalAt := 9 }).put F.GRD_STAT_AI_ARMED 1 0 3).put F.GRD_OUT_POINT 60 0 3).put
    F.MT_STAT_HOLD 0 0 0

/-- At the end of a probe. -/
def probed3 : State := (((mon3 9 id).put F.GRD_STAT_PROBING 1 0 3).put F.GRD_OUT_POINT 60 0 3).put F.GRD_AI_PRB_EN 0 0 3

/-- Unit 1 of die 0 with channel 2 and no crossing yet, for 2 s, and the monitor of herd 3 that watches it. -/
def zc3 : State :=
  ((((((mon3 200000000 id).put F.MU_CFG_EN 1 0 1).put F.MU_CFG_CH_EN 4 0 1).put F.MU_CFG_ZC_TMO 1 0 1).put F.GRD_CFG_MU 1 0 3).put
    F.GRD_AI_ZC_EN 1 0 3).put F.GRD_STAT_VREG 0 0 3

theorem witness_grid_zc :
    zc3.getBit F.MU_CFG_CH_EN 2 0 1 = true ∧
    zc3.getBit F.MU_STAT_ZC_TO 2 0 1 = false ∧
    Store.get (zc3.meter 0 1).zcAt 0 2 = 0 ∧
    max (zc3.get F.MU_CFG_ZC_TMO 0 1) 1 * 100000000 ≤ (zc3.tick 0 - (zc3.meter 0 1).enabledAt) * zc3.meterHz 0 1 ∧
    zc3.gridActs 3 = true ∧
    (∀ j < 8, j ≠ 3 → zc3.gridActs j = false) ∧
    zc3.overtaken 3 1 = false ∧
    (after (.zcTimeout 0 1 2) zc3).get F.GRD_STAT_ICAUSE 0 3 = 2 ∧
    (after (.zcTimeout 0 1 2) zc3).herdState 3 = .faulted := by decide +kernel

theorem witness_grid :
    due3.overtaken 3 1 = false ∧
    lost3.overtaken 3 1 = false ∧
    (grd3 1 9).recQueue = none ∧
    (grd3 1 9).gridOk 3 = true ∧
    (grd3 1 9).get F.GRD_CFG_EN 0 3 = 0 ∧
    ((grd3 1 9).herdState 3).locked = false ∧
    (after (.gridEnable .host 3) (grd3 1 9)).get F.GRD_CFG_EN 0 3 = 1 ∧
    (member3 1 6 9).gridOk 3 = false ∧
    (after (.gridEnable .host 3) (member3 1 6 9)).get F.GRD_STAT_CFG_RES 0 3 = 3 ∧
    due3.gridActs 3 = true ∧
    due3.tripDue 3 2 2100000000 = some 2100000000 ∧
    due3.get F.REG_STAT_BURST 0 3 = 0 ∧
    due3.get F.REG_STAT_ASLEEP 0 3 = 0 ∧
    due3.justBound 3 = false ∧
    due3.get F.CH_STAT_ENG 0 3 = 0 ∧
    (after (.gridTrip 3 2) due3).herdState 3 = .faulted ∧
    (after (.gridTrip 3 2) due3).get F.GRD_STAT_TRIP_ENT 0 3 = 2 ∧
    due3.tripDue 3 3 2100000000 = none ∧
    next (.gridTrip 3 3) due3 = some due3 ∧
    (ceased3 9 [0, 0]).timeNow 3 12 = (ceased3 9 []).get F.GRD_TIME_RESTORE 0 3 ∧
    ((ceased3 9 []).grd 3).mcEndAt = some 9 ∧
    (ceased3 9 []).timeNow 3 12 = 2 ∧
    next (.mcRestore 3) (ceased3 200008 []) = some (ceased3 200008 []) ∧
    ((after (.mcRestore 3) (ceased3 200009 [])).grd 3).mcEndAt = none ∧
    ((after (.mcRestore 3) (ceased3 9 (List.replicate 15 0))).grd 3).mcEndAt = none ∧
    ((after (.mcRestore 3) (ceased3 200009 [])).leg 0 21).mcRelease = true ∧
    lost3.justBound 3 = false ∧
    lost3.get F.REG_STAT_ASLEEP 0 3 = 0 ∧
    lost3.gridActs 3 = true ∧
    lost3.lolDue 3 100000000 = true ∧
    (after (.holdoverTimeout 3) lost3).get F.GRD_STAT_ISLAND 0 3 = 1 ∧
    (after (.holdoverTimeout 3) lost3).herdState 3 = .faulted ∧
    ((after (.holdoverTimeout 3) lost3).grd 3).islandHold.testBit 1 = true ∧
    susp3.gridActs 3 = true ∧
    susp3.grdHold 3 = false ∧
    susp3.get F.GRD_STAT_PROBING 0 3 = 0 ∧
    susp3.get F.GRD_STAT_VREG 0 3 ≠ 2 ∧
    susp3.pointStatus (susp3.grdPrb 3) = .ok ∧
    (after (.probeStart 3) susp3).get F.GRD_STAT_PROBING 0 3 = 1 ∧
    (after (.probeStart 3) susp3).point 63 = 83886 ∧
    (probed3.grd 3).probeLeft = 0 ∧
    probed3.get F.GRD_AI_PRB_EN 0 3 = 0 ∧
    probed3.pointStatus (probed3.grdPrb 3) = .ok ∧
    (after (.probeEnd 3) probed3).get F.GRD_ZM_PRB_CNT 0 3 = 1 ∧
    (((mon3 9 fun G => { G with esSince := some 5 }).grd 3).esSince = some 5) ∧
    ((after (.enterService 3) ((mon3 9 fun G => { G with esSince := some 5 }).put F.GRD_ES2_ES_T 0 0 3)).get F.GRD_STAT_ES_OK 0 3 = 1) ∧
    ((after (.enterService 3) (mon3 9 fun G => { G with esSince := some 5 })).get F.GRD_STAT_ES_OK 0 3 = 0) := by decide +kernel

/-- Herd 3 as a TRACK herd with its output at point 60 and readings at points 70 and 71. -/
def trk3 (k t : Nat) : State :=
  (((((member3 k 5 t).put F.TRK_OUT_POINT 60 0 3).put F.TRK_VPT_POINT 70 0 3).put F.TRK_IPT_POINT 71 0 3).putI F.TRK_SMIN_SMIN 100 0 3).putI
    F.TRK_SMAX_SMAX 200 0 3

/-- Running, with the unit's record and a current reading. -/
def step3 (f : TrkRun → TrkRun) (i : Word) : State :=
  { (((trk3 3 1000000).put F.TRK_CFG_EN 1 0 3).put F.TRK_VREF_VREF 5000 0 3) with points := Store.set [] 0 71 i }.modTrk 3 f

/-- With SW_EN set after the latest period, whose settings of SW_EN (its fifth) was `x`. -/
def held3 (x : Int) : State :=
  (step3 (fun T => { T with at_ := 1000000, held := some (1000000, [0, 0, 0, 0, x, 0]) }) 0).put F.TRK_CFG_SW_EN 1 0 3

/-- A sweep is due. -/
def swp3 : State := (((trk3 3 100000000).put F.TRK_CFG_EN 1 0 3).put F.TRK_VREF_VREF 5000 0 3).put F.TRK_CFG_SW_EN 1 0 3

/-- In a sweep. -/
def sweep3 (w : Nat) (f : TrkRun → TrkRun) : State := ((step3 f 0).put F.TRK_STAT_SWEEPING 1 0 3).put F.TRK_STAT_WAIT_GMP w 0 3

/-- The same with both capture rings frozen. -/
def frozen3 : State := ((sweep3 0 fun T => { T with rampAt := 1000000000 }).put F.CAP_STAT_FROZEN 1 0 0).put F.CAP_STAT_FROZEN 1 0 1

theorem witness_track :
    (trk3 1 9).recQueue = none ∧
    (trk3 1 9).trackOk 3 = true ∧
    (trk3 1 9).get F.TRK_CFG_EN 0 3 = 0 ∧
    ((trk3 1 9).herdState 3).locked = false ∧
    (after (.trackEnable .host 3) (trk3 1 9)).get F.TRK_CFG_EN 0 3 = 1 ∧
    (member3 1 5 9).trackOk 3 = false ∧
    (after (.trackEnable .host 3) (member3 1 5 9)).get F.TRK_STAT_CFG_RES 0 3 = 3 ∧
    (step3 id 0).trackActs 3 = true ∧
    ((step3 id 0).trk 3).at_ + max ((step3 id 0).get F.TRK_PER_TPER 0 3) 1 ≤ (step3 id 0).tick 0 ∧
    (step3 id 0).pointStatus 60 = .ok ∧
    (step3 id 0).get F.TRK_STAT_SWEEPING 0 3 = 0 ∧
    (after (.trackStep 3) ((step3 id 0).put F.LAW_STAT_VSAT_NOW 1 0 3)).get F.TRK_STAT_HOLD 0 3 = 1 ∧
    next (.sweepStart 3) ((step3 id 0).put F.LAW_STAT_VSAT_NOW 1 0 3) = some ((step3 id 0).put F.LAW_STAT_VSAT_NOW 1 0 3) ∧
    (step3 id 0).get F.LAW_STAT_VSAT_NOW 0 3 = 0 ∧
    (step3 id 0).get F.TRK_STAT_CURT_NOW 0 3 = 0 ∧
    (step3 id 0).pointI ((step3 id 0).get F.TRK_BUS_POINT 0 3) ≤ (step3 id 0).getI F.TRK_CURT_CURT 0 3 ∧
    ((step3 id 0).trk 3).havePrev = false ∧
    (after (.trackStep 3) (step3 id 0)).vref 3 = 5000 ∧
    (((step3 (fun T => { T with havePrev := true }) 9).trk 3).iPrev = 0) ∧
    ((after (.trackStep 3) (step3 (fun T => { T with havePrev := true }) 9)).vref 3 = 5100) ∧
    ((after (.trackStep 3) (step3 (fun T => { T with havePrev := true, iPrev := 9 }) 0)).vref 3 = 4900) ∧
    ((after (.trackStep 3) (step3 (fun T => { T with havePrev := true, iPrev := 9 }) 0)).point 60 = 4900) ∧
    ((step3 id 0).put F.TRK_CFG_SW_EN 1 0 3).trackActs 3 = true ∧
    ((step3 id 0).trk 3).held = none ∧
    ((step3 id 0).put F.TRK_CFG_SW_EN 1 0 3).trkSweeps 3 = true ∧
    (held3 0).trkSweeps 3 = false ∧
    (held3 1).trkSweeps 3 = true ∧
    swp3.sweepDue 3 ≤ swp3.tick 0 ∧
    swp3.trackActs 3 = true ∧
    swp3.trkSweeps 3 = true ∧
    (step3 id 0).get F.TRK_CFG_CV 0 3 < 8 ∧
    (step3 id 0).get F.TRK_CFG_CI 0 3 < 8 ∧
    (after (.sweepStart 3) swp3).vref 3 = 8388607 ∧
    (after (.sweepStart 3) swp3).get F.TRK_STAT_SWEEPING 0 3 = 1 ∧
    (sweep3 0 id).trackActs 3 = true ∧
    ((sweep3 0 id).trk 3).rampAt + 10000 ≤ (sweep3 0 id).tick 0 ∧
    ((sweep3 0 id).trk 3).rampAt + 10000 ≤ ((sweep3 0 id).trk 3).sweepAt + (sweep3 0 id).rampTicks 3 ∧
    (sweep3 0 id).trkVmin 3 ≤ (sweep3 0 id).trkVmax 3 ∧
    -8388608 ≤ (sweep3 0 id).trkVmin 3 ∧
    (sweep3 0 id).trkVmax 3 ≤ 8388607 ∧
    (after (.sweepRampStep 3) ((sweep3 0 id).putI F.TRK_VMAX_VMAX 8000 0 3)).vref 3 = 7999 ∧
    frozen3.rampOver 3 = true ∧
    (sweep3 0 id).rampOver 3 = false ∧
    next (.sweepFrozen 3) (sweep3 0 id) = some (sweep3 0 id) ∧
    frozen3.get F.CAP_STAT_FROZEN 0 ((sweep3 0 id).get F.TRK_CFG_CV 0 3) = 1 ∧
    frozen3.get F.CAP_STAT_FROZEN 0 ((sweep3 0 id).get F.TRK_CFG_CI 0 3) = 1 ∧
    (sweep3 0 id).get F.TRK_DISP_EN 0 3 = 0 ∧
    (after (.sweepFrozen 3) frozen3).get F.TRK_STAT_WAIT_GMP 0 3 = 1 ∧
    (sweep3 1 id).get F.TRK_STAT_WAIT_GMP 0 3 = 1 ∧
    (after (.trkGmp .host 3 777) (sweep3 1 id)).vref 3 = 777 ∧
    (after (.trkGmp .host 3 777) (sweep3 1 id)).get F.TRK_STAT_SW_DONE 0 3 = 1 ∧
    (sweep3 0 id).get F.TRK_STAT_WAIT_GMP 0 3 = 0 ∧
    (after (.trkGmp .host 3 777) (sweep3 0 id)).get F.DIE_WREF_CNT 0 = 1 ∧
    ((sweep3 1 id).put F.TRK_SW_SW_TMO 1 0 3).trackActs 3 = true ∧
    (((sweep3 1 id).put F.TRK_SW_SW_TMO 1 0 3).trk 3).gmpAt + ((sweep3 1 id).put F.TRK_SW_SW_TMO 1 0 3).resultTicks 3 ≤ 1000000 ∧
    (after (.sweepFail 3) ((sweep3 1 id).put F.TRK_SW_SW_TMO 1 0 3)).get F.TRK_STAT_SW_FAIL 0 3 = 1 := by decide +kernel

/-! ### Metrology -/

/-- Unit 1 of die 0 at tick `t`, with channels 2 and 6 of modulator inputs 7 and 8, and its enable. -/
def unit1 (en t : Nat) : State :=
  ((((((at_ 0 t).put F.MU_CFG_CH_EN 0x44 0 1).put F.MC_SRC_MOD 7 0 1 2).put F.MC_SRC_MOD 8 0 1 6).put F.MOD_CFG_EN 1 0 7).put
    F.MOD_CFG_EN 1 0 8).put F.MU_CFG_EN en 0 1

/-- The same with outputs of both inputs. -/
def fed1 : State :=
  ((unit1 1 9).modModIn 0 7 fun M => { M with total := 4, hist := [10, 20, 30, 40] }).modModIn 0 8
    fun M => { M with total := 4, hist := [1, 2, 3, 4] }

/-- The same with its calibration of zeros in flash. -/
def sealed1 : State :=
  { unit1 1 6000000000 with flash := ((List.range 4).map fun k =>
      ((0xF1020 / 8 + k, BitVec.ofNat 256 (if k = 3 then crc32 96 0 else 0)) : Nat × BitVec 256)) }

theorem witness_metrology :
    (unit1 0 9).recQueue = none ∧
    (unit1 0 9).get F.IRQ_SRC_EN 0 202 = 0 ∧
    (unit1 0 9).meterOk 0 1 = true ∧
    (unit1 0 9).get F.MU_CFG_EN 0 1 = 0 ∧
    (after (.meterEnable .host 0 1) (unit1 0 9)).get F.MU_CFG_EN 0 1 = 1 ∧
    rdy.meterOk 0 1 = false ∧
    rdy.get F.MU_CFG_EN 0 1 = 0 ∧
    (after (.meterEnable .host 0 1) rdy).get F.MU_STAT_CFG_RES 0 1 = 3 ∧
    (unit1 1 9).sampleDue 0 1 = false ∧
    next (.meterSample 0 1) (unit1 1 9) = some (unit1 1 9) ∧
    fed1.sampleDue 0 1 = true ∧
    fed1.channels 0 1 = [2, 6] ∧
    Store.get ((after (.meterSample 0 1) fed1).meter 0 1).seen 0 2 = 4 ∧
    ((after (.meterSample 0 1) fed1).meter 0 1).sampleAt = 9 ∧
    (unit1 1 200000000).getBit F.MU_CFG_CH_EN 2 0 1 = true ∧
    (unit1 1 200000000).getBit F.MU_STAT_ZC_TO 2 0 1 = false ∧
    Store.get ((unit1 1 200000000).meter 0 1).zcAt 0 2 = 0 ∧
    max ((unit1 1 200000000).get F.MU_CFG_ZC_TMO 0 1) 1 * 100000000 ≤ 200000000 * (unit1 1 200000000).meterHz 0 1 ∧
    (unit1 1 200000000).get F.MU_CFG_DC 0 1 = 0 ∧
    (after (.zcTimeout 0 1 2) (unit1 1 200000000)).get F.ZC_CNT_TO_CNT 0 1 2 = 1 ∧
    ((unit1 1 9).meter 0 1).snapAt ≠ some 9 ∧
    (after (.snap .host 0 1) ((unit1 1 9).put F.PAIL_HI 5 0 1 29)).wide 0 (.snap 1 29) = 5 * 2 ^ 32 ∧
    (after (.snap .host 0 1) (unit1 1 9)).wide 0 (.snapTick 1) = 9 ∧
    ((after (.snap .host 0 1) (unit1 1 9)).meter 0 1).snapAt = some 9 ∧
    sealed1.flashWord 0 (0xF1020 + 24) = crc32 96 0 ∧
    ((List.range 24).map (fun k => sealed1.flashWord 0 (0xF1020 + k)) = sealed1.calWords 0 1) ∧
    (after (.calchk .host 0 1) sealed1).get F.MU_STAT_CAL_OK 0 1 = 1 ∧
    (after (.calchk .host 0 1) ((unit1 1 9).put F.MU_STAT_CAL_OK 1 0 1)).get F.MU_STAT_CAL_OK 0 1 = 0 ∧
    (sealed1.meter 0 1).calAt + 6000000000 ≤ sealed1.tick 0 ∧
    (after (.calCheck 0 1) sealed1).get F.MU_STAT_CAL_OK 0 1 = 1 ∧
    (after (.mcCorrectionWrite .host 0 1 7 .gain 0x123456) sealed1).get F.MC_GAIN_GAIN 0 1 7 = 0x123456 ∧
    (after (.mcCorrectionWrite .host 0 1 7 .dly 0xFFFFFF) sealed1).get F.MU_STAT_CAL_OK 0 1 = 0 := by decide +kernel

/-- Pail 29 of unit 1 of die 0 holding a wide value. -/
def pail29 : State := (rdy.put F.PAIL_LO 7 0 1 29).put F.PAIL_HI 5 0 1 29

/-- Pulse output 3 of die 0 in phase `p`, at tick `t`. -/
def pulse3 (p t : Nat) : State := (at_ 0 t).modPulse 0 3 fun P => { P with phase := p }

/-- S0 input 3 of die 0 enabled at level `v`, at tick `t`. -/
def s03 (v t : Nat) : State := ((at_ 0 t).put F.S0_CFG_EN 1 0 3).put F.S0_STAT_LEVEL v 0 3

theorem witness_pails_pulses_s0 :
    WideCounter.valid (.pail 1 29) = true ∧
    (after (.pailLoRead .host 0 (.pail 1 29)) pail29).answer = [7] ∧
    (after (.pailLoRead .host 0 (.pail 1 29)) pail29).latch .host 0 0 = 5 ∧
    ({ pail29 with latches := Store.set [] 0 (latchKey .host 0 1) 10 }).latch .host 0 1 = 9 + 1 ∧
    (after (.pailWrite .host 0 (.pail 1 29) 3 false) { pail29 with latches := Store.set [] 0 (latchKey .host 0 1) 10 }).wide 0 (.pail 1 29) =
    9 * 2 ^ 32 + 3 ∧
    pail29.latch .host 0 1 = 0 ∧
    pail29.wide 0 (.pail 1 29) < 2 ^ 64 ∧
    (after (.pailWrite .host 0 (.pail 1 29) 3 false) pail29).wide 0 (.pail 1 29) = 5 * 2 ^ 32 + 3 ∧
    (rdy.put F.PO_THR_LO_THR 1 0 3).threshold 0 3 ≠ 0 ∧
    (rdy.put F.PO_THR_LO_THR 1 0 3).get F.PO_CFG_EN 0 3 = 0 ∧
    (after (.pulseOutputEnable .host 0 3) (rdy.put F.PO_THR_LO_THR 1 0 3)).get F.PO_CFG_EN 0 3 = 1 ∧
    rdy.threshold 0 3 = 0 ∧
    rdy.get F.PO_CFG_MODE 0 3 ≤ 1 ∧
    (after (.pulseOutputEnable .host 0 3) rdy).get F.DIE_WREF_CNT 0 = 1 ∧
    ((pulse3 1 10000000).pulse 0 3).at_ + (pulse3 1 10000000).get F.PO_CFG_WID 0 3 * 100000 ≤ (pulse3 1 10000000).tick 0 ∧
    ((after (.pulseEnd 0 3) (pulse3 1 10000000)).pulse 0 3).phase = 2 ∧
    (pulse3 2 10000000).get F.PO_CFG_MODE 0 3 = 0 ∧
    ((after (.gapEnd 0 3) (pulse3 2 10000000)).pulse 0 3).phase = 0 ∧
    ((pulse3 1 25000000).put F.PO_CFG_MODE 1 0 3).get F.PO_CFG_MODE 0 3 = 1 ∧
    ((after (.pulseEnd 0 3) ((pulse3 1 25000000).put F.PO_CFG_MODE 1 0 3)).pulse 0 3).phase = 3 ∧
    (s03 0 9).get F.S0_STAT_LEVEL 0 3 = 0 ∧
    (s03 0 9).get F.S0_CFG_DEB 0 3 = 2 ∧
    (s03 0 9).bit F.S0_CFG_POL 0 3 = false ∧
    (after (.s0LevelAccept 0 3 ⟨false, 200000⟩) (s03 0 9)).get F.S0_STAT_LEVEL 0 3 = 1 ∧
    next (.s0LevelAccept 0 3 ⟨false, 199999⟩) (s03 0 9) = some (s03 0 9) ∧
    (after (.s0LevelAccept 0 3 ⟨true, 200000⟩) ((s03 0 9).put F.S0_CFG_POL 1 0 3)).get F.S0_STAT_LEVEL 0 3 = 1 ∧
    (after (.s0LevelAccept 0 3 ⟨true, 200000⟩) (s03 0 9)).get F.S0_STAT_LEVEL 0 3 = 0 ∧
    ((s03 1 9).s0 0 3).counted = false ∧
    (s03 1 9).tick 0 < ((s03 1 9).s0 0 3).since + (s03 1 9).get F.S0_CFG_MINW 0 3 * 100000 ∧
    (after (.s0LevelAccept 0 3 ⟨true, 200000⟩) (s03 1 9)).get F.S0_STAT_REJ_CNT 0 3 = 1 ∧
    ((s03 1 3000000).s0 0 3).since + (s03 1 3000000).get F.S0_CFG_MINW 0 3 * 100000 ≤ (s03 1 3000000).tick 0 ∧
    ((s03 1 3000000).s0 0 3).written = 0 ∧
    (after (.s0PulseCount 0 3) ((s03 1 3000000).put F.S0_CNT_CNT (2 ^ 32 - 1) 0 3)).get F.S0_CNT_CNT 0 3 = 0 ∧
    (after (.s0PulseCount 0 3) ((s03 1 3000000).put F.S0_CNT_CNT (2 ^ 32 - 1) 0 3)).get F.S0_STAT_OVF 0 3 = 1 ∧
    (after (.s0CntWrite .host 0 3 99 false) (s03 1 9)).get F.S0_CNT_CNT 0 3 = 99 := by decide +kernel

end Sys2Proof.Tests
end

