-- ==== Sys2Proof/Tests/Package.lean ====
section
/-!
SUPPORT. Witnesses for the statements about the unit chain, reset, boot and the package, and for the statements about every command:
states that meet the hypotheses of each clause, with what the clause then gives.
-/
namespace Sys2Proof.Tests
open Sys2Proof.Machine
set_option Elab.async false

/-! ### The unit chain -/

/-- A unit of the chain with its ports' links and its state, and the chain's record. -/
def unit (up dn st : Nat) (f : ChainRun → ChainRun) : State :=
  { ((rdy.put F.CHN_STAT_UP_LINK up).put F.CHN_STAT_DN_LINK dn).put F.CHN_STAT_STATE st with chain := f ChainRun.reset }

/-- The head of a chain. -/
def head (dn : Nat) (f : ChainRun → ChainRun) : State := (unit 0 dn 0 f).put F.CHN_STAT_HEAD 1

/-- A frame that waits for its ACK, repeated `n` times. -/
def sentFrame (n : Nat) : LinkFrame := ⟨true, 7, n, 0, .time 5⟩

/-- A unit that has sent it, at tick `t`. -/
def sender (n t : Nat) : State := (unit 1 1 2 fun C => { C with frames := [sentFrame n] }).modDie 0 fun D => { D with tick := t }

/-- A unit with a segment below it that is not enumerated yet. -/
def above : State := unit 1 1 2 fun C => { C with segment := true }

theorem witness_segment_and_second_head :
    above.chain.segment = true ∧
    above.get F.CHN_STAT_DN_LINK ≠ 0 ∧
    (after (.linkDown false 5) above).chain.frames = [⟨true, 0, 0, 0, .resp 5 0 0 0 0 Status.stale.code 0 []⟩] ∧
    (after (.linkDown false 5) above).chain.lostFrom = some 2 ∧
    (after (.linkDown true 1) (unit 1 1 2 id)).get F.CHN_STAT_STATE = 2 ∧
    (after (.linkDown true 1) (unit 1 1 2 id)).chain.frames = [⟨true, 0, 0, 0, .linkDown 1⟩] := by decide +kernel

theorem witness_chain_links :
    (unit 0 0 0 id).recQueue = none ∧
    (unit 0 0 0 id).get F.IRQ_SRC_EN 0 219 = 0 ∧
    (unit 0 0 0 id).get F.IRQ_SRC_EN 0 222 = 0 ∧
    (unit 0 0 0 id).chain.reqs = [] ∧
    (unit 0 0 0 id).get F.CHN_STAT_DN_LINK = 0 ∧
    (after (.linkUp true) (unit 0 0 0 id)).get F.CHN_STAT_DN_LINK = 1 ∧
    (after (.linkUp false) (unit 0 0 0 id)).get F.CHN_STAT_UP_LINK = 1 ∧
    next (.linkUp true) (unit 0 1 0 id) = some (unit 0 1 0 id) ∧
    (after (.ack true 7) (sender 0 0)).chain.frames = [] ∧
    (((sender 3 800).chain.frames.find? fun y => y.down == true && y.seq == 7) = some (sentFrame 3)) ∧
    (sentFrame 3).repeats < (sender 3 800).get F.CHN_CFG_RETRY_N ∧
    (after (.nak true 7) (sender 3 800)).get F.CHN_CNT_RETRY_CNT = 1 ∧
    (after (.chainRetry true 7) (sender 3 800)).chain.frames = [{ sentFrame 4 with at_ := 800 }] ∧
    next (.chainRetry true 7) (sender 3 799) = some (sender 3 799) ∧
    (sender 4 800).get F.CHN_CFG_RETRY_N ≤ (sentFrame 4).repeats ∧
    next (.nak true 7) (sender 4 800) = next (.linkLost true) (sender 4 800) ∧
    (after (.nak true 7) (sender 4 800)).get F.CHN_STAT_DN_LINK = 0 ∧
    (∀ y ∈ (sender 3 800).chain.frames, (y.down == true && y.seq == 8) = false) ∧
    next (.nak true 8) (sender 3 800) = some (sender 3 800) ∧
    (sender 3 800).get F.CHN_STAT_UP_LINK ≠ 0 ∧
    (after (.linkLost false) (sender 3 800)).get F.CHN_CNT_LOSS_CNT = 1 ∧
    (after (.linkLost false) (sender 3 800)).chain.frames.length = 2 ∧
    (after (.linkLost false) (sender 3 800)).get F.CHN_STAT_STATE = 3 ∧
    next (.linkLost true) (unit 1 0 2 id) = some (unit 1 0 2 id) ∧
    (unit 1 1 2 id).get F.CHN_STAT_HEAD = 0 ∧
    (after (.linkDown true 9) (unit 1 1 2 id)).get F.CHN_STAT_STATE = 3 ∧
    (after (.linkDown true 9) (unit 1 1 2 id)).chain.frames = [⟨true, 0, 0, 0, .linkDown 9⟩] ∧
    (head 1 id).get F.CHN_STAT_HEAD = 1 ∧
    (after (.linkDown false 0) (head 1 id)).chain.lostFrom = some 1 ∧
    (after (.linkDown true 9) (head 1 id)).chain.lostFrom = some 2 ∧
    (after (.chainBadFrame true .badLen) (unit 1 1 2 id)).get F.CHN_CNT4_BADFR_CNT = 1 := by decide +kernel

/-- In the package state ENUM at tick `t`. -/
def enumAt (s : State) (t : Nat) : State := (s.put F.PKG_STATE_STATE 3).modDie 0 fun D => { D with tick := t }

/-- The roster entry of unit `a` of generation 1. -/
def rostered (a : BitVec 6) : RosterEntry := ⟨a, 1, 0, false⟩

/-- The head in an enumeration, at tick `t`. -/
def counting (t : Nat) (b : Bool) : State :=
  enumAt (head 1 fun C => { C with enumFirst := some 2, genCount := 1, acks := [(rostered 2, 1, 2)], ackLast := b }) t

/-- A unit with address 2 in ENUM. -/
def numbered : State := (enumAt (unit 1 1 1 id) 300000).put F.CHN_STAT_ADDR 2

/-- A unit in ENUM whose downstream link has just been restored, at tick `t`. -/
def restored (t : Nat) : State := enumAt (unit 1 1 0 fun C => { C with segment := true }) t

theorem witness_enum_and_segment :
    (restored 19999999).chain.segment = true ∧
    (restored 19999999).tick 0 < (restored 19999999).chain.dnAt + 20000000 ∧
    (after (.enum 2 4 true) (restored 19999999)).chain.frames.length = 1 ∧
    (after (.enum 2 4 true) (restored 19999999)).chain.segment = true ∧
    (after (.enum 2 4 true) (restored 20000000)).chain.frames.length = 2 ∧
    (after (.enum 2 4 true) (restored 20000000)).chain.segment = false := by decide +kernel

theorem witness_chain_enumeration :
    (enumAt (head 1 id) 20000000).recQueue = none ∧
    (enumAt (head 1 id) 20000000).pkgState = 3 ∧
    (enumAt (head 1 id) 20000000).chain.enumFirst = none ∧
    (enumAt (head 1 id) 20000000).chain.dnAt + 20000000 ≤ (enumAt (head 1 id) 20000000).tick 0 ∧
    (after .enumStart (enumAt (head 1 id) 20000000)).get F.CHN_STAT_GEN = 1 ∧
    (after .enumStart (enumAt (head 1 id) 20000000)).chain.frames = [⟨true, 0, 0, 20000000, .enum 2 1⟩] ∧
    next .enumStart (enumAt (head 1 id) 19999999) = some (enumAt (head 1 id) 19999999) ∧
    next .enumStart (unit 1 1 0 id) = some (unit 1 1 0 id) ∧
    (enumAt (unit 1 1 0 id) 9).get F.CHN_STAT_DN_LINK = 1 ∧
    (enumAt (unit 1 1 0 id) 9).get F.CHN_STAT_UP_LINK = 1 ∧
    (after (.enum 62 4 true) (enumAt (unit 1 1 0 id) 9)).get F.CHN_STAT_ADDR = 62 ∧
    (after (.enum 62 4 true) (enumAt (unit 1 1 0 id) 9)).chain.frames.length = 2 ∧
    (after (.enum 63 4 true) (enumAt (unit 1 1 0 id) 9)).get F.CHN_STAT_OVER = 1 ∧
    (after (.enum 2 1 true) (head 1 id)).get F.CHN_CNT4_BADFR_CNT = 1 ∧
    (counting 9 false).chain.enumFirst.isSome = true ∧
    (after (.enumAck 3 0 1 2 true) (counting 9 false)).chain.acks.length = 2 ∧
    (after (.enumAck 3 0 1 2 true) numbered).chain.frames = [⟨false, 0, 0, 300000, .enumAck 3 0 1 2 true⟩] ∧
    (counting 9 false).chain.ackLast = false ∧
    next .enumComplete (counting 99999 false) = some (counting 99999 false) ∧
    (after .enumComplete (counting 100000 false)).pkgState = 4 ∧
    (after .enumComplete (counting 9 true)).chain.roster.contains (rostered 2) = true ∧
    numbered.get F.IRQ_SRC_EN 0 220 = 0 ∧
    (after (.roster [rostered 1, rostered 2]) numbered).pkgState = 4 ∧
    (after (.roster [rostered 1, rostered 2]) numbered).get F.CHN_STAT_EXCL = 0 ∧
    (after (.roster [rostered 1, rostered 2]) numbered).get F.PKG_BOOT_BOOT_MS = 3 ∧
    (enumAt (unit 0 0 0 id) 10000000).boot.enumAt + 10000000 ≤ (enumAt (unit 0 0 0 id) 10000000).tick 0 ∧
    (after .enumWaitTimeout (enumAt (unit 0 0 0 id) 10000000)).pkgState = 4 ∧
    next .enumWaitTimeout (enumAt (unit 0 0 0 id) 9999999) = some (enumAt (unit 0 0 0 id) 9999999) ∧
    next .headEnumTimeout (enumAt (head 0 id) 9999999) = some (enumAt (head 0 id) 9999999) ∧
    (after .headEnumTimeout (enumAt (head 0 id) 20000000)).pkgState = 4 := by decide +kernel

/-- A unit that follows the head's time, with chain record `f`, at tick 500,000. -/
def timed (f : ChainRun → ChainRun) : State := (unit 1 1 2 f).modDie 0 fun D => { D with tick := 500000 }

/-- The same at tick 500,050 of both dies, between two whistles. -/
def between (f : ChainRun → ChainRun) : State :=
  ((unit 1 1 2 f).modDie 0 fun D => { D with tick := 500050 }).modDie 1 fun D => { D with tick := 500050 }

theorem witness_chain_time :
    (timed id).recQueue = none ∧
    (timed id).get F.IRQ_SRC_EN 0 222 = 0 ∧
    (timed id).get F.CHN_STAT_HEAD = 0 ∧
    (timed id).get F.CHN_STAT_STATE = 2 ∧
    (after (.time 499989) (timed id)).getI F.CHAIN_TOFS_OFFSET = 110 ∧
    (after (.time 499989) (timed id)).get F.CHN_STAT_TIME_DIS ≠ 0 ∧
    (after (.time 499995) (timed id)).chain.slew = 5 ∧
    ((after (.time 499995) (timed fun C => { C with goodRun := 9 })).chain.goodRun = 0) ∧
    ((after (.time 499998) (timed fun C => { C with goodRun := 99 })).chain.goodRun = 100) ∧
    ((after (.time 499998) ((timed fun C => { C with goodRun := 99 }).put F.CHN_STAT_TIME_DIS 1)).get F.CHN_STAT_TIME_DIS = 0) ∧
    (after (.time 499998) ((timed id).put F.CHN_STAT_TIME_DIS 1)).get F.CHN_STAT_TIME_DIS = 1 ∧
    (after (.time 500000) (timed id)).chain.frames = [⟨true, 0, 0, 500000, .time 500000⟩] ∧
    (timed id).anyRunning = false ∧
    (after (.time 498999) (timed id)).tick 0 = 498999 ∧
    ((timed id).put F.HERD_STAT_STATE 3 0 3).anyRunning = true ∧
    (after (.time 498999) ((timed id).put F.HERD_STAT_STATE 3 0 3)).tick 0 = 500000 ∧
    (after (.time 7) (head 1 id)).chain.linkAns = some (true, true) ∧
    (after (.chainDelayMeasure 40) (timed id)).chain.delay = 40 ∧
    next (.chainDelayMeasure 40) (head 1 id) = some (head 1 id) ∧
    (∀ d < 2, 5 ≤ (between id).tick d % 100000 ∧ (between id).tick d % 100000 < 99995) ∧
    (between id).clockOn 1 1 = true ∧
    ((after (.chainTickSlew true) (between fun C => { C with slew := -3 })).chain.slew = -2) ∧
    (((after (.chainTickSlew true) (between fun C => { C with slew := -3 })).die 1).chain = 1) ∧
    (((after (.chainTickSlew false) (between fun C => { C with slew := 3 })).die 1).chain = -1) ∧
    ((after (.chainTickSlew false) (between fun C => { C with slew := 3 })).get F.TICK_STAT_LAST_SLIP 1 = 2) ∧
    ((after (.chainTickSlew true) (between fun C => { C with slew := -3 })).get F.TICK_STAT_SLIP_CNT 1 = 1) ∧
    next (.chainTickSlew false) (timed id) = some (timed id) ∧
    (next (.chainTickSlew false) (between fun C => { C with slew := 3, slewAt := 499052 }) = some (between fun C => { C with slew := 3, slewAt := 499052 })) ∧
    (next (.chainTickSlew false) (timed fun C => { C with slew := 3 }) = some (timed fun C => { C with slew := 3 })) ∧
    ((after (.chainTickSlew true) (between fun C => { C with slew := -3 })).chain.slewAt = 500052) := by decide +kernel

/-- The header of a frame from unit 3 to unit `dst`. -/
def fromThree (dst : BitVec 6) (rid : BitVec 16) : ChainHeader := ⟨true, dst, 3, 1, 9, rid⟩

/-- Unit 2 ACTIVE, with unit 3 on its roster and RID 5 of unit 3 already seen. -/
def served : State :=
  let s := (unit 1 1 2 fun C => { C with roster := [rostered 3], windows := [(3, 1, [5])] }).put F.CHN_STAT_ADDR 2
  { (s.put F.Q_CFG_EN 1 1 5).put F.Q_SIZE_DEPTH 4 1 5 with points := [(40, 9)] }

/-- The status of the response that a command sends. -/
def statusOf (c : Instr) (s : State) : List Nat :=
  (after c s).chain.frames.map fun y => match y.msg with | .resp _ _ _ _ _ st _ _ => st | _ => 99

/-- CH_HADDR holds 9, and unit 3 has sent a command. -/
def partly (c : Instr) : State := after c (served.put F.CHN_HADDR_ADDR 9)

/-- R564: a register burst in parts: its second word is read after what another port does in between. -/
theorem test_burst_in_parts : (partly (.rRead (fromThree 2 6) 0x50084 ⟨2, ⟨1, false⟩⟩)).chain.frames = [] ∧
    (partly (.rRead (fromThree 2 6) 0x50084 ⟨2, ⟨1, false⟩⟩)).bursts = [⟨.chain (fromThree 2 6), .chain 3, 0x50088, none, 1, [.ok], [9]⟩] ∧
    (after (.rRead (fromThree 2 6) 0x50084 ⟨2, ⟨0, true⟩⟩) ((partly (.rRead (fromThree 2 6) 0x50084 ⟨2, ⟨1, false⟩⟩)).put F.CHN_HRES_RES 3)).bursts = [] ∧
    ((after (.rRead (fromThree 2 6) 0x50084 ⟨2, ⟨0, true⟩⟩) ((partly (.rRead (fromThree 2 6) 0x50084 ⟨2, ⟨1, false⟩⟩)).put F.CHN_HRES_RES 3)).chain.frames.map fun y =>
      match y.msg with | .resp _ _ _ _ _ st _ ws => (st, ws.take 1) | _ => (99, [])) = [(0, [9])] := by decide +kernel

/-- The same with the first word of that burst read. -/
def begun : State := { served with bursts := [⟨.chain (fromThree 2 6), .chain 3, 0x50084, none, 1, [.ok], [9]⟩] }

theorem witness_burst_end :
    (begun.bursts.find? (fun b => decide (b.key = .chain (fromThree 2 6))) = some ⟨.chain (fromThree 2 6), .chain 3, 0x50084, none, 1, [.ok], [9]⟩) ∧
    (after (.rRead (fromThree 2 6) 0x50084 ⟨2, ⟨0, true⟩⟩) begun).bursts = [] ∧
    (after (.rRead (fromThree 2 6) 0x50084 ⟨2, ⟨0, true⟩⟩) begun).chain.frames.length = 1 := by decide +kernel

theorem witness_chain_requests :
    served.pkgState = 4 ∧
    served.get F.CHN_STAT_HEAD = 0 ∧
    served.chain.segment = false ∧
    served.rosterEntry 3 = some (rostered 3) ∧
    (rostered 3).gen = (fromThree 2 6).gen ∧
    (served.chain.window 3 1).contains 6 = false ∧
    served.pointStatus 40 = .ok ∧
    (after (.pRead (fromThree 2 6) 40 1) served).chain.frames = [⟨false, 0, 0, 0, .resp 3 2 1 9 6 0 0 [9]⟩] ∧
    (after (.pWrite (fromThree 2 6) 40 [7]) served).point 40 = 7 ∧
    (after (.pWrite (fromThree 2 6) 40 [7]) served).chain.window 3 1 = [6, 5] ∨ (after (.pWrite (fromThree 2 6) 40 [7]) served).chain.window 3 1 = [5, 6] ∧
    served.queueStatus 0x2005 = .ok ∧
    served.get F.Q_CFG_KIND 1 5 = 0 ∧
    served.get F.IRQ_SRC_EN 1 200 = 0 ∧
    (after (.qPush (fromThree 2 6) 0x2005 9 ⟨1, 2, 3, 4⟩) served).entries 0x2005 = [⟨BitVec.ofNat 16 ((0x140 + 3) * 128 + 9), ⟨1, 2, 3, 4⟩⟩] ∧
    statusOf (.rRead (fromThree 2 6) 0x50084 ⟨1, ⟨0, false⟩⟩) served = [0] ∧
    (after (.rWrite (fromThree 2 6) 0x50084 ⟨[⟨77, 0⟩], ⟨0, false⟩⟩) served).get F.CHN_HADDR_ADDR = 77 ∧
    (served.chain.window 3 1).contains 5 = true ∧
    statusOf (.pWrite (fromThree 2 5) 40 [7]) served = [Status.duplicate.code] ∧
    (after (.pWrite (fromThree 2 5) 40 [7]) served).get F.CHN_CNT2_DUP_CNT = 1 ∧
    (rostered 3).gen ≠ { fromThree 2 6 with gen := 2 }.gen ∧
    statusOf (.pWrite { fromThree 2 6 with gen := 2 } 40 [7]) served = [Status.stale.code] ∧
    served.get F.CHN_STAT_DN_LINK ≠ 0 ∧
    (after (.pWrite (fromThree 9 6) 40 [7]) served).chain.frames = [⟨true, 0, 0, 0, .request 9 3 1 1 9 6 [40, 7]⟩] ∧
    (served.linkAnswer true true).fromOutside RingOp.reads [pointDie 40] = some (served.linkAnswer true true) ∧
    (served.linkAnswer true true).fromOutside RingOp.posted [1] = some (served.linkAnswer true true) ∧
    (after (.pWrite (fromThree 63 6) 40 [7]) served).point 40 = 7 ∧
    (after (.pWrite (fromThree 63 6) 40 [7]) served).chain.frames = [⟨true, 0, 0, 0, .request 63 3 1 1 9 6 [40, 7]⟩] ∧
    (after (.pWrite (fromThree 63 5) 40 [7]) served).get F.CHN_CNT2_DUP_CNT = 1 ∧
    (after (.pWrite { fromThree 63 6 with gen := 2 } 40 [7]) served).get F.CHN_CNT2_STALE_CNT = 1 ∧
    (after (.pWrite (fromThree 0 6) 40 [7]) served).get F.CHN_CNT4_BADFR_CNT = 1 ∧
    statusOf (.pWrite { fromThree 2 6 with up := false } 40 [7]) { served with chain := { served.chain with segment := true } } = [Status.stale.code] := by decide +kernel

/-- A transaction of the host to unit 3. -/
def asked : ChainReq := ⟨true, 0, 3, 6, 1, 0, none⟩

/-- Unit 2 waiting for its response, at tick `t`. -/
def waiting (t : Nat) : State :=
  (({ served with chain := { served.chain with reqs := [asked], lastRid := 6 } }).put F.CHN_STAT_GEN 1).modDie 0 fun D => { D with tick := t }

/-- A response of unit 3. -/
def reply (rid : BitVec 16) : ChainHeader := ⟨false, 2, 3, 1, 0, rid⟩

/-- An entry. -/
def outgoing : QEntry := ⟨0x0305, ⟨1, 2, 3, 4⟩⟩

/-- Queue 5 of die 1 as a CHAIN_OUT queue to unit 3. -/
def outQueue : State :=
  { (served.put F.Q_CFG_KIND 5 1 5).put F.Q_CFG_OWNER 3 1 5 with queues := [(0x2005, [outgoing])] }

/-- The same with its entry to be sent again from tick 50 on, at tick `t`. -/
def resending (t : Nat) : State :=
  ({ outQueue with chain := { served.chain with outs := [⟨0x2005, 6, outgoing, 3, some 50⟩] } }).modDie 0 fun D => { D with tick := t }

theorem witness_chain_transactions :
    served.recQueue = none ∧
    served.get F.IRQ_SRC_EN 0 221 = 0 ∧
    served.get F.CHN_HRES_BUSY = 0 ∧
    served.chain.reqs = [] ∧
    (served.rosterEntry 3).isSome = true ∧
    (after (.chHcmd .host 3 0 false 0) served).get F.CHN_HRES_BUSY = 1 ∧
    (after (.chHcmd .host 3 0 false 0) served).chain.reqs.length = 1 ∧
    served.rosterEntry 9 = none ∧
    (after (.chHcmd .host 9 0 false 0) served).get F.CHN_HRES_RES = 3 ∧
    (served.put F.CHN_HRES_BUSY 1).get F.CHN_HRES_BUSY = 1 ∧
    (after (.chHcmd .host 3 0 false 0) (served.put F.CHN_HRES_BUSY 1)).chain.reqs = [] ∧
    (waiting 9).chain.reqs = [asked] ∧
    (waiting 9).get F.CHN_STAT_GEN = 1 ∧
    (waiting 9).get F.CHN_STAT_ADDR = 2 ∧
    (after (.resp (reply 6) 0 0 [77]) (waiting 9)).get F.CHN_HRES_DONE = 1 ∧
    (after (.resp (reply 6) 0 0 [77]) (waiting 9)).get F.CHN_HBUF 0 0 = 77 ∧
    (after (.resp (reply 7) 0 0 [77]) (waiting 9)).get F.CHN_CNT3_LATE_CNT = 1 ∧
    asked.at_ + (waiting 100000).get F.CHN_CFG_TMO * 100 ≤ (waiting 100000).tick 0 ∧
    (after (.chainTimeout true 0) (waiting 100000)).get F.CHN_HRES_RES = Status.timeout.code ∧
    next (.chainTimeout true 0) (waiting 99999) = some (waiting 99999) ∧
    (after (.resp { reply 6 with dst := 0 } 0 0 []) (waiting 9)).get F.CHN_CNT4_BADFR_CNT = 1 ∧
    statusOf (.resp (reply 6) 0 0 []) { waiting 9 with chain := { (waiting 9).chain with segment := true } } = [Status.stale.code] ∧
    outQueue.queueStatus 0x2005 = .ok ∧
    outQueue.behind 1 = outQueue ∧
    (((after (.chainOutSend 0x2005) outQueue).chain.frames.map fun y =>
    match y.msg with | .request _ _ _ type _ _ ws => (type, ws) | _ => (99, [])) = [(2, [0x2005, 1 + 5 * 2 ^ 24, 2, 3, 4])]) ∧
    outQueue.entries 0x2005 = [outgoing] ∧
    outQueue.chain.outs = [] ∧
    outQueue.get F.Q_CFG_OWNER 1 5 % 64 = 3 ∧
    outQueue.get F.IRQ_SRC_EN 1 200 = 0 ∧
    (after (.chainOutSend 0x2005) outQueue).chain.outs = [⟨0x2005, 1, outgoing, 3, none⟩] ∧
    (after (.chainOutSend 0x2005) outQueue).entries 0x2005 = [] ∧
    (resending 50).chain.outs = [⟨0x2005, 6, outgoing, 3, some 50⟩] ∧
    (after (.chainOutResend 0x2005) (resending 50)).chain.outs = [⟨0x2005, 6, outgoing, 3, none⟩] ∧
    next (.chainOutResend 0x2005) (resending 49) = some (resending 49) := by decide +kernel

/-! ### Reset, boot and package commands -/

/-- A part in READY with a few things to lose and to keep. -/
def lived : State := { (rdy.put F.AON_PCYC_CNT 5).put F.CHN_HADDR_ADDR 9 with points := [(5, 9)], flash := [(7, 1)] }

/-- With the row of a record under way. -/
def cutRow : State :=
  (lived.modRec fun R => { R with committing := some (⟨0x0105, none, 0xFF, 0, 1, 2, 3, 4, 5, 0, 0, false, false⟩, 9, 65600) }).modFlash 0
    fun U => { U with busy := some (.program 65600 5) }

theorem witness_resets :
    (∀ d < lived.dies, (lived.flashRun d).busy = none) ∧
    0 < lived.pkgState ∧
    (after .powerOn lived).pkgState = 0 ∧
    (after .resetN lived).get F.PKG_STATE_RST_CAUSE = 1 ∧
    (after .supplyLow lived).get F.PKG_STATE_RST_CAUSE = 2 ∧
    (after (.pkgCmdReset .host) lived).get F.PKG_STATE_RST_CAUSE = 3 ∧
    (after .resetN lived).get F.AON_PCYC_CNT = 5 ∧
    (after .resetN lived).get F.CHN_HADDR_ADDR = 0 ∧
    (after .resetN lived).flashRow 0 7 = 1 ∧
    (after .resetN lived).point 5 = 0 ∧
    (after .resetN (lived.put F.PKG_KEYW_WORD 9 0 7)).get F.PKG_KEYW_WORD 0 7 = 0 ∧
    (after .resetN { lived with otpKey := [(7, 9)] }).otpWord 7 = 9 ∧
    (cutRow.flashRun 0).busy = some (.program 65600 5) ∧
    cutRow.ownOp 0 (.program 65600 5) = false ∧
    (after .supplyLow cutRow).flashRow 0 65600 = 5 ∧
    (after .resetN lived).get F.PKG_STATE_RST_CAUSE < 16 ∧
    (after .supplyLow (after .resetN lived)).get F.PKG_STATE_RST_CAUSE = 1 ∧
    next (.pkgCmdReset .host) (after .resetN lived) = some (after .resetN lived) := by decide +kernel

/-- A part in BOOT at tick `t`, begun or not. -/
def booting (b : Bool) (t : Nat) : State :=
  ((State.reset.put F.PKG_STATE_STATE 1).modBoot fun B => { B with begun := b }).modDie 0 fun D => { D with tick := t }

/-- A part in AGREE with a trial image at tick `t`. -/
def trying (t : Nat) : State := ((booting true t).put F.PKG_STATE_STATE 2).put F.PKG_BOOT_TRIAL 1

/-- Not begun, with slot 0 of both dies in state `a` and slot 1 in state `b`. -/
def inSlot (t a b : Nat) : State :=
  let row := fun v => BitVec.ofNat 256 (2 ^ 256 - 256 + v)
  (List.range 2).foldl (fun s d => (s.setRow d 32767 (row a)).setRow d 65535 (row b)) (booting false t)

theorem witness_boot :
    (booting false 0).boot.begun = false ∧
    (booting false 0).recQueue = none ∧
    (booting false 0).get F.IRQ_SRC_EN 0 219 = 0 ∧
    (∀ c < 256, ∀ e < 2, ((booting false 0).sector e c).state ≠ 0x1F) ∧
    (∀ e < 2, (inSlot 0 0x1F 0xFF).slotState e 0 = 0x1F ∧ (inSlot 0 0x3F 0xFF).slotState e 0 = 0x3F ∧ (inSlot 0 0x0F 0xFF).slotState e 0 = 0x0F) ∧
    (inSlot 0 0x3F 0xFF).slotState 1 1 = 0xFF ∧
    (inSlot 0 0x3F 0x7F).slotState 1 0 = 0x3F ∧
    (inSlot 0 0x3F 0xFF).slotState 0 1 = 0xFF ∧
    (∀ e < 2, (inSlot 0 0x3F 0xFF).checkImage e 0 = some 1) ∧
    next (.resetRelease ⟨true, true, 0xABC⟩) (booting true 0) = some (booting true 0) ∧
    (∀ e < 2, ((booting true 0).flashRun e).busy = none) ∧
    (booting true 0).boot.records = [] ∧
    (after (.bootComplete 0 0 ⟨[], []⟩) (booting true 0)).pkgState = 2 ∧
    next (.bootComplete 0 0 ⟨[], []⟩) rdy = some rdy ∧
    (after (.bootComplete 0 0 ⟨[], [(false, 5), (false, 7)]⟩) (booting true 0)).get F.ADC_SKEW_TRIM 1 = 7 ∧
    (after (.bootComplete 0 0 ⟨[], [(false, 5), (false, 7)]⟩) (booting true 0)).get F.ADC_SKEW_TRIM 0 = 0 ∧
    10000000 + 3000000 * (booting true 10000000).get F.FL_CNT_REERASE_CNT 1 ≤ (booting true 10000000).tick 0 ∧
    ((after (.dieMissing 1) (booting true 10000000)).die 1).missing = true ∧
    next (.dieMissing 1) (booting true 9999999) = some (booting true 9999999) ∧
    (trying 200000000).boot.agreeAt + 200000000 ≤ (trying 200000000).tick 0 ∧
    (trying 200000000).recQueue = none ∧
    (after .trialFallback (trying 200000000)).pkgState = 1 ∧
    (after .trialFallback (trying 200000000)).get F.PKG_BOOT_FALLBACK = 1 ∧
    (after .trialFallback (trying 200000000)).slotState 1 0 = 0x07 ∧
    next .trialFallback (trying 199999999) = some (trying 199999999) := by decide +kernel

/-- The header row of an image of no bytes for die `d`. -/
def headerRow (d : Nat) : BitVec 256 :=
  BitVec.ofNat 256 (0x5E1A0001 + (2 ^ 24 + 2 * 2 ^ 8 + d) * 2 ^ 32 + 1 * 2 ^ 64 + crcBytes [] * 2 ^ 128)

/-- The row of its digest. -/
def digestRow : BitVec 256 := BitVec.ofNat 256 ((sha256 []).foldr (fun b v => b + 256 * v) 0)

/-- A part in READY with that image VALID in slot 1 of both dies, and older ones in slot 0. -/
def updated : State :=
  ((List.range 2).foldl (fun s d => (((s.setRow d 0 0).setRow d 32768 (headerRow d)).setRow d 32770 digestRow).setRow d 65535
    (BitVec.ofNat 256 (2 ^ 256 - 256 + 0x7F))) rdy).modBoot fun B => { B with slot := some 0 }

/-- R545: the fallback of the trial image in slot 0 boots the good image of slot 1. -/
theorem test_fallback_chooses :
    let s := (List.range 2).foldl (fun s d => s.setRow d 65535 (BitVec.ofNat 256 (2 ^ 256 - 256 + 0x0F)))
      (((updated.put F.PKG_STATE_STATE 2).put F.PKG_BOOT_TRIAL 1).modDie 0 fun D => { D with tick := 200000000 })
    (after .trialFallback s).boot.slot = some 1 ∧ (after .trialFallback s).get F.PKG_BOOT_SLOT = 1 ∧
    (after .trialFallback s).boot.failed = [] ∧ (after .trialFallback s).get F.PKG_BOOT_TRIAL = 0 := by decide +kernel

theorem witness_package_commands :
    1 ≤ (rdy.put F.PKG_STATE_STATE 3).pkgState ∧
    updated.boot.slot = some 0 ∧
    next (.switch .host) (rdy.put F.PKG_STATE_STATE 3) = some ((rdy.put F.PKG_STATE_STATE 3).put F.PKG_CRES_RES 3) ∧
    updated.pkgState = 4 ∧
    updated.get F.PKG_BOOT_SLOT = 0 ∧
    (∀ e < 2, updated.slotState e 1 = 0x7F ∧ updated.slotSeq e 0 < updated.slotSeq e 1 ∧
    updated.slotBytes e 1 0x20 32 = updated.slotBytes 0 1 0x20 32) ∧
    updated.checkImage 0 1 = none ∧
    updated.checkImage 1 1 = none ∧
    (after (.switch .host) updated).get F.PKG_CRES_RES = 0 ∧
    (after (.switch .host) updated).slotState 1 1 = 0x3F ∧
    rdy.slotState 1 1 ≠ 0x7F ∧
    rdy.recQueue = none ∧
    (after (.switch .host) rdy).get F.PKG_CRES_RES = 3 ∧
    (after (.confirm .host) (rdy.put F.PKG_BOOT_TRIAL 1)).get F.PKG_BOOT_TRIAL = 0 ∧
    (after (.confirm .host) (rdy.put F.PKG_BOOT_TRIAL 1)).slotState 1 0 = 0x0F ∧
    (after (.confirm .host) rdy).get F.PKG_CRES_RES = 3 ∧
    (booting true 0).get F.PKG_OTP_KEY_SET = 0 ∧
    (after (.programKeyHash .host) (booting true 0)).get F.PKG_OTP_KEY_SET = 1 ∧
    (after (.programKeyHash .host) rdy).get F.PKG_CRES_RES = 3 ∧
    (after (.programSigReq .host) ((booting true 0).put F.PKG_OTP_KEY_SET 1)).get F.PKG_OTP_SIG_REQ = 1 ∧
    (after (.programSigReq .host) (booting true 0)).get F.PKG_CRES_RES = 3 ∧
    (after (.wrefClr .host (some 1)) (rdy.put F.DIE_WREF_CNT 9 1)).get F.DIE_WREF_CNT 1 = 0 ∧
    (after (.wrefClr .host none) (rdy.put F.PKG_WREF_CNT 9)).get F.PKG_WREF_CNT = 0 ∧
    (after (.registerWrite .host 0x20000000 ⟨9, 0⟩) rdy).answerSt = .refused ∧
    (after (.registerWrite .host 0x50084 ⟨9, 0⟩) rdy).get F.CHN_HADDR_ADDR = 9 ∧
    (after (.registerWrite .host 0x50084 ⟨9, 0⟩) (booting true 0)).answerSt = .notReady ∧
    (after (.registerWrite .host 0x20104 ⟨1, 0⟩) (rdy.put F.AON_CMP_STAT_HIT 1)).get F.AON_CMP_STAT_HIT = 0 ∧
    (after (.registerWrite .host 0x20104 ⟨1, 1⟩) (rdy.put F.AON_CMP_STAT_HIT 1)).get F.AON_CMP_STAT_HIT = 1 := by decide +kernel

/-! ### Every command -/

/-- The invariant holds right after reset and of a part with a command waiting. -/
theorem witness_invariant : State.reset.Inv ∧ State.Inv { State.reset with pending := [.whistle 0] } := by
  refine ⟨?_, ?_⟩
  · simp [State.Inv, State.reset, State.resetFor]
  · simp [State.Inv, State.reset, State.resetFor]
    decide

/-- R138, R166: the memories right after reset, and with a signal point written, have the form. -/
theorem witness_memories : State.reset.memoryWf = true ∧ { rdy with points := [(40, 9)] }.memoryWf = true ∧
    (after (.pWrite (fromThree 2 6) 40 [7]) served).memoryWf = true := by decide +kernel

/-- Engine 3 with a task, which awaits data in STK. -/
def stkAwait : State :=
  (rdy.put F.WC_CFG_STATE 0 0).modEng 3 fun E => { E with task := some 0, awaits := [⟨7, .stk false, 1⟩] }

theorem witness_awaited_stk :
    stkAwait.canRun 3 = true ∧
    stkAwait.awaited 3 [specSTK] = true ∧
    stkAwait.awaited 3 [1, 2, 4] = false ∧
    (stkAwait.eng 3).stkNow.getLsbD 0 = false ∧
    next (.cmp 3 1 2) stkAwait = some stkAwait ∧
    next (.clrstk 3) stkAwait = some stkAwait ∧
    ((after (.add 3 4 1 2) stkAwait).eng 3).pc = (stkAwait.eng 3).pc + 1 := by decide +kernel

theorem witness_engine_off :
    engineOf (.add 3 1 2 3) = some 3 ∧
    (Instr.add 3 1 2 3).wf State.reset.dies = true ∧
    State.reset.canRun 3 = false ∧
    next (.add 3 1 2 3) State.reset = some State.reset := by decide +kernel

end Sys2Proof.Tests
end

