-- ==== Sys2Proof/Tests/Ports.lean ====
section
/-!
SUPPORT. Witnesses for the statements about interrupts, clocks, power domains and the host ports: states that meet the hypotheses of
each clause, with what the clause then gives.
-/
namespace Sys2Proof.Tests
open Sys2Proof.Machine
set_option Elab.async false

/-! ### Interrupts, clocks and power -/

/-- Software source 256 + 9 of die 0 enabled, pending or not. -/
def src265 (b : Bool) : State := ((rdy.put F.IRQ_SRC_EN 1 0 265).put F.IRQ_SRC_ENGINE 3 0 265).setPend 0 265 b

theorem witness_interrupts_and_pll :
    rdy.recQueue = none ∧
    next (.irqSwset .host 0 255) rdy = some (rdy.wref .host F.IRQ_SWSET_SRC 0) ∧
    (src265 false).get F.IRQ_SRC_HOST 0 265 = 0 ∧
    (src265 false).get F.IRQ_SRC_EN 0 265 = 1 ∧
    (src265 false).get F.IRQ_SRC_MODE 0 265 = 0 ∧
    ((src265 false).eng ((src265 false).srcEngine 0 265)).frozen = false ∧
    (src265 false).isPend 0 265 = false ∧
    (after (.irqSwset .host 0 265) (src265 false)).isPend 0 265 = true ∧
    (src265 true).isPend 0 265 = true ∧
    (after (.irqSwset .host 0 265) (src265 true)).get F.IRQ_CNT_LOST_CNT 0 = 1 ∧
    rdy.get F.IRQ_HPEND_HPEND 0 15 < 2 ^ 32 ∧
    (after (.irqHpendClear .host 0 15 ⟨0xFFFFFFF0, 0x80⟩) (rdy.put F.IRQ_HPEND_HPEND 0xFF 0 15)).get F.IRQ_HPEND_HPEND 0 15 = 0x8F ∧
    (rdy.put F.CLK_PLL_SEARCH 1 0).get F.CLK_PLL_SEARCH 0 = 1 ∧
    (rdy.die 0).gated = false ∧
    (after (.pllLock 0 63) (rdy.put F.CLK_PLL_SEARCH 1 0)).get F.CLK_PLL_BAND 0 = 63 ∧
    (rdy.put F.CLK_PLL_LOCK 1 0).get F.CLK_PLL_LOCK 0 = 1 ∧
    rdy.get F.IRQ_SRC_EN 0 216 = 0 ∧
    (∀ h < 16, rdy.herdState h = .unbound) ∧
    (after (.pllUnlock 0) (rdy.put F.CLK_PLL_LOCK 1 0)).get F.CLK_PLL_LOSS_CNT 0 = 1 ∧
    (after (.pllUnlock 0) (rdy.put F.CLK_PLL_LOCK 1 0)).get F.TICK_STAT_DISAGREE 0 = 1 ∧
    (after (.pllUnlock 0) (rdy.put F.CLK_PLL_LOCK 1 0)).clockOn 0 1 = false ∧
    (after (.pllLock 0 63) (after (.pllUnlock 0) (rdy.put F.CLK_PLL_LOCK 1 0))).clockOn 0 1 = true ∧
    (after (.pllLock 0 63) (after (.pllUnlock 0) (rdy.put F.CLK_PLL_LOCK 1 0))).get F.CLK_PLL_BAND 0 = 63 ∧
    (rdy.put F.CLK_PLL_LOCK 0 0).get F.CLK_PLL_LOCK 0 = 0 ∧
    next (.pllUnlock 0) (rdy.put F.CLK_PLL_LOCK 0 0) = some (rdy.put F.CLK_PLL_LOCK 0 0) := by decide +kernel

/-- Ramp generator 1 of die 0 with its run and mode bits, at segment `p`, with `n` evaluations done. -/
def ramp1 (run mode p n : Nat) : State :=
  ((((rdy.put F.RG_CFG_RUN run 0 1).put F.RG_CFG_MODE mode 0 1).put F.RG_STAT_CUR p 0 1).put F.RG_CFG_LAST 15 0 1).modRamp 0 1
    fun R => { R with n := n }

/-- Every ratio of the generator the smallest one allowed. -/
def ratios1 (s : State) : State := (List.range 16).foldl (fun s p => s.put F.RG_PT_RATIO 0x500000 0 1 p) s

/-- Cluster 3 of die 0 with its operating point. -/
def op3 (v f n : Nat) : State := ((rdy.put F.CLU_OP_VSEL v 0 3).put F.CLU_OP_FSEL f 0 3).put F.CLU_OP_VNOW n 0 3

theorem witness_ramps_and_operating_points :
    (ratios1 (ramp1 0 0 0 0)).rampLow 0 1 = false ∧
    (ratios1 (ramp1 0 0 0 0)).get F.RG_CFG_RUN 0 1 = 0 ∧
    (after (.rampRun .host 0 1) (ratios1 (ramp1 0 0 0 0))).get F.RG_CFG_RUN 0 1 = 1 ∧
    ((ratios1 (ramp1 0 0 0 0)).put F.RG_PT_RATIO 0x4FFFFF 0 1 15).rampLow 0 1 = true ∧
    (after (.rampRun .host 0 1) ((ratios1 (ramp1 0 0 0 0)).put F.RG_PT_RATIO 0x4FFFFF 0 1 15)).get F.RG_STAT_RES 0 1 = 3 ∧
    (after (.rampRun .host 0 1) (ratios1 (ramp1 1 0 0 0))).get F.RG_STAT_RES 0 1 = 3 ∧
    (ramp1 1 1 0 0).get F.RG_CFG_MODE 0 1 = 1 ∧
    ((after (.rampStop .host 0 1) (ramp1 1 1 0 0)).ramp 0 1).ending = true ∧
    next (.rampStop .host 0 1) (ramp1 1 0 0 0) = some (ramp1 1 0 0 0) ∧
    ((ramp1 1 0 0 0).ramp 0 1).n < (ramp1 1 0 0 0).rampDwell 0 1 0 ∧
    next (.rampSegmentEnd 0 1) (ramp1 1 0 0 0) = some (ramp1 1 0 0 0) ∧
    (ramp1 1 0 14 9).rampDwell 0 1 14 ≤ ((ramp1 1 0 14 9).ramp 0 1).n ∧
    ((ramp1 1 0 14 9).ramp 0 1).ending = false ∧
    (after (.rampSegmentEnd 0 1) (ratios1 (ramp1 1 0 14 9))).get F.RG_STAT_CUR 0 1 = 15 ∧
    (ramp1 1 0 15 9).rampDwell 0 1 15 ≤ ((ramp1 1 0 15 9).ramp 0 1).n ∧
    (after (.rampSegmentEnd 0 1) (ratios1 (ramp1 1 0 15 9))).get F.RG_STAT_DONE 0 1 = 1 ∧
    (after (.rampSegmentEnd 0 1) (ratios1 (ramp1 1 0 15 9))).get F.CLK_OUT_DIV 0 5 = 80 ∧
    (after (.opWrite .host 0 3 3 1) (op3 1 1 1)).get F.CLU_OP_VSEL 0 3 = 3 ∧
    (after (.opWrite .host 0 3 3 0) (op3 3 3 3)).get F.CLU_OP_FSEL 0 3 = 0 ∧
    (after (.opWrite .host 0 3 2 0) (op3 3 3 3)).get F.CLU_OP_OP_RES 0 3 = 3 ∧
    (after (.railLevelMet 0 3 2) (op3 3 1 1)).get F.CLU_OP_VNOW 0 3 = 2 ∧
    (after (.railSettled 0 3) (op3 3 1 3)).get F.CLU_OP_VOK 0 3 = 1 ∧
    (after (.railSettled 0 3) ((op3 3 1 2).put F.CLU_OP_VOK 0 0 3)).get F.CLU_OP_VOK 0 3 = 0 := by decide +kernel

/-- Cluster 7 of die 0 in state `st`, with its record. -/
def dom7 (st busy : Nat) (f : DomRun → DomRun) : State :=
  ((rdy.put F.PWR_DOM_STATE st 0 7).put F.PWR_DOM_BUSY busy 0 7).modDom 0 7 f

/-- With a task on engine 31. -/
def tasked7 : State := (dom7 0 0 id).modEng 31 fun E => { E with task := some 5 }

theorem witness_power_domains :
    (dom7 0 0 id).get F.PWR_DOM_BUSY 0 7 = 0 ∧
    (dom7 0 0 id).get F.PWR_DOM_STATE 0 7 = 0 ∧
    next (.pwrOn .host 0 7) (dom7 0 0 id) = some ((dom7 0 0 id).put F.PWR_DOM_RES 0 0 7) ∧
    (after (.pwrOn .host 0 7) (dom7 2 0 id)).get F.PWR_DOM_BUSY 0 7 = 1 ∧
    (dom7 0 1 id).get F.PWR_DOM_BUSY 0 7 = 1 ∧
    (after (.pwrOff .host 0 7 false) (dom7 0 1 id)).get F.PWR_DOM_RES 0 7 = 3 ∧
    (dom7 0 0 id).clusterQuiet 0 7 = true ∧
    (dom7 0 0 id).inFlight 0 7 1 = [] ∧
    (dom7 0 0 id).inFlight 0 7 2 = [] ∧
    (after (.pwrRetain .host 0 7 false) (dom7 0 0 id)).get F.PWR_DOM_STATE 0 7 = 1 ∧
    Store.get (after (.pwrOff .host 0 7 false) { dom7 0 0 id with priv := [(31 * 2048 + 2047, 9)] }).priv 0 (31 * 2048 + 2047) = 0 ∧
    (after (.pwrOff .host 0 7 false) { dom7 0 0 id with shared := [(7 * 16384, 9)] }).get F.PWR_DOM_STATE 0 7 = 2 ∧
    tasked7.clusterQuiet 0 7 = false ∧
    ((after (.pwrRetain .host 0 7 false) tasked7).dom 0 7).waiting = true ∧
    (((dom7 0 1 fun D => { D with waiting := true, target := 1 }).dom 0 7).heldOn = false) ∧
    ((dom7 0 1 fun D => { D with waiting := true, target := 1 }).clusterQuiet 0 7 = true) ∧
    ((dom7 0 1 fun D => { D with waiting := true, target := 1 }).inFlight 0 7 1 = []) ∧
    ((after (.domainWaitDone 0 7) (dom7 0 1 fun D => { D with waiting := true, target := 1 })).get F.PWR_DOM_STATE 0 7 = 1) ∧
    ((tasked7.modDom 0 7 fun D => { D with waiting := true }).clusterQuiet 0 7 = false) ∧
    (next (.domainWaitDone 0 7) (tasked7.modDom 0 7 fun D => { D with waiting := true }) = some (tasked7.modDom 0 7 fun D => { D with waiting := true })) ∧
    ((dom7 1 1 fun D => { D with moving := true, target := 0 }).get F.IRQ_SRC_EN 0 217 = 0) ∧
    ((after (.domainTransitionDone 0 7) (dom7 1 1 fun D => { D with moving := true, target := 0 })).get F.PWR_DOM_STATE 0 7 = 0) ∧
    ((after (.domainTransitionDone 0 7) (dom7 2 1 fun D => { D with moving := true, target := 2 })).get F.PWR_DOM_BUSY 0 7 = 0) := by decide +kernel

/-! ### Host ports -/

/-- A part in READY whose point 5 holds 9. -/
def point5 : State := { rdy with points := [(5, 9)] }

/-- The CRC of a transfer. -/
def sum (bytes : List Nat) : BitVec 16 := BitVec.ofNat 16 (crc16 bytes)

/-- The CRCs of a read of that point and of a write of 7 to it, with an error `e`. -/
def readSum (e : BitVec 16) : BitVec 16 := sum (transferBytes 0 0x80000014 []) + e
def writeSum (e : BitVec 16) : BitVec 16 := sum (transferBytes 0x40 0x80000014 [7]) + e

/-- The bytes of the digits 1 to 9, over which the CRCs of R505, R525 and R515 have known values. -/
def digits : List Nat := [0x31, 0x32, 0x33, 0x34, 0x35, 0x36, 0x37, 0x38, 0x39]

theorem test_crcs : crc16 digits = 0x29B1 ∧ crc8 digits = 0xF4 ∧ crcBytes digits = 0xCBF43926 := by decide +kernel

theorem witness_spi_and_debug :
    point5.pkgState = 4 ∧
    point5.pointStatus 5 = .ok ∧
    (point5.fromOutside RingOp.reads [pointDie 5] = some point5 ∧ point5.fromOutside RingOp.posted [pointDie 5] = some point5) ∧
    (after (.spiRead ⟨0, 0x80000014⟩ ⟨0, false⟩ (readSum 0)) point5).answer = [9] ∧
    (after (.spiRead ⟨0, 0x80000014⟩ ⟨0, false⟩ (readSum 0)) point5).spiOut = responseBytes 1 .ok [9] ∧
    (after (.spiWrite ⟨0x40, 0x80000014⟩ ⟨[⟨7, 0⟩], ⟨0, false⟩⟩ (writeSum 0)) point5).point 5 = 7 ∧
    (after (.spiRead ⟨0, 0x80000014⟩ ⟨0, false⟩ (readSum 1)) point5).answerSt = .badCrc ∧
    (after (.spiWrite ⟨0x40, 0x80000014⟩ ⟨[⟨7, 0⟩], ⟨0, false⟩⟩ (writeSum 1)) point5).point 5 = 9 ∧
    (after (.spiStatus ⟨0x80, 0⟩) point5).get F.SPI_STAT_CRC_CNT = 1 ∧
    (after (.spiRead ⟨0, 0x80000015⟩ ⟨0, false⟩ (sum (transferBytes 0 0x80000015 []))) point5).answerSt = .refused ∧
    (after (.spiStatus ⟨0x80, sum [0x80]⟩) (after (.spiRead ⟨0, 0x80000014⟩ ⟨0, false⟩ (readSum 1)) point5)).answerSt = .badCrc ∧
    (after .resetN point5).pkgState = 0 ∧
    next (.spiRead ⟨0, 0x80000014⟩ ⟨0, false⟩ (readSum 0)) (after .resetN point5) = some (after .resetN point5) ∧
    next .spiAbandon point5 = some point5 ∧
    (after .bypass point5).tap.instr = .bypass ∧
    (after .idcode point5).answer = [0x15E029E3] ∧
    (after (.samplePreload (List.replicate 33 true)) point5).answer.length = 2 ∧
    (after .extest point5).tap.instr = .extest ∧
    (after .extest (point5.put F.HERD_STAT_STATE 3 0 3)).tap.instr = .bypass ∧
    (after (.hostacc 0 0x80000014 ⟨[], ⟨0, false⟩⟩ (sum (transferBytes 0 0x80000014 []))) point5).answer = [9] ∧
    (after (.hostacc 0x40 0x80000014 ⟨[⟨7, 0⟩], ⟨0, false⟩⟩ (sum (transferBytes 0x40 0x80000014 [7]))) point5).point 5 = 7 ∧
    (after (.hostacc 0x80 0 ⟨[], ⟨0, false⟩⟩ (sum [0x80])) point5).tap.out = responseBytes 0 .ok [] ∧
    (after .extest point5).gatePins 0 3 = (false, false) ∧
    (after .tapReset (after .bypass point5)).tap = TapRun.reset := by decide +kernel

/-- Controller 1 enabled with filter 15 to queue 5 of die 1, which has room for `n` entries, and its transmit queue 6 of die 0. -/
def can1 (n : Nat) : State :=
  let s := (((rdy.put F.CAN_CFG_EN 1 0 1).put F.CAN_FID_EN 1 0 1 15).put F.CAN_FQ_QUEUE 8197 0 1 15).put F.CAN_FMSK_MSK 0x7FF 0 1 15
  let s := (((s.put F.Q_CFG_EN 1 1 5).put F.Q_CFG_KIND 6 1 5).put F.Q_CFG_OWNER 1 1 5).put F.Q_SIZE_DEPTH n 1 5
  let s := (((s.put F.Q_CFG_EN 1 0 6).put F.Q_CFG_KIND 6 0 6).put F.Q_CFG_OWNER 3 0 6).put F.Q_SIZE_DEPTH 4 0 6
  { (s.put F.CAN_TXQ_QUEUE 6 0 1 3).put F.CAN_TXQ_EN 1 0 1 3 with queues := [(6, [⟨0, ⟨0x123, 0, 0, 0⟩⟩])] }

/-- A frame with an identifier. -/
def frame (i : BitVec 29) : CanFrame := ⟨false, false, i, false, false, false, 0, []⟩

theorem witness_can :
    (can1 4).fromOutside RingOp.posted [1] = some (can1 4) ∧
    (can1 4).canReach 1 = can1 4 ∧
    (can1 4).recQueue = none ∧
    (can1 4).get F.IRQ_SRC_EN 0 224 = 0 ∧
    (can1 4).canOn 1 = true ∧
    (can1 4).get F.CAN_STAT_STATE 0 1 = 0 ∧
    (can1 4).get F.CAN_STAT_TEC 0 1 ≤ 119 ∧
    (can1 4).get F.CAN_STAT_REC 0 1 ≤ 119 ∧
    (can1 4).canFilter 1 (frame 5) = none ∧
    (after (.canRxFrame 1 (frame 5)) (can1 4)).get F.CAN_CNT_NOMATCH_CNT 0 1 = 1 ∧
    (can1 4).canFilter 1 (frame 0) = some 15 ∧
    (can1 4).queueStatus 8197 = .ok ∧
    (can1 4).isCanTx 8197 = false ∧
    (can1 4).canOwner 8197 = 1 ∧
    ((after (.canRxFrame 1 (frame 0)) (can1 1)).entries 8197 = (canPayloads (frame 0) 0).map fun p => (⟨0x8100, p⟩ : QEntry)) ∧
    (canPayloads { frame 0 with fdf := true, dlc := 8, data := List.replicate 8 7 } 0).length = 2 ∧
    (after (.canRxFrame 1 { frame 0 with fdf := true, dlc := 8, data := List.replicate 8 7 }) ((can1 1).put F.CAN_CFG_FD_EN 1 0 1)).get F.CAN_CNT_RX_OVR_CNT 0 1 = 1 ∧
    (can1 4).canNext 1 = some 3 ∧
    (can1 4).canHead 1 3 = some (0x123, 1) ∧
    (can1 4).get F.IRQ_SRC_EN 0 200 = 0 ∧
    (after (.canTxFrame 1 3) (can1 4)).entries 6 = [] ∧
    (after (.canError 1 .tx) (can1 4)).get F.CAN_STAT_TEC 0 1 = 8 ∧
    (after (.canError 1 .rx) (can1 4)).get F.CAN_STAT_REC 0 1 = 1 ∧
    (after (.canError 1 .rxDominant) (can1 4)).get F.CAN_STAT_REC 0 1 = 8 ∧
    next (.canError 1 .arbitrationLost) (can1 4) = some (can1 4) ∧
    ((can1 4).put F.CAN_STAT_TEC 248 0 1).canOn 1 = true ∧
    Store.get (after (.canError 1 .tx) ((can1 4).put F.CAN_STAT_TEC 248 0 1)).canOff 0 1 = 1 ∧
    (after (.canBusOff 1) { can1 4 with canOff := [(1, 1)] }).get F.CAN_STAT_STATE 0 1 = 2 ∧
    (after (.canBusOffRecovery 1) (((can1 4).put F.CAN_STAT_STATE 2 0 1).put F.CAN_CFG_AUTO_REC 1 0 1)).get F.CAN_STAT_STATE 0 1 = 0 := by decide +kernel

/-- Page 15 in use with queue 6 of die 0 and its points from 80 on. -/
def page15 : State :=
  let s := (((rdy.put F.PMB_CFG_EN 1).put F.PMB_CFG_AVS_EN 1).put F.PMB_PG_EN 1 0 15).put F.PMB_PG_BPT 80 0 15
  let s := ((s.put F.PMB_PQ_QUEUE 6 0 15).put F.PMB_PSC_KV 1000 0 15).put F.PMB_PV_KA 500 0 15
  let s := (((s.put F.Q_CFG_EN 1 0 6).put F.Q_CFG_KIND 7 0 6).put F.Q_CFG_OWNER 15 0 6).put F.Q_SIZE_DEPTH 4 0 6
  { s with pmbPage := 15, points := [(80, 0x400000), (82, 0x1234)] }

theorem witness_pmbus :
    page15.fromOutside RingOp.posted [0] = some page15 ∧
    page15.get F.PMB_CFG_EN = 1 ∧
    page15.get F.PMB_PG_EN 0 15 = 1 ∧
    page15.get F.PMB_CFG_PEC_REQ = 0 ∧
    page15.get F.Q_CFG_OWNER 0 6 % 16 = 15 ∧
    page15.queueStatus 6 = .ok ∧
    page15.get F.Q_CFG_KIND 0 6 = 7 ∧
    page15.get F.IRQ_SRC_EN 0 200 = 0 ∧
    (page15.entries 6).length < page15.get F.Q_SIZE_DEPTH 0 6 ∧
    (after (.page (some 3) none) page15).pmbPage = 3 ∧
    (after (.page none (some true)) page15).answer = [15] ∧
    (after (.operation (some 0x80) none) page15).entries 6 = [⟨0x8180, ⟨0x10F, 0x80, 0, 0⟩⟩] ∧
    (after (.onOffConfig (some 0x17) (some true)) page15).get F.PMB_PQ_OOC 0 15 = 0x17 ∧
    (after (.voutCommand (some 1200) none) page15).get F.PMB_PV_VCMD 0 15 = 1200 ∧
    (after (.clearFaults none) page15).entries 6 = [⟨0x8180, ⟨0x30F, 0, 0, 0⟩⟩] ∧
    page15.pointStatus (page15.get F.PMB_PG_BPT 0 15 + 2) = .ok ∧
    (after .statusWord page15).answer = [0x1234] ∧
    page15.pointStatus (page15.get F.PMB_PG_BPT 0 15) = .ok ∧
    (after .readVout page15).answer = [500] ∧
    page15.pointStatus (page15.get F.PMB_PG_BPT 0 15 + 1) = .ok ∧
    (after .readIout page15).answer = [BitVec.ofNat 32 (page15.get F.PMB_PG_IEXP 0 15 * 2048)] ∧
    page15.get F.PMB_CNT_UNSUP_CNT < 255 ∧
    page15.get F.IRQ_SRC_EN 0 225 = 0 ∧
    (after (.pmbusUnsupported 0x04) page15).get F.PMB_CNT_UNSUP_CNT = 1 ∧
    page15.get F.PMB_CFG_AVS_EN = 1 ∧
    (after (.avsVoutWrite 15 900 true) page15).entries 6 = [⟨0x8180, ⟨0x1000F, 900, 0, 0⟩⟩] ∧
    (after (.avsVoutRead 15 true) page15).answer = [250] ∧
    (after (.avsStatusRead 15 true) page15).answer = [0x1234] ∧
    (after (.avsVoutWrite 15 900 false) page15).get F.PMB_CNT_AVS_CRC_CNT = 1 := by decide +kernel

end Sys2Proof.Tests
end

