-- ==== Sys2Proof/Tests/Signals.lean ====
section
/-!
SUPPORT. Witnesses for the statements about the die ring, the host's windows, queues and acquisition: states that meet the hypotheses
of each clause, with what the clause then gives.
-/
namespace Sys2Proof.Tests
open Sys2Proof.Machine
set_option Elab.async false

/-! ### The die ring -/

/-- Transfer 7 of engine 3 from die 0 to die 1. -/
def xfer (op : RingOp) (st : XferStage) : Xfer := ⟨7, 0, 1, .engine 3, none, op, st⟩

/-- A part on whose ring that request is on its way. -/
def ringed (op : RingOp) : State := { rdy with ring := [xfer op .request] }

/-- The same with the store of die 1 off. -/
def silent (op : RingOp) : State := (ringed op).put F.PWR_DOM_STATE 1 1 domMEM

/-- An entry. -/
def entry : QEntry := ⟨0x0305, ⟨1, 2, 3, 4⟩⟩

/-- Queue 5 of a die enabled with room for `n` entries, holding `es`. -/
def queued (s : State) (d n : Nat) (es : List QEntry) : State :=
  { (s.put F.Q_CFG_EN 1 d 5).put F.Q_SIZE_DEPTH n d 5 with queues := Store.set [] [] (d * 8192 + 5) es }

/-- A push to queue 5 of die 1. -/
def pushOp (nb : Bool) : RingOp := .push 0x2005 entry nb

/-- A record. -/
def mrec0 : RecEntry := ⟨0x0405, none, 192, 1, 0, 0, 0, 0, 0, 0, 0, false, false⟩

/-- The answer that waits on the ring. -/
def answers (t : State) (k : Status) (v : BitVec 32) : Bool := t.ring.map (·.stage) == [.answered k v]

theorem witness_ring_requests :
    1 < rdy.dies ∧
    (∀ op ∈ [RingOp.read 200000, .write 200000 9, .group 200000 [1, 2], pushOp false, .lset 21 2 9, .regRead 0x100 true, .regRead 0x100 false,
    .regWrite 0x100 9 true, .loadAll 3 8 false, .record mrec0, .notice 0x2005], (ringed op).arriving 1 0 = some (xfer op .request)) ∧
    (ringed (.read 200000)).canServe (xfer (.read 200000) .request) = true ∧
    (ringed (.read 200000)).pointStatus 200000 = .ok ∧
    (silent (.read 200000)).pointStatus 200000 = .notReady ∧
    (silent (.read 200000)).canServe (xfer (.read 200000) .request) = true ∧
    (silent (.read 200000)).arriving 1 0 = some (xfer (.read 200000) .request) ∧
    answers (after (.ringPointRead 1 0) (ringed (.read 200000))) .ok 0 = true ∧
    answers (after (.ringPointRead 1 0) (silent (.read 200000))) .notReady 0 = true ∧
    (after (.ringPointWrite 1 0) (ringed (.write 200000 9))).point 200000 = 9 ∧
    (after (.ringGroupCommit 1 0) (ringed (.group 200000 [1, 2]))).point 200001 = 2 ∧
    (queued (ringed (pushOp false)) 1 4 []).canServe (xfer (pushOp false) .request) = true ∧
    (queued (ringed (pushOp false)) 1 4 []).queueStatus 0x2005 = .ok ∧
    (after (.ringQueuePush 1 0) (queued (ringed (pushOp false)) 1 4 [])).entries 0x2005 = [entry] ∧
    answers (after (.ringQueuePush 1 0) (queued (ringed (pushOp false)) 1 4 [])) .ok 0 = true ∧
    (queued (ringed (pushOp false)) 1 1 [entry]).queueStatus 0x2005 = .ok ∧
    (after (.ringQueuePush 1 0) (queued (ringed (pushOp false)) 1 1 [entry])).ring.map (·.stage) = [.blocked] ∧
    Store.get (after (.ringQueuePush 1 0) (queued (ringed (pushOp false)) 1 1 [entry])).qWaiters 0 0x2005 = 1 ∧
    (ringed (.record mrec0)).canServe (xfer (.record mrec0) .request) = true ∧
    answers (after (.ringQueuePush 1 0) (ringed (.record mrec0))) .refused 0 = true ∧
    (after (.spaceNotice 1 0) (ringed (.notice 0x2005))).ring = [] ∧
    (after (.ringLoadall 1 0) (ringed (.loadAll 3 8 false))).ring = [] := by decide +kernel

/-- Engine 3 awaits in g2 the answer to its read. -/
def awaiting (k : Status) (wait : Store Nat) : State :=
  { (run fun E => { E with awaits := [⟨7, .reg 130, false⟩], waits := wait }) with ring := [xfer (.read 200000) (.answered k 0x123456)] }

theorem witness_ring_responses :
    (awaiting .ok [(0, 8)]).returning 0 1 = some (xfer (.read 200000) (.answered .ok 0x123456), .ok, 0x123456) ∧
    (awaiting .ok [(0, 8)]).domOn 0 0 = true ∧
    ((awaiting .ok [(0, 8)]).eng 3).awaits = [⟨7, .reg 130, false⟩] ∧
    Store.get ((awaiting .ok [(0, 8)]).eng 3).waits 0 0 = 8 ∧
    Store.get ((after (.ringResponse 0 1) (awaiting .ok [(0, 8)])).eng 3).regs 0 130 = 0x123456 ∧
    Store.get ((after (.ringResponse 0 1) (awaiting .ok [(0, 8)])).eng 3).waits 0 0 = 0 ∧
    (after (.ringResponse 0 1) (awaiting .ok [(0, 8)])).ring = [] ∧
    (awaiting .aborted []).returning 0 1 = some (xfer (.read 200000) (.answered .aborted 0x123456), .aborted, 0x123456) ∧
    (∀ lane < 4, Store.get ((awaiting .aborted []).eng 3).waits 0 lane ≠ 8) ∧
    (after (.ringResponse 0 1) (awaiting .aborted [])).get F.RING_STAT_ABORT_CNT 0 = 1 := by decide +kernel

/-! ### The host's windows and the configuration of queues -/

/-- The part with die 0 at its bound of reads and of posts. -/
def crowded : State :=
  { rdy with ring := (List.range 512).map fun k =>
      ⟨k, 0, 1, .engine (k % 32), none, if k % 2 = 0 then .read 200000 else .write 200000 9, .request⟩ }

theorem witness_host_windows :
    rdy.pkgState = 4 ∧
    pointDie 70000 = 0 ∧
    pointDie 200000 = 1 ∧
    rdy.fromOutside RingOp.reads [1, 1] = some rdy ∧
    rdy.fromOutside RingOp.posted [1, 1] = some rdy ∧
    rdy.fromOutside RingOp.reads [pointDie 300000] = some rdy ∧
    rdy.fromOutside RingOp.posted [pointDie 300000] = some rdy ∧
    (ringed (.write 200000 9)).pkgState = 4 ∧
    (((ringed (.write 200000 9)).fromOutside RingOp.reads [1, 1]).map (fun u => (u.pkgState, u.pointStatus 200000, (u.point 200000))) =
    some (4, .ok, 9)) ∧
    (after (.hostPointRead .host 200000 2) (ringed (.write 200000 9))).answer = [9, 0] ∧
    crowded.fromOutside RingOp.reads [1] = none ∧
    crowded.fromOutside RingOp.posted [1] = none ∧
    (after (.hostPointRead .host 200000 1) crowded).get F.RING_FULL_NB_CNT 0 = 1 ∧
    rdy.pointStatus 200000 = .ok ∧
    rdy.pointStatus 200001 = .ok ∧
    (after (.hostPointRead .host 200000 2) (after (.hostPointWrite .host 200000 [3, 4]) rdy)).answer = [3, 4] ∧
    rdy.pointStatus 300000 = .refused ∧
    (after (.hostPointRead .host 300000 1) rdy).answerSt = .refused ∧
    (queued rdy 0 2 []).queueStatus 5 = .ok ∧
    (queued rdy 0 2 []).get F.Q_CFG_KIND 0 5 = 0 ∧
    (queued rdy 0 2 []).fromOutside RingOp.posted [0] = some (queued rdy 0 2 []) ∧
    (queued rdy 0 1 [entry]).behind 0 = queued rdy 0 1 [entry] ∧
    (after (.hostQueuePush .host 5 9 ⟨1, 2, 3, 4⟩) (queued rdy 0 2 [])).entries 5 = [⟨0x8009, ⟨1, 2, 3, 4⟩⟩] ∧
    (queued rdy 0 1 [entry]).queueStatus 5 = .ok ∧
    (after (.hostQueuePush .host 5 9 ⟨1, 2, 3, 4⟩) (queued rdy 0 1 [entry])).answerSt = .full ∧
    (after (.hostQueuePop .host 5) (queued rdy 0 1 [entry])).answer = [0x03000001, 0x05000002, 3, 4] ∧
    (after (.hostQueuePop .host 5) (queued rdy 0 1 [entry])).entries 5 = [] ∧
    (after (.hostQueuePop .host 5) (queued rdy 0 1 [])).answerSt = .empty := by decide +kernel

/-- The host has selected queue 5 of die 1, disabled with room for three entries. -/
def chosen : State := (rdy.put F.Q_SEL_QUEUE 5 1).put F.Q_SIZE_DEPTH 3 1 5

theorem witness_queues_are_configured :
    Requester.index .host ≤ 32 * rdy.dies ∧
    chosen.get F.Q_SEL_QUEUE 1 0 = 5 ∧
    chosen.recQueue = none ∧
    chosen.get F.Q_CFG_EN 1 5 = 0 ∧
    chosen.enableStatus 1 5 = .ok ∧
    chosen.get F.Q_CFG_KIND 1 5 ≠ 4 ∧
    chosen.get F.Q_BUDGET_USED 1 + 3 ≤ 16384 ∧
    (after (.queueEnable .host 1) chosen).get F.Q_BUDGET_USED 1 = 3 ∧
    (after (.queueEnable .host 1) chosen).get F.Q_STAT_BUSY 1 5 = 1 ∧
    (after (.queueEnableDone 0x2005) (after (.queueEnable .host 1) chosen)).get F.Q_STAT_BUSY 1 5 = 0 ∧
    (queued chosen 1 3 []).get F.Q_CFG_EN 1 5 = 1 ∧
    (queued chosen 1 3 []).entries 0x2005 = [] ∧
    Store.get (queued chosen 1 3 []).qWaiters 0 0x2005 = 0 ∧
    (after (.queueDisable .host 1) (queued chosen 1 3 [])).get F.Q_CFG_EN 1 5 = 0 ∧
    (queued chosen 1 3 [entry]).entries 0x2005 ≠ [] ∧
    (after (.queueDisable .host 1) (queued chosen 1 3 [entry])).get F.Q_RES_RES 1 = 3 ∧
    (after (.qFlush .host 1) (queued chosen 1 3 [entry])).entries 0x2005 = [] := by decide +kernel

/-! ### Converters, modulators, comparators and references -/

/-- Converter 4 of die 0 enabled in CONT mode with two slots. -/
def conv4 : State := ((rdy.put F.ADC_CFG_EN 1 0 4).put F.ADC_CFG_LEN 1 0 4).put F.SLOT_A_AVG 1 0 4 0

/-- An urgent window of two conversions of input 0 whose sampling has ended. -/
def sampled2 : UrgentRun := ⟨2, 0, 0⟩

/-- An urgent request of that converter, waiting or under way. -/
def urgent4 (pend : Nat) (u : List UrgentRun) : State :=
  ((conv4.put F.ADC_URG_AVG 1 0 4).put F.ADC_STAT_URG_PEND pend 0 4).modAdc 0 4 fun A => { A with urgent := u }

theorem witness_converters :
    conv4.adcRuns 0 4 = true ∧
    conv4.get F.ADC_CFG_MODE 0 4 = 0 ∧
    conv4.get F.ADC_STAT_CUR_SLOT 0 4 = 0 ∧
    conv4.get F.SLOT_A_AVG 0 4 0 = 1 ∧
    conv4.get F.SLOT_A_RING 0 4 0 = 0 ∧
    conv4.get F.SLOT_B_PT_EN 0 4 0 = 0 ∧
    conv4.get F.ADC_DATA_NEW 0 4 = 0 ∧
    (∀ c < 64, conv4.get F.WC_CFG_EN 0 c = 0) ∧
    (∀ l < 24, conv4.get F.LEG_HSS_EN 0 l = 0) ∧
    (after (.slotResult 0 4 [100, 9000]) conv4).get F.ADC_DATA_VALUE 0 4 = (100 + 8191) * 512 ∧
    (after (.slotResult 0 4 [100, 9000]) conv4).get F.ADC_DATA_CLIP 0 4 = 1 ∧
    (after (.slotResult 0 4 [100, 9000]) conv4).get F.ADC_STAT_CUR_SLOT 0 4 = 1 ∧
    (after (.adcDataRead .host 0 4) (after (.slotResult 0 4 [100, 200]) conv4)).get F.ADC_DATA_NEW 0 4 = 0 ∧
    ((after (.adcDataRead .host 0 4) (after (.slotResult 0 4 [100, 200]) conv4)).answer.map (fun w => w.toNat % 2 ^ 24) = [300 * 512]) ∧
    conv4.get F.ADC_STAT_URG_PEND 0 4 = 0 ∧
    (after (.urgentRequest .host 0 4 3 2 9) conv4).get F.ADC_URG_WIN 0 4 = 9 ∧
    (urgent4 1 [sampled2]).get F.ADC_STAT_URG_PEND 0 4 = 1 ∧
    (urgent4 1 [sampled2]).adcRuns 0 4 = true ∧
    ((after (.urgentStart 0 4) (urgent4 1 [])).adc 0 4).urgent.map (·.count) = [2] ∧
    ((after (.urgentStart 0 4) (urgent4 1 [sampled2])).adc 0 4).urgent.length = 2 ∧
    ((after (.urgentStart 0 4) (urgent4 1 [])).adc 0 4).gap = 8 * (7 + 2) ∧
    ((urgent4 0 [sampled2]).adc 0 4).urgent = [sampled2] ∧
    (urgent4 0 [sampled2]).get F.IRQ_SRC_EN 0 148 = 0 ∧
    (after (.urgentResult 0 4 [7, 9]) (urgent4 0 [sampled2])).get F.ADC_UDATA_VALUE 0 4 = 16 * 512 ∧
    (after (.urgentResult 0 4 [7, 9000]) (urgent4 0 [sampled2])).get F.ADC_STAT_CLIP 0 4 = 1 ∧
    conv4.get F.SLOT_A_INP 0 4 0 < 6 ∧
    ((conv4.put F.CMP_SCK_SEL 0x7F 0 4).takenCodes 0 4 6 [100, -7370, -8000]).1 = [-7356, -7370, -7390] := by decide +kernel

/-- That converter with its eleventh stage out of service. -/
def churn4 : State := conv4.put F.ADC_STAT_CHURN_STAGE 10 0 4

/-- That converter with a marker at word 4096 and its ring read from the last word. -/
def marked4 : State := (conv4.modAdc 0 4 fun A => { A with markers := [(255, 4096)] }).put F.CAP_PTR_PTR 8191 0 4

theorem witness_churn_and_capture :
    (conv4.adc 0 4).churnLeft ≠ 1 ∧
    conv4.get F.ADC_STAT_CHURN_STAGE 0 4 ≤ 10 ∧
    (after (.churnRotate 0 4 true) conv4).get F.ADC_STAT_CHURN_STAGE 0 4 = 1 ∧
    (churn4.adc 0 4).churnLeft ≠ 1 ∧
    (after (.churnRotate 0 4 true) churn4).get F.ADC_CHURN_ROUNDS 0 4 = 1 ∧
    (marked4.adc 0 4).markers = [(255, 4096)] ∧
    (after (.capMkRead .host 0 4) marked4).answer = [0x80FF1000] ∧
    (after (.capDataRead .host 0 4) marked4).get F.CAP_PTR_PTR 0 4 = 0 ∧
    (after (.capUnfreeze .host 0 ⟨4, false⟩) (conv4.put F.CAP_STAT_FROZEN 1 0 4)).get F.CAP_STAT_FROZEN 0 4 = 0 ∧
    next (.capUnfreeze .host 0 ⟨4, true⟩) (conv4.put F.CAP_STAT_FROZEN 1 0 4) = some (conv4.put F.CAP_STAT_FROZEN 1 0 4) := by decide +kernel

/-- Modulator input 7 of die 0 in use with filters of small scale, after its settling. -/
def mod7 : State :=
  (((((rdy.put F.MOD_CFG_EN 1 0 7).put F.MOD_CLK_EN 1 0 0).put F.MOD_CFG_OSR 0 0 7).put F.MOD_CFG_SC_EN 1 0 7).put F.MOD_CFG_SC_OSR 0 0 7).modModIn 0 7
    fun M => { M with outs := 2, scOuts := 1 }

/-- Sixteen bits with the value one, and eight that alternate. -/
def ones : List Bool := List.replicate 16 true
def flips : List Bool := [true, false, true, false, true, false, true, false]

/-- A third-order filter of ratio 16 reaches the full scale 2^12 with its third output. -/
theorem test_sinc3_settles :
    ((((⟨[], []⟩ : Sinc).take 3 ones).1.take 3 ones).1.take 3 ones).2 = 4096 ∧
    ((⟨[], []⟩ : Sinc).take 3 ones).2 = 16 * 17 * 18 / 6 := by decide +kernel

theorem witness_modulators :
    ones.length = 2 ^ (mod7.get F.MOD_CFG_OSR 0 7 + 4) ∧
    flips.length = 2 ^ (mod7.get F.MOD_CFG_SC_OSR 0 7 + 3) ∧
    mod7.modRuns 0 7 = true ∧
    (mod7.get F.MOD_CFG_ORD 0 7 + 3) * (mod7.get F.MOD_CFG_OSR 0 7 + 4) = 12 ∧
    mod7.get F.MOD_CFG_ORD 0 7 + 3 ≤ (mod7.modIn 0 7).outs + 1 ∧
    mod7.get F.MOD_CFG_PT_EN 0 7 = 0 ∧
    (∀ c < 64, mod7.get F.WC_CFG_EN 0 c = 0) ∧
    (∀ l < 24, mod7.get F.LEG_HSS_EN 0 l = 0) ∧
    (after (.modOutput 0 7 ones) mod7).get F.MOD_DATA_VALUE 0 7 = 816 * 2 ^ 11 ∧
    (after (.modOutput 0 7 (ones.map not)) mod7).get F.MOD_DATA_VALUE 0 7 = 2 ^ 24 - 816 * 2 ^ 11 ∧
    next (.modOutput 0 7 flips) mod7 = some mod7 ∧
    (after (.modOutput 0 7 ones) mod7).get F.MOD_DATA_VALID 0 7 = 1 ∧
    mod7.get F.MOD_CFG_SC_EN 0 7 = 1 ∧
    (mod7.get F.MOD_CFG_SC_ORD 0 7 + 1) * (mod7.get F.MOD_CFG_SC_OSR 0 7 + 3) ≤ 23 ∧
    mod7.get F.MOD_CFG_SC_ORD 0 7 + 1 ≤ (mod7.modIn 0 7).scOuts + 1 ∧
    mod7.get F.MOD_SC_THR 0 7 = 0 ∧
    (after (.modScOutput 0 7 flips) mod7).get F.MOD_STAT_SC_ARMED 0 7 = 1 ∧
    (after (.modScOutput 0 7 flips) (mod7.put F.MOD_SC_THR 0x7FFFFF 0 7)).get F.MOD_STAT_SC_HIT 0 7 = 0 ∧
    mod7.get F.IRQ_SRC_EN 0 159 = 0 ∧
    (after (.modStuck 0 7) mod7).get F.MOD_STAT_STUCK 0 7 = 1 := by decide +kernel

/-- Comparator 11 of die 0 enabled, tied to leg `l`, with its latch at `v`. -/
def cmp11 (l v : Nat) : State :=
  ((((rdy.put F.CMP_CFG_EN 1 0 11).put F.CMP_CFG_LEG l 0 11).put F.CMP_STAT_LATCH v 0 11).put F.CMP_BLK_BLANK 4 0 11).put F.CMP_THR_CODE 512 0 11

/-- Monitor 30 of die 0 on converter input `i`. -/
def monitor (i : Nat) : State := (((rdy.put F.CMP_CFG_EN 1 0 30).put F.CMP_CFG_LEG 24 0 30).put F.CMP_CFG_INP i 0 30).put F.CMP_THR_CODE 512 0 30

theorem witness_comparators :
    (cmp11 24 0).cmpRuns 0 11 = true ∧
    (cmp11 24 0).get F.CMP_CFG_LEG 0 11 = 24 ∧
    (cmp11 24 0).get F.CMP_CFG_URG 0 11 = 0 ∧
    (cmp11 24 0).get F.IRQ_SRC_EN 0 107 = 0 ∧
    (cmp11 24 0).get F.CMP_STAT_LATCH 0 11 = 0 ∧
    (cmp11 24 0).get F.CMP_STAT_RAW 0 11 = 0 ∧
    (cmp11 24 0).get F.CMP_CFG_POL 0 11 = 0 ∧
    ((cmp11 24 0).put F.CMP_CFG_POL 1 0 11).get F.CMP_CFG_POL 0 11 = 1 ∧
    ((cmp11 24 0).cmpOut 0 11 1700000).1 = true ∧
    ((cmp11 24 0).cmpOut 0 11 (-100000)).1 = false ∧
    (((cmp11 24 0).put F.CMP_CFG_POL 1 0 11).cmpOut 0 11 (-100000)).1 = true ∧
    (((cmp11 24 0).put F.CMP_CFG_POL 1 0 11).cmpOut 0 11 1700000).1 = false ∧
    (after (.comparatorLatch 0 ⟨11, 0, 1700000, 5⟩) (cmp11 24 0)).get F.CMP_STAT_LATCH 0 11 = 1 ∧
    (after (.comparatorLatch 0 ⟨11, 0, 1700000, 5⟩) (cmp11 24 0)).get F.CMP_STAT_CNT 0 11 = 1 ∧
    (after (.comparatorLatch 0 ⟨11, 0, -100000, 5⟩) (cmp11 24 0)).get F.CMP_STAT_LATCH 0 11 = 0 ∧
    (cmp11 24 1).get F.CMP_STAT_LATCH 0 11 = 1 ∧
    (after (.comparatorLatch 0 ⟨11, 0, 1700000, 5⟩) (cmp11 24 1)).get F.CMP_STAT_CNT 0 11 = 0 ∧
    (after (.comparatorLatch 0 ⟨11, 0, 1700000, 5⟩) (cmp11 24 1)).get F.CMP_STAT_RAW 0 11 = 1 ∧
    (monitor 9).cmpRuns 0 30 = true ∧
    (monitor 9).get F.CMP_CFG_INP 0 30 = 9 ∧
    next (.comparatorLatch 0 ⟨30, 8, 800000, 5⟩) (monitor 9) = some (monitor 9) ∧
    (after (.comparatorLatch 0 ⟨30, 9, 800000, 5⟩) (monitor 9)).get F.CMP_STAT_RAW 0 30 = 1 := by decide +kernel

/-- Comparator 11 tied to leg 23 with its output at `raw`, and an edge of the leg at position 64 where `edged`. -/
def blank11 (raw latch : Nat) (edged : Bool) : State :=
  ((cmp11 23 latch).put F.CMP_STAT_RAW raw 0 11).modLeg 0 23 fun L =>
    { L with edgeLog := if edged then [64] else [] }

theorem witness_blanking :
    (blank11 1 0 false).cmpRuns 0 11 = true ∧
    (blank11 1 0 false).get F.CMP_CFG_LEG 0 11 = 23 ∧
    (blank11 1 0 false).get F.CMP_STAT_RAW 0 11 = 1 ∧
    (blank11 1 0 false).get F.CMP_STAT_LATCH 0 11 = 0 ∧
    (blank11 1 0 false).cmpBlanked 0 11 (((blank11 1 0 false).tick 0 - 1) * 64 + 1) = false ∧
    (blank11 1 0 false).get F.CMP_CFG_TRIP 0 11 = 0 ∧
    (blank11 1 0 false).get F.CMP_CFG_URG 0 11 = 0 ∧
    (blank11 1 0 false).get F.IRQ_SRC_EN 0 107 = 0 ∧
    (after (.blankingEnd 0 11 0) (blank11 1 0 false)).get F.CMP_STAT_LATCH 0 11 = 1 ∧
    (after (.blankingEnd 0 11 0) (blank11 1 0 false)).get F.CMP_STAT_CNT 0 11 = 1 ∧
    (blank11 1 0 true).cmpBlanked 0 11 (((blank11 1 0 true).tick 0 - 1) * 64 + 1 + 63) = true ∧
    next (.blankingEnd 0 11 63) (blank11 1 0 true) = some (blank11 1 0 true) ∧
    (after (.blankingEnd 0 11 62) (blank11 1 0 true)).get F.CMP_STAT_LATCH 0 11 = 1 ∧
    next (.blankingEnd 0 11 0) (blank11 0 0 false) = some (blank11 0 0 false) ∧
    next (.blankingEnd 0 11 0) (blank11 1 1 false) = some (blank11 1 1 false) := by decide +kernel

/-- Die 0 with its reference converter in use and its supervision's record. -/
def ref0 (f : RefRun → RefRun) : State := ((rdy.put F.ADC_REF_CONV 4 0).put F.ADC_CFG_EN 1 0 4).modRef 0 f

theorem witness_references :
    (((ref0 fun R => { R with refDue := true }).ref 0).refDue = true) ∧
    ((ref0 fun R => { R with refDue := true }).adcRuns 0 4 = true) ∧
    (((ref0 fun R => { R with refDue := true }).adc 0 4).runEnd ≤ (ref0 id).tick 0 * 10) ∧
    (((after (.referenceSlot 0) (ref0 fun R => { R with refDue := true })).adc 0 4).reference = true) ∧
    (((after (.referenceSlot 0) (ref0 fun R => { R with refDue := true })).adc 0 4).gap = 512) ∧
    ((((ref0 id).modAdc 0 4 fun A => { A with reference := true }).adc 0 4).reference = true) ∧
    (((after (.referenceSlotDone 0 30 9) ((ref0 id).modAdc 0 4 fun A => { A with reference := true })).ref 0).dSum = 30) ∧
    (((ref0 fun R => { R with marks := 50, slots := 24 }).ref 0).marks = 50) ∧
    (((after (.refAverage 0) (ref0 fun R => { R with marks := 50, slots := 24 })).ref 0).marks = 0) ∧
    (((after (.refAverage 0) (ref0 fun R => { R with marks := 50, slots := 24 })).ref 0).formed = false) ∧
    (((ref0 fun R => { R with marks := 50, slots := 25, dSum := 25 * 300 }).ref 0).ignoreD = false) ∧
    ((ref0 fun R => { R with marks := 50, slots := 25, dSum := 25 * 300 }).get F.REF_STAT_USING 0 = 0) ∧
    (((after (.refAverage 0) (ref0 fun R => { R with marks := 50, slots := 25, dSum := 25 * 300 })).ref 0).cDrift = 1) ∧
    (((after (.refAverage 0) (ref0 fun R => { R with marks := 50, slots := 25, dSum := 25 * 250, cDrift := 9 })).ref 0).cDrift = 0) ∧
    ((ref0 fun R => { R with switchDue := 2 }).recQueue = none) ∧
    ((after (.refSwitch 0) (ref0 fun R => { R with switchDue := 2 })).get F.REF_STAT_USING 0 = 1) := by decide +kernel

end Sys2Proof.Tests
end

