-- ==== Sys2Proof/Tests/Units.lean ====
section
/-!
SUPPORT. Witnesses for the statements about time, legs, the ring, queues and acquisition: states that meet the hypotheses of each
clause, with what the clause then gives.
-/
namespace Sys2Proof.Tests
open Sys2Proof.Machine
set_option Elab.async false

/-! ### Angle bases, trackers, positions and the tick -/

/-- Base 2 of die 0 with its record and its type. -/
def base2 (ty : Nat) (B : Base) : State := (rdy.put F.AB_CFG_TYPE ty 0 2).modBase 0 2 fun _ => B

theorem witness_base_commands : 2 ≤ rdy.pkgState ∧ rdy.get F.AB_CFG_RUN 0 2 = 0 ∧
    ((after (.abRunWrite .host 0 2 true) (rdy.put F.AB_CFG_WSTART 0 0 2)).base 0 2).moving = true ∧
    ((after (.abRunWrite .host 0 2 true) (rdy.put F.AB_CFG_WSTART 1 0 2)).base 0 2).waitStart = true ∧
    kept (rdy.put F.AB_CFG_WSTART 1 0 2) (after (.abRunWrite .host 0 2 true) (rdy.put F.AB_CFG_WSTART 1 0 2)) [F.AB_CFG_RUN.key 0 2 0] = true ∧
    (rdy.base 0 2).moving = false ∧ (after (.abAngleWrite .host 0 2 7) rdy).get F.AB_ANGLE_ANGLE 0 2 = 7 ∧
    kept rdy (after (.abAngleWrite .host 0 2 7) rdy) [F.AB_ANGLE_ANGLE.key 0 2 0] = true ∧
    ((after (.abAngleWrite .host 0 2 7) (base2 0 { Base.reset with moving := true })).base 0 2).setIn = some 7 := by decide +kernel

/-- Leg 3 enabled on base 2, which is at rest, as a rising sawtooth with half duty. -/
def rest3 : State := ((rdy.put F.LEG_MODE_EN 1 0 3).put F.LEG_MODE_BASE 2 0 3).put F.LEG_DUTY_DUTY 0x400000 0 3

theorem witness_base_levels : (rest3.base 0 2).moving = false ∧ rest3.get F.LEG_MODE_EN 0 3 = 1 ∧ rest3.get F.LEG_MODE_BASE 0 3 = 2 ∧
    ((after (.abAngleWrite .host 0 2 7) rest3).leg 0 3).car ≠ ((after (.abAngleWrite .host 0 2 0x80000000) rest3).leg 0 3).car := by
  decide +kernel

theorem witness_base_corrections :
    next (.abCorrWrite .host 0 2 0xFFFFFFFF) (base2 2 Base.reset) = some (base2 2 { Base.reset with rem := -1 }) ∧
    next (.baseWhistleStart 0 2) (base2 2 { Base.reset with startAt := some 1, waitStart := true }) =
      some (base2 2 { Base.reset with moving := true }) ∧
    (after (.periodApply 0 2) (base2 0 { Base.reset with period := some (9, 3), periodReached := true })).get F.AB_INC_INC 0 2 = 9 ∧
    kept (base2 0 Base.reset) (after (.periodApply 0 2) (base2 0 { Base.reset with period := some (9, 3), periodReached := true }))
      [F.AB_INC_INC.key 0 2 0] = true ∧
    (after (.periodApply 0 2) (base2 0 { Base.reset with period := some (9, 3), periodReached := true })).base 0 2 = Base.reset := by
  decide +kernel

/-- PULSE base 2 moving on port 0 of die 0, which is in state 0. -/
def pulse2 : State := base2 3 { Base.reset with moving := true, stepReg := 5 }

theorem witness_pulse_edges : pulse2.get F.AB_CFG_PMODE 0 2 = 0 ∧ pulse2.portBases 0 0 = [2] ∧ pulse2.get F.POS_CFG_EN 0 0 = 0 ∧
    ((after (.pulseEdge 0 0 ⟨.fwd, 160⟩) pulse2).base 0 2).pulseIn = 5 ∧ ((after (.pulseEdge 0 0 ⟨.back, 160⟩) pulse2).base 0 2).pulseIn = -5 ∧
    ((after (.pulseEdge 0 0 ⟨.z, 160⟩) pulse2).base 0 2).snapTo = some 0 ∧
    (after (.pulseEdge 0 0 ⟨.bad, 160⟩) pulse2).get F.AB_STAT_PULSE_ERR 0 2 = 1 ∧ (after (.pulseEdge 0 0 ⟨.bad, 160⟩) pulse2).bases = pulse2.bases ∧
    ((after (.positionStateAccept 0 0 ⟨1, 160⟩) pulse2).base 0 2).pulseIn = 5 ∧
    ((after (.positionStateAccept 0 0 ⟨2, 160⟩) pulse2).base 0 2).pulseIn = -5 ∧
    next (.positionStateAccept 0 0 ⟨1, 159⟩) pulse2 = some pulse2 := by
  decide +kernel

/-- A moving NCO base at `a` with increment `inc`. -/
def nco (a : Nat) (inc : Int) : State := ((base2 0 { Base.reset with moving := true }).put F.AB_ANGLE_ANGLE a 0 2).putI F.AB_INC_INC inc 0 2

theorem witness_nco : ((nco 0xFFFFFFFF 3).base 0 2).startAt = none ∧ ((nco 0xFFFFFFFF 3).base 0 2).setIn = none ∧
    ((nco 0xFFFFFFFF 3).baseTick 0 1 [] 2).get F.AB_ANGLE_ANGLE 0 2 = 2 ∧ ((nco 0xFFFFFFFF 3).baseTick 0 1 [] 2).getI F.AB_TURN_TURN 0 2 = 1 ∧
    ((nco 1 (-3)).baseTick 0 1 [] 2).get F.AB_ANGLE_ANGLE 0 2 = 0xFFFFFFFE ∧ ((nco 1 (-3)).baseTick 0 1 [] 2).getI F.AB_TURN_TURN 0 2 = -1 ∧
    ((nco 1 (2 ^ 31 - 1)).baseTick 0 1 [] 2).get F.AB_STAT_INC_CLAMP 0 2 = 1 ∧
    (((nco 1 (2 ^ 31 - 1)).baseTick 0 1 [] 2).base 0 2).step = 2 ^ 30 := by decide +kernel

/-- A part on which nothing moves, with die 0 changed. -/
def calm (f : DieRun → DieRun) : State := (at_ 0 7).modDie 0 f

theorem witness_tick :
    (∀ b < 16, ((calm id).base 0 b).moving = false ∧ ((calm id).base 0 b).startAt = none ∧ ((calm id).base 0 b).period = none ∧
      ((calm id).base 0 b).reloaded = false) ∧
    (∀ n < 24, ((calm id).leg 0 n).boundary = none ∧ ((calm id).leg 0 n).riseH = none ∧ ((calm id).leg 0 n).riseL = none ∧
      ((calm id).leg 0 n).noretDue = false) ∧
    (∀ n < 24, (calm id).get F.LEG_MODE_BASE 0 n < 16) ∧ (∀ k < 256, (calm id).get F.AEV_CFG_ARMED 0 k = 0) ∧
    (∀ l < 8, (calm id).get F.GRD_CFG_EN 0 l = 0) ∧ (∀ r < 2, (calm id).get F.RG_CFG_RUN 0 r = 0) := by decide +kernel

theorem test_chain_ticks : (after (.angleBaseTick 0 []) (calm fun D => { D with chain := -3 })).tick 0 = 7 ∧
    (after (.angleBaseTick 0 []) (calm fun D => { D with chain := 3 })).tick 0 = 9 ∧
    ((after (.angleBaseTick 0 []) (calm fun D => { D with chain := 3 })).die 0).chain = 2 := by decide +kernel

theorem test_tick_counts : (after (.angleBaseTick 0 []) (calm fun D => { D with gated := true })).tick 0 = 7 ∧
    (after (.angleBaseTick 0 []) (calm fun D => { D with withhold := true })).tick 0 = 7 ∧
    (after (.angleBaseTick 0 []) (calm fun D => { D with insert := true })).tick 0 = 9 ∧
    (after (.angleBaseTick 0 []) (calm id)).tick 0 = 8 := by decide +kernel

/-- Whistle time with die 1 at tick `t`. -/
def wh (t : Nat) : State := (at_ 0 100000).modDie 1 fun D => { D with tick := t }

theorem witness_whistle : (wh 0).pkgState = 4 ∧ ((wh 0).die 0).gated = false ∧ (wh 0).tick 0 % 100000 = 0 ∧ (wh 0).whistleAt ≠ 100001 ∧
    (after (.whistle 0) (wh 0)).whistleAt = 100001 ∧ ((wh 0).die 1).reloadNext = false ∧
    ((wh 100000).whistleAtDie 1 100000).1.get F.TICK_ERR_ERR 1 = 0 ∧ (((wh 100001).whistleAtDie 1 100000).1.die 1).withhold = true ∧
    ((wh 99999).whistleAtDie 1 100000).1.get F.TICK_ERR_ERR 1 = 0xFFFF ∧ (((wh 99999).whistleAtDie 1 100000).1.die 1).insert = true ∧
    next (.whistle 3) { wh 0 with whistleAt := 100001 } = some { wh 0 with whistleAt := 100001 } ∧
    (wh 100003).tick 1 % 100000 = 3 ∧ 100000 ≤ (wh 100003).tick 1 ∧ ((wh 100003).die 1).seen ≠ (wh 100003).tick 1 - 2 ∧ ((wh 100003).die 1).missRun ≠ 1 ∧
    (after (.whistleMiss 1) (wh 100003)).get F.TICK_STAT_WHISTLE_MISS 1 = 1 ∧
    kept (wh 100003) (after (.whistleMiss 1) (wh 100003)) [F.TICK_STAT_WHISTLE_MISS.key 1 0 0] = true ∧
    (after (.whistleMiss 1) (wh 100003)).die 1 = { (wh 100003).die 1 with missRun := 1, seen := 100001 } := by decide +kernel

/-- Tracker 1 of die 0 enabled. -/
def mains : State := rdy.put F.MT_CFG_EN 1 0 1

/-- A good cycle: 50 Hz, full amplitude. -/
def cycle : MainsMeasure := ⟨50 * 65536, 0, 0x800000, 0, 0x1000⟩

theorem witness_mains : rdy.get F.MT_CFG_EN 0 1 = 0 ∧ (after (.mainsTrackerEnable .host 0 1) rdy).tracker 0 1 = ⟨0, 2147, 0⟩ ∧
    mains.get F.MT_CFG_EN 0 1 = 1 ∧ mains.get F.MT_STAT_LOCK 0 1 = 0 ∧
    max (mains.get F.MT_CFG_LOCK_CYC 0 1) 1 ≤ ((mains.modTracker 0 1 fun T => { T with goodRun := 300 }).tracker 0 1).goodRun ∧
    (after (.mainsLock 0 1) (mains.modTracker 0 1 fun T => { T with goodRun := 300 })).get F.MT_STAT_LOCK 0 1 = 1 ∧
    kept mains (after (.mainsLock 0 1) (mains.modTracker 0 1 fun T => { T with goodRun := 300 }))
      [F.MT_STAT_LOCK.key 0 1 0, F.MT_STAT_HOLD.key 0 1 0] = true ∧
    (40 * 65536 ≤ cycle.freq ∧ cycle.freq ≤ 70 * 65536 ∧ 838861 ≤ cycle.amp ∧ cycle.amp < 2 ^ 24 ∧
      cycle.phaseErr.natAbs * 360 < 2 ^ 32 ∧ cycle.freqErr.natAbs ≤ 3276) := by decide +kernel

/-- The tracker locked, with base 2 in MAINS mode moving. -/
def locked : State :=
  (((mains.put F.MT_STAT_LOCK 1 0 1).put F.AB_CFG_TYPE 1 0 2).put F.AB_CFG_SRC 1 0 2).modBase 0 2 fun B => { B with moving := true }

theorem test_mains_cycle : (after (.mainsCycle 0 1 cycle) locked).get F.MT_FREQ_FREQ 0 1 = 50 * 65536 ∧
    (after (.mainsCycle 0 1 cycle) locked).tracker 0 1 = ⟨1, 2147, 0⟩ ∧ ((after (.mainsCycle 0 1 cycle) locked).base 0 2).rem = 0x1000 ∧
    kept locked (after (.mainsCycle 0 1 cycle) locked) [F.MT_FREQ_FREQ.key 0 1 0, F.MT_AMP_AMP.key 0 1 0] = true := by decide +kernel

theorem witness_positions : rdy.get F.POS_STAT_STATE 0 3 ≠ 5 ∧ rdy.get F.POS_CFG_EN 0 3 = 0 ∧ (∀ b < 16, rdy.get F.AB_CFG_TYPE 0 b ≠ 3) ∧
    rdy.get F.POS_TAB_VALID 0 3 5 = 0 ∧ (rdy.put F.POS_TAB_VALID 1 0 3 5).get F.POS_TAB_VALID 0 3 5 = 1 ∧
    (after (.positionStateAccept 0 3 ⟨5, 160⟩) rdy).get F.POS_STAT_INV_CNT 0 3 = 1 ∧
    Store.get (after (.positionStateAccept 0 3 ⟨5, 160⟩) (rdy.put F.POS_TAB_VALID 1 0 3 5)).posPrev 0 3 = 6 ∧
    (after (.positionStateAccept 0 3 ⟨5, 160⟩) rdy).get F.POS_STAT_STATE 0 3 = 5 := by decide +kernel

/-! ### Legs and gate ports -/

/-- Leg 21 of die 0 at tick 100, released by both safety channels, and changed by `f`. -/
def leg21 (f : Leg → Leg) : State := (at_ 0 100).modLeg 0 21 fun L => f { L with safeA := false, safeB := false }

/-- A set to become active. -/
def set0 : PendSet := ⟨0, 5, 6, 7, 0, false, 100, none, none, false⟩

/-- Leg 21 at a boundary with that set pending. -/
def edge21 : State := leg21 fun L => { L with boundary := some ⟨0, 0, 0, 0, 99, true, true⟩, pend := some set0 }

theorem witness_legs : (leg21 fun L => { L with riseH := some 6464 }).get F.LEG_STAT_GL 0 21 = 0 ∧
    (after (.deadTimeEnd 0 21) (leg21 fun L => { L with riseH := some 6464 })).get F.LEG_STAT_GH 0 21 = 1 ∧
    (after (.deadTimeEnd 0 21) (leg21 fun L => { L with riseH := some 6464 })).get F.GATE_STAT_PGH 0 21 = 1 ∧
    (after (.deadTimeEnd 0 21) (leg21 fun L => { L with riseL := some 6400 })).get F.LEG_STAT_GL 0 21 = 1 ∧
    (after (.deadTimeEnd 0 21) (leg21 fun L => { L with riseL := some 6400 })).get F.GATE_STAT_PGL 0 21 = 1 ∧
    (edge21.leg 0 21).car = false ∧ edge21.legHerd 0 21 = none ∧ (after (.legBoundary 0 21) edge21).get F.LEG_CFG_RISE_DLY 0 21 = 5 ∧
    (after (.legBoundary 0 21) edge21).get F.LEG_PHASE_PHASE 0 21 = 7 ∧ (after (.legBoundary 0 21) edge21).get F.LEG_STAT_PEND 0 21 = 0 ∧
    ((after (.legBoundary 0 21) edge21).leg 0 21).pend = none ∧ still edge21 (after (.legBoundary 0 21) edge21) = true := by
  decide +kernel

/-- Leg 21 with a duty in its shadow. -/
def shadow21 : State := (leg21 id).putSh F.LEG_DUTY_DUTY 0x1000 0 21

theorem witness_leg_enable : shadow21.get F.LEG_MODE_EN 0 21 = 0 ∧ shadow21.legLocked 0 21 = false ∧
    (after (.legEnable .host 0 21) shadow21).get F.LEG_MODE_EN 0 21 = 1 ∧
    (after (.legEnable .host 0 21) shadow21).get F.LEG_DUTY_DUTY 0 21 = 0x1000 ∧ shadow21.isSection 0 21 = false ∧
    (after (.legForce .host 0 21 3) shadow21).get F.LEG_FORCE_FORCE 0 21 = 3 ∧
    (after (.legForce .host 0 19 3) shadow21).get F.LEG_FORCE_FORCE 0 19 = 0 ∧
    (after (.legForce .host 0 19 3) shadow21).get F.DIE_WREF_CNT 0 = 1 ∧ (∀ k < 6, shadow21.isPhase 0 (6 * 3 + k) = false) ∧
    (∀ k < 6, (after (.grpMaskWrite .host 0 3 0x2A) shadow21).getBit F.GRP_MASK_MASK k 0 3 = (0x2A : BitVec 6).getLsbD k) ∧
    shadow21.get F.REG_CFG_EN 0 2 = 0 ∧ shadow21.get F.DRV_CFG_EN 0 2 = 0 ∧ (∀ k < 24, shadow21.legHerd 0 k = none ∧ (shadow21.leg 0 k).boundary = none) ∧
    (after (.laCmd .host 0 2) shadow21).get F.LA_STAT_LA_CNT 0 2 = 1 ∧
    ((after (.laCmd .host 0 2) shadow21).leg 0 21).pend.map (fun p => (p.duty, p.due)) = some (0x1000, 164) := by decide +kernel

/-- Leg 21 with its gate port enabled. -/
def gate21 (f : Leg → Leg) : State := (leg21 f).put F.GATE_CFG_EN 1 0 21

/-- Leg 21 running on base 2, which moves: its next edge is 2,600 positions away. -/
def frame21 : State :=
  (((gate21 id).put F.LEG_MODE_EN 1 0 21).put F.LEG_MODE_BASE 2 0 21).modBase 0 2 fun B => { B with moving := true, step := 4096 }

/-- An edge that waits for its return. -/
def ret0 : RetEdge := ⟨1, 9, true, 6000⟩

theorem witness_gate_enable : (leg21 id).get F.GATE_CFG_EN 0 21 = 0 ∧ (leg21 id).legLocked 0 21 = false ∧
    (leg21 id).get F.GATE_DEF_HS_ON 0 21 < 16 ∧ (leg21 id).get F.GATE_DEF_LS_OFF 0 21 < 16 ∧
    (after (.gateEnable .host 0 21) ((leg21 id).put F.GATE_DEF_HS_OFF 3 0 21)).strength 0 21 1 = 3 ∧
    (after (.gateEnable .host 0 21) (leg21 id)).get F.GATE_CFG_EN 0 21 = 1 ∧
    (gate21 fun L => { L with returns := [ret0] }).get F.GATE_CFG_EN 0 21 = 1 ∧
    (gate21 fun L => { L with returns := [ret0] }).domOn 0 domLEG = true ∧
    (after (.gfPulse 0 21 100) ((gate21 fun L => { L with returns := [ret0] }).put F.GATE_CFG_ADAPT 0 0 21)).get F.GATE_EDGE_NOTR 0 21 1 = 1 ∧
    (after (.gfPulse 0 21 100) ((gate21 fun L => { L with returns := [ret0] }).put F.GATE_CFG_ADAPT 0 0 21)).get F.GATE_EDGE_CODE 0 21 1 = 9 ∧
    (after (.gfPulse 0 21 100) ((gate21 fun L => { L with returns := [ret0] }).put F.GATE_CFG_ADAPT 0 0 21)).get F.GATE_EDGE_W 0 21 1 = 100 := by
  decide +kernel

/-- Leg 21 late for a return (200 ns after tick 0). -/
def late21 : State := (gate21 fun L => { L with returns := [⟨1, 9, true, 0⟩] }).modDie 0 fun D => { D with tick := 300 }

theorem witness_gate_misses : (late21.leg 0 21).noretDue = false ∧ frame21.get F.GATE_STAT_GF_FLT 0 21 = 0 ∧ (late21.leg 0 21).missRun + 1 ≠ max (late21.get F.GATE_CFG_MISS_LIM 0 21) 1 ∧
    (after (.returnMiss 0 21) late21).get F.GATE_CNT_MISS_CNT 0 21 = 1 ∧ ((after (.returnMiss 0 21) late21).leg 0 21).returns = [] ∧
    kept late21 (after (.returnMiss 0 21) late21) [F.GATE_CNT_MISS_CNT.key 0 21 0] = true ∧ (gate21 id).get F.LEG_MODE_EN 0 21 = 0 ∧
    (gate21 id).domOn 0 domLEG = true ∧ frame21.domOn 0 domLEG = true ∧
    (after (.gfFault 0 21) (gate21 id)).get F.GATE_STAT_GF_FLT 0 21 = 1 ∧ frame21.get F.LEG_STAT_TRIP 0 21 = 0 ∧
    frame21.legHerd 0 21 = none ∧ frame21.recQueue = none ∧ frame21.get F.IRQ_SRC_EN 0 197 = 0 ∧
    (after (.gfFault 0 21) frame21).get F.LEG_STAT_TRIP 0 21 = 1 ∧ (after (.gfFault 0 21) frame21).get F.GATE_TRIP_GF 0 21 = 1 := by
  decide +kernel

/-- A companion action on its way to the leg of herd 2 on die 0. -/
def mesh21 : State :=
  { ((leg21 id).put F.OWN_LEG_EN 1 0 21).put F.OWN_LEG_HERD 2 0 21 with mesh := [⟨0, 2, .ascLow, false⟩] }

/-- Leg 21 tripped, with its gate driver's level. -/
def trip21 (gf : Nat) : State := ((gate21 id).put F.LEG_STAT_TRIP 1 0 21).put F.GATE_STAT_GF gf 0 21

theorem witness_trips : mesh21.herdLegsOn 0 2 = [21] ∧ (after (.tripMesh 0) mesh21).mesh = [] ∧
    ((after (.tripMesh 0) mesh21).leg 0 21).comp = some .ascLow ∧ (trip21 1).tripSourcesClear 0 21 = true ∧ ((trip21 1).leg 0 21).gsFree ≤ (trip21 1).tick 0 * 64 ∧
    (after (.tripClear .host 0 21) (trip21 1)).get F.LEG_STAT_TRIP 0 21 = 0 ∧
    ((after (.tripClear .host 0 21) (trip21 1)).leg 0 21).clearHold = some 10880 ∧ (trip21 0).tripSourcesClear 0 21 = false ∧
    ((after (.tripClear .host 0 21) ((trip21 0).put F.GATE_CFG_EN 0 0 21)).leg 0 21).clearHold = some 6400 ∧
    (after (.tripClear .host 0 21) (trip21 0)).get F.GATE_TCLR_CLR_REF_CNT 0 21 = 1 := by decide +kernel

/-- Leg 21 running with its next edge in the window of a frame: 2,562 positions ahead. -/
def due21 : State := (((frame21.put F.LEG_DUTY_DUTY 0x780000 0 21).put F.AB_ANGLE_ANGLE (0x44000000 - 164000) 0 2).put
  F.LEG_CFG_RISE_DLY 0 0 21).put F.LEG_CFG_FALL_DLY 0 0 21

theorem witness_strength_frame : due21.nextEdge 0 21 = some (true, 8962) ∧ due21.get F.LEG_MODE_EN 0 21 = 1 ∧
    due21.get F.LEG_STAT_TRIP 0 21 = 0 ∧ (due21.leg 0 21).paired = false ∧ (due21.leg 0 21).gsFree = 0 ∧
    due21.get F.LEG_CFG_RISE_DLY 0 21 = 0 ∧ due21.get F.LEG_CFG_FALL_DLY 0 21 = 0 ∧
    ((after (.strengthFrame 0 21) due21).leg 0 21).framedOff = true ∧
    ((after (.strengthFrame 0 21) due21).leg 0 21).frames.map (fun f => (f.start, f.kind)) = [(6416, 3), (7568, 0)] := by
  decide +kernel

/-- The same leg with its edge 1,000 positions ahead: too near for a frame. -/
def near21 : State := due21.put F.AB_ANGLE_ANGLE (0x44000000 - 64000) 0 2

theorem witness_strength_late : (near21.nextEdge 0 21).any (fun e => decide (e.2 < near21.tick 0 * 64 + 1280)) = true ∧
    near21.get F.GATE_CFG_EN 0 21 = 1 ∧ (near21.leg 0 21).paired = false ∧
    ((after (.strengthFrame 0 21) near21).leg 0 21).paired = true ∧
    ((after (.strengthFrame 0 21) near21).leg 0 21).framedOff = false ∧
    (after (.strengthFrame 0 21) near21).get F.GATE_CNT_SKIP_CNT 0 21 = 2 := by decide +kernel

/-- Leg 21 with adaptive strength, whose framed turn-off edge waits for its return. -/
def adapt21 : State := ((gate21 fun L => { L with returns := [ret0], integ := [(1, 32000)] }).put F.GATE_CFG_ADAPT 1 0 21).put F.GATE_CFG_STR_MAX 12 0 21

theorem witness_strength_adapts : adapt21.get F.GATE_CFG_ADAPT 0 21 = 1 ∧ adapt21.domOn 0 domLEG = true ∧
    adapt21.get F.GATE_CFG_STR_MAX 0 21 < 16 ∧ adapt21.get F.GATE_STR_CODES 0 21 < 65536 ∧ ret0.kind < 4 ∧ ret0.framed = true ∧
    (after (.gfPulse 0 21 4000) adapt21).strength 0 21 1 = adapt21.strength 0 21 1 + 1 ∧
    Store.get ((after (.gfPulse 0 21 4000) adapt21).leg 0 21).integ 0 1 = 0 := by decide +kernel

/-- Leg 21 one missed return short of its limit, which trips it. -/
def miss21 : State := (late21.put F.GATE_CFG_NORET_TRIP 1 0 21).put F.GATE_CFG_MISS_LIM 1 0 21

/-- Leg 21 with its modulator one short-circuit output from a trip. -/
def short21 : State :=
  ((((((leg21 id).put F.MOD_CLK_EN 1 0 0).put F.MOD_CFG_EN 1 0 21).put F.MOD_CFG_SC_EN 1 0 21).put F.MOD_CFG_SC_OSR 0 0 21).put F.MOD_SC_THR 3 0 21).modModIn 0 21
    fun M => { M with scOuts := 3 }

/-- Leg 21 with comparator 11 as a trip of its own. -/
def cmp21 : State :=
  ((((leg21 id).put F.CMP_CFG_EN 1 0 11).put F.CMP_CFG_LEG 21 0 11).put F.CMP_CFG_TRIP 1 0 11).put F.CMP_THR_CODE 512 0 11

theorem witness_leg_trips :
    (miss21.leg 0 21).missRun + 1 = max (miss21.get F.GATE_CFG_MISS_LIM 0 21) 1 ∧ miss21.legHerd 0 21 = none ∧ miss21.recQueue = none ∧
    miss21.get F.IRQ_SRC_EN 0 197 = 0 ∧ (after (.returnMiss 0 21) miss21).get F.GATE_TRIP_NORET 0 21 = 1 ∧
    short21.modRuns 0 21 = true ∧ short21.get F.MOD_CFG_SC_ORD 0 21 + 1 ≤ (short21.modIn 0 21).scOuts + 1 ∧
    short21.get F.LEG_STAT_TRIP 0 21 = 0 ∧ short21.legHerd 0 21 = none ∧
    short21.get F.MOD_SC_THR 0 21 < (short21.shortFilter 0 21 (List.replicate 8 true)).2.natAbs ∧
    (after (.modScOutput 0 21 (List.replicate 8 true)) short21).get F.GATE_TRIP_SC 0 21 = 1 ∧
    cmp21.cmpRuns 0 11 = true ∧ (cmp21.cmpOut 0 11 0x700000).1 = true ∧ cmp21.get F.CMP_STAT_LATCH 0 11 = 0 ∧
    cmp21.get F.CMP_CFG_CBC 0 11 = 0 ∧ cmp21.get F.CMP_CFG_URG 0 11 = 0 ∧ cmp21.get F.IRQ_SRC_EN 0 107 = 0 ∧
    cmp21.cmpBlanked 0 11 ((cmp21.tick 0 - 1) * 64 + 1 + 5) = false ∧
    (after (.comparatorLatch 0 ⟨11, 0, 0x700000, 5⟩) cmp21).get F.GATE_TRIP_CMP 0 21 = 1 := by decide +kernel

end Sys2Proof.Tests
end

