-- ==== Sys2Proof/Tests/Upkeep.lean ====
section
/-!
SUPPORT. Witnesses for the statements about the safety functions, the always-on domain, the recorder and flash: states that meet the
hypotheses of each clause, with what the clause then gives.
-/
namespace Sys2Proof.Tests
open Sys2Proof.Machine
set_option Elab.async false

/-! ### Safety functions -/

/-- A part whose safety channels drive every die and have passed their self-test, with every contact closed. -/
def safe0 (f : SafetyRun → SafetyRun) : State :=
  ({ rdy with safety := f { SafetyRun.reset with driveA := 3, driveB := 3, tested := 3 } }.put F.SAFE_IN_A 0xFFFF).put F.SAFE_IN_B 0xFFFF

/-- Zone 0 in SS1 with no demand, by the channels `a` and `b`; the seal gives it no time. -/
def ss1By (a b : Bool) : State :=
  ((safe0 fun S => { S with cycles := 4, ss1 := [(0, ⟨3, 4, a, b⟩)] }).put F.SAFE_STAT_SS1_ZONE 1).put F.SAFE_STAT_DEM_ZONE 0

/-- The same by both. -/
def ss10 : State := ss1By true true

/-- Input 15 opened, seen by channel A alone, first at this input where `fresh`. -/
def open15 (fresh : Nat) : State := safe0 fun S => { S with openA := 2 ^ 15, fresh := fresh }

/-- Input 15 in discrepancy since cycle 0, at cycle `n`. -/
def disc15 (n : Nat) : State := safe0 fun S => { S with disc := 2 ^ 15, cycles := n }

/-- What is read of the safety channels: the fault, its cause, the zones and the state, and the lines. -/
def safeView (t : State) : List Nat :=
  [t.get F.SAFE_STAT_SFAULT, t.get F.SAFE_FLT_CAUSE, t.get F.SAFE_STAT_DEM_ZONE, t.get F.SAFE_STAT_STATE, t.safety.driveA, t.safety.driveB]

theorem witness_safety :
    (safe0 id).recQueue = none ∧
    (∀ d < 2, ∀ n < 206, 203 ≤ n → (safe0 id).get F.IRQ_SRC_EN d n = 0) ∧
    (safe0 id).safety.openA = 0 ∧
    (safe0 id).safety.openB = 0 ∧
    (after (.safetyChannelCycle false ⟨false, false⟩) (safe0 id)).safety = { (safe0 id).safety with cycles := 1 } ∧
    (open15 (2 ^ 15)).safety.openA = 2 ^ 15 ∧
    (open15 (2 ^ 15)).safety.fresh = 2 ^ 15 ∧
    (open15 (2 ^ 15)).sealed = 0 ∧
    (after (.safetyChannelCycle false ⟨false, false⟩) (open15 (2 ^ 15))).getBit F.SAFE_INDEM_DEM 15 = true ∧
    (after (.safetyChannelCycle false ⟨false, false⟩) (open15 (2 ^ 15))).safety.driveA = 0 ∧
    (after (.safetyChannelCycle false ⟨false, false⟩) (open15 (2 ^ 15))).safety.driveB = 3 ∧
    (after (.safetyChannelCycle false ⟨false, false⟩) (open15 (2 ^ 15))).get F.SAFE_CNT_DEM_CNT = 1 ∧
    (after (.safetyChannelCycle false ⟨false, false⟩) (open15 0)).get F.SAFE_CNT_DEM_CNT = 0 ∧
    safeView (after (.safetyChannelCycle true ⟨false, false⟩) (safe0 id)) = [1, 16, 15, 4, 0, 0] ∧
    safeView (after (.safetyChannelCycle false ⟨true, true⟩) (safe0 id)) = [1, 4, 15, 4, 0, 0] ∧
    safeView (after (.safetyChannelCycle false ⟨true, false⟩) (safe0 id)) = [1, 4, 15, 4, 0, 3] ∧
    (safe0 id).getBit F.SAFE_IN_A 15 = true ∧
    (safe0 id).getBit F.SAFE_IN_B 15 = true ∧
    (after (.contactAccept false 15 false) (safe0 id)).safety.disc.testBit 15 = true ∧
    (after (.contactAccept false 15 false) (safe0 id)).getBit F.SAFE_IN_A 15 = false ∧
    rdy.getBit F.SAFE_IN_A 15 = false ∧
    next (.contactAccept false 15 false) rdy = some rdy ∧
    (disc15 100).safety.disc.testBit 15 = true ∧
    Store.get (disc15 100).safety.discFrom 0 15 + (disc15 100).discCycles = 100 ∧
    safeView (after (.discrepancyTimeout 15) (disc15 100)) = [1, 128, 15, 4, 0, 0] ∧
    next (.discrepancyTimeout 15) (disc15 99) = some (disc15 99) ∧
    (safe0 id).safety.disc.testBit 15 = false ∧
    next (.discrepancyTimeout 15) (safe0 id) = some (safe0 id) ∧
    (safe0 id).contact true 15 = true ∧
    rdy.contact true 15 = false ∧
    next (.testPulse true 15 ⟨true, false, true⟩) rdy = some rdy ∧
    safeView (after (.testPulse true 15 ⟨true, false, true⟩) (safe0 id)) = [1, 64, 15, 4, 3, 0] ∧
    safeView (after (.testPulse false 15 ⟨false, true, false⟩) (safe0 id)) = [1, 64, 15, 4, 0, 3] ∧
    safeView (after (.testPulse false 15 ⟨true, true, true⟩) (safe0 id)) = [1, 64, 15, 4, 3, 0] ∧
    ((after (.testPulse true 15 ⟨true, true, true⟩) (safe0 fun S => { S with tpBad := 2 ^ 31 })).safety.tpBad = 0) ∧
    ((after (.testPulse false 15 ⟨true, false, true⟩) (safe0 fun S => { S with tpBad := 2 ^ 47 })).safety.tpBad = 0) := by decide +kernel

theorem witness_safety_ends :
    ss10.getBit F.SAFE_STAT_SS1_ZONE 0 = true ∧
    ss10.getBit F.SAFE_STAT_DEM_ZONE 0 = false ∧
    (ss10.ss1Run 0).from_ + ss10.ss1Cycles = ss10.safety.cycles ∧
    (ss10.ss1Run 0).chanB = true ∧
    (after (.ss1Expiry 0) (ss1By true false)).safety.driveB = 3 ∧
    (after (.ss1Expiry 0) ss10).getBit F.SAFE_STAT_DEM_ZONE 0 = true ∧
    (after (.ss1Expiry 0) ss10).safety.driveA = 0 ∧
    (after (.ss1Expiry 0) ss10).safety.driveB = 0 ∧
    (safe0 id).safety.sealExit = none ∧
    (after (.sealRead 5 5) (safe0 id)).get F.SAFE_SEAL_SEAL_B = 5 ∧
    safeView (after (.sealRead 5 6) (safe0 id)) = [1, 8, 15, 4, 0, 0] ∧
    (after (.safetySelftest ⟨true, true⟩) rdy).safety.tested = 2 ∧
    safeView (after (.safetySelftest ⟨false, false⟩) (safe0 id)) = [1, 1, 15, 4, 0, 3] ∧
    safeView (after (.safetySelftest ⟨true, false⟩) (safe0 id)) = [1, 1, 15, 4, 3, 0] ∧
    safeView (after .rstStuck (safe0 id)) = [1, 2, 15, 4, 0, 0] ∧
    safeView (after (.pathFault 1 true) (safe0 id)) = [1, 32, 15, 4, 0, 0] ∧
    ((after (.pathFault 1 false) (safe0 fun S => { S with pathBad := 2 })).safety.pathBad = 0) ∧
    (safe0 id).allHealthy = true ∧
    (safe0 id).get F.SAFE_STAT_SS1_ZONE = 0 ∧
    (safe0 id).safety.tested = 3 ∧
    (safe0 id).safety.stuck = false ∧
    (safe0 id).causePresent = false ∧
    safeView (after (.safeResetEdge 0 100 ⟨true, false⟩) (after (.testPulse true 15 ⟨true, false, true⟩) (safe0 id))) = [1, 64, 15, 4, 3, 0] ∧
    (safeView (after (.safeResetEdge 0 2000 ⟨true, false⟩) ((safe0 fun S => { S with driveA := 0, driveB := 0 }).put F.SAFE_STAT_DEM_ZONE 1)) = [0, 0, 0, 1, 3, 3]) ∧
    (after (.safeResetEdge 0 99 ⟨true, false⟩) (safe0 id)).get F.SAFE_CNT_RST_REJ_CNT = 1 ∧
    (after (.safeResetEdge 0 200 ⟨true, true⟩) (safe0 id)).get F.SAFE_CNT_RST_REJ_CNT = 1 ∧
    ((safe0 fun S => { S with sealExit := some (5, 5) }).safety.sealExit = some (5, 5)) ∧
    ((after (.sealRead 5 5) (safe0 fun S => { S with sealExit := some (5, 5) })).get F.SAFE_FLT_CAUSE = 0) ∧
    (safeView (after (.sealRead 6 6) (safe0 fun S => { S with sealExit := some (5, 5) })) = [1, 8, 15, 4, 0, 0]) ∧
    (after (.contactAccept true 15 false) (safe0 id)).contact true 15 = false ∧
    (after (.contactAccept true 15 false) (safe0 id)).contact false 15 = true ∧
    (after (.contactAccept false 15 true) (after (.contactAccept false 15 false) (safe0 id))).safety.disc.testBit 15 = true ∧
    (after (.contactAccept true 15 false) (after (.contactAccept false 15 false) (safe0 id))).safety.disc.testBit 15 = false ∧
    (after (.safeResetEdge 999 200 ⟨true, false⟩) (after .rstStuck (safe0 id))).safety.stuck = true ∧
    (after (.safeResetEdge 1000 200 ⟨true, false⟩) (after .rstStuck (safe0 id))).safety.stuck = false ∧
    (after (.sealRead 0x30 0x30) (safe0 id)).get F.LEG_STAT_GL 0 5 + (if ((after (.sealRead 0x30 0x30) (safe0 id)).leg 0 5).riseL.isSome then 1 else 0) = 1 := by decide +kernel

/-- Input 15 with channel A open for a first change, B closed. -/
def firstOpen : State := after (.contactAccept false 15 false) (safe0 id)

theorem witness_contacts_again :
    firstOpen.safety.disc.testBit 15 = true ∧
    firstOpen.getBit F.SAFE_IN_A 15 = false ∧
    (after (.contactAccept true 15 false) firstOpen).safety.disc.testBit 15 = false ∧
    (after (.contactAccept true 15 false) firstOpen).getBit F.SAFE_IN_B 15 = false ∧
    (after (.contactAccept false 15 true) firstOpen).getBit F.SAFE_IN_A 15 = true ∧
    (safe0 id).sealed = 0 := by decide +kernel

theorem witness_leg_enable_lines :
    (safe0 id).zoneWs 1 = false ∧
    (after (.legEnableLoss true 1) (safe0 id)).get F.LEG_STAT_SAFE_OFF 1 23 = 1 ∧
    (after (.legEnableLoss false 1) (safe0 id)).get F.LEG_STAT_SAFE_OFF 1 0 = 1 ∧
    (safe0 id).safety.driveA.testBit 1 = true ∧
    (safe0 id).safety.driveB.testBit 1 = true ∧
    (after (.legEnableRestore 1) (after (.legEnableLoss true 1) (safe0 id))).get F.LEG_STAT_SAFE_OFF 1 23 = 0 ∧
    (after (.legEnableRestore 1) (safe0 id)).getBit F.SAFE_EN_A 1 = true := by decide +kernel

/-! ### The always-on domain -/

/-- A record that waits. -/
def note (tick : Nat) : RecEntry := ⟨0x0105, none, 0xFF, 0, 1, 2, 3, 4, 5, tick, 0, false, false⟩

/-- On store, with the domain's record. -/
def dark (f : AonRun → AonRun) : State := { rdy with aonRun := f AonRun.reset }

/-- Comparator 7 of the domain enabled at 0.6 V, its slow timer of period 3. -/
def acmp7 : State :=
  (((dark id).put F.AON_CMP_CFG_EN 1 0 7).put F.AON_CMP_CFG_THR 85 0 7).put F.AON_ST_PERIOD 3 0 ((dark id).get F.AON_CMP_CFG_TMR 0 7)

/-- On main supply. -/
def lit (f : AonRun → AonRun) : State := (dark f).put F.AON_STAT_MAIN_OK 1

/-- A record waits, and the small store can write it. -/
def waits8 : State := (dark fun A => { A with buffer := [{ note 0 with aon := true }] }).put F.AON_VST_VSMALL 2000

theorem witness_always_on :
    acmp7.aonRun.off = false ∧
    acmp7.onMain = false ∧
    acmp7.get F.AON_CMP_CFG_EN 0 7 = 1 ∧
    acmp7.get F.AON_CMP_CFG_POL 0 7 = 0 ∧
    Store.get acmp7.aonRun.runs 0 7 = acmp7.get F.AON_CMP_CFG_CONF 0 7 ∧
    6 % max (acmp7.get F.AON_ST_PERIOD 0 (acmp7.get F.AON_CMP_CFG_TMR 0 7)) 1 = 0 ∧
    acmp7.get F.AON_CMP_CFG_THR 0 7 = 85 ∧
    (after (.aonCmpDecision 7 ⟨607000, 6⟩) acmp7).get F.AON_CMP_STAT_HIT 0 7 = 1 ∧
    (after (.aonCmpDecision 7 ⟨607000, 6⟩) acmp7).get F.AON_CMP_STAT_CNT 0 7 = 1 ∧
    (after (.aonCmpDecision 7 ⟨594000, 6⟩) (after (.aonCmpDecision 7 ⟨607000, 6⟩) acmp7)).get F.AON_CMP_STAT_OUT 0 7 = 0 ∧
    (after (.aonCmpDecision 7 ⟨594000, 6⟩) acmp7).get F.AON_CMP_STAT_CNT 0 7 = 0 ∧
    next (.aonCmpDecision 7 ⟨607000, 7⟩) acmp7 = some acmp7 ∧
    (lit id).onMain = true ∧
    (lit id).aonRun.buffer.length < 8 ∧
    (after .mainLost (lit id)).get F.AON_STAT_ON_STORE = 1 ∧
    (after .mainLost (lit id)).aonRun.buffer.map (·.code) = [0x0801] ∧
    (dark id).aonRun.buffer = [] ∧
    (after .mainReturn (dark id)).get F.AON_STAT_MAIN_OK = 1 ∧
    (dark id).aonRun.absent = true ∧
    (after .powerCycleCount (dark id)).get F.AON_PCYC_CNT = 1 ∧
    ((dark fun A => { A with absent := false }).aonRun.absent = false) ∧
    (next .powerCycleCount (dark fun A => { A with absent := false }) = some (dark fun A => { A with absent := false })) ∧
    (after .aonSecond (lit id)).get F.AON_MSECS_SECS = 1 ∧
    (after .aonSecond (dark id)).get F.AON_SECS_SECS = 1 ∧
    (after .aonSecond (dark id)).get F.AON_MSECS_SECS = 0 ∧
    (after (.gaugeUpdate 2300 2100 9 4) ((dark id).put F.AON_CFG_LCAP 10)).get F.AON_VST_VLARGE = 2300 ∧
    (after (.gaugeUpdate 2300 2100 9 4) ((dark id).put F.AON_CFG_LCAP 10)).get F.AON_GAUGE_PCT =
    min (100 * (10 * (2300 * 2300 - 1900 * 1900)) /
    (10 * ((2300 + 10 * (dark id).get F.AON_LMAX_CODE) * (2300 + 10 * (dark id).get F.AON_LMAX_CODE) - 1900 * 1900))) 100 := by decide +kernel

/-- Both stores at their limits, the harvester stopped for it. -/
def stored (small large : Nat) : State :=
  ((dark fun A => { A with full := true }).put F.AON_VST_VSMALL small).put F.AON_VST_VLARGE large

theorem witness_full_stores :
    (stored 2600 5000).aonRun.full = true ∧
    2500 < (stored 2600 5000).get F.AON_VST_VSMALL + 20 ∧
    2300 + 10 * (stored 2600 5000).get F.AON_LMAX_CODE < (stored 2600 5000).get F.AON_VST_VLARGE + 20 ∧
    next (.harvesterStart true) (stored 2600 5000) = some (stored 2600 5000) ∧
    (after (.harvesterStart true) (stored 2480 5000)).get F.AON_STAT_HARV_RUN = 1 ∧
    (after .harvesterStop ((stored 2600 5000).put F.AON_STAT_HARV_RUN 1)).aonRun.full = true ∧
    (after .harvesterStop ((stored 2499 5000).put F.AON_STAT_HARV_RUN 1)).aonRun.full = false ∧
    (next (.harvesterStart false) (dark fun A => { A with off := true }) = some (dark fun A => { A with off := true })) := by decide +kernel

theorem witness_harvest_and_dark :
    (after (.harvesterVocMeasure 70000) ((dark id).put F.AON_STAT_HARV_RUN 1)).get F.AON_HARV_VOC = 0xFFFF ∧
    (after (.gaugeUpdate 2300 2499 9 4) ((dark id).put F.AON_STAT_HARV_RUN 1)).aonRun.charging = some false ∧
    (after (.gaugeUpdate 2299 2500 9 4) ((dark id).put F.AON_STAT_HARV_RUN 1)).aonRun.charging = some true ∧
    (after (.gaugeUpdate 2299 2500 9 4) (dark id)).aonRun.charging = none ∧
    (after (.gaugeUpdate 2299 2298 9 4) (dark id)).aonRun.refill = true ∧
    (after .mainReturn ((dark id).put F.AON_CFG_CHG_MAIN 1)).aonRun.charger = true ∧
    (after (.harvesterStart true) (dark id)).get F.AON_STAT_HARV_RUN = 1 ∧
    (after .harvesterStop ((dark id).put F.AON_STAT_HARV_RUN 1)).get F.AON_STAT_HARV_RUN = 0 ∧
    waits8.flashBusy 0 = false ∧
    (waits8.sector 0 (waits8.nextRow waits8.toPermanent / 512)).state ≠ 0x1F ∧
    waits8.needsErase 0 (waits8.nextRow waits8.toPermanent) = false ∧
    (after .aonRecordWrite waits8).recorder.committing = some ({ note 0 with aon := true }, 0, 73728) ∧
    ((after (.flashOpDone 0) (after .aonRecordWrite waits8)).flashRow 0 73728).toNat % 2 ^ 32 = 0 ∧
    (after (.flashOpDone 0) (after .aonRecordWrite waits8)).recorder.mirrorLack = [73728] ∧
    ((after .aonRecordWrite ((dark fun A => { A with buffer := [{ note 0 with aon := true }] }).put F.AON_VST_VSMALL 2000)).aonRun.buffer = []) ∧
    ((after .aonRecordWrite ((dark fun A => { A with buffer := [{ note 0 with aon := true }] }).put F.AON_VST_VSMALL 2000)).get F.REC_NEXT_SEQ = 1) ∧
    (next .aonRecordWrite ((dark fun A => { A with buffer := [note 0] }).put F.AON_VST_VSMALL 1999) =
    some ((dark fun A => { A with buffer := [note 0] }).put F.AON_VST_VSMALL 1999)) ∧
    (dark id).aonRun.bins.length < 255 ∧
    (after (.darkBinClose 77) (dark id)).aonRun.bins = [77] ∧
    (dark id).darkCause = some 1 ∧
    (after .darkCutoff (dark id)).aonRun.off = true ∧
    ((after .darkCutoff (dark id)).flashRow 0 ((dark id).nextRow (dark id).toPermanent)).toNat / 2 ^ 96 % 2 ^ 16 = 0x0803 ∧
    (lit id).darkCause = none ∧
    next .darkCutoff (lit id) = some (lit id) ∧
    ((after .darkTimerExpired (dark fun A => { A with off := true })).aonRun.expired = true) ∧
    ((after (.darkWake 9 true) (dark fun A => { A with off := true, expired := true })).get F.AON_GAP_HOURS = 9) ∧
    ((after (.darkWake 9 true) (dark fun A => { A with off := true, expired := true })).get F.AON_GAP_EXPIRED = 1) ∧
    next (.darkWake 9 true) (dark id) = some (dark id) := by decide +kernel

/-! ### Flash and the recorder -/

/-- Flash of die 0 with operation `op` under way and erase `x` suspended. -/
def flash0 (op : Option FlashOp) (x : Option Nat) : State :=
  (rdy.modFlash 0 fun U => { U with busy := op, suspended := x }).put F.FL_ADDR_ROW 51200

/-- With slot `k` booted and its first row addressed. -/
def booted0 (k : Nat) : State := ((flash0 none none).modBoot fun B => { B with slot := some k }).put F.FL_ADDR_ROW (k * 32768)

/-- Flash of die 0 off. -/
def flashOff : State := rdy.put F.PWR_DOM_STATE 2 0 domFLASH

theorem witness_flash_waits :
    flashOff.domOn 0 domFLASH = false ∧
    ((after (.flashRead .host 0) flashOff).flashRun 0).busy = none ∧
    (after (.flashRead .host 0) flashOff).get F.FL_STAT_BUSY 0 = 1 ∧
    (after (.flashRead .host 0) flashOff).flash = flashOff.flash := by decide +kernel

theorem witness_flash :
    (flash0 none none).domOn 0 domFLASH = true ∧
    (flash0 none none).get F.FL_ADDR_ROW 0 = 51200 ∧
    ((flash0 none none).put F.FL_STAT_BUSY 1).get F.FL_STAT_BUSY 0 = 1 ∧
    (after (.flashErase .host 0) ((flash0 none none).put F.FL_STAT_BUSY 1)).get F.FL_STAT_RES 0 = 3 ∧
    (flash0 none none).get F.FL_STAT_BUSY 0 = 0 ∧
    ((flash0 none none).flashRun 0).busy = none ∧
    ((flash0 none none).flashRun 0).suspended = none ∧
    ((after (.flashRead .host 0) (flash0 none none)).flashRun 0).busy = some (.read 51200) ∧
    (flash0 none none).sectorOpen 0 100 = true ∧
    ((after (.flashErase .host 0) (flash0 none none)).flashRun 0).busy = some (.erase 100) ∧
    ((after (.flashErase .host 0) (flash0 none none)).sector 0 100).state = 0x1F ∧
    ((after (.flashProgram .host 0) (flash0 none none)).flashRun 0).busy.isSome = true ∧
    ((flash0 none none).put F.FL_ADDR_ROW 131071).sectorOpen 0 255 = true ∧
    ((booted0 0).sectorOpen 0 0 = false ∧ (flash0 none none).sectorOpen 0 0 = true) ∧
    (after (.flashProgram .host 0) (booted0 0)).get F.FL_STAT_RES 0 = 3 ∧
    next (.flashOpDone 0) (flash0 none none) = some (flash0 none none) ∧
    ((flash0 (some (.read 51200)) none).flashRun 0).waiting = [] ∧
    (after (.flashOpDone 0) ((flash0 (some (.read 51200)) none).setRow 0 51200 7)).get F.FL_DATA 0 0 = 7 ∧
    (flash0 (some (.program 51200 5)) none).recorder.committing = none ∧
    (after (.flashOpDone 0) ((flash0 (some (.program 51200 5)) none).setRow 0 51200 12)).flashRow 0 51200 = 4 ∧
    recorderSector 0 100 = false ∧
    (after (.flashOpDone 0) ((flash0 (some (.erase 100)) none).setRow 0 51711 12)).flashRow 0 51711 = BitVec.allOnes 256 ∧
    ((after (.flashOpDone 0) ((flash0 (some (.erase 100)) none).setRow 0 51711 12)).sector 0 100).state = 0xFF ∧
    ((flash0 none (some 100)).flashRun 0).suspended = some 100 ∧
    ((after (.eraseResume 0) (flash0 none (some 100))).flashRun 0).busy = some (.erase 100) := by decide +kernel

/-- A recorder with these records at its intake, at tick 100,000 of die 0. -/
def rec0 (es : List RecEntry) : State := (at_ 0 100000).modRec fun R => { R with intake := es }

/-- The program of a record's row under way. -/
def programming : State :=
  (rec0 []).modRec (fun R => { R with committing := some (note 0, 9, 65600) }) |>.modFlash 0
    fun U => { U with busy := some (.program 65600 5) }

/-- R458: a read of FL_CMD waits for the end of a record's program and then runs. -/
theorem test_flash_read_waits : ((after (.flashRead .host 0) programming).flashRun 0).busy = some (.program 65600 5) ∧
    (after (.flashOpDone 0) (after (.flashRead .host 0) programming)).flashRow 0 65600 = 5 ∧
    ((after (.flashOpDone 0) (after (.flashRead .host 0) programming)).flashRun 0).busy = some (.read 0) := by decide +kernel

/-- With a row to be mirrored. -/
def mirroring (b : Bool) : State :=
  (rdy.setRow 0 65600 5).modRec fun R => if b then { R with mirrorDue := [65600] } else { R with mirrorLack := [65600] }

/-- With one stored row, bad on D0 and good on D1. -/
def torn : State := (rdy.setRow 0 65600 5).setRow 1 65600 (recordRow 9 (note 0))

/-- The COMMISSIONED record waits for its row. -/
def first0 : State := (rec0 []).modRec fun R => { R with first := some (note 0) }

/-- The program of a record of the always-on path, in the last row of the permanent area, under way. -/
def lastRow : State :=
  (rec0 []).modRec (fun R => { R with committing := some ({ note 0 with aon := true }, 9, 73727) }) |>.modFlash 0
    fun U => { U with busy := some (.program 73727 5) }

theorem witness_first_and_last_rows :
    first0.recorder.first = some (note 0) ∧
    first0.needsErase 0 (65536 + first0.recorder.permRow) = false ∧
    (first0.sector 0 ((65536 + first0.recorder.permRow) / 512)).state ≠ 0x1F ∧
    (after .recordCommit first0).recorder.committing = some (note 0, 0, 65536) ∧
    (after .recordCommit first0).recorder.first = none ∧
    (after (.flashOpDone 0) lastRow).recorder.mirrorLack = [73727] ∧
    (after (.flashOpDone 0) lastRow).get F.REC_FLG_PERM_FULL = 1 ∧
    (rdy.setRow 0 65600 5).rowsOf 0 9 = [] := by decide +kernel

theorem witness_mirror_waits :
    (mirroring false).recorder.mirrorLack ≠ [] ∧
    next .mirrorCommit (mirroring false) = some (mirroring false) ∧
    ((mirroring false).put F.PKG_STATE_STATE 2).ready = false ∧
    next .mirrorCopy ((mirroring false).put F.PKG_STATE_STATE 2) = some ((mirroring false).put F.PKG_STATE_STATE 2) := by decide +kernel

theorem witness_records :
    next .recordCommit (rec0 []) = some (rec0 []) ∧
    (rec0 [note 0]).flashBusy 0 = false ∧
    ((rec0 [note 0]).sector 0 144).state ≠ 0x1F ∧
    (rec0 [note 0]).needsErase 0 73728 = false ∧
    ((rec0 [note 0]).sector 1 144).state ≠ 0x1F ∧
    (rec0 [note 0]).needsErase 1 73728 = false ∧
    (rec0 [note 0]).sectorLock 1 144 = false ∧
    (let t := after (.flashOpDone 1) (after .mirrorCommit (after (.flashOpDone 0) (after .recordCommit (rec0 [note 0]))))
    t.flashRow 0 73728 = recordRow 0 (note 0) ∧ t.flashRow 1 73728 = recordRow 0 (note 0) ∧ t.recorder.mirrorDue = [] ∧
    t.recorder.mirroring = none ∧ t.recorder.committing = none) ∧
    next .recordCommit ((rec0 [note 0]).put F.REC_FLG_FROZEN 1) = some ((rec0 [note 0]).put F.REC_FLG_FROZEN 1) ∧
    (rec0 [note 0]).toPermanent = false ∧
    (rec0 [note 0]).recQueue = none ∧
    ((rec0 [note 0]).flashRun 0).busy = none ∧
    (after .recordCommit (rec0 [note 0])).recorder.committing = some (note 0, 0, 73728) ∧
    (after .recordCommit (rec0 [note 0])).get F.REC_NEXT_SEQ = 1 ∧
    next .recordCommit (rec0 [note 1]) = some (rec0 [note 1]) ∧
    programming.domOn 0 domFLASH = true ∧
    programming.recorder.committing = some (note 0, 9, 65600) ∧
    (after (.flashOpDone 0) programming).flashRow 0 65600 = 5 ∧
    (after (.flashOpDone 0) programming).recorder.mirrorDue = [65600] ∧
    (mirroring true).needsErase 1 65600 = false ∧
    (mirroring true).sectorLock 1 128 = false ∧
    (mirroring true).recorder.mirrorDue = [65600] ∧
    (after .mirrorCommit (mirroring true)).recorder.mirroring = some 65600 ∧
    (after (.flashOpDone 1) (after .mirrorCommit (mirroring true))).flashRow 1 65600 = 5 ∧
    (after .mirrorCommit (mirroring true)).recorder.mirrorDue = [] ∧
    (mirroring false).ready = true ∧
    (after (.flashOpDone 1) (after .mirrorCopy (mirroring false))).flashRow 1 65600 = 5 ∧
    torn.storedRows = [65600] ∧
    torn.recQueue = none ∧
    torn.recorder.torn = [] ∧
    rowValid (torn.flashRow 0 65600) = false ∧
    rowValid (torn.flashRow 1 65600) = true ∧
    (after .mirrorCompare torn).get F.REC_MIR2_BADCRC_CNT = 1 := by decide +kernel

/-- A reader waits for record 9, which both dies hold. -/
def sought : State :=
  ((rdy.setRow 0 65600 (recordRow 9 (note 0))).put F.REC_CURSOR_SEQ 9).put F.REC_CSEL_WSTAT Status.notReady.code

theorem witness_recorder_commands :
    rdy.get F.REC_FLG_COMMISSIONED = 0 ∧
    rdy.recorder.permRow = 0 ∧
    rdy.get F.REC_FLG_PERM_FULL = 0 ∧
    (after (.commission .host) rdy).get F.REC_FLG_COMMISSIONED = 1 ∧
    (after (.commission .host) rdy).recorder.permRow = 1 ∧
    ((after (.commission .host) rdy).recorder.committing.map (fun c => (c.1.code, c.2.2)) = some (0x0810, 65536)) ∧
    (after (.commission .host) (rdy.put F.REC_FLG_FROZEN 1)).recorder.first.map (·.code) = some 0x0810 ∧
    (after (.commission .host) (rdy.put F.REC_FLG_COMMISSIONED 1)).get F.REC_STAT_CMD_RES = 3 ∧
    (rdy.flashRun 0).busy = none ∧
    (rdy.flashRun 1).busy = none ∧
    (after (.freeze .host) rdy).get F.REC_FLG_FROZEN = 1 ∧
    (after (.unfreeze .host) (after (.freeze .host) rdy)).get F.REC_FLG_FROZEN = 0 ∧
    (after .freezeExpiry (rdy.put F.REC_FLG_FROZEN 1)).get F.REC_FLG_FROZEN = 1 ∧
    (after .freezeExpiry ((at_ 0 1000000000).put F.REC_FLG_FROZEN 1)).get F.REC_FLG_FRZ_EXP = 1 ∧
    (after (.recordSelect (.engine 63) 9) rdy).get F.REC_CURSOR_SEQ 0 64 = 9 ∧
    sought.get F.REC_CSEL_WSTAT 0 0 = Status.notReady.code ∧
    sought.locate (sought.get F.REC_CSEL_SRC 0 0) (sought.get F.REC_CURSOR_SEQ 0 0) = (some (recordRow 9 (note 0)), .ok) ∧
    (after (.recordLocated .host) sought).get F.REC_CSEL_WSTAT 0 0 = 0 ∧
    (after (.recordLocated .host) sought).get F.REC_WIN 0 0 0 = 9 ∧
    (rdy.put F.REC_CSEL_AUTO 0 0 0).get F.REC_CSEL_AUTO 0 0 = 0 ∧
    (after (.recWinRead .host) (rdy.put F.REC_WIN 77 0 0 7)).answer = [77] ∧
    (after (.recWinRead .host) (sought.put F.REC_CSEL_AUTO 1 0 0)).get F.REC_CURSOR_SEQ 0 0 = 10 := by decide +kernel

end Sys2Proof.Tests
end

