-- ==== Sys2Proof/Tests/Slice0.lean ====
section
/-!
SUPPORT. The smoke test of well-formedness, with an ill-formed term for each check on a part of two dies, and of the words of the
table; it gathers the other tests, which stand beside it.
-/
namespace Sys2Proof.Tests
open Sys2Proof.Machine
set_option Elab.async false

theorem test_wf_accepts : (Instr.add 63 1 2 3).wf 2 = true ∧ (Instr.legEnable .host 1 23).wf 2 = true ∧
    (Instr.bind .host 15).wf 2 = true ∧ (Instr.pwrOn .host 1 12).wf 2 = true := by decide

theorem test_wf_refuses_dies_engines_and_herds : (Instr.pathFault 2 true).wf 2 = false ∧ (Instr.add 64 1 2 3).wf 2 = false ∧
    (Instr.bind .host 16).wf 2 = false ∧ (Instr.ringPointRead 1 2).wf 2 = false ∧ (Instr.wrefClr .host (some 2)).wf 2 = false := by
  decide

theorem test_wf_refuses_units_of_a_die : (Instr.legEnable .host 1 24).wf 2 = false ∧ (Instr.abRunWrite .host 1 16 true).wf 2 = false ∧
    (Instr.mainsLock 1 2).wf 2 = false ∧ (Instr.positionStateAccept 1 8 ⟨0, 0⟩).wf 2 = false ∧ (Instr.slotResult 1 8 []).wf 2 = false ∧
    (Instr.modStuck 1 24).wf 2 = false ∧ (Instr.comparatorLatch 1 ⟨48, 0, 0, 0⟩).wf 2 = false ∧ (Instr.aonCmpDecision 8 ⟨0, 0⟩).wf 2 = false ∧
    (Instr.laCmd .host 1 8).wf 2 = false ∧ (Instr.grpMaskWrite .host 1 4 0).wf 2 = false := by decide

theorem test_wf_refuses_parts_of_a_unit : (Instr.heelEnable .host 15 4).wf 2 = false ∧ (Instr.oscEnable .host 15 4).wf 2 = false ∧
    (Instr.gridTrip 15 12).wf 2 = false ∧ (Instr.snap .host 1 2).wf 2 = false ∧ (Instr.zcTimeout 1 1 4).wf 2 = false ∧
    (Instr.mcCorrectionWrite .host 1 1 8 .ofs 0).wf 2 = false ∧ (Instr.pailLoRead .host 1 (.pail 1 30)).wf 2 = false ∧
    (Instr.pailLoRead .host 1 (.output 8)).wf 2 = false ∧ (Instr.pailLoRead .host 1 (.snapTick 2)).wf 2 = false ∧
    (Instr.commandPointStale 15 4).wf 2 = false := by decide

theorem test_wf_refuses_package_units : (Instr.ss1Expiry 4).wf 2 = false ∧ (Instr.irqHpendClear .host 1 16 ⟨0, 0⟩).wf 2 = false ∧
    (Instr.rampRun .host 1 2).wf 2 = false ∧ (Instr.railSettled 1 8).wf 2 = false ∧ (Instr.pwrOn .host 1 13).wf 2 = false ∧
    (Instr.canBusOff 2).wf 2 = false ∧ (Instr.canTxFrame 1 4).wf 2 = false := by decide

theorem test_refused_by_name : exec (.bind .host 16) State.reset = .refused .noSuchUnit := rfl

theorem test_no_word_spells_a_command : decodeTableWord 32 0x5E = none ∧ State.reset.withFetchWord 32 0x5E = State.reset := by
  decide +kernel

theorem test_step_takes_the_front : step { rdy with pending := [.bypass, .idcode] } =
    .next { rdy with pending := [.idcode], tap := { rdy.tap with instr := .bypass } } := rfl

theorem test_empty_queue_idles : step State.reset = .next State.reset := rfl

end Sys2Proof.Tests
end

section
/-!
PROOF. RECOVER (O37): what driving the gate outputs of a leg leaves as it was, what entering BOUND from a state that is not
active does, and from them the two outcomes of R301.
-/
namespace Sys2Proof.Machine

/-! ### Frames of register fields -/

theorem RegsBut.trans {s t u : State} {ks : List Nat} (h : RegsBut s t ks) (g : RegsBut t u ks) : RegsBut s u ks :=
  fun k e hk => (g k e hk).trans (h k e hk)

theorem RegsBut.mono {s t : State} {ks ls : List Nat} (h : RegsBut s t ks) (hs : ks ⊆ ls) : RegsBut s t ls :=
  fun k e hk => h k e fun m => hk (hs m)

theorem RegsBut.put (s : State) (F : Fld) (v d i j : Nat) : RegsBut s (s.put F v d i j) [F.key d i j] := fun k e hk =>
  Store.get_set_other s.cells (F.reset i j) e _ (by simpa using hk)

/-- A field outside the frame reads as before. -/
theorem RegsBut.get {s t : State} {ks : List Nat} (h : RegsBut s t ks) {F : Fld} {d i j : Nat} (hk : F.key d i j ∉ ks) :
    t.get F d i j = s.get F d i j := h _ _ hk

/-- Of the registers only those with keys in `ks` differ, and the member and the waiting commands are the same. -/
structure KeepsBut (ks : List Nat) (s t : State) : Prop where
  regs : RegsBut s t ks
  member : t.member = s.member
  pending : t.pending = s.pending

namespace KeepsBut
variable {ks ls : List Nat} {s t u : State}

theorem refl (ks : List Nat) (s : State) : KeepsBut ks s s := ⟨fun _ _ _ => rfl, rfl, rfl⟩

theorem trans (h : KeepsBut ks s t) (g : KeepsBut ks t u) : KeepsBut ks s u :=
  ⟨h.regs.trans g.regs, g.member.trans h.member, g.pending.trans h.pending⟩

theorem mono (h : KeepsBut ks s t) (hs : ks ⊆ ls) : KeepsBut ls s t := ⟨h.regs.mono hs, h.member, h.pending⟩

/-- A put inside the frame keeps it. -/
theorem put {F : Fld} {d i j : Nat} (h : KeepsBut ks s t) (v : Nat) (hk : F.key d i j ∈ ks) : KeepsBut ks s (t.put F v d i j) :=
  h.trans ⟨(RegsBut.put t F v d i j).mono (by simpa using hk), rfl, rfl⟩

/-- An update that leaves the registers, the member and the waiting commands keeps every frame. -/
theorem keep (h : KeepsBut ks s t) (hc : u.cells = t.cells) (hm : u.member = t.member) (hp : u.pending = t.pending) :
    KeepsBut ks s u := h.trans ⟨fun _ _ _ => by rw [hc], hm, hp⟩

theorem modLeg (h : KeepsBut ks s t) (d n : Nat) (f : Leg → Leg) : KeepsBut ks s (t.modLeg d n f) := h.keep rfl rfl rfl

/-- Updates that each keep a frame keep it one after the other. -/
theorem foldl {α : Type} {f : State → α → State} {xs : List α} (hf : ∀ x ∈ xs, ∀ s, KeepsBut ks s (f s x))
    (s : State) : KeepsBut ks s (xs.foldl f s) := by
  induction xs generalizing s with
  | nil => exact refl ks s
  | cons x xs ih =>
    exact (hf x List.mem_cons_self s).trans (ih (fun y hy => hf y (List.mem_cons_of_mem _ hy)) (f s x))

end KeepsBut

/-! ### Driving a leg

The outputs of a leg, their readbacks and the return misses that an edge may bring are all that driving it writes (R223, R224,
R237, R247, R252, R259, R260). -/

/-- The register fields that driving a leg may write. -/
def outputFields : List Fld :=
  [F.LEG_STAT_MASKED, F.LEG_STAT_GH, F.LEG_STAT_GL, F.GATE_STAT_PGH, F.GATE_STAT_PGL, F.GATE_STAT_NORET,
   F.GATE_STAT_FRAME_LATE, F.GATE_CNT_MISS_CNT]

/-- Their keys for leg `n` of die `d`. -/
def outputKeys (d n : Nat) : List Nat := outputFields.map fun F => F.key d n 0

/-- Their keys for every leg of die `d`. -/
def dieOutputKeys (d : Nat) : List Nat := (List.range 24).flatMap (outputKeys d)

/-- Driving leg `n` of die `d` may take `s` to `t`. -/
abbrev Drives (d n : Nat) (s t : State) : Prop := KeepsBut (outputKeys d n) s t

section
variable {d n : Nat} {s t : State}

theorem outputKeys_mem {F : Fld} (hF : F ∈ outputFields) : F.key d n 0 ∈ outputKeys d n := List.mem_map_of_mem hF

theorem Drives.put (h : Drives d n s t) {F : Fld} (v : Nat) (hF : F ∈ outputFields) : Drives d n s (t.put F v d n) :=
  KeepsBut.put h v (outputKeys_mem hF)

theorem Drives.modLeg (h : Drives d n s t) (f : Leg → Leg) : Drives d n s (t.modLeg d n f) := KeepsBut.modLeg h d n f

theorem Drives.setGh (h : Drives d n s t) (b : Bool) : Drives d n s (t.setGh d n b) :=
  (h.put _ (by simp [outputFields])).put _ (by simp [outputFields])

theorem Drives.setGl (h : Drives d n s t) (b : Bool) : Drives d n s (t.setGl d n b) :=
  (h.put _ (by simp [outputFields])).put _ (by simp [outputFields])

theorem Drives.countMiss (h : Drives d n s t) : Drives d n s (t.countMiss d n) := by
  have hm := (h.put (F := F.GATE_CNT_MISS_CNT) (min (t.get F.GATE_CNT_MISS_CNT d n + 1) (2 ^ F.GATE_CNT_MISS_CNT.width - 1))
    (by simp [outputFields])).modLeg fun L => { L with missRun := L.missRun + 1 }
  unfold State.countMiss
  dsimp only
  split
  · exact (hm.put _ (by simp [outputFields])).modLeg _
  · exact hm

theorem Drives.gateEdge (h : Drives d n s t) (k pos : Nat) (framed : Bool) : Drives d n s (t.gateEdge d n k pos framed) := by
  unfold State.gateEdge
  dsimp only
  split
  · exact h.modLeg _
  · split
    · exact (h.modLeg _).modLeg _
    · exact ((h.modLeg _).modLeg _).countMiss

theorem Drives.frameLate (h : Drives d n s t) (k pos : Nat) (framed : Bool) : Drives d n s (t.frameLate d n k pos framed) := by
  unfold State.frameLate
  split
  · exact h.put _ (by simp [outputFields])
  · exact h

/-- An output that has changed, with its gate edge and frame. -/
theorem Drives.edge (h : Drives d n s t) (k pos : Nat) (framed : Bool) :
    Drives d n s ((t.gateEdge d n k pos framed).frameLate d n k pos framed) := (h.gateEdge k pos framed).frameLate k pos framed

theorem Drives.ite (c : Prop) [Decidable c] {u : State} (h : Drives d n s t) (g : Drives d n s u) :
    Drives d n s (if c then t else u) := by split <;> assumption

theorem Drives.driveTo (h : Drives d n s t) (pos : Nat) (carrier : Bool) (src : Nat) (w : Bool × Bool) :
    Drives d n s (t.driveTo d n pos carrier src w) := by
  have hm : Drives d n s (t.putB F.LEG_STAT_MASKED (!t.maskBit d n || (t.leg d n).burstMask) d n) :=
    h.put _ (by simp [outputFields])
  have hh := Drives.ite (t.bit F.LEG_STAT_GH d n && !w.1)
    ((hm.setGh false).edge 1 pos (carrier && (t.leg d n).framedOff)) hm
  unfold State.driveTo
  dsimp only
  exact (Drives.ite (t.bit F.LEG_STAT_GL d n && !w.2)
    ((hh.setGl false).edge 3 pos (carrier && (t.leg d n).framedOff)) hh).modLeg _

theorem Drives.riseHigh (h : Drives d n s t) (now : Nat) : Drives d n s (t.riseHigh d n now) := by
  unfold State.riseHigh
  dsimp only
  split
  · exact Drives.ite _ (((h.setGh true).edge 0 _ _).modLeg _) h
  · exact h

theorem Drives.riseLow (h : Drives d n s t) (now : Nat) : Drives d n s (t.riseLow d n now) := by
  unfold State.riseLow
  dsimp only
  split
  · exact Drives.ite _ (((h.setGl true).edge 2 _ _).modLeg _) h
  · exact h

theorem Drives.deadTimeEnd (h : Drives d n s t) (now : Nat) : Drives d n s (t.deadTimeEnd d n now) :=
  (h.riseHigh now).riseLow now

theorem Drives.beforeTake (h : Drives d n s t) (c : Nat) : Drives d n s (t.beforeTake d n c) := by
  unfold State.beforeTake
  refine Drives.deadTimeEnd (Drives.ite _ ?_ h) _
  split
  · exact Drives.ite _ ((((h.deadTimeEnd _).modLeg _).driveTo _ _ _ _).modLeg _) h
  · exact h

end

/-- Driving a leg at the next PWM clock writes its output fields only. -/
theorem takeOver_drives (s : State) (d n : Nat) : Drives d n s (s.takeOver d n) := by
  have h := KeepsBut.refl (outputKeys d n) s
  exact (Drives.ite _ h (Drives.beforeTake h _)).driveTo _ _ _ _

/-- Driving the herd's legs on a die writes output fields of that die's legs only. -/
theorem driveHerdOn_keepsBut (s : State) (d h : Nat) : KeepsBut (dieOutputKeys d) s (s.driveHerdOn d h) := by
  refine KeepsBut.foldl (fun n hn s => (takeOver_drives s d n).mono ?_) s
  exact fun k hk => List.mem_flatMap.2 ⟨n, List.mem_of_mem_filter hn, hk⟩

/-- What follows a herd's state on a die writes output fields of that die's legs only. -/
theorem stateOn_keepsBut (s : State) (d h : Nat) (old new : HState) : KeepsBut (dieOutputKeys d) s (s.stateOn d h old new) := by
  have hl : KeepsBut (dieOutputKeys d) s ((s.herdLegsOn d h).foldl (fun s n => s.modLeg d n fun L => L.leave old new) s) :=
    KeepsBut.foldl (fun n _ s => (KeepsBut.refl _ s).modLeg d n _) s
  unfold State.stateOn
  refine KeepsBut.trans ?_ (driveHerdOn_keepsBut _ d h)
  split
  · exact hl.keep rfl rfl rfl
  · exact hl

/-! ### Fields that are told apart -/

/-- The place of a field in its word shows in its key. -/
theorem Fld.key_mod (F : Fld) (d i j : Nat) : F.key d i j % 32 = F.lo % 32 := by rw [Fld.key, Nat.mul_add_mod_self_right]

/-- A put leaves every field with another place in its word. -/
theorem State.get_put_of_lo {F G : Fld} (h : G.lo % 32 ≠ F.lo % 32) (s : State) (v d i j d' i' j' : Nat) :
    (s.put F v d i j).get G d' i' j' = s.get G d' i' j' :=
  State.get_put_other (h := fun hk => h (by rw [← Fld.key_mod G d' i' j', hk, Fld.key_mod])) ..

/-- A key of the output fields of a die is one of a field and a leg. -/
theorem mem_dieOutputKeys {d k : Nat} : k ∈ dieOutputKeys d ↔ ∃ n < 24, ∃ F ∈ outputFields, F.key d n 0 = k := by
  simp [dieOutputKeys, outputKeys]

/-- The output fields lie in the low halves of their words, up to bit 12. -/
theorem not_output_of_lo {G : Fld} (hG : 12 < G.lo % 32) (d e i j : Nat) : G.key e i j ∉ dieOutputKeys d := fun hk => by
  obtain ⟨n, -, F, hF, hkey⟩ := mem_dieOutputKeys.1 hk
  have low : ∀ F ∈ outputFields, F.lo % 32 ≤ 12 := by decide
  have hmod : F.lo % 32 = G.lo % 32 := by rw [← Fld.key_mod F d n 0, hkey, Fld.key_mod]
  have := low F hF
  omega

/-- The output fields lie below the registers of the herds. -/
theorem state_not_output (d l : Nat) : F.HERD_STAT_STATE.key d l 0 ∉ dieOutputKeys d := fun hk => by
  obtain ⟨n, hn, G, hG, hkey⟩ := mem_dieOutputKeys.1 hk
  have place : ∀ G ∈ outputFields, G.space = .die ∧ G.s1 = 0x40 ∧ G.off ≤ 0x30028 ∧ G.lo < 32 := by decide
  obtain ⟨hs, h1, ho, hl⟩ := place G hG
  simp only [Fld.key, Fld.addr, Space.base, F.HERD_STAT_STATE, hs, h1] at hkey
  omega

/-! ### RECOVER -/

theorem HerdEvent.rank_le_two (e : HerdEvent) : e.rank ≤ 2 := by cases e <;> simp [HerdEvent.rank]

/-- No event comes after a command on its tick (R299). -/
theorem overtaken_two (s : State) (h : Nat) : s.overtaken h 2 = false := by
  simp [State.overtaken, HerdEvent.rank_le_two]

theorem meetCommand_eq (s : State) (h code : Nat) (task : Bool) (f : State → State) :
    s.meetCommand h code task f = s.noted (f s) h (.command code task) :=
  if_neg (by rw [HerdEvent.rank, overtaken_two]; exact Bool.false_ne_true)

/-- Noting an event leaves the registers. -/
@[simp] theorem noted_cells (s t : State) (h : Nat) (e : HerdEvent) : (s.noted t h e).cells = t.cells := rfl

@[simp] theorem noted_get (s t : State) (h : Nat) (e : HerdEvent) (F : Fld) (d i j : Nat) :
    (s.noted t h e).get F d i j = t.get F d i j := rfl

@[simp] theorem noted_herdState (s t : State) (h : Nat) (e : HerdEvent) (g : Nat) :
    (s.noted t h e).herdState g = t.herdState g := rfl

@[simp] theorem noted_legs (s t : State) (h : Nat) (e : HerdEvent) : (s.noted t h e).legs = t.legs := rfl

/-- RECOVER answers its effect on the herd, noted among the events of the tick. -/
theorem exec_recover {s : State} {q : Requester} {h : Nat} (hh : h < 8 * s.dies) (hp : 2 ≤ s.pkgState)
    (hq : s.reached q (h / 8) = s) (hm : (s.herdRecover h).member = s.member) (hc : (s.herdRecover h).pending = s.pending) :
    exec (.recover q h) s = .next (s.noted (s.herdRecover h) h (.command 8 false)) := by
  have hx : exec (.recover q h) s = execRecover q h s := rfl
  rw [hx, execRecover, State.arrived, hq, whenAnswers_of_le hp, meetCommand_eq]
  exact guarded_next (decide_eq_true hh) hm hc

/-- An engine carries a task of a herd of its die exactly where one of its enabled tasks of a herd names it (R85, R103). -/
theorem mem_engineHerds_iff {s : State} {h e : Nat} (he : e < 32) : h ∈ s.engineHerds (h / 8 * 32 + e) ↔
    ∃ k < 32, s.get F.ENG_TCFG_EN (h / 8) e k ≠ 0 ∧ s.get F.ENG_TCFG_HB (h / 8) e k ≠ 0 ∧
      s.get F.ENG_TCFG_HERD (h / 8) e k = h % 8 := by
  have hd : (h / 8 * 32 + e) / 32 = h / 8 := by omega
  have hm : (h / 8 * 32 + e) % 32 = e := by omega
  have hl : ∀ x, h / 8 * 8 + x = h ↔ x = h % 8 := by omega
  simp [State.engineHerds, State.taskHerd, State.bit, hd, hm, hl, ite_eq_iff]

/-- An engine with an enabled task of the herd is in DFAULT (R301). -/
theorem herdDfault_iff (s : State) (h : Nat) : s.herdDfault h = true ↔
    ∃ e < 32, (s.eng (h / 8 * 32 + e)).dfault = true ∧ ∃ k < 32, s.get F.ENG_TCFG_EN (h / 8) e k ≠ 0 ∧
      s.get F.ENG_TCFG_HB (h / 8) e k ≠ 0 ∧ s.get F.ENG_TCFG_HERD (h / 8) e k = h % 8 := by
  simp only [State.herdDfault, List.any_eq_true, List.mem_range, Bool.and_eq_true, List.contains_iff_mem]
  refine exists_congr fun e => and_congr_right fun he => ?_
  rw [mem_engineHerds_iff he, and_comm]

theorem herdRecover_refused {s : State} {h : Nat} (hs : s.herdState h = .faulted ∨ s.herdState h = .safe)
    (hd : s.herdDfault h = true) : s.herdRecover h = s.cmdRes h .refused := by
  rcases hs with hs | hs <;> simp [State.herdRecover, hs, hd]

/-- RECOVER accepted (R301). -/
def recovered (s : State) (h : Nat) : State := ((s.put F.HERD_STAT_FAULT_CAUSE 0 (h / 8) (h % 8)).enterBound h).cmdRes h .ok

theorem herdRecover_accepted {s : State} {h : Nat} (hs : s.herdState h = .faulted ∨ s.herdState h = .safe)
    (hd : s.herdDfault h = false) : s.herdRecover h = recovered s h := by
  rcases hs with hs | hs <;> simp [State.herdRecover, recovered, hs, hd]

/-- A herd that is neither RUNNING nor STOPPING has no unit to leave (R330, R348, R350, R384). -/
theorem leaveState_of_inactive {old : HState} (ho : old.active = false) (s : State) (h : Nat) (new : HState) :
    s.leaveState h old new = s := by
  cases old <;> simp_all [State.leaveState, HState.active]

/-- A herd that is not active enters BOUND by its STATE field, the output fields of its home die's legs and what is kept beside
the registers. -/
theorem enterBound_keepsBut {s : State} {h : Nat} (ho : (s.herdState h).active = false) :
    KeepsBut (dieOutputKeys (h / 8)) (s.put F.HERD_STAT_STATE HState.bound.code (h / 8) (h % 8)) (s.enterBound h) := by
  unfold State.enterBound State.enterState
  dsimp only
  rw [leaveState_of_inactive ho]
  exact (stateOn_keepsBut _ _ _ _ _).keep rfl rfl rfl

/-- A put of a field with another place in its word leaves the herd's state. -/
theorem herdState_put_of_lo {G : Fld} (hG : F.HERD_STAT_STATE.lo % 32 ≠ G.lo % 32) (s : State) (v d i j h : Nat) :
    (s.put G v d i j).herdState h = s.herdState h := by
  rw [State.herdState, State.get_put_of_lo hG, State.herdState]

/-- A command's status leaves the herd's state. -/
@[simp] theorem herdState_cmdRes (s : State) (h : Nat) (st : Status) : (s.cmdRes h st).herdState h = s.herdState h :=
  herdState_put_of_lo (by decide) ..

/-- CMD_RES reads the status that it was given. -/
@[simp] theorem get_cmdRes (s : State) (h : Nat) (st : Status) :
    (s.cmdRes h st).get F.HERD_STAT_CMD_RES (h / 8) (h % 8) = st.code := by
  rw [State.cmdRes, State.get_put_same]
  cases st <;> rfl

section
variable {s : State} {h : Nat}

/-- Beside the causes and the state, RECOVER on its way to BOUND writes output fields of the home die's legs only. -/
theorem recovered_keepsBut (ho : (s.herdState h).active = false) : KeepsBut (dieOutputKeys (h / 8))
    ((s.put F.HERD_STAT_FAULT_CAUSE 0 (h / 8) (h % 8)).put F.HERD_STAT_STATE HState.bound.code (h / 8) (h % 8))
    ((s.put F.HERD_STAT_FAULT_CAUSE 0 (h / 8) (h % 8)).enterBound h) :=
  enterBound_keepsBut (by rwa [herdState_put_of_lo (by decide)])

theorem recovered_member (ho : (s.herdState h).active = false) : (recovered s h).member = s.member := by
  rw [recovered, State.cmdRes, State.put_member, (recovered_keepsBut ho).member, State.put_member, State.put_member]

theorem recovered_pending (ho : (s.herdState h).active = false) : (recovered s h).pending = s.pending := by
  rw [recovered, State.cmdRes, State.put_pending, (recovered_keepsBut ho).pending, State.put_pending, State.put_pending]

theorem recovered_herdState (ho : (s.herdState h).active = false) : (recovered s h).herdState h = .bound := by
  rw [recovered, herdState_cmdRes, State.herdState, (recovered_keepsBut ho).regs.get (state_not_output _ _), State.get_put_same]
  rfl

theorem recovered_faultCause (ho : (s.herdState h).active = false) :
    (recovered s h).get F.HERD_STAT_FAULT_CAUSE (h / 8) (h % 8) = 0 := by
  rw [recovered, State.cmdRes, State.get_put_of_lo (by decide),
    (recovered_keepsBut ho).regs.get (not_output_of_lo (by decide) _ _ _ _), State.get_put_of_lo (by decide), State.get_put_same,
    Nat.zero_mod]

/-- RECOVER leaves every leg's trip as it is (R301). -/
theorem recovered_trip (ho : (s.herdState h).active = false) (e n : Nat) :
    (recovered s h).get F.LEG_STAT_TRIP e n = s.get F.LEG_STAT_TRIP e n := by
  rw [recovered, State.cmdRes, State.get_put_of_lo (by decide),
    (recovered_keepsBut ho).regs.get (not_output_of_lo (by decide) _ _ _ _), State.get_put_of_lo (by decide),
    State.get_put_of_lo (by decide)]

end

/-- Settles O37: no event overtakes a command, so RECOVER has its own effect; refused, it writes CMD_RES only, and accepted, the
way to BOUND from a state that is not active writes STATE and output fields of the home die's legs. -/
theorem recoverWaitsForDfaultAndClearsTheCauses : Obligations.RecoverWaitsForDfaultAndClearsTheCauses := by
  intro s q h hh hp hq hs d l held
  constructor
  · intro hd
    have hr := herdRecover_refused hs ((herdDfault_iff s h).2 hd)
    have hregs : RegsBut s (s.cmdRes h .refused) [F.HERD_STAT_CMD_RES.key d l 0] := RegsBut.put s _ _ d l 0
    refine ⟨_, exec_recover hh hp hq (by rw [hr]; rfl) (by rw [hr]; rfl), ?_⟩
    rw [hr, noted_herdState, noted_legs, noted_get]
    exact ⟨herdState_cmdRes s h .refused, rfl, fun k e hk => by rw [noted_cells]; exact hregs k e hk, get_cmdRes s h .refused⟩
  · intro hd
    have ho : (s.herdState h).active = false := by rcases hs with hs | hs <;> rw [hs] <;> rfl
    have hr := herdRecover_accepted hs (Bool.eq_false_iff.2 fun hx => hd ((herdDfault_iff s h).1 hx))
    refine ⟨_, exec_recover hh hp hq (by rw [hr, recovered_member ho]) (by rw [hr, recovered_pending ho]), ?_⟩
    simp only [hr, noted_herdState, noted_get]
    exact ⟨recovered_herdState ho, recovered_faultCause ho, get_cmdRes _ h .ok, fun e n _ _ => recovered_trip ho e n⟩

end Sys2Proof.Machine
end

section
/-!
PROOF. The reset edge that loses (O45): RST_STUCK may end with any edge of SAFE_RESET, and beside it an edge that meets a demand or
a fault cause does nothing but count (R433, R434).
-/
namespace Sys2Proof.Machine

/-! ### Saturating counters -/

/-- A counter raised by one reads one more, up to the largest value of its width. -/
@[simp] theorem State.get_incSat_same (s : State) (F : Fld) (d i j : Nat) :
    (s.incSat F d i j).get F d i j = min (s.get F d i j + 1) (2 ^ F.width - 1) := by
  have hpos : 0 < 2 ^ F.width := Nat.two_pow_pos F.width
  rw [State.incSat, State.get_put_same, Nat.mod_eq_of_lt (by omega)]

theorem RegsBut.incSat (s : State) (F : Fld) (d i j : Nat) : RegsBut s (s.incSat F d i j) [F.key d i j] :=
  RegsBut.put s F _ d i j

/-! ### The reset edge -/

/-- The first effect of a reset edge: RST_STUCK ends where the level before the high was low for 1 s (R433). -/
def State.endStuck (s : State) (lowMs widthMs : Nat) : State :=
  s.modSafety fun S => { S with stuck := S.stuck && !(decide (1000 ≤ lowMs) && decide (widthMs ≤ 5000)) }

/-- A fault cause found by a test pulse, a path, the exchange or a self-test is present (R433). -/
theorem causePresent_of_found {s : State} (h : s.safety.tpBad ≠ 0 ∨ s.safety.pathBad ≠ 0 ∨ s.safety.chanBad = true ∨
    s.safety.oscBad ≠ 0 ∨ s.safety.selfBad ≠ 0) : s.causePresent = true := by
  rcases h with h | h | h | h | h <;> simp [State.causePresent, h]

/-- An edge after a high of at most 5 s that meets a demand or a fault cause is counted, and beside that ends RST_STUCK only. -/
theorem safeReset_rejected {s : State} {lowMs widthMs : Nat} {both clash : Bool} (hw : widthMs ≤ 5000)
    (h : clash = true ∨ s.safety.openA ≠ 0 ∨ s.safety.openB ≠ 0 ∨ (s.endStuck lowMs widthMs).causePresent = true) :
    s.safeReset lowMs widthMs both clash = (s.endStuck lowMs widthMs).incSat F.SAFE_CNT_RST_REJ_CNT := by
  have hA : (s.endStuck lowMs widthMs).safety.openA = s.safety.openA := rfl
  have hB : (s.endStuck lowMs widthMs).safety.openB = s.safety.openB := rfl
  rw [State.safeReset, ← State.endStuck]
  rw [if_neg, if_neg (Nat.not_lt.2 hw)]
  rcases h with h | h | h | h <;> simp [hA, hB, h]

/-- A reset edge answers its effect. -/
theorem exec_safeResetEdge {s : State} {lowMs widthMs : Nat} {e : ResetSeen}
    (hm : (s.safeReset lowMs widthMs e.both e.clash).member = s.member)
    (hp : (s.safeReset lowMs widthMs e.both e.clash).pending = s.pending) :
    exec (.safeResetEdge lowMs widthMs e) s = .next (s.safeReset lowMs widthMs e.both e.clash) := by
  have hx : exec (.safeResetEdge lowMs widthMs e) s = execSafeResetEdge lowMs widthMs e s := rfl
  rw [hx, execSafeResetEdge]
  exact guarded_next rfl hm hp

/-- Settles O45: the end of RST_STUCK takes away no other cause, so the edge is rejected, and a rejected edge writes the count of
the rejected edges only. -/
theorem demandsAndFaultsWinOverAResetEdge : Obligations.DemandsAndFaultsWinOverAResetEdge := by
  intro s low width x _ hwidth hclash
  have hrej : s.safeReset low width x.both x.clash = (s.endStuck low width).incSat F.SAFE_CNT_RST_REJ_CNT := by
    refine safeReset_rejected (by omega) ?_
    rcases hclash with h | h | h | hfound
    · exact .inl h
    · exact .inr (.inl h)
    · exact .inr (.inr (.inl h))
    · exact .inr (.inr (.inr (causePresent_of_found (s := s.endStuck low width) hfound)))
  refine ⟨_, exec_safeResetEdge (by rw [hrej]; rfl) (by rw [hrej]; rfl), ?_⟩
  rw [hrej]
  exact ⟨RegsBut.incSat (s.endStuck low width) F.SAFE_CNT_RST_REJ_CNT 0 0 0, State.get_incSat_same .., rfl, rfl, rfl⟩

end Sys2Proof.Machine
end
